-- ==== Sys2Proof/Word.lean ====
section
/-! DEFINITION. The words of the K396: bytes, half words, words, doublewords, addresses, and the numbers that name its parts. -/

namespace Sys2Proof

/-- 8 bits. -/
abbrev Byte := BitVec 8
/-- 16 bits. -/
abbrev Half := BitVec 16
/-- 32 bits: a register of the RIM and a JFI working register. -/
abbrev Word := BitVec 32
/-- 64 bits. -/
abbrev DWord := BitVec 64
/-- A 40-bit address of the lane address map (07 Table MEM-1). -/
abbrev Addr40 := BitVec 40
/-- A MAC address. -/
abbrev Mac48 := BitVec 48
/-- A byte string, lowest address first. -/
abbrev Bytes := List Byte
/-- The number of a working register. -/
abbrev Reg := Fin 32
/-- The number of a CAN controller. -/
abbrev CanNo := Fin 4
/-- The number of a field channel. -/
abbrev Chan := Fin 96
/-- The number of a field group. -/
abbrev Grp := Fin 6
/-- The number of a counter or of a check-value context. -/
abbrev Ctr := Fin 8

end Sys2Proof
end

