-- ==== Sys2Proof/Types.lean ====
section
/-! DEFINITION. The plain types of command operands and of what leaves a port: named alternatives and records, each with the rule or table of the spec it follows. -/

namespace Sys2Proof

/-- One of the three lanes A, B and C (00 R-glossary, 01 R9). -/
inductive Lane where
  | a | b | c
deriving DecidableEq, Repr, Inhabited

/-- The OVF field of an IOP word: wrap, signed saturate, unsigned saturate (04 Table JFI-5). -/
inductive Ovf where
  | w | ss | us
deriving DecidableEq, Repr, Inhabited

/-- The agents of the Who columns: vital task, auxiliary core, Ringmaster, debug (00 R7). -/
inductive Agent where
  | v | x | m | d
deriving DecidableEq, Repr, Inhabited

/-- Authority levels (06 Table MOD-1). -/
inductive Auth where
  | operator | maintainer
deriving DecidableEq, Repr, Inhabited

/-- The clocks of a Meridian instance (12 R267). -/
inductive MerClk where
  | w | d0 | d1
deriving DecidableEq, Repr, Inhabited

/-- What a lane reports at a commit point (02 R50; 06 R140). -/
inductive OvrKind where
  | onTime | overrun | bpHit
deriving DecidableEq, Repr, Inhabited

/-- How a Tightrope join fails (08 R177, R180). -/
inductive JoinFail where
  | core0Only | core1Only | spacer
deriving DecidableEq, Repr, Inhabited

/-- Image types 0x01-0x05 (03 Table JFM-9). -/
inductive ImgType where
  | ringmaster | executive | vital | auxiliary | config
deriving DecidableEq, Repr, Inhabited

/-- Operating modes (06 R134), coded 0, 1, 2 in CYC_STATUS.MODE. -/
inductive Mode where
  | stop | run | hold
deriving DecidableEq, Repr, Inhabited

/-- CAN error kinds, CAN_ERR[26:24] codes 1-6 (16 Table CAN-6). -/
inductive CanErrKind where
  | stuff | form | ack | bit1 | bit0 | crc
deriving DecidableEq, Repr, Inhabited

/-- A Jexgiord core: its lane and whether it is core 1 (08 R174, R183). -/
structure CoreId where
  lane : Lane := .a
  core1 : Bool := false
deriving DecidableEq, Repr, Inhabited

/-- Where a Ringmaster command came from: its authority level, and whether it is a backbone management command (06 R135, R136). -/
structure CmdSrc where
  level : Auth := .operator
  backbone : Bool := false
deriving DecidableEq, Repr, Inhabited

/-- The base registers of a BOP address (04 Table JFI-10). -/
inductive BitBase where
  | ii | oi | gp | fp
deriving DecidableEq, Repr, Inhabited

/-- A BOP bit address: direct A from a base, or an index register plus k from a base (04 R109). -/
inductive BitRef where
  | direct (base : BitBase) (addr : Half)
  | indexed (rx : Reg) (base : BitBase) (k : BitVec 9)
deriving DecidableEq, Repr, Inhabited

/-- An Ethernet frame on the consist network (15 R341-R346): addresses, optional tag as VID and PCP, EtherType, the IPv4/UDP destination when it is a UDP datagram, body and length. -/
structure EthFrame where
  dst : Mac48 := 0
  src : Mac48 := 0
  tag : (Option (Nat × Nat)) := none
  etype : Nat := 0
  ipDst : (Option Word) := none
  udpDst : (Option Nat) := none
  body : Bytes := []
deriving DecidableEq, Repr, Inhabited

/-- A CAN frame: ID word with IDE, RTR, FDF in [31:29], DLC, BRS, ESI and data bytes (16 Table CAN-2). -/
structure CanFrame where
  id : Word := 0
  dlc : Nat := 0
  brs : Bool := false
  esi : Bool := false
  data : Bytes := []
deriving DecidableEq, Repr, Inhabited

/-- A Ringmaster message to the vital program: an operator message (22 R479). -/
structure RmMsg where
  code : Half := 0
  seq : Word := 0
  data : Bytes := []
deriving DecidableEq, Repr, Inhabited

/-- The content of a message item, which also names its port (02 R41, R42). -/
inductive ItemBody where
  | consistTel (bytes : Bytes)
  | canRx (k : CanNo) (q : Bool) (flt : Nat) (f : CanFrame)
  | carRx (b : Nat) (lineY : Bool) (sflags spos : Byte) (cycle : Word) (bytes : Bytes)
  | soe (ch : Nat) (rising : Bool)
  | tcap (k : Nat) (rising : Bool)
  | tlp (win off : Nat) (bytes : Bytes)
  | rm (m : RmMsg)
  | brgFail (region : Nat)
  | inaug (bytes : Bytes)
  | pairRole (role partner : Byte) (cycle : Word)
  | power (bytes : Bytes)
deriving DecidableEq, Repr, Inhabited

/-- A message item: content and stamp in ns of working time (02 R41). -/
structure MsgItem where
  body : ItemBody := (.rm {})
  stamp : Int := 0
deriving DecidableEq, Repr, Inhabited

/-- The field bits a lane sends in AGREE (17 R379): value, WIREBREAK or OPEN_LOAD, EXT_DRIVE, overcurrent trips, pulse failures per channel, CROSS per pair of pulsed and falling channel; rail low, SUPPLY_OK, overload and GSS test failure per group. -/
structure FieldBits where
  value : (BitVec 96) := 0
  wbol : (BitVec 96) := 0
  ext : (BitVec 96) := 0
  oc : (BitVec 96) := 0
  cross : (List (Nat × Nat)) := []
  pfail : (BitVec 96) := 0
  railHigh : (BitVec 6) := 0
  supplyOk : (BitVec 6) := 0
  overload : (BitVec 6) := 0
  gssFail : (BitVec 6) := 0
  canBus : (BitVec 32) := 0
deriving DecidableEq, Repr, Inhabited

/-- One lane's input agreement set for a cycle: its field bits, the items it selected, and the items it holds under later stamps (02 R42). -/
structure AgreeSet where
  n : Nat := 0
  fb : FieldBits := {}
  items : (List MsgItem) := []
  held : (List MsgItem) := []
deriving DecidableEq, Repr, Inhabited

/-- A closing notice: CLOSED_2 naming the missing lane, or CLOSED with the case and the lanes (02 R43). -/
structure Notice where
  n : Nat := 0
  missing : (Option Lane) := none
  caseNo : Nat := 1
  lanes : (List Lane) := []
deriving DecidableEq, Repr, Inhabited

/-- The fields 0x00-0x1F of a force table entry (06 Table MOD-4). -/
structure ForceFields where
  sym : DWord := 0
  typeHash : DWord := 0
  area : Byte := 0
  width : Byte := 0
  loc : Word := 0
  value : DWord := 0
deriving DecidableEq, Repr, Inhabited

/-- A mode command or force operation on its way to the lanes as a Ringmaster message (06 R135, R143). -/
inductive RmOp where
  | runWarm (auto : Bool) (src : CmdSrc)
  | runCold (src : CmdSrc)
  | stop (limit : Bool) (src : CmdSrc)
  | hold (src : CmdSrc)
  | resume (src : CmdSrc)
  | forceSet (src : CmdSrc) (symtab : DWord) (e : ForceFields)
  | forceClear (src : CmdSrc) (symtab sym : DWord)
  | clearAll (src : CmdSrc) (symtab : DWord)
deriving DecidableEq, Repr, Inhabited

/-- A 32-byte cross-lane record (09 Table TRI-2). -/
structure XRec where
  stream : Half := 0
  typ : Byte := 0
  sender : Lane := .a
  seq : Word := 0
  cycle : DWord := 0
  digest : DWord := 0
  aux : DWord := 0
deriving DecidableEq, Repr, Inhabited

/-- A backplane read completion: region, sequence number, success, data (09 R217). -/
structure BrgCpl where
  region : Nat := 0
  seq : Word := 0
  ok : Bool := true
  data : Bytes := []
deriving DecidableEq, Repr, Inhabited

/-- A Carousel sync frame as received on a backbone port (12 R271; 13 Table CAR-5). -/
structure SyncMsg where
  port : Nat := 0
  d : Bool := false
  hasDom : Bool := true
  valid : Bool := true
  origin : Int := 0
  sheet : Nat := 0
  pos : Nat := 0
  sig : Word := 0
  path : (List Word) := []
  gmEui : DWord := 0
  gmClass : Nat := 0
  gmPos : Nat := 0
  utc : Word := 0
deriving DecidableEq, Repr, Inhabited

/-- A type 1 Carousel frame as received on an end port (13 Tables CAR-1, CAR-2). -/
structure CarFrame where
  port : Nat := 0
  typ : Byte := 1
  sender : Byte := 0
  frameId : Half := 0
  topo : Word := 0
  cycle : Word := 0
  sheets : Byte := 0
  state : Byte := 0
  flags : Byte := 0
  switch : Byte := 0
  payload : Bytes := []
  fcsOk : Bool := true
deriving DecidableEq, Repr, Inhabited

/-- A type 3 cold-start frame (13 Table CAR-9). -/
structure ColdFrame where
  eui : DWord := 0
  pos : Nat := 0
  cab : Bool := false
  sheet : Nat := 0
  sec : Nat := 0
  ns : Nat := 0
deriving DecidableEq, Repr, Inhabited

/-- A type 4 or PTP frame in the unscheduled window (13 R305; 14 Table INA-1). -/
structure UnschedFrame where
  port : Nat := 0
  ptp : Bool := false
  inWindow : Bool := true
  cls : Byte := 0
  payload : Bytes := []
deriving DecidableEq, Repr, Inhabited

/-- An INA frame: WAVE, CONFIRM or MERGE (14 Table INA-1). -/
structure InaFrame where
  trigger : Bool := false
  agree : Bool := false
  changed : Bool := false
  yield : Bool := false
  leaderless : Bool := false
  count : Nat := 0
  cabDist : Nat := 0
  topo : Word := 0
  euiA : DWord := 0
  euiB : DWord := 0
  csig : Word := 0
  cabs : Nat := 0
deriving DecidableEq, Repr, Inhabited

/-- A CAN error as the controller sees it (16 R364). -/
structure CanErr where
  kind : CanErrKind := .ack
  tx : Bool := true
  passiveNoDom : Bool := false
  primary : Bool := false
deriving DecidableEq, Repr, Inhabited

/-- What a lane measures at a sample tick: terminal voltage (mV) and current (uA) per channel; supply (mV), current (mA) and rail (mV) per group; SAFE_OK monitoring contacts (17 R375-R394). -/
structure FieldMeas where
  mv : (List Nat) := []
  ua : (List Nat) := []
  supplyMv : (List Nat) := []
  groupMa : (List Nat) := []
  railMv : (List Nat) := []
  safeOk : (BitVec 2) := 0
deriving DecidableEq, Repr, Inhabited

/-- A partner-link heartbeat (19 Table PRT-2). -/
structure Heartbeat where
  role : Nat := 0
  mode : Mode := .stop
  index : Bool := false
  backlog : Bool := false
  safe : Bool := false
  handover : Bool := false
  pos : Nat := 0
  topo : Word := 0
  cycle : Nat := 0
  digest : DWord := 0
  blocks : Nat := 0
  handoverN : Nat := 0
  eui : DWord := 0
  build : DWord := 0
deriving DecidableEq, Repr, Inhabited

/-- A partner-link block frame (19 R421). -/
structure PairBlock where
  area : Nat := 0
  cycle : Nat := 0
  off : Nat := 0
  data : Bytes := []
deriving DecidableEq, Repr, Inhabited

/-- The source of a power-state request (20 R434). -/
inductive PwrSrc where
  | vital
  | backbone
  | service (level : Auth)
deriving DecidableEq, Repr, Inhabited

/-- The outcome of a lane's start-up tests: what passed (21 R456, Table SYS-3). -/
structure BistResult where
  bootRom : Bool := true
  bist : Bool := true
  tightrope : Bool := true
  voter : Bool := true
  ecc : Bool := true
  linkFail : (List Lane) := []
deriving DecidableEq, Repr, Inhabited

/-- A Safety Net message (21 Tables SYS-7, SYS-8); okHdr: MAGIC, VER and CRC are right. -/
structure SnetMsg where
  okHdr : Bool := true
  seq : Half := 0
  eui : DWord := 0
  typ : ImgType := .vital
  len : Nat := 0
  offset : Nat := 0
  build : DWord := 0
  version : Word := 0
  code : Byte := 0
  data : Bytes := []
deriving DecidableEq, Repr, Inhabited

/-- A client certificate (22 R477): the key table entry it chains to, its role, its validity period in ns of working time. -/
structure Cert where
  keyIdx : (Option Nat) := none
  role : (Option Auth) := none
  notBefore : Int := 0
  notAfter : Int := 0
deriving DecidableEq, Repr, Inhabited

/-- Who asks to freeze the recorder (22 R490). -/
inductive FreezeSrc where
  | session (sid : Nat)
  | aux
  | debug
deriving DecidableEq, Repr, Inhabited

/-- An update frame header (23 Table UPD-2). -/
structure UpdHdr where
  typ : ImgType := .vital
  tag : DWord := 0
  chunk : Nat := 0
  seg : Nat := 0
  len : Nat := 0
  crc : Word := 0
deriving DecidableEq, Repr, Inhabited

/-- An activation order (23 Table UPD-3). -/
structure UpdOrder where
  oid : DWord := 0
  actTime : Int := 0
  deadline : Int := 0
  types : (BitVec 5) := 0
  restartOk : Bool := false
  precond : Bool := false
  tags : (List DWord) := []
  sig : Bytes := []
deriving DecidableEq, Repr, Inhabited

/-- The status Ringmaster returns for a command (06 R135, R136, R143, R144; 21 R455, R462; 22 R490). -/
inductive CmdStatus where
  | ok | mode | busy | auth | bringup | refused | notFound | type | full
deriving DecidableEq, Repr, Inhabited

/-- What leaves a port or a link: the model's own record of it. -/
inductive Emit where
  | xrec (r : XRec)
  | set (s : AgreeSet)
  | notice (nt : Notice)
  | overrun (n : Nat) (k : OvrKind)
  | assertion (subject : Lane)
  | block (joiner : Lane) (blk : Nat) (d : Bytes)
  | eth (port : Nat) (f : EthFrame)
  | car (port : Nat) (f : CarFrame)
  | sync (port : Nat) (m : SyncMsg)
  | cold (port : Nat) (f : ColdFrame)
  | unsched (port : Nat) (d : Bytes)
  | pdelayReq (port seq : Nat)
  | pdelayResp (port seq : Nat) (rx : Nat)
  | consistSync (port : Nat) (origin : Int) (utc : Word) (cls dom : Nat)
  | delayResp (port : Nat) (seq : Nat) (rx : Int)
  | ina (port : Nat) (f : InaFrame) (cls : Nat)
  | can (k : Nat) (f : CanFrame)
  | hb (h : Heartbeat)
  | pair (b : PairBlock)
  | pcieWrite (link : Nat) (addr : Nat) (d : Bytes)
  | pcieRead (link : Nat) (addr len : Nat)
  | pcieCfg (addr : Word) (v : Word)
  | cpl (c : BrgCpl)
  | mirror (addr : Nat) (d : Bytes)
  | unsupported
  | saf (c : Nat) (d : Bytes)
  | wake (port : Nat) (id : Word)
  | auxMsg (d : Bytes)
  | snet (op : Nat) (m : SnetMsg)
  | upd (port : Nat) (cls : Nat) (h : UpdHdr) (d : Bytes)
  | updOrder (port : Nat) (o : UpdOrder)
  | updReady (port : Nat) (topo : Word) (oid rdy refd : DWord)
  | updDecision (port : Nat) (oid : DWord) (go : Bool)
  | power (target : Nat)
  | field (img : List (Nat × Byte))
  | pps (on : Bool)
  | tout (k : Nat) (on : Bool)
deriving DecidableEq, Repr, Inhabited

end Sys2Proof
end

