-- ==== Sys2Proof/Syntax.lean ====
section
/-! DEFINITION. The commands the module takes: one constructor per row of spec/opcode_table.json, in the table's order. JFI instructions name the core that runs them; block commands name the lane they reach. -/

namespace Sys2Proof

/-- A command of the K396: one constructor per row of the command table. -/
inductive Instr where
  -- SYS group (JFI MOP 0x00)
  /-- NOP -/
  | nop (u : CoreId)
  /-- TRAP -/
  | trap (u : CoreId) (code : Reg)
  /-- FENCE -/
  | fence (u : CoreId)
  /-- EVT -/
  | evt (u : CoreId) (ra rb : Reg)
  -- IOP group (MOP 0x01)
  /-- ADD -/
  | add (u : CoreId) (ovf : Ovf) (d : Bool) (rd ra rb : Reg)
  /-- SUB -/
  | sub (u : CoreId) (ovf : Ovf) (d : Bool) (rd ra rb : Reg)
  /-- MUL -/
  | mul (u : CoreId) (ovf : Ovf) (d : Bool) (rd ra rb : Reg)
  /-- MULHS -/
  | mulhs (u : CoreId) (rd ra rb : Reg)
  /-- MULHU -/
  | mulhu (u : CoreId) (rd ra rb : Reg)
  /-- DIV -/
  | div (u : CoreId) (ovf : Ovf) (d : Bool) (rd ra rb : Reg)
  /-- DIVU -/
  | divu (u : CoreId) (d : Bool) (rd ra rb : Reg)
  /-- REM -/
  | rem (u : CoreId) (d : Bool) (rd ra rb : Reg)
  /-- REMU -/
  | remu (u : CoreId) (d : Bool) (rd ra rb : Reg)
  /-- AND -/
  | and (u : CoreId) (d : Bool) (rd ra rb : Reg)
  /-- OR -/
  | or (u : CoreId) (d : Bool) (rd ra rb : Reg)
  /-- XOR -/
  | xor (u : CoreId) (d : Bool) (rd ra rb : Reg)
  /-- ANDN -/
  | andn (u : CoreId) (d : Bool) (rd ra rb : Reg)
  /-- SLL -/
  | sll (u : CoreId) (d : Bool) (rd ra rb : Reg)
  /-- SRL -/
  | srl (u : CoreId) (d : Bool) (rd ra rb : Reg)
  /-- SRA -/
  | sra (u : CoreId) (d : Bool) (rd ra rb : Reg)
  /-- ROL -/
  | rol (u : CoreId) (d : Bool) (rd ra rb : Reg)
  /-- ROR -/
  | ror (u : CoreId) (d : Bool) (rd ra rb : Reg)
  /-- CMP -/
  | cmp (u : CoreId) (d : Bool) (ra rb : Reg)
  /-- SETC -/
  | setc (u : CoreId) (rd cond : Reg)
  /-- MIN -/
  | min (u : CoreId) (d : Bool) (rd ra rb : Reg)
  /-- MAX -/
  | max (u : CoreId) (d : Bool) (rd ra rb : Reg)
  /-- MINU -/
  | minu (u : CoreId) (d : Bool) (rd ra rb : Reg)
  /-- MAXU -/
  | maxu (u : CoreId) (d : Bool) (rd ra rb : Reg)
  /-- ABS -/
  | abs (u : CoreId) (ovf : Ovf) (d : Bool) (rd ra : Reg)
  /-- SEXTB -/
  | sextb (u : CoreId) (rd ra : Reg)
  /-- SEXTH -/
  | sexth (u : CoreId) (rd ra : Reg)
  /-- SEXTW -/
  | sextw (u : CoreId) (rd ra : Reg)
  /-- ZEXTW -/
  | zextw (u : CoreId) (rd ra : Reg)
  /-- MOVD -/
  | movd (u : CoreId) (rd ra : Reg)
  /-- MFS -/
  | mfs (u : CoreId) (d : Bool) (rd sr : Reg)
  /-- MTS -/
  | mts (u : CoreId) (sr ra : Reg)
  /-- LDXB -/
  | ldxb (u : CoreId) (rd ra rb : Reg)
  /-- LDXH -/
  | ldxh (u : CoreId) (rd ra rb : Reg)
  /-- LDXW -/
  | ldxw (u : CoreId) (rd ra rb : Reg)
  /-- LDXD -/
  | ldxd (u : CoreId) (rd ra rb : Reg)
  /-- STXB -/
  | stxb (u : CoreId) (rs ra rb : Reg)
  /-- STXH -/
  | stxh (u : CoreId) (rs ra rb : Reg)
  /-- STXW -/
  | stxw (u : CoreId) (rs ra rb : Reg)
  /-- STXD -/
  | stxd (u : CoreId) (rs ra rb : Reg)
  -- Immediates (MOP 0x02-0x07)
  /-- ADDI -/
  | addi (u : CoreId) (rd ra : Reg) (imm : Half)
  /-- ANDI -/
  | andi (u : CoreId) (rd ra : Reg) (imm : Half)
  /-- ORI -/
  | ori (u : CoreId) (rd ra : Reg) (imm : Half)
  /-- XORI -/
  | xori (u : CoreId) (rd ra : Reg) (imm : Half)
  /-- LUI -/
  | lui (u : CoreId) (rd : Reg) (imm : Half)
  /-- CMPI -/
  | cmpi (u : CoreId) (ra : Reg) (imm : Half)
  -- FOP and DOP (MOP 0x08, 0x09)
  /-- FADD -/
  | fadd (u : CoreId) (rd ra rb : Reg)
  /-- DADD -/
  | dadd (u : CoreId) (rd ra rb : Reg)
  /-- FSUB -/
  | fsub (u : CoreId) (rd ra rb : Reg)
  /-- DSUB -/
  | dsub (u : CoreId) (rd ra rb : Reg)
  /-- FMUL -/
  | fmul (u : CoreId) (rd ra rb : Reg)
  /-- DMUL -/
  | dmul (u : CoreId) (rd ra rb : Reg)
  /-- FDIV -/
  | fdiv (u : CoreId) (rd ra rb : Reg)
  /-- DDIV -/
  | ddiv (u : CoreId) (rd ra rb : Reg)
  /-- FSQRT -/
  | fsqrt (u : CoreId) (rd ra : Reg)
  /-- DSQRT -/
  | dsqrt (u : CoreId) (rd ra : Reg)
  /-- FMIN -/
  | fmin (u : CoreId) (rd ra rb : Reg)
  /-- DMIN -/
  | dmin (u : CoreId) (rd ra rb : Reg)
  /-- FMAX -/
  | fmax (u : CoreId) (rd ra rb : Reg)
  /-- DMAX -/
  | dmax (u : CoreId) (rd ra rb : Reg)
  /-- FCMP -/
  | fcmp (u : CoreId) (ra rb : Reg)
  /-- DCMP -/
  | dcmp (u : CoreId) (ra rb : Reg)
  /-- FNEG -/
  | fneg (u : CoreId) (rd ra : Reg)
  /-- DNEG -/
  | dneg (u : CoreId) (rd ra : Reg)
  /-- FABS -/
  | fabs (u : CoreId) (rd ra : Reg)
  /-- DABS -/
  | dabs (u : CoreId) (rd ra : Reg)
  /-- FCPYS -/
  | fcpys (u : CoreId) (rd ra rb : Reg)
  /-- DCPYS -/
  | dcpys (u : CoreId) (rd ra rb : Reg)
  -- CVT (MOP 0x0A)
  /-- F2I -/
  | f2i (u : CoreId) (t : Bool) (rd ra : Reg)
  /-- F2U -/
  | f2u (u : CoreId) (t : Bool) (rd ra : Reg)
  /-- F2L -/
  | f2l (u : CoreId) (t : Bool) (rd ra : Reg)
  /-- F2UL -/
  | f2ul (u : CoreId) (t : Bool) (rd ra : Reg)
  /-- D2I -/
  | d2i (u : CoreId) (t : Bool) (rd ra : Reg)
  /-- D2U -/
  | d2u (u : CoreId) (t : Bool) (rd ra : Reg)
  /-- D2L -/
  | d2l (u : CoreId) (t : Bool) (rd ra : Reg)
  /-- D2UL -/
  | d2ul (u : CoreId) (t : Bool) (rd ra : Reg)
  /-- I2F -/
  | i2f (u : CoreId) (rd ra : Reg)
  /-- U2F -/
  | u2f (u : CoreId) (rd ra : Reg)
  /-- L2F -/
  | l2f (u : CoreId) (rd ra : Reg)
  /-- UL2F -/
  | ul2f (u : CoreId) (rd ra : Reg)
  /-- I2D -/
  | i2d (u : CoreId) (rd ra : Reg)
  /-- U2D -/
  | u2d (u : CoreId) (rd ra : Reg)
  /-- L2D -/
  | l2d (u : CoreId) (rd ra : Reg)
  /-- UL2D -/
  | ul2d (u : CoreId) (rd ra : Reg)
  /-- F2D -/
  | f2d (u : CoreId) (rd ra : Reg)
  /-- D2F -/
  | d2f (u : CoreId) (rd ra : Reg)
  -- BOP (MOP 0x0B)
  /-- BLD -/
  | bld (u : CoreId) (rd : Reg) (loc : BitRef)
  /-- BLDN -/
  | bldn (u : CoreId) (rd : Reg) (loc : BitRef)
  /-- BTST -/
  | btst (u : CoreId) (loc : BitRef)
  /-- BSTR -/
  | bstr (u : CoreId) (rs : Reg) (loc : BitRef)
  /-- BSET -/
  | bset (u : CoreId) (loc : BitRef)
  /-- BCLR -/
  | bclr (u : CoreId) (loc : BitRef)
  /-- BTGL -/
  | btgl (u : CoreId) (loc : BitRef)
  -- Loads and stores (MOP 0x10-0x17, 0x1E)
  /-- LDW -/
  | ldw (u : CoreId) (rd base : Reg) (off : Half)
  /-- LDH -/
  | ldh (u : CoreId) (rd base : Reg) (off : Half)
  /-- LDB -/
  | ldb (u : CoreId) (rd base : Reg) (off : Half)
  /-- LDD -/
  | ldd (u : CoreId) (rd base : Reg) (off : Half)
  /-- STW -/
  | stw (u : CoreId) (rs base : Reg) (off : Half)
  /-- STH -/
  | sth (u : CoreId) (rs base : Reg) (off : Half)
  /-- STB -/
  | stb (u : CoreId) (rs base : Reg) (off : Half)
  /-- STD -/
  | std (u : CoreId) (rs base : Reg) (off : Half)
  /-- SWAPW -/
  | swapw (u : CoreId) (rd base : Reg) (off : Half)
  -- Control transfer (MOP 0x18-0x1D)
  /-- BR -/
  | br (u : CoreId) (off : BitVec 26)
  /-- BC -/
  | bc (u : CoreId) (cond ra : Reg) (off : Half)
  /-- LOOP -/
  | loop (u : CoreId) (rc : Reg) (bound : BitVec 11) (dist : BitVec 10)
  /-- CALL -/
  | call (u : CoreId) (off : BitVec 26)
  /-- CALLFB -/
  | callfb (u : CoreId) (bt : BitVec 10) (fo : Half)
  /-- RET -/
  | ret (u : CoreId)
  -- DIAG (MOP 0x38)
  /-- RDTIME -/
  | rdtime (u : CoreId) (rd : Reg)
  /-- RDLANE -/
  | rdlane (u : CoreId) (rd : Reg)
  /-- DCWB -/
  | dcwb (u : CoreId) (ra : Reg)
  /-- DCINV -/
  | dcinv (u : CoreId) (ra : Reg)
  /-- ICINV -/
  | icinv (u : CoreId) (ra : Reg)
  /-- BRK -/
  | brk (u : CoreId)
  -- Function blocks (MOP 0x20-0x29)
  /-- TON -/
  | ton (u : CoreId) (r : Reg) (fo : Half)
  /-- TOF -/
  | tof (u : CoreId) (r : Reg) (fo : Half)
  /-- TP -/
  | tp (u : CoreId) (r : Reg) (fo : Half)
  /-- RTRIG -/
  | rtrig (u : CoreId) (e1 : Bool) (r : Reg) (fo : Half)
  /-- FTRIG -/
  | ftrig (u : CoreId) (e1 : Bool) (r : Reg) (fo : Half)
  /-- CTU -/
  | ctu (u : CoreId) (e1 : Bool) (r : Reg) (fo : Half)
  /-- CTD -/
  | ctd (u : CoreId) (e1 : Bool) (r : Reg) (fo : Half)
  /-- CTUD -/
  | ctud (u : CoreId) (e1 : Bool) (r : Reg) (fo : Half)
  /-- SR -/
  | sr (u : CoreId) (r : Reg) (fo : Half)
  /-- RS -/
  | rs (u : CoreId) (r : Reg) (fo : Half)
  /-- SEL -/
  | sel (u : CoreId) (r : Reg)
  /-- SELD -/
  | seld (u : CoreId) (r : Reg)
  /-- MUX -/
  | mux (u : CoreId) (opt : BitVec 2) (r : Reg)
  /-- MUXD -/
  | muxd (u : CoreId) (opt : BitVec 2) (r : Reg)
  /-- LIMIT_DINT -/
  | limitDint (u : CoreId) (r : Reg)
  /-- LIMIT_UDINT -/
  | limitUdint (u : CoreId) (r : Reg)
  /-- LIMIT_REAL -/
  | limitReal (u : CoreId) (r : Reg)
  /-- LIMIT_LREAL -/
  | limitLreal (u : CoreId) (r : Reg)
  /-- HYST_DINT -/
  | hystDint (u : CoreId) (r : Reg) (fo : Half)
  /-- HYST_REAL -/
  | hystReal (u : CoreId) (r : Reg) (fo : Half)
  /-- DBNC -/
  | dbnc (u : CoreId) (q0 : Bool) (r : Reg) (fo : Half)
  /-- DBNC_RISING -/
  | dbncRising (u : CoreId) (q0 : Bool) (r : Reg) (fo : Half)
  /-- DBNC_FALLING -/
  | dbncFalling (u : CoreId) (q0 : Bool) (r : Reg) (fo : Half)
  /-- PID -/
  | pid (u : CoreId) (r : Reg) (fo : Half)
  /-- RAMP -/
  | ramp (u : CoreId) (r : Reg) (fo : Half)
  -- Auxiliary core
  /-- AUX_RESTART -/
  | auxRestart (l : Lane)
  /-- AUX_START -/
  | auxStart (l : Lane)
  /-- AUX_TX_REQUEST -/
  | auxTxRequest (l : Lane) (f : EthFrame)
  -- Control cycle
  /-- SNAPSHOT -/
  | snapshot (l : Lane) (n : Nat)
  /-- AGREE_SET_RECEIVE -/
  | agreeSetReceive (l src : Lane) (st : AgreeSet)
  /-- AGREE_CLOSE -/
  | agreeClose (l : Lane)
  /-- AGREE_WAIT_EXPIRY -/
  | agreeWaitExpiry (l : Lane)
  /-- CLOSING_NOTICE -/
  | closingNotice (l src : Lane) (nt : Notice)
  /-- AGREE_APPLY -/
  | agreeApply (l : Lane)
  /-- COMMIT_POINT -/
  | commitPoint (l : Lane)
  /-- OVERRUN_REPORT -/
  | overrunReport (l src : Lane) (n : Nat) (r : OvrKind)
  /-- COMMIT -/
  | commit (l : Lane)
  /-- STEERING_EVALUATION -/
  | steeringEvaluation (l : Lane)
  /-- VSET_REFRESH -/
  | vsetRefresh (l : Lane)
  /-- STEER_FALLBACK -/
  | steerFallback (l : Lane)
  -- Modes, forcing, on-line change
  /-- RUN_WARM -/
  | runWarm (src : CmdSrc)
  /-- RUN_COLD -/
  | runCold (src : CmdSrc)
  /-- STOP -/
  | stop (src : CmdSrc)
  /-- HOLD -/
  | hold (src : CmdSrc)
  /-- RESUME -/
  | resume (src : CmdSrc)
  /-- HOLD_LIMIT_EXPIRY -/
  | holdLimitExpiry
  /-- AUTO_RUN_ENTRY -/
  | autoRunEntry (waited : Bool)
  /-- MODULE_BREAKPOINT_ARM -/
  | moduleBreakpointArm (addr : Addr40)
  /-- MODULE_BREAKPOINT_HIT -/
  | moduleBreakpointHit (l : Lane)
  /-- FORCE_SET -/
  | forceSet (src : CmdSrc) (symtab : DWord) (e : ForceFields)
  /-- FORCE_CLEAR -/
  | forceClear (src : CmdSrc) (symtab sym : DWord)
  /-- CLEAR_ALL -/
  | clearAll (src : CmdSrc) (symtab : DWord)
  /-- FORCE_EXPIRY -/
  | forceExpiry (l : Lane)
  /-- ONLINE_CHANGE_SWITCH -/
  | onlineChangeSwitch
  /-- MIGRATION_CYCLE -/
  | migrationCycle (l : Lane)
  /-- MIG_WAIT_EXPIRY -/
  | migWaitExpiry
  /-- RINGMASTER_MESSAGE -/
  | ringmasterMessage (msg : RmMsg)
  -- Tightrope and debug
  /-- COMPARE_TIMEOUT -/
  | compareTimeout (l : Lane) (k : JoinFail)
  /-- DEBUG_ATTACH -/
  | debugAttach (l : Lane) (src : CmdSrc) (aux solo : Bool)
  /-- DEBUG_ATTACH_EFFECT -/
  | debugAttachEffect (l : Lane)
  /-- DEBUG_DETACH -/
  | debugDetach (l : Lane)
  /-- DEBUG_HALT -/
  | debugHalt (l : Lane)
  /-- DEBUG_STEP -/
  | debugStep (l : Lane)
  /-- DEBUG_GO -/
  | debugGo (l : Lane)
  /-- DEBUG_INJECT -/
  | debugInject (l : Lane) (word : Word)
  -- Triangulation voting
  /-- ITEM_DIGEST_RECORD -/
  | itemDigestRecord (l : Lane) (r : XRec)
  /-- COMMIT_DONE_RECORD -/
  | commitDoneRecord (l : Lane) (r : XRec)
  /-- STATE_DIGEST_RECORD -/
  | stateDigestRecord (l : Lane) (r : XRec)
  /-- VERDICT_RECORD -/
  | verdictRecord (l : Lane) (r : XRec)
  /-- ACCUSATION -/
  | accusation (l : Lane) (r : XRec)
  /-- BACKPLANE_READ_REQUEST -/
  | backplaneReadRequest (l : Lane) (r : XRec)
  /-- CYCLE_CLOSE -/
  | cycleClose (l : Lane)
  /-- LINK_FAILURE -/
  | linkFailure (l peer : Lane)
  /-- EXCLUSION_ASSERTION -/
  | exclusionAssertion (l src subject : Lane)
  /-- OWNER_TAKEOVER -/
  | ownerTakeover (l : Lane)
  /-- DEG_LIMIT_EXPIRY -/
  | degLimitExpiry (l : Lane)
  /-- DRIVER_REFRESH_TIMEOUT -/
  | driverRefreshTimeout (l : Lane)
  /-- BACKPLANE_COMPLETION_DELIVERY -/
  | backplaneCompletionDelivery (l : Lane) (c : BrgCpl)
  /-- REINT_SELFTEST_COMPLETE -/
  | reintSelftestComplete (l : Lane) (pass : Bool)
  /-- JOIN -/
  | join (l : Lane)
  /-- REINT_BLOCK_SEND -/
  | reintBlockSend (l joiner : Lane) (blk : Nat)
  /-- REINT_BLOCK_RECEIVE -/
  | reintBlockReceive (l : Lane)
  /-- REINT_CATCHUP -/
  | reintCatchup (l : Lane) (inTime : Bool)
  /-- REINT_VOTE_START -/
  | reintVoteStart (l : Lane)
  /-- CATCHUP_WAIT_EXPIRY -/
  | catchupWaitExpiry (l : Lane)
  /-- REINT_START -/
  | reintStart (ag : Agent) (l : Lane)
  /-- CLEAR_FAILED -/
  | clearFailed (src : CmdSrc) (l : Lane)
  -- Memory
  /-- SCRUB_CODEWORD -/
  | scrubCodeword (l : Lane) (dram : Bool)
  /-- SCRUB_UE_STOP -/
  | scrubUeStop (l : Lane)
  /-- MEM_ECC_INJ -/
  | memEccInj (l : Lane) (ag : Agent) (v : Word)
  -- Meridian time
  /-- SYNC_RECEIVE -/
  | syncReceive (l : Lane) (s : SyncMsg)
  /-- DOMAIN_LOST -/
  | domainLost (l : Lane) (d : Bool)
  /-- PDELAY_REQ_SEND -/
  | pdelayReqSend (l : Lane) (port : Nat)
  /-- PDELAY_REQ -/
  | pdelayReq (l : Lane) (port : Nat) (seq : Half) (rx : Nat)
  /-- PDELAY_RESP -/
  | pdelayResp (l : Lane) (port delayNs : Nat)
  /-- CHECK_EPOCH -/
  | checkEpoch
  /-- MER_STEP -/
  | merStep (l : Lane) (clk : MerClk)
  /-- MER_CORRECTION -/
  | merCorrection (l : Lane) (clk : MerClk)
  /-- GRANDMASTER_CHANGE -/
  | grandmasterChange (l : Lane)
  /-- SOURCE_CHANGE -/
  | sourceChange (l : Lane)
  /-- RETURN_HOLD_EXPIRY -/
  | returnHoldExpiry (l : Lane)
  /-- SLEW_END -/
  | slewEnd (l : Lane)
  /-- LEAP_SECOND -/
  | leapSecond (l : Lane)
  /-- CONSIST_SYNC_SEND -/
  | consistSyncSend (l : Lane) (port : Nat)
  /-- DELAY_REQ -/
  | delayReq (l : Lane) (port : Nat) (seq : Half)
  /-- FOREIGN_PTP -/
  | foreignPtp (l : Lane)
  /-- CMP_ARM -/
  | cmpArm (l : Lane) (ag : Agent) (un : Nat) (v : Word)
  /-- COMPARE_FIRE -/
  | compareFire (l : Lane) (un : Nat)
  /-- TOUT_PULSE_END -/
  | toutPulseEnd (l : Lane) (k : Nat)
  /-- PPS_OUT_EDGE -/
  | ppsOutEdge (l : Lane) (rise : Bool)
  /-- PPS_IN_EDGE -/
  | ppsInEdge (l : Lane)
  /-- RMC_SENTENCE -/
  | rmcSentence (l : Lane) (stA : Bool) (label msAfter : Nat)
  /-- TCAP_EDGE -/
  | tcapEdge (l : Lane) (k : Nat) (rising : Bool)
  /-- MER_WT_NS_READ -/
  | merWtNsRead (l : Lane) (ag : Agent)
  -- Carousel
  /-- CAROUSEL_CYCLE_START -/
  | carouselCycleStart (l : Lane) (c : Nat)
  /-- SLOT_TRANSMIT -/
  | slotTransmit (l : Lane) (entry : Nat)
  /-- SYNC_SLOT_TRANSMIT -/
  | syncSlotTransmit (l : Lane)
  /-- SCHEDULED_FRAME_RECEIVE -/
  | scheduledFrameReceive (l : Lane) (f : CarFrame)
  /-- RUNNING_VALID_LOSS -/
  | runningValidLoss (l : Lane)
  /-- COLDSTART_ENTRY -/
  | coldstartEntry (l : Lane)
  /-- COLDSTART_FRAME_RECEIVE -/
  | coldstartFrameReceive (l : Lane) (port : Nat) (f : ColdFrame)
  /-- COLDSTART_RELAY_SEND -/
  | coldstartRelaySend (l : Lane) (port : Nat)
  /-- CONTENTION_WINDOW_END -/
  | contentionWindowEnd (l : Lane)
  /-- UNSCHEDULED_WINDOW -/
  | unscheduledWindow (l : Lane) (lenNs : Nat)
  /-- UNSCHEDULED_FRAME_RECEIVE -/
  | unscheduledFrameReceive (l : Lane) (f : UnschedFrame)
  /-- SHEET_PROPOSE -/
  | sheetPropose (l : Lane) (ag : Agent) (v : Word)
  /-- CAR_CAB_WRITE -/
  | carCabWrite (l : Lane) (ag : Agent) (v : Word)
  /-- CAR_COMMIT -/
  | carCommit (l : Lane) (v : Word)
  /-- CAR_ATLAS_W2 -/
  | carAtlasW2 (l : Lane) (ag : Agent) (wr : Option Word)
  -- Inauguration
  /-- LINK_STATE_CHANGE -/
  | linkStateChange (l : Lane) (port : Nat) (up : Bool)
  /-- DEBOUNCE_EXPIRY -/
  | debounceExpiry (l : Lane) (port : Nat)
  /-- MERGE_SEND -/
  | mergeSend (l : Lane) (port : Nat)
  /-- MERGE_RECEIVE -/
  | mergeReceive (l : Lane) (port : Nat) (f : InaFrame)
  /-- FOREIGN_TIMEOUT -/
  | foreignTimeout (l : Lane) (port : Nat)
  /-- WAVE_WINDOW_START -/
  | waveWindowStart (l : Lane)
  /-- WAVE_RECEIVE -/
  | waveReceive (l : Lane) (port : Nat) (f : InaFrame)
  /-- CONFIRM_RECEIVE -/
  | confirmReceive (l : Lane) (port : Nat) (f : InaFrame)
  /-- WAVE_WINDOW_END -/
  | waveWindowEnd (l : Lane)
  /-- ADOPTION -/
  | adoption (l : Lane)
  /-- REINAUGURATE -/
  | reinaugurate (l : Lane)
  -- Consist switch
  /-- CONSIST_FRAME_RECEIVE -/
  | consistFrameReceive (l : Lane) (port : Nat) (f : EthFrame)
  /-- CONSIST_FRAME_SEND -/
  | consistFrameSend (l : Lane) (port : Nat)
  /-- VITAL_ARP_REQUEST -/
  | vitalArpRequest (l : Lane) (port : Nat) (ip : Word) (mac : Mac48) (sip : Word)
  /-- MAC_AGE_OUT -/
  | macAgeOut (l : Lane) (vid : Nat) (mac : Mac48)
  /-- ECN_AUX_KICK -/
  | ecnAuxKick (l : Lane)
  -- CAN FD
  /-- CAN_FRAME_RECEIVE -/
  | canFrameReceive (l : Lane) (k : CanNo) (f : CanFrame)
  /-- CAN_QQACK -/
  | canQqack (l : Lane) (k : CanNo) (q : Bool) (v : Word)
  /-- CAN_TXREQ -/
  | canTxreq (l : Lane) (k : CanNo) (v : Word)
  /-- CAN_TXCANCEL -/
  | canTxcancel (l : Lane) (k : CanNo) (v : Word)
  /-- CAN_FRAME_START -/
  | canFrameStart (l : Lane) (k : CanNo)
  /-- CAN_FRAME_COMPLETE -/
  | canFrameComplete (l : Lane) (k : CanNo)
  /-- CAN_ARBITRATION_LOST -/
  | canArbitrationLost (l : Lane) (k : CanNo)
  /-- CAN_ERROR -/
  | canError (l : Lane) (k : CanNo) (e : CanErr)
  /-- CAN_BUSOFF_RECOVERY -/
  | canBusoffRecovery (l : Lane) (k : CanNo)
  /-- CAN_INIT -/
  | canInit (l : Lane) (k : CanNo) (src : CmdSrc) (on : Bool)
  -- Field I/O
  /-- SAMPLE_TICK -/
  | sampleTick (l : Lane) (m : FieldMeas)
  /-- SOE_EDGE -/
  | soeEdge (l : Lane) (ch : Chan) (rising : Bool)
  /-- OFF_PULSE_START -/
  | offPulseStart (l : Lane) (ch : Chan) (k : Nat)
  /-- OFF_PULSE_END -/
  | offPulseEnd (l : Lane) (ch : Chan) (low : Bool) (fell : List Nat)
  /-- GSS_TEST_START -/
  | gssTestStart (l : Lane) (g : Grp) (k : Nat)
  /-- GSS_TEST_END -/
  | gssTestEnd (l : Lane) (g : Grp) (low : Bool)
  /-- DEG_TIME_EXPIRY -/
  | degTimeExpiry (l : Lane) (ch : Chan)
  /-- OVERCURRENT_TRIP -/
  | overcurrentTrip (l : Lane) (ch : Chan)
  /-- OVERCURRENT_RETRY -/
  | overcurrentRetry (l : Lane) (ch : Chan)
  /-- TRIP_COUNT_RESET -/
  | tripCountReset (l : Lane) (ch : Chan)
  /-- GROUP_OVERLOAD -/
  | groupOverload (l : Lane) (g : Grp)
  /-- SAFE_OK_DISAGREE -/
  | safeOkDisagree (l : Lane) (second : Bool)
  /-- FIO_CLEAR -/
  | fioClear (l : Lane) (src : CmdSrc) (v : Word)
  /-- FIO_SOE_ACK -/
  | fioSoeAck (l : Lane) (v : Word)
  -- Safety layer
  /-- SAF_DEG_CLEAR -/
  | safDegClear (l : Lane) (src : CmdSrc) (ch : Nat)
  /-- SAF_DEG_CLEAR_GROUP -/
  | safDegClearGroup (l : Lane) (src : CmdSrc) (ch : Nat)
  /-- SAF_SEND -/
  | safSend (l : Lane) (v : Word)
  -- Backplane bridge
  /-- BLOCK_WRITE -/
  | blockWrite (u : CoreId) (v : Word)
  /-- BLOCK_READ -/
  | blockRead (u : CoreId) (v : Word)
  /-- BACKPLANE_READ_COMPLETION -/
  | backplaneReadCompletion (l : Lane) (c : BrgCpl)
  /-- BACKPLANE_BUDGET_EXPIRY -/
  | backplaneBudgetExpiry (l : Lane)
  /-- COMPLETION_TIMEOUT -/
  | completionTimeout (l : Lane)
  /-- PCIE_ERROR_MESSAGE -/
  | pcieErrorMessage (l : Lane) (addr : DWord) (fatal : Bool)
  /-- PCIE_LINK_DOWN -/
  | pcieLinkDown (l : Lane) (p : Nat)
  /-- PCIE_LINK_READY -/
  | pcieLinkReady (l : Lane) (p : Nat)
  /-- INBOUND_POSTED_WRITE -/
  | inboundPostedWrite (l : Lane) (addr : DWord) (d : Bytes)
  /-- INBOUND_MIRROR_READ -/
  | inboundMirrorRead (l : Lane) (addr : DWord) (len : Nat)
  /-- INBOUND_UNSUPPORTED -/
  | inboundUnsupported (l : Lane) (isWrite : Bool)
  /-- CFGACC_READ -/
  | cfgaccRead (l : Lane) (ag : Agent)
  /-- CFGACC_WRITE -/
  | cfgaccWrite (l : Lane) (ag : Agent) (v : Word)
  /-- BRG_PWLOG_INFO_READ -/
  | brgPwlogInfoRead (l : Lane) (ag : Agent)
  /-- BRG_PWLOG_CLR -/
  | brgPwlogClr (l : Lane) (ag : Agent)
  -- Active and standby pair
  /-- HEARTBEAT_RECEIVE -/
  | heartbeatReceive (l : Lane) (hb : Heartbeat)
  /-- BLOCK_FRAME_RECEIVE -/
  | blockFrameReceive (l : Lane) (f : PairBlock)
  /-- WAIT_EXIT -/
  | waitExit (l : Lane)
  /-- PAIR_WAIT_EXPIRY -/
  | pairWaitExpiry (l : Lane)
  /-- TAKEOVER -/
  | takeover (l : Lane)
  /-- INVISIBLE_RESIGN -/
  | invisibleResign (l : Lane)
  /-- HANDOVER -/
  | handover (l : Lane) (src : CmdSrc)
  /-- HANDOVER_SWITCH -/
  | handoverSwitch (l : Lane)
  /-- RESYNC -/
  | resync (l : Lane) (ag : Agent)
  /-- OUT_HOLD_EXPIRY -/
  | outHoldExpiry (l : Lane) (ch : Chan)
  -- Power states
  /-- PWR_REQ -/
  | pwrReq (l : Lane) (v : Word)
  /-- POWER_STATE_REQUEST -/
  | powerStateRequest (src : PwrSrc) (target : Nat)
  /-- ENTRY_BEGIN -/
  | entryBegin
  /-- PARTICIPANT_QUIESCED -/
  | participantQuiesced (l : Lane)
  /-- PARTICIPANT_REFUSAL -/
  | participantRefusal (l : Lane)
  /-- PARTICIPANT_TIMEOUT -/
  | participantTimeout (l : Lane)
  /-- ABORT_RESTART_STEP -/
  | abortRestartStep
  /-- ENTRY_COMPLETE -/
  | entryComplete
  /-- STBY_LIMIT_EXPIRY -/
  | stbyLimitExpiry
  /-- STANDBY_SUPPLY_LOSS -/
  | standbySupplyLoss
  /-- WAKE_ARM_EXPIRY -/
  | wakeArmExpiry
  /-- BACKBONE_ENERGY_WAKE -/
  | backboneEnergyWake
  /-- WAKE_PATTERN_RECEIVE -/
  | wakePatternReceive (id : Word)
  /-- CONSIST_ENERGY_WAKE -/
  | consistEnergyWake (port : Nat)
  /-- CAN_WAKE -/
  | canWake (k : CanNo)
  /-- WAKE_PIN -/
  | wakePin
  /-- ALARM_WAKE -/
  | alarmWake
  /-- FIELD_INPUT_WAKE -/
  | fieldInputWake (ch : Chan)
  /-- RESUPPLY_WAKE -/
  | resupplyWake
  /-- WAKE_STEP -/
  | wakeStep
  /-- PWR_WAKE_TX -/
  | pwrWakeTx (l : Lane) (ag : Agent)
  /-- PWR_RES_CLR -/
  | pwrResClr (src : CmdSrc)
  -- Start-up and Safety Net
  /-- STANDBY_POWER_APPLIED -/
  | standbyPowerApplied
  /-- INPUT_POWER_APPLIED -/
  | inputPowerApplied
  /-- BIST_COMPLETE -/
  | bistComplete (l : Lane) (r : BistResult)
  /-- IMAGE_VERIFICATION -/
  | imageVerification (ty : ImgType)
  /-- CONFIG_VALIDATION -/
  | configValidation
  /-- STARTUP_TIMEOUT -/
  | startupTimeout
  /-- SUPPLY_WARNING -/
  | supplyWarning (dv : Nat)
  /-- SUPPLY_RECOVERY -/
  | supplyRecovery (dipMs : Nat)
  /-- RESET_POINT -/
  | resetPoint
  /-- RESTART -/
  | restart (src : CmdSrc) (force : Bool)
  /-- SAFETY_NET -/
  | safetyNet (src : CmdSrc)
  /-- HELLO -/
  | hello
  /-- OFFER -/
  | offer (svc : Bool) (m : SnetMsg)
  /-- READ -/
  | read (m : SnetMsg)
  /-- DATA -/
  | data (m : SnetMsg)
  /-- READ_REPEAT_TIMEOUT -/
  | readRepeatTimeout
  /-- RESULT -/
  | result (m : SnetMsg)
  /-- SNET_RESTART -/
  | snetRestart (m : SnetMsg)
  /-- IDENTIFY -/
  | identify (m : SnetMsg)
  /-- SAFETY_NET_EXIT -/
  | safetyNetExit
  /-- FLEET_KEY_ENROL -/
  | fleetKeyEnrol (src : CmdSrc) (idx : Nat) (key sig : Bytes)
  /-- KEY_REVOKE -/
  | keyRevoke (src : CmdSrc) (idx : Nat)
  -- Ringmaster
  /-- RINGMASTER_WATCHDOG -/
  | ringmasterWatchdog
  /-- RINGMASTER_FAULT -/
  | ringmasterFault
  /-- RINGMASTER_RESUME -/
  | ringmasterResume
  /-- SERVICE_SESSION_OPEN -/
  | serviceSessionOpen (cert : Cert)
  /-- SESSION_TIMEOUT -/
  | sessionTimeout (sid : Nat)
  /-- OPERATOR_MESSAGE -/
  | operatorMessage (src : CmdSrc) (code : Half) (d : Bytes)
  /-- SENSOR_SAMPLE -/
  | sensorSample (sn : Nat) (v : Int)
  /-- LIFE_COUNTER_UPDATE -/
  | lifeCounterUpdate
  -- Event recorder
  /-- EVENT_REPORT -/
  | eventReport (now : Nat)
  /-- SUPPRESSION_SUMMARY -/
  | suppressionSummary (code : Half) (now : Nat)
  /-- EVR_CLEAR -/
  | evrClear (src : CmdSrc)
  /-- FREEZE -/
  | freeze (fs : FreezeSrc) (src : CmdSrc)
  /-- UNFREEZE -/
  | unfreeze (fs : FreezeSrc)
  /-- FREEZE_MAX_EXPIRY -/
  | freezeMaxExpiry
  /-- EVR_READ_START -/
  | evrReadStart (l : Lane) (ag : Agent) (v : Word)
  /-- EVR_READ_NEXT -/
  | evrReadNext (l : Lane) (ag : Agent)
  /-- EVR_RATE_VAL_READ -/
  | evrRateValRead (l : Lane) (ag : Agent)
  /-- AUX_MESSAGE_SEND -/
  | auxMessageSend (l : Lane) (v : Word)
  /-- AUX_MESSAGE_RECEIVE -/
  | auxMessageReceive (l : Lane) (d : Bytes)
  /-- MBX_AUXIN_ACK -/
  | mbxAuxinAck (l : Lane)
  -- Update
  /-- ANNOUNCE -/
  | announce
  /-- ANNOUNCE_RECEIVE -/
  | announceReceive (port : Nat) (h : UpdHdr)
  /-- REQUEST -/
  | request (port : Nat) (h : UpdHdr)
  /-- SEGMENT -/
  | segment (h : UpdHdr) (d : Bytes)
  /-- CHUNK_TIMEOUT -/
  | chunkTimeout (ty : ImgType)
  /-- IMAGE_INJECT -/
  | imageInject (src : CmdSrc) (ty : ImgType) (img : Bytes)
  /-- ORDER -/
  | order (o : UpdOrder)
  /-- READY -/
  | ready (topo : Word) (oid rdy refd : DWord)
  /-- DECISION -/
  | decision (oid : DWord) (go : Bool)
  /-- ORDER_DEADLINE -/
  | orderDeadline
  /-- ACTIVATION -/
  | activation
  /-- ACTIVATION_WINDOW_EXPIRY -/
  | activationWindowExpiry
  /-- CONFIRM_TIME_EXPIRY -/
  | confirmTimeExpiry (ty : ImgType)
  -- Performance counters
  /-- PMC_CTRL_WRITE -/
  | pmcCtrlWrite (l : Lane) (ag : Agent) (c : Bool) (v : Word)
  /-- PMC_CNT_LO_READ -/
  | pmcCntLoRead (l : Lane) (ag : Agent) (c : Bool) (n : Ctr)
  /-- PMC_CNT_HI_WRITE -/
  | pmcCntHiWrite (l : Lane) (ag : Agent) (c : Bool) (n : Ctr) (v : Word)
  /-- PMC_CNT_LO_WRITE -/
  | pmcCntLoWrite (l : Lane) (ag : Agent) (c : Bool) (n : Ctr) (v : Word)
  /-- PMC_SEED_WRITE -/
  | pmcSeedWrite (l : Lane) (ag : Agent) (c : Bool) (v : Word)
  /-- CLEAR -/
  | clear (l : Lane) (ag : Agent) (c : Bool)
  -- Check-value units
  /-- FEED8 -/
  | feed8 (l : Lane) (ag : Agent) (k : Ctr) (v : Word)
  /-- FEED16 -/
  | feed16 (l : Lane) (ag : Agent) (k : Ctr) (v : Word)
  /-- FEED32 -/
  | feed32 (l : Lane) (ag : Agent) (k : Ctr) (v : Word)
  /-- CVU_RESTART -/
  | cvuRestart (l : Lane) (ag : Agent) (k : Ctr)
  /-- CVU_VALUE_WRITE -/
  | cvuValueWrite (l : Lane) (ag : Agent) (k : Ctr) (hi : Bool) (v : Word)
  /-- CVU_RESULT_READ -/
  | cvuResultRead (l : Lane) (ag : Agent) (k : Ctr) (hi : Bool)
  -- Register access
  /-- REGISTER_WRITE -/
  | registerWrite (l : Lane) (ag : Agent) (a : Nat) (v : Word)
  /-- OCXO_WARM -/
  | ocxoWarm (l : Lane)
  /-- GNSS_ABSENCE_EXPIRY -/
  | gnssAbsenceExpiry (l : Lane)
  /-- PPS_MISSING -/
  | ppsMissing (l : Lane)
  /-- CROSS_LANE_LINK_RESTORED -/
  | crossLaneLinkRestored (x y : Lane)
  /-- HARD_EXCLUSION_AGE_OUT -/
  | hardExclusionAgeOut (l subject : Lane)
  /-- STANDBY_INPUT_REMOVED -/
  | standbyInputRemoved
  /-- SERVICE_SESSION_CLOSE -/
  | serviceSessionClose (sid : Nat)
  /-- HELLO_RECEIVE -/
  | helloReceive (m : SnetMsg)
  /-- RC_REGISTER_READ -/
  | rcRegisterRead (l : Lane) (ag : Agent) (a : Nat)
  /-- ECN_STATIC_PORT -/
  | ecnStaticPort (l : Lane) (ag : Agent) (wr : Option Word)
deriving DecidableEq, Repr

end Sys2Proof
end

