-- ==== Sys2Proof/Decode.lean ====
section
/-! DEFINITION. The command a table word spells. No row of the command table gives a command bits: commands reach the block by name with their operands, so no word spells one. (The words of JFI instructions are decoded from memory by the machine itself, in Machine/JfiDecode.lean.) -/

namespace Sys2Proof

/-- The command spelled by a word of the table's bits: none, because the table gives its rows no bits. -/
def decodeTableWord (_nbits _w : Nat) : Option Instr := none

end Sys2Proof
end

