-- ==== Sys2Proof/Config.lean ====
section
/-! DEFINITION. What an implementation or a manufacture fixes, and the free values: constants without a body, of which nothing can be proved but what the spec says. -/

namespace Sys2Proof

/-- The 64-bit serial number of the identity record (21 R454). -/
opaque Config.serial : DWord
/-- The EUI-64 of the identity record (21 R454). -/
opaque Config.eui : DWord
/-- The first MAC address of the module's block (21 R454); its use is Table SYS-1. -/
opaque Config.macBase : Mac48
/-- The PCI vendor ID the spec calls OXAUSK_VID and does not number (18; log 9). -/
opaque Config.oxauskVid : Half
/-- The public keys of key table entries 0 to 3, Oxausk's (21 R457). -/
opaque Config.oxauskKey : Nat → Bytes
/-- The bytes of a boot ROM, which the spec does not list (07 R157). -/
opaque Config.bootRom : Nat → Byte
/-- Free value of width 8 (log 4): applied to the state's counter. -/
opaque Config.free8 : Nat → Byte
/-- Free value of width 32 (log 4): applied to the state's counter. -/
opaque Config.free32 : Nat → Word
/-- Free value of width 64 (log 4): applied to the state's counter. -/
opaque Config.free64 : Nat → DWord
/-- How many block frames leave on the partner link in a cycle before T(n + 1) − 20 µs (19 R421; log 98). -/
opaque Config.linkRoom : Nat → Nat

/-- The local-counter stamp of a pipeline stage of a sampled instruction, by lane, core, sampler seed and stage: a free value (24 R517; log 4). -/
opaque Config.stageTime : Nat → Nat → Word → Nat → Word
/-- A free choice (log 4): applied to the state's counter. -/
opaque Config.freeBool : Nat → Bool

/-- The histogram bin of a shock peak in thousandths of g, whose edges the spec does not give (22 R480; log 10). -/
opaque Config.shockBin : Int → Fin 16
/-- Whether an ECDSA P-384 signature over bytes verifies under a public key (03 R92; 21 R457): the arithmetic is left to the named standard (log 11). -/
opaque Config.sigOk : Bytes → Bytes → Bytes → Bool
/-- SHA-384 of a byte string, the named standard's function (03 R92; 23 Table UPD-2; log 11). -/
opaque Config.sha384 : Bytes → Bytes

/-- The identifier word of the CAN FD frame of a sending safety connection, by controller and connection: bits [29:0] identifier and IDE, bit 30 BRS; the spec gives neither (10 R252; log 23). -/
opaque Config.safCanId : Nat → Nat → Word
/-- The rate a backplane link trains to, in the coding of BRG_LINKp_STAT less 1, set by the link partner (18 R399; log 26). -/
opaque Config.linkRate : Nat → Fin 3
/-- Whether the link partner takes a payload of 256 bytes (18 R399; log 26). -/
opaque Config.linkMps256 : Nat → Bool

/-- The address in the executive reserve of a task's private input copy, by slot, which the spec does not give (02 R39; log 29). -/
opaque Config.privAddr : Nat → Fin 0x10000

/-- The bytes an enrolment record of a fleet key is signed over, by entry and key; the spec does not give its layout (21 R457; log 33). -/
opaque Config.enrolText : Nat → Bytes → Bytes

/-- Whether a configuration record in AOM selects split mode; the spec does not give the record's layout (21 R466; 07 Table MEM-4; log 12). -/
opaque Config.recSplit : Bytes → Bool

end Sys2Proof
end

