-- ==== Sys2Proof/Machine/State.lean ====
section
/-! DEFINITION. The state of a K396 as plain data: each structure and field with the chapter and rule of spec/ that names it. A register a bus can reach lives in LaneState.regs alone; everything else the spec gives the machine has a field of its own. -/

namespace Sys2Proof.Machine

/-- The content of a vote item (09 Table TRI-1). -/
inductive Payload where
  | outImage (img : List (Nat × Byte))
  | telegram (c : Nat) (bytes : Bytes)
  | canReq (m : Nat) (f : CanFrame)
  | canCancel (m : Nat)
  | slotBuf (b : Nat) (flags : Byte) (bytes : Bytes)
  | brgWrite (addr : Nat) (bytes : Bytes)
  | brgRead (addr len : Nat)
  | power (target : Nat)
  | event (code : Nat) (data : Word) (task : Nat) (ext : Nat)
  | forceStatus (op status : Nat)
  | cab (on : Bool)
deriving DecidableEq, Repr, Inhabited

/-- One return-stack entry (03 R67): the return address, and the caller's fp when CALLFB pushed it. -/
structure RetEntry where
  /-- Return address (03 R67). -/
  ret : Addr40 := 0
  /-- Caller's fp of a CALLFB entry (03 R67). -/
  fp : Option Word := none
deriving DecidableEq, Repr, Inhabited

/-- One loop-nest entry (03 R68). -/
structure LoopEntry where
  /-- Address of the LOOP instruction (03 R68). -/
  addr : Addr40 := 0
  /-- Return-stack depth at which it ran (03 R68). -/
  depth : Nat := 0
  /-- Backward branches taken (03 R68). -/
  count : Nat := 0
deriving DecidableEq, Repr, Inhabited

/-- What one core's program sees (03 R61, Tables JFM-1 to JFM-3). -/
structure CoreCtx where
  /-- Working registers w0-w31 (w0 reads 0; w28 gp, w29 ii, w30 oi, w31 fp); 0 at release (03 R61, Table JFM-1). -/
  w : Vector Word 32 := Vector.replicate 32 0
  /-- Instruction pointer (03 R64). -/
  ip : Addr40 := 0
  /-- Flags Z N C V E in [4:0]; 0 at release (03 Table JFM-3). -/
  sf : Word := 0
  /-- Snapshot time of the release (03 R66). -/
  tn : DWord := 0
  /-- Cycle status register (02 R58, Table CYC-5). -/
  cs : Word := 0
  /-- Return stack, top first; empty at release (03 R67). -/
  rstack : List RetEntry := []
  /-- Loop-nest stack, top first; empty at release (03 R68). -/
  lnest : List LoopEntry := []
  /-- The error handler is running (03 R86). -/
  inHandler : Bool := false
deriving DecidableEq, Repr, Inhabited

/-- One core of a lane (08 R174, R183). -/
structure Core where
  /-- Program-visible registers of the running instance or auxiliary program (03 R61). -/
  ctx : CoreCtx := {}
  /-- The core is stopped; reset stopped: DESIGN CHOICE true (log 6) (08 R178; 03 R89). -/
  halted : Bool := true
  /-- Halted by debug (08 R191). -/
  dbgHalted : Bool := false
  /-- Debug has armed software breakpoints on this core (04 Table JFI-12). -/
  swBrk : Bool := false
  /-- Bytes written by an auxiliary core and still only in its D-cache (07 R160). -/
  dcache : List (Nat × Byte) := []
  /-- Lines of the auxiliary core's I-cache (07 R160). -/
  icache : List (Nat × Bytes) := []
deriving DecidableEq, Repr, Inhabited

/-- A vote item's content before it is offered (02 R44; 09 Table TRI-1). -/
structure QItem where
  /-- Stream ID (09 Table TRI-1). -/
  stream : Nat := 0
  /-- Content (09 R196). -/
  pay : Payload := .power 0
deriving DecidableEq, Repr, Inhabited

/-- A backplane access an instance or an auxiliary program waits for (18 R407; 09 R217). -/
structure SuspInstr where
  /-- Region (18 R402). -/
  region : Nat := 0
  /-- Sequence number (09 R195). -/
  seq : Word := 0
deriving DecidableEq, Repr, Inhabited

/-- One task instance (02 R36-R39, R44; 03 R86-R88). -/
structure Instance where
  /-- Task slot (02 R34). -/
  slot : Nat := 0
  /-- Cycle of release (02 R36). -/
  rel : Nat := 0
  /-- Cycle whose commit point is its deadline (02 R35). -/
  due : Nat := 0
  /-- Completed (02 R40). -/
  done : Bool := false
  /-- Ended by a trap without completing (03 R88). -/
  ended : Bool := false
  /-- Frozen by HOLD or a module breakpoint (06 R140). -/
  frozen : Bool := false
  /-- Reached a module breakpoint (06 R140). -/
  bpHit : Bool := false
  /-- RESUME let it go on from a module breakpoint: the instruction there executes (06 R141). -/
  resumed : Bool := false
  /-- Commit points its deadline was moved past by abandoned cycles (02 R51). -/
  moved : Nat := 0
  /-- Saved context of core 0 while preempted (02 R39). -/
  ctx0 : CoreCtx := {}
  /-- Saved context of core 1 while preempted (08 R174). -/
  ctx1 : CoreCtx := {}
  /-- Vote items queued, in issue order, its trap records among them (02 R44). -/
  items : List QItem := []
  /-- EVT records queued (04 R101). -/
  evts : Nat := 0
  /-- One element per request or cancellation queued, its controller (16 R359). -/
  canCnt : List Nat := []
  /-- One element per SAF_SEND queued, its connection (10 R236). -/
  safCnt : List Nat := []
  /-- Last ACKED values written, by ring number (16 R357; 17 R381). -/
  acks : List (Nat × Word) := []
  /-- Private input copy (02 R39). -/
  input : List Byte := []
  /-- Backplane access that waits for its completion (18 R407). -/
  susp : Option SuspInstr := none
deriving DecidableEq, Repr, Inhabited

/-- One task table entry of the running application (03 Table JFM-10). -/
structure TaskEnt where
  /-- SLOT (03 Table JFM-10). -/
  slot : Nat := 0
  /-- ARITH_TRAP (03 R85). -/
  arith : Bool := false
  /-- FAULT_ACTION (03 R88). -/
  faultSafe : Bool := false
  /-- ROOT_BT (03 Table JFM-10). -/
  rootBt : Nat := 0
  /-- WCET (03 R94). -/
  wcet : Nat := 0
  /-- ENTRY (03 Table JFM-10). -/
  entry : Nat := 0
  /-- HANDLER (03 R86). -/
  handler : Nat := 0
  /-- FRAME (03 Table JFM-10). -/
  frame : Nat := 0
  /-- GP (03 Table JFM-10). -/
  gp : Nat := 0
  /-- IN_START (02 R39). -/
  inStart : Nat := 0
  /-- IN_LAST (02 R39). -/
  inLast : Nat := 0
deriving DecidableEq, Repr, Inhabited

/-- One exchange table entry (03 Table JFM-12). -/
structure Xchg where
  /-- EXPORTER (03 Table JFM-12). -/
  exporter : Nat := 0
  /-- IMPORTER (03 Table JFM-12). -/
  importer : Nat := 0
  /-- LEN (03 Table JFM-12). -/
  len : Nat := 0
  /-- SRC (03 Table JFM-12). -/
  src : Nat := 0
  /-- PUB (03 Table JFM-12). -/
  pub : Nat := 0
  /-- DST (03 Table JFM-12). -/
  dst : Nat := 0
deriving DecidableEq, Repr, Inhabited

/-- One migration map entry (06 Table MOD-8). -/
structure MigEnt where
  /-- SYMBOL_ID (06 Table MOD-8). -/
  sym : DWord := 0
  /-- TYPE_HASH (06 Table MOD-8). -/
  typeHash : DWord := 0
  /-- OLD_ADDR (06 Table MOD-8). -/
  oldAddr : Nat := 0
  /-- NEW_ADDR (06 Table MOD-8). -/
  newAddr : Nat := 0
  /-- LEN (06 Table MOD-8). -/
  len : Nat := 0
  /-- KIND (06 Table MOD-8). -/
  kind : Nat := 0
  /-- MATCH (06 Table MOD-8). -/
  matched : Bool := false
  /-- AREA (06 Table MOD-8). -/
  area : Nat := 0
  /-- WIDTH (06 Table MOD-8). -/
  width : Nat := 0
deriving DecidableEq, Repr, Inhabited

/-- A vital (or auxiliary) application as loaded in a lane (03 The Legend). -/
structure AppImage where
  /-- BUILD_ID (03 Table JFM-9). -/
  build : DWord := 0
  /-- First 8 bytes of SYMTAB_HASH (06 R143). -/
  symtab : DWord := 0
  /-- FLAGS.SPLIT (03 Table JFM-9). -/
  split : Bool := false
  /-- FLAGS.MIGRATION (03 Table JFM-9). -/
  migration : Bool := false
  /-- LOAD_ADDR (03 Table JFM-9). -/
  loadAddr : Nat := 0
  /-- Code section (03 Table JFM-9). -/
  code : Bytes := []
  /-- DATA_ADDR (03 Table JFM-9). -/
  dataAddr : Nat := 0
  /-- Initial data (03 Table JFM-9). -/
  data : Bytes := []
  /-- Task table (03 Table JFM-10). -/
  tasks : List TaskEnt := []
  /-- Block entry table: ENTRY_OFF, FRAME_UNITS (03 Table JFM-5). -/
  blocks : List (Nat × Nat) := []
  /-- Write sets: slot, first, last (03 Table JFM-11). -/
  wsets : List (Nat × Nat × Nat) := []
  /-- Exchange table (03 Table JFM-12). -/
  xchg : List Xchg := []
  /-- Map header OLD_BUILD_ID (06 Table MOD-7). -/
  oldBuild : DWord := 0
  /-- Map header OLD_SYMTAB (06 Table MOD-7). -/
  oldSymtab : DWord := 0
  /-- Migration map (06 Table MOD-8). -/
  migr : List MigEnt := []
  /-- VDR_BASE (07 R158). -/
  vdrBase : Nat := 0
  /-- VDR_LEN (07 R158). -/
  vdrLen : Nat := 0
  /-- AUX_ENTRY (03 Table JFM-9). -/
  auxEntry : Nat := 0
  /-- AUX_TRAP (03 Table JFM-9). -/
  auxTrap : Nat := 0
deriving DecidableEq, Repr, Inhabited

/-- What the configuration image holds outside registers (06 Table MOD-3; chapters 10-23). The defaults are those the spec states; where none, 0 or empty: DESIGN CHOICE (log 7). -/
structure CfgImage where
  /-- BUILD_ID of the configuration image (03 Table JFM-9). -/
  build : DWord := 0
  /-- BUILD_ID of the vital application it was built for (21 R458). -/
  vitalBuild : DWord := 0
  /-- BUILD_ID of the auxiliary application it was built for (21 R458). -/
  auxBuild : DWord := 0
  /-- AUTO_RUN, default 0 (06 Table MOD-3). -/
  autoRun : Bool := false
  /-- HOLD_LIMIT, default 10 min (06 Table MOD-3). -/
  holdLimitMin : Nat := 10
  /-- FORCE_EXPIRY, default 30 min (06 Table MOD-3). -/
  forceExpiryMin : Nat := 30
  /-- MIG_WAIT, default 2 s (06 Table MOD-3). -/
  migWaitMs : Nat := 2000
  /-- SAFETY_MAP bits of the input image (06 Table MOD-3). -/
  safeIn : List Nat := []
  /-- SAFETY_MAP bits of the output image (06 Table MOD-3). -/
  safeOut : List Nat := []
  /-- Stop image, unlisted bytes 0x00 (06 STOP and stop values). -/
  stopImg : List (Nat × Byte) := []
  /-- Stop content of transmit slot buffers (06 R137). -/
  stopBufs : List (Nat × Bytes) := []
  /-- Station, kind of its input items (0 receive buffer, 1 CAN queue, 2 safety connection), number (02 R55). -/
  stnPorts : List (Nat × Nat × Nat) := []
  /-- Input-image bytes of a station: station, first, length (02 R55). -/
  stnBytes : List (Nat × Nat × Nat) := []
  /-- Fixed substitute of input-image offsets (02 R55). -/
  stnFixed : List (Nat × Byte) := []
  /-- Fixed substitute payload of safety connections (10 R247). -/
  safFixed : List (Nat × Bytes) := []
  /-- Consist address table (10 R251; 15 R343). -/
  consist : List (Word × Mac48) := []
  /-- Individual rate settings: code, RATE, BURST (22 R487). -/
  rates : List (Nat × Nat × Nat) := []
  /-- STEER_EN, default 1 (22 R482). -/
  steerEn : Bool := true
  /-- FREEZE_MAX, default 600 s (22 R489). -/
  freezeMaxS : Nat := 600
  /-- Warning bands: sensor, low, high (22 R480). -/
  bands : List (Nat × Int × Int) := []
  /-- SPLIT, default 0 (08 Table TRP-3). -/
  split : Bool := false
  /-- AUX_BANKS (bit k, banks 1-14), default 0 (08 Table TRP-3). -/
  auxBanks : Nat := 0
  /-- AUX_WIN_BASE, default 0 (08 Table TRP-3). -/
  auxWinBase : Nat := 0
  /-- AUX_WIN_LEN in MiB, default 0 (08 Table TRP-3). -/
  auxWinMiB : Nat := 0
  /-- DEBUG_EN, default 0 (08 Table TRP-3). -/
  debugEn : Bool := false
  /-- Values start-up loads into CFG registers, by register offset (00 R8). -/
  regs : List (Nat × Word) := []
  /-- Atlas entries (13 Table CAR-4). -/
  atlas : List (Nat × Word × Word × Word) := []
  /-- Static MAC entries: index, VID, address, port (15 R345). -/
  statics : List (Nat × Nat × Mac48 × Nat) := []
  /-- Configuration record carried by the image (21 R460). -/
  record : Bytes := []
  /-- The record asks for the same mode in every lane (01 R28). -/
  oneMode : Bool := true
deriving DecidableEq, Repr, Inhabited

/-- One force table entry (06 Table MOD-4). -/
structure ForceEnt where
  /-- SYMBOL_ID, TYPE_HASH, AREA, WIDTH, LOC, VALUE (06 Table MOD-4). -/
  f : ForceFields := {}
  /-- FLAGS.SAFETY (06 R145). -/
  safety : Bool := false
  /-- EXPIRY_N, 0 for none (06 R145). -/
  expiry : Nat := 0
deriving DecidableEq, Repr, Inhabited

/-- What the executive keeps of one remote station (02 R55). -/
structure StnState where
  /-- Station (02 R55). -/
  stn : Nat := 0
  /-- Stamp of its newest agreed item (02 R55). -/
  newest : Option Int := none
  /-- Consecutive fresh snapshots while lost (02 R55). -/
  fresh : Nat := 0
deriving DecidableEq, Repr, Inhabited

/-- What a COMMIT changed, kept until its commit point in case the cycle is abandoned (02 R50, R51). -/
structure Undo where
  /-- Cycle of the COMMIT (02 R50). -/
  n : Nat := 0
  /-- Next sequence numbers before it (09 R195). -/
  seqs : List (Nat × Word) := []
  /-- Instances it retired (02 R51). -/
  due : List Instance := []
  /-- Program values before it (02 R44). -/
  outProg : List (Nat × Byte) := []
  /-- Committed image before it (02 R44). -/
  outComm : List (Nat × Byte) := []
  /-- Published copies before it (02 R37). -/
  pubs : List (Nat × Bytes) := []
  /-- Items of the executive it offered (02 R44). -/
  events : List QItem := []
  /-- Rings before it (16 R357). -/
  rings : List (Nat × Word × Word × Word) := []
  /-- Stopped tasks before it (03 R88). -/
  stopped : List Nat := []
deriving DecidableEq, Repr, Inhabited

/-- The lane executive (02; 06). -/
structure ExecState where
  /-- Current base cycle (02 R32). -/
  n : Nat := 0
  /-- SNAPSHOT of n has been taken (02 R41). -/
  snapped : Bool := false
  /-- Released instances not yet retired (02 R34). -/
  insts : List Instance := []
  /-- Slot whose instance the core runs (02 R34). -/
  running : Option Nat := none
  /-- HEAD, ACKED and OVR of each ring: 2k + q for CAN queue q of controller k, 8 for the SOE ring; unlisted 0 (16 R355, R357; 17 R381). -/
  rings : List (Nat × Word × Word × Word) := []
  /-- SKIPPED pending for the next release (02 R51, R58). -/
  skipped : List Nat := []
  /-- TSTEP pending for the next release (02 R54, R58). -/
  tstep : List Nat := []
  /-- FIRST_RUN pending for the next release (02 R58). -/
  firstRun : List Nat := []
  /-- Tasks stopped by FAULT_ACTION 0 until the next entry into RUN (03 R88). -/
  stopped : List Nat := []
  /-- DEGRADED as the next releases carry it (02 Table CYC-5). -/
  degraded : Bool := false
  /-- Consecutive abandoned cycles (02 R52). -/
  abandonRun : Nat := 0
  /-- Last cycle that was abandoned (02 R51). -/
  abandoned : Option Nat := none
  /-- Releases waiting for the late COMMIT: slot, cycle, cs (02 R50). -/
  waiting : List (Nat × Nat × Word) := []
  /-- Cycles whose COMMIT this lane has still to offer, oldest first (02 R44, R50). -/
  owed : List Nat := []
  /-- What the last COMMIT changed, until its commit point (02 R51). -/
  undo : Option Undo := none
  /-- Cycles at whose COMMIT a trapped instance asked for the safe state (03 R88). -/
  safeReq : List Nat := []
  /-- On-time and overrun reports held (02 R50). -/
  ovr : List (Lane × Nat × OvrKind) := []
  /-- Cycle slacks, newest first (02 R53). -/
  slacks : List Nat := []
  /-- Smallest slack of the cycle so far (02 Voltage steering). -/
  cycleSlack : Nat := 1000
  /-- Program values of the output image at the last commit (02 R44). -/
  outProg : List (Nat × Byte) := []
  /-- Committed output image (02 R44). -/
  outComm : List (Nat × Byte) := []
  /-- Last output image the lane applied to its drivers (09 R199). -/
  outApplied : List (Nat × Byte) := []
  /-- Agreed image before input forces, in HOLD the side buffer (02 R55; 06 R141, R144). -/
  side : List (Nat × Byte) := []
  /-- Agreed image kept back while an instance of an earlier cycle still reads the live one (02 R39). -/
  nextImg : Option (List (Nat × Byte)) := none
  /-- First cycle of HOLD whose agreed image stays in the side buffer (06 R141). -/
  holdFrom : Nat := 0
  /-- Station events dropped on a full queue (02 R57). -/
  stnDrop : Nat := 0
  /-- Station freshness (02 R55). -/
  stns : List StnState := []
  /-- Station event queue: station, kind 1 lost, 2 restored, low 32 bits of n (02 R57). -/
  stnQ : List (Nat × Nat × Nat) := []
  /-- Items the executive itself raises at the next COMMIT, in order (02 R44). -/
  pendEv : List QItem := []
  /-- Items selected by one lane, waiting for the next snapshot (02 R42). -/
  deferred : List MsgItem := []
  /-- Items consumed without the lane's own copy (02 R42). -/
  consumed : List MsgItem := []
  /-- T(q), from which CORES releases no task (20 R437). -/
  parked : Option Nat := none
  /-- Armed module breakpoints (06 R140). -/
  breaks : List Addr40 := []
  /-- The first COMMIT point of HOLD has put stop values on safety outputs (06 R141). -/
  holdStop : Bool := false
  /-- Cycle at which RESUME took effect (06 R141). -/
  resumedAt : Option Nat := none
  /-- Cycles of a RUN_COLD reload still to pass (06 R138). -/
  cold : Nat := 0
  /-- Migration in progress: first cycle and number of cycles (06 R149, R150). -/
  mig : Option (Nat × Nat) := none
  /-- New configuration image of the on-line change (06 R150; 23 R506). -/
  migCfg : Option CfgImage := none
  /-- New application image being loaded (06 R150). -/
  migNew : Option AppImage := none
  /-- Activation time of a pending on-line change (06 R147). -/
  activate : Option Int := none
  /-- The copies are written and the forces revised (06 R150). -/
  migDone : Bool := false
  /-- Scratch copies, by NEW_ADDR (06 R150). -/
  scratch : List (Nat × Bytes) := []
  /-- STOP: stop image to be offered; at reset in STOP (06 R134): DESIGN CHOICE (log 6) (06 R137). -/
  stopN : Bool := true
  /-- Last state digest (02 R59). -/
  digest : DWord := 0
deriving DecidableEq, Repr, Inhabited

/-- AGREE in one lane (02 R42, R43). -/
structure AgreeState where
  /-- Message items received and not yet consumed (02 R41). -/
  inbox : List MsgItem := []
  /-- The lane's own set (02 R42). -/
  own : Option AgreeSet := none
  /-- Sets received from other lanes (02 R42). -/
  sets : List (Lane × AgreeSet) := []
  /-- Closing notices received (02 R43). -/
  notices : List (Lane × Notice) := []
  /-- AGREE_WAIT has passed (02 R43). -/
  waitOver : Bool := false
  /-- Own closing notice, once closed (02 R43). -/
  closed : Option Notice := none
  /-- The agreed result has been applied (02 R43). -/
  applied : Bool := false
deriving DecidableEq, Repr, Inhabited

/-- Error patterns over the stored codewords (07 R161-R169). -/
structure MemEcc where
  /-- Error patterns: codeword address, (symbol, value) pairs (07 R162). -/
  errs : List (Nat × List (Nat × Nat)) := []
  /-- Poisoned codewords (07 R167). -/
  poison : List Nat := []
  /-- Words the last scrub pass corrected (07 R168). -/
  fixedLast : List Nat := []
  /-- Words the current scrub pass has corrected (07 R168). -/
  fixedNow : List Nat := []
  /-- Stop of the vital core pending at the next boundary (07 R169). -/
  uePending : Bool := false
deriving DecidableEq, Repr, Inhabited

/-- A vote item a lane has offered (09 R195, R196). -/
structure VItem where
  /-- Stream and content (09 R196). -/
  q : QItem := {}
  /-- Sequence number (09 R195). -/
  seq : Word := 0
  /-- Cycle of the COMMIT that offered it (09 R196). -/
  cycle : Nat := 0
  /-- The lane has acted on it (09 R199). -/
  applied : Bool := false
  /-- Seen to leave complete by the readback taps (09 R200). -/
  sent : Bool := false
deriving DecidableEq, Repr, Inhabited

/-- One item digest a lane holds (09 R198). -/
structure DigRec where
  /-- The lane that supplied it (09 R198). -/
  sender : Lane := .a
  /-- Stream ID (09 R198). -/
  stream : Nat := 0
  /-- Sequence number (09 R198). -/
  seq : Word := 0
  /-- Cycle (09 R203). -/
  cycle : Nat := 0
  /-- Digest (09 R196). -/
  digest : DWord := 0
  /-- Local time of receipt (09 R202). -/
  at_ : Nat := 0
deriving DecidableEq, Repr, Inhabited

/-- One released item (09 R198). -/
structure RelRec where
  /-- Stream ID (09 R198). -/
  stream : Nat := 0
  /-- Sequence number (09 R198). -/
  seq : Word := 0
  /-- Cycle (09 R203). -/
  cycle : Nat := 0
  /-- Released digest (09 R198). -/
  digest : DWord := 0
  /-- Local time of release (09 R202). -/
  at_ : Nat := 0
deriving DecidableEq, Repr, Inhabited

/-- One accusation or cycle verdict a lane holds (09 R203-R206). -/
structure Acc where
  /-- Judge (09 R206). -/
  judge : Lane := .a
  /-- Subject (09 R206). -/
  subject : Lane := .a
  /-- Cycle (09 R203). -/
  cycle : Nat := 0
  /-- Verdict code (09 Table TRI-3). -/
  verdict : Nat := 0
  /-- Cause code, 0 when none (09 Table TRI-4). -/
  cause : Nat := 0
deriving DecidableEq, Repr, Inhabited

/-- The Triangulation voter of one lane beside its registers (09). -/
structure TriState where
  /-- Next sequence number of each stream, unlisted 0 (09 R195). -/
  seqs : List (Nat × Word) := []
  /-- Next sequence number to release of each stream (09 R198). -/
  rels : List (Nat × Word) := []
  /-- Own items offered (09 R199). -/
  items : List VItem := []
  /-- Digests held (09 R198). -/
  digs : List DigRec := []
  /-- Items released (09 R198). -/
  released : List RelRec := []
  /-- Commit-done counts: sender, cycle, count (09 R204). -/
  counts : List (Lane × Nat × Nat) := []
  /-- State digests: sender, cycle, digest (09 R214). -/
  sdigs : List (Lane × Nat × DWord) := []
  /-- Verdicts and accusations held (09 R206). -/
  accs : List Acc := []
  /-- Exclusion assertions: by, subject (09 R207). -/
  asserts : List (Lane × Lane) := []
  /-- Exclusions not counted: subject, the judge that accused (09 R207, R209). -/
  uncounted : List (Lane × Lane) := []
  /-- Slot-buffer commits the safety engine is to offer (10 R250). -/
  toOffer : List QItem := []
  /-- Backplane read requests received (09 R217). -/
  reqs : List XRec := []
  /-- Local time at which the DEG_LIMIT timer started (09 R210). -/
  degAt : Option Nat := none
  /-- Exclusion latch (09 R207). -/
  latch : Bool := false
  /-- Lanes that announced their own exclusion (09 R204). -/
  announced : List Lane := []
  /-- Lanes this lane's cross-lane link has failed to (09 R204). -/
  linksDown : List Lane := []
  /-- Hard exclusions counted, with local time (09 R209). -/
  hardT : List (Lane × Nat) := []
  /-- Ports this lane drives: 0 Line X, 1 Line Y, 2 consist, 3-6 CAN0-3, 7 backplane, 8 partner link; reset: Table ARC-1 (01 R16, R19). -/
  owns : List Nat := []
  /-- Transmit-enable inputs asserted (01 R17). -/
  enables : List Nat := []
  /-- Field, GSS and SAFE_OK drivers refreshed (09 R213). -/
  drivers : Bool := false
  /-- The lane does not command the bypass relays in line (13 R294). -/
  bypass : Bool := true
  /-- Items the readback taps saw leave complete: stream, sequence number (09 R200). -/
  taps : List (Nat × Word) := []
  /-- Safety Net without a configuration: the lane commands Line X alone in line, cut-through (21 R467). -/
  cutX : Bool := false
deriving DecidableEq, Repr, Inhabited

/-- Reintegration in one lane beside its registers (09 R218-R223). -/
structure ReintState where
  /-- Dirty map of a source: blocks to send (09 R220). -/
  dirty : List Nat := []
  /-- Blocks of the bulk copy a source has sent, in ascending order (09 R218). -/
  next : Nat := 0
  /-- Blocks a source has still to send in the current dirty pass (09 R218). -/
  pass : List Nat := []
  /-- Blocks sent by a source in this attempt (09 Table TRI-10). -/
  blocks : Nat := 0
  /-- Newest copy of a block that a joiner has received from each source and not settled (09 R220). -/
  inbox : List (Lane × Nat × Bytes) := []
  /-- Settled blocks of a joiner (09 R220). -/
  settled : List Nat := []
  /-- A first catch-up has been attempted (09 R221). -/
  firstTry : Bool := false
  /-- The catch-up has passed (09 R221). -/
  passed : Bool := false
deriving DecidableEq, Repr, Inhabited

/-- One Meridian clock (12 R264, R267). -/
structure Clock where
  /-- Seconds (12 R264). -/
  sec : Nat := 0
  /-- Nanoseconds (12 R264). -/
  ns : Nat := 0
  /-- Fraction in 2^-16 ns (12 R264). -/
  frac : Nat := 0
  /-- Residue below the fraction (12 R267). -/
  resid : Nat := 0
  /-- RATE in 2^-40, clamped to +-109,951,163 (12 R267). -/
  rate : Int := 0
deriving DecidableEq, Repr, Inhabited

/-- One PTP servo (12 R272). -/
structure Servo where
  /-- Integ (12 R272). -/
  integ : Int := 0
  /-- Consecutive measurements within LOCK_TOL (12 R272). -/
  good : Nat := 0
  /-- Consecutive measurements above 10 LOCK_TOL (12 R272). -/
  bad : Nat := 0
  /-- Carousel cycles without a valid measurement (12 R272). -/
  miss : Nat := 0
  /-- Outstanding step request (12 R273). -/
  req : Option (Int × Nat) := none
  /-- A Line X measurement was used in this Carousel cycle (12 R271). -/
  usedX : Bool := false
  /-- Line Y measurement held for the end of this Carousel cycle (12 R271). -/
  heldY : Option Int := none
deriving DecidableEq, Repr, Inhabited

/-- A Meridian instance beside its registers (12). -/
structure MerState where
  /-- Counting; not running before the start strobe (12 R263). -/
  running : Bool := false
  /-- Local counter of 2 ns steps (12 R263). -/
  ltime : Nat := 0
  /-- Working clock W (12 R267). -/
  w : Clock := {}
  /-- Domain clock D0 (12 R267). -/
  d0 : Clock := {}
  /-- Domain clock D1 (12 R267). -/
  d1 : Clock := {}
  /-- Servo of domain 0 (12 R272). -/
  s0 : Servo := {}
  /-- Servo of domain 1 (12 R272). -/
  s1 : Servo := {}
  /-- Servo of a clock disciplined to GNSS (12 R275, R277). -/
  sg : Servo := {}
  /-- Outstanding request to step W (12 R278). -/
  wreq : Option (Int × Nat) := none
  /-- Sign of the slew in progress (12 R279). -/
  slew : Int := 0
  /-- Latched W, D0, D1 of the check epochs (12 R290). -/
  epochs : List (Nat × Int × Int × Int) := []
  /-- Commanded shifts: clock, ns, step, epochs left (12 R273, R290). -/
  cmds : List (MerClk × Int × Bool × Nat) := []
  /-- Local times of recent corrections (12 R290). -/
  corrT : List Nat := []
  /-- Pdelay results: port, ns, local time, newest first, 8 for each port (12 R271). -/
  pdel : List (Nat × Nat × Nat) := []
  /-- Next Pdelay_Req sequence number by port (12 R270). -/
  pseq : List (Nat × Nat) := []
  /-- Candidates seen in this Carousel cycle: position, class, cab-active (12 R274). -/
  cands : List (Nat × Nat × Bool) := []
  /-- Last ranking: position and class for domain 0 and for domain 1, position 0 for none (12 R274). -/
  gmCand : (Nat × Nat) × (Nat × Nat) := ((0, 0), (0, 0))
  /-- Carousel cycles it has stood unchanged (12 R274). -/
  gmStood : Nat := 0
  /-- Pulses of TOUT0-3 (12 R286). -/
  tout : BitVec 4 := 0
  /-- PPS OUT level (12 R287). -/
  ppsOut : Bool := false
  /-- Last PPS IN edge (12 R288). -/
  ppsAt : Option Nat := none
  /-- W at the last PPS edge (12 R288). -/
  ppsW : Int := 0
  /-- Source W followed before the holdover (12 R276, R280). -/
  lastSrc : Nat := 0
  /-- Local time at entry into the holdover (12 Table MER-5). -/
  holdAt : Nat := 0
  /-- Last RMC label (12 R288). -/
  label : Nat := 0
  /-- The last edge lay within 1 us of 1 s after the previous one (12 R288). -/
  ppsGood : Bool := false
  /-- GNSS has been absent for 10 min (never valid) (12 Table MER-2). -/
  absent10 : Bool := true
  /-- OCXO warm (12 Table MER-2). -/
  ocxoWarm : Bool := false
  /-- Consecutive check epochs within TOL (12 R291). -/
  joinOk : Nat := 0
deriving DecidableEq, Repr, Inhabited

/-- A committed transmit buffer (13 R310; 02 R46). -/
structure TxBuf where
  /-- Buffer (13 R310). -/
  b : Nat := 0
  /-- Payload (13 R310). -/
  bytes : Bytes := []
  /-- FLAGS of its COMMIT (13 R297). -/
  flags : Byte := 0
  /-- Base cycle from which it is eligible (02 R46). -/
  from_ : Nat := 0
  /-- The lane's copy has matched the released digest (13 R302). -/
  matched : Bool := true
deriving DecidableEq, Repr, Inhabited

/-- A lane's Carousel beside its registers (13). -/
structure CarState where
  /-- Atlas entries, unlisted 0 (13 Table CAR-4). -/
  atlas : List (Nat × Word × Word × Word) := []
  /-- Committed transmit buffers (13 R310). -/
  txb : List TxBuf := []
  /-- (CYCLE, FRAME_ID) already taken (13 R308). -/
  taken : List (Word × Half) := []
  /-- Arrival errors of the last 8 accepted frames of Line X (13 R306). -/
  errX : List Int := []
  /-- Arrival errors of the last 8 accepted frames of Line Y (13 R306). -/
  errY : List Int := []
  /-- Their senders, Line X (13 R311). -/
  sndX : List Nat := []
  /-- Their senders, Line Y (13 R311). -/
  sndY : List Nat := []
  /-- PATH table of Line X, unlisted unknown (13 R304). -/
  pathX : List Word := []
  /-- PATH table of Line Y (13 R304). -/
  pathY : List Word := []
  /-- A frame of this cycle failed a check (13 R313). -/
  bad : Bool := false
  /-- Ports whose sync frame carried this sheet's SHEET and SIG (13 R313). -/
  syncOk : List Nat := []
  /-- The sync error exceeded 1 us in this cycle (13 R313). -/
  syncBad : Bool := false
  /-- Leader frame on Line X in this cycle (13 Table CAR-12). -/
  leadX : Bool := false
  /-- Leader frame on Line Y in this cycle (13 Table CAR-12). -/
  leadY : Bool := false
  /-- Last running-valid cycle (13 R315). -/
  lastLead : Option Nat := none
  /-- Positions whose latest frame acknowledged, with cycle (13 R319). -/
  acks : List (Nat × Nat) := []
  /-- Cycles in which the leader took a position's frame (13 R319). -/
  active : List (Nat × Nat) := []
  /-- Confirmed switch (13 R320). -/
  newSheet : Option (Nat × Nat) := none
  /-- Consecutive cycle starts with sync error at or below 500 ns (13 R312). -/
  lgGood : Nat := 0
  /-- Error at entry into holdover (13 R311). -/
  holdErr : Nat := 0
  /-- Released CAB_ACTIVE for the next cycle start (13 R297). -/
  cabNext : Option Bool := none
  /-- Cold-start cycle of the first type 3 frame (13 R317). -/
  csStart : Option Nat := none
  /-- Type 3 frames waiting for a port (13 R318). -/
  csQ : List (Nat × ColdFrame) := []
  /-- Unscheduled frames waiting: port, priority 1-3, frame; oldest first (13 R305). -/
  unschedQ : List (Nat × Nat × Emit) := []
  /-- The leader's proposal: sheet, switch cycle, first proposing cycle (13 R319). -/
  prop : Option (Nat × Nat × Nat) := none
  /-- The Carousel has put a sheet in force from the leader's frames or by inauguration (02 R47). -/
  inForce : Bool := false
deriving DecidableEq, Repr, Inhabited

/-- A result of R329 (14). -/
structure InaResult where
  /-- Modules counted (14 R329). -/
  n : Nat := 0
  /-- Position (14 R329). -/
  pos : Nat := 0
  /-- Orientation (14 R329). -/
  orient : Bool := false
  /-- New topology count (14 R329). -/
  topo : Word := 0
  /-- Sheet (14 R329). -/
  sheet : Nat := 0
  /-- FALLBACK (14 R329). -/
  fallback : Bool := false
  /-- REF_CAB (14 Table INA-3). -/
  refCab : Bool := false
  /-- Reference-end EUI-64 (14 R329). -/
  refEui : DWord := 0
  /-- Deciding cab-active EUI-64 (14 R329). -/
  cabEui : DWord := 0
  /-- Its position (14 Table INA-3). -/
  cabPos : Nat := 0
  /-- Composition signature (14 R329). -/
  csig : Word := 0
  /-- Complete (14 R329). -/
  complete : Bool := false
deriving DecidableEq, Repr, Inhabited

/-- Inauguration in one lane beside its registers (14). -/
structure InaState where
  /-- WAVE frames of the window (14 R329). -/
  waves : List (Nat × InaFrame) := []
  /-- CONFIRM frames of the window (14 R331). -/
  confirms : List (Nat × InaFrame) := []
  /-- Result in use (14 R330). -/
  res : InaResult := {}
  /-- Result waiting for the adoption boundary (14 R332). -/
  adopt : Option InaResult := none
  /-- Yield decided: stop at the next cycle start (14 R337). -/
  yielding : Bool := false
  /-- The wave frames of a window have carried the yield (14 R337). -/
  yieldWaved : Bool := false
  /-- MERGE frames carry YIELD (14 R337). -/
  yieldSent : Bool := false
  /-- Last MERGE frame of each fenced port (14 R326). -/
  peers : List (Nat × InaFrame) := []
deriving DecidableEq, Repr, Inhabited

/-- One learned MAC entry (15 R345). -/
structure MacEnt where
  /-- VID (15 R345). -/
  vid : Nat := 0
  /-- Address (15 R345). -/
  mac : Mac48 := 0
  /-- Port (15 R345). -/
  port : Nat := 0
deriving DecidableEq, Repr, Inhabited

/-- The consist switch of a lane beside its registers (15). -/
structure EcnState where
  /-- Learned entries (15 R345). -/
  macs : List MacEnt := []
  /-- Static entries: index, MAC_LO, MAC_HI word, port; unlisted 0 (15 Table ECN-2). -/
  statics : List (Nat × Word × Word × Nat) := []
  /-- Egress queues: port, priority, frame; oldest first (15 R342). -/
  queues : List (Nat × Nat × EthFrame) := []
  /-- Next descriptor of the auxiliary receive ring (15 R349). -/
  rxNext : Nat := 0
  /-- Next descriptor of the auxiliary transmit ring (15 R349). -/
  txNext : Nat := 0
  /-- Frames this lane expects the owner to send: egress port, frame, and for a forwarded one the time it was received (15 R344). -/
  due : List (Nat × EthFrame × Option Int) := []
deriving DecidableEq, Repr, Inhabited

/-- One CAN transmit mailbox (16 R360). -/
structure CanMb where
  /-- Pending frame (16 R360). -/
  frame : Option CanFrame := none
  /-- Replacing frame behind the one on the bus (16 R360). -/
  waiting : Option CanFrame := none
  /-- Cancelled while on the bus (16 R362). -/
  cancel : Bool := false
  /-- Sequence number of the request that loaded the frame (09 R200). -/
  seq : Word := 0
  /-- Sequence number of the replacing frame's request (09 R200). -/
  wseq : Word := 0
deriving DecidableEq, Repr, Inhabited

/-- One CAN controller of a lane beside its registers (16). -/
structure CanState where
  /-- TEC (16 R364). -/
  tec : Nat := 0
  /-- REC (16 R364). -/
  rec_ : Nat := 0
  /-- Consecutive ACK-error attempts (16 R365). -/
  ackRun : Nat := 0
  /-- Mailboxes, unlisted empty (16 R360). -/
  mbs : List (Nat × CanMb) := []
  /-- Mailbox whose frame is on the bus (16 R361). -/
  onBus : Option Nat := none
deriving DecidableEq, Repr, Inhabited

/-- An off-pulse or GSS test in progress (17 R383, R386). -/
structure Pulse where
  /-- Channel or group (17 R383). -/
  no : Nat := 0
  /-- Pattern (17 R384). -/
  pattern : Nat := 0
deriving DecidableEq, Repr, Inhabited

/-- Field I/O of one lane beside its registers (17). -/
structure FioState where
  /-- Classification of each path; OFF after power-on (17 R376). -/
  cls : BitVec 96 := 0
  /-- WIREBREAK found (17 R377). -/
  wb : BitVec 96 := 0
  /-- Consecutive samples in the gaps (17 R377). -/
  gap : List (Nat × Nat) := []
  /-- Readback (17 R382). -/
  rb : BitVec 96 := 0
  /-- Open load found (17 R388). -/
  ol : BitVec 96 := 0
  /-- Consecutive low-current ticks (17 R388). -/
  olRun : List (Nat × Nat) := []
  /-- External drive found (17 R387). -/
  ext : BitVec 96 := 0
  /-- Channel switched off by its driver (17 R388). -/
  oc : BitVec 96 := 0
  /-- Switched off since the last snapshot (17 R388). -/
  ocNew : BitVec 96 := 0
  /-- CROSS found since the last snapshot: pulsed channel, falling channel (17 R390). -/
  crossF : List (Nat × Nat) := []
  /-- Pulse failure found (17 R385). -/
  pfail : BitVec 96 := 0
  /-- GSS test failed (17 R386). -/
  gssFail : BitVec 6 := 0
  /-- Group rail high (17 R392). -/
  railHigh : BitVec 6 := 0
  /-- Group overload found (17 R389). -/
  ovl : BitVec 6 := 0
  /-- GSS commanded closed by this lane; open at reset (10 R229). -/
  gss : BitVec 6 := 0
  /-- Off-pulse in progress (17 R383). -/
  pulse : Option Pulse := none
  /-- GSS test in progress (17 R386). -/
  gssPulse : Option Pulse := none
  /-- Consecutive snapshots with unequal value bits (17 R379). -/
  dis : List (Nat × Nat) := []
  /-- Consecutive snapshots with equal value bits while DISAGREE (17 R379). -/
  eq : List (Nat × Nat) := []
  /-- Overcurrent trips counted (17 R388). -/
  trips : List (Nat × Nat) := []
  /-- Time of the retry of a channel that still reads OVERCURRENT (17 R388). -/
  retryAt : List (Nat × Int) := []
  /-- Tripped groups with their case (10 R231). -/
  tripCase : List (Nat × Nat) := []
  /-- Groups whose DEG_TIME expired, to trip at the next snapshot (10 R231). -/
  tripPend : List Nat := []
  /-- Tripped groups whose GSS opens at the COMMIT of this cycle (10 R231). -/
  gssOpen : List Nat := []
  /-- Groups whose rail the next snapshot checks (17 R392). -/
  railChk : List Nat := []
  /-- GSS_STUCK (10 R232). -/
  stuck : BitVec 6 := 0
  /-- Degraded safe channels with the cycle of entry (10 R230). -/
  deg : List (Nat × Nat) := []
  /-- Channels commanded off by CROSS (17 R390). -/
  offCmd : List Nat := []
  /-- Clears pending for the next snapshot (17 R397). -/
  clear : List Nat := []
  /-- SAF_DEG_CLEAR pending: channel, group (10 R233). -/
  degClear : List (Nat × Bool) := []
  /-- SAFE_OK contacts commanded closed; open at reset (17 R393). -/
  okRelay : BitVec 2 := 0
  /-- Hold latches (19 R426). -/
  hold : BitVec 96 := 0
  /-- Mode in force by channel, unlisted 0 (17 R372). -/
  mode : List (Nat × Nat) := []
  /-- Pattern of the last off-pulse by channel (17 R384). -/
  pat : List (Nat × Nat) := []
  /-- Time at which the command turned a channel off (17 R387). -/
  offAt : List (Nat × Int) := []
  /-- Channels the last applied image turned off (10 R231). -/
  turned : BitVec 96 := 0
  /-- End of the interval after a takeover in which PAIRED outputs are not tested (17 R396). -/
  pairUntil : Option Int := none
deriving DecidableEq, Repr, Inhabited

/-- A receiving safety connection (10 R241-R247). -/
structure SafRx where
  /-- LAST_SEQ; none at start-up (10 R247). -/
  lastSeq : Option Word := none
  /-- LAST_ACCEPT; none at start-up (10 R247). -/
  lastAccept : Option Int := none
  /-- Last accepted telegram (10 R244). -/
  lastBytes : Bytes := []
  /-- TIMESTAMP of the last payload delivered (10 Table SAF-6). -/
  delivered : Option Int := none
  /-- In substitution; true at start-up (10 R247). -/
  subst : Bool := true
  /-- Resynchronised (10 R247). -/
  resync : Bool := false
  /-- Payload of the receive record: the last delivered one, or the substitute; bytes beyond it read 0 (10 Table SAF-6). -/
  payload : Bytes := []
deriving DecidableEq, Repr, Inhabited

/-- The safety layer of one lane beside its registers (10). -/
structure SafState where
  /-- Last SEQ sent, unlisted 0 (the first telegram carries 1) (10 R237). -/
  txSeq : List (Nat × Word) := []
  /-- Receiving connections, unlisted as at start-up (10 R247). -/
  rx : List (Nat × SafRx) := []
deriving DecidableEq, Repr, Inhabited

/-- One posted-write log entry (18 Table BRG-5). -/
structure PwEnt where
  /-- PCIe address (18 Table BRG-5). -/
  addr : Nat := 0
  /-- Region (18 Table BRG-5). -/
  region : Nat := 0
  /-- Cause (18 Table BRG-5). -/
  cause : Nat := 0
  /-- Low bits of the cycle number (18 Table BRG-5). -/
  cycle : Nat := 0
deriving DecidableEq, Repr, Inhabited

/-- The backplane bridge of one lane beside its registers (18). -/
structure BrgState where
  /-- Reads sent and not completed: region, seq, address, length (09 R217). -/
  opens : List (Nat × Word × Nat × Nat) := []
  /-- Completions held for the instance (09 R217). -/
  held : List BrgCpl := []
  /-- Posted writes sent and not acknowledged: region, link, PCIe address, length (18 R409). -/
  posted : List (Nat × Nat × Nat × Nat) := []
  /-- Prefetch buffers: region, address, bytes (18 R406). -/
  prefetch : List (Nat × Nat × Bytes) := []
  /-- Posted-write log (18 R409). -/
  pwlog : List PwEnt := []
  /-- Posted-write failures since start-up (18 R409). -/
  fails : List (Nat × Nat) := []
  /-- Confirmed writes to which a failure has been attributed: region, sequence number (18 R410). -/
  failed : List (Nat × Word) := []
  /-- Access that the auxiliary core waits for (18 R416). -/
  auxSusp : Option SuspInstr := none
  /-- Next tag of an auxiliary access (18 R416). -/
  auxSeq : Word := 0
  /-- Configuration space as last written, by CFGACC address (18 R400). -/
  cfgs : List (Nat × Word) := []
deriving DecidableEq, Repr, Inhabited

/-- What the executive reserve of a lane says beside plain memory (19 R425); its layout is not given. -/
structure ExecCopy where
  /-- Force table (19 R425). -/
  forces : List (Nat × ForceEnt) := []
  /-- Next sequence numbers of the streams (19 R425). -/
  seqs : List (Nat × Word) := []
  /-- SEQ of the sending connections and state of the receiving ones (19 R425). -/
  saf : SafState := {}
  /-- Program values of the output image (19 R425). -/
  outProg : List (Nat × Byte) := []
deriving DecidableEq, Repr, Inhabited

/-- The partner link of one lane beside its registers (19). -/
structure PrtState where
  /-- Private dirty map: area, block (19 R421). -/
  dirty : List (Nat × Nat) := []
  /-- Newest heartbeat received since entry into STOP (19 R422). -/
  lastHb : Option Heartbeat := none
  /-- A heartbeat from the active came since the last base-cycle boundary (19 R424). -/
  hbSeen : Bool := false
  /-- The frames this lane computed for its last COMMIT, by cycle (19 R421). -/
  frames : Option (Nat × List PairBlock × Heartbeat) := none
  /-- The standby asks for a full copy (19 R422). -/
  wantFull : Bool := false
  /-- Block frames received since the last consistent cycle, in order (19 R422). -/
  stage : List PairBlock := []
  /-- Last consistent cycle (19 R422). -/
  consistent : Option Nat := none
  /-- The copy set as of the last consistent cycle, by address (19 R422). -/
  copy : List (Nat × Byte) := []
  /-- Agreed input image of the copy (19 R421). -/
  inCopy : List (Nat × Byte) := []
  /-- Released output image of the copy (19 R421). -/
  outCopy : List (Nat × Byte) := []
  /-- Transmit-buffer content of the copy, by block (19 R421). -/
  txCopy : List (Nat × Bytes) := []
  /-- A pair-slot frame was taken in this Carousel cycle (19 R424). -/
  slotSeen : Bool := false
  /-- Time of the last valid pair-slot frame (19 R419). -/
  slotAgo : Option Int := none
  /-- HANDOVER_N, 0 for none (19 R430). -/
  handN : Nat := 0
  /-- The module sent a frame in this Carousel cycle (19 R428). -/
  sentNow : Bool := false
  /-- Carousel cycles without a frame sent (19 R428). -/
  txSilent : Nat := 0
  /-- Start of a dual-active interval (19 R427). -/
  dualAt : Option Int := none
  /-- Resigned: standby from the next boundary (19 R427). -/
  resigned : Bool := false
  /-- PAIRED outputs wait for the readback of the takeover snapshot (19 R425; 17 R396). -/
  takeover : Bool := false
deriving DecidableEq, Repr, Inhabited

/-- The supply of one lane (20). -/
structure PwrLane where
  /-- Core supply on; off at reset (20 Table PWR-7). -/
  supply : Bool := false
  /-- Entry participants of this lane whose island is removed (20 R437). -/
  gated : List Nat := []
deriving DecidableEq, Repr, Inhabited

/-- Debug on one lane beside the TRP registers (08 R190-R193). -/
structure DebugState where
  /-- Attachment accepted and not yet in effect: whether it targets core 1, and SOLO (08 R191). -/
  pend : Option (Bool × Bool) := none
  /-- The attached core is core 1 (08 R190). -/
  core1 : Bool := false
deriving DecidableEq, Repr, Inhabited

/-- One core's performance unit beside its registers (24). -/
structure PmcCore where
  /-- Buffered HI write, by counter (24 R515). -/
  bufHi : List (Nat × Nat) := []
  /-- Count bits [47:32], by counter (24 R515). -/
  cntHi : List (Nat × Nat) := []
  /-- Instructions left in the sampling interval (24 R516). -/
  left : Nat := 0
  /-- Sample buffer by entry number (24 R517). -/
  samples : List (Nat × List Word) := []
deriving DecidableEq, Repr, Inhabited

/-- A report on its way to the event recorder (22 R483, Table EVR-1). -/
structure Report where
  /-- Event code (22 R492). -/
  code : Half := 0
  /-- DATA (22 Table EVR-2). -/
  data : Word := 0
  /-- EXT (22 Table EVR-1). -/
  ext : BitVec 128 := 0
  /-- 0 R, 1 L, 2 V, 3 X (22 Table EVR-1). -/
  path : Nat := 1
  /-- Lane mask (22 R483). -/
  lanes : BitVec 3 := 0
  /-- Base-cycle number, all ones when no lane runs (22 Table EVR-1). -/
  cycle : DWord := 0xFFFFFFFFFFFFFFFF
  /-- Task slot of a V record raised by a task (22 Table EVR-1). -/
  task : Byte := 0xFF
  /-- W at the first report (22 Table EVR-1). -/
  time : Int := 0
  /-- TIME_VALID at the first report (22 R484). -/
  timeValid : Bool := false
deriving DecidableEq, Repr, Inhabited

/-- The MBX block of one lane beside its registers (22). -/
structure MbxLane where
  /-- Lane events held while Ringmaster is down (22 R475). -/
  evq : List Report := []
  /-- Released items held while Ringmaster is down (22 R475). -/
  itq : List VItem := []
  /-- No steering command for 100 ms (01 R21). -/
  silentSteer : Bool := false
deriving DecidableEq, Repr, Inhabited

/-- One lane A, B or C: everything the spec gives it (01 R9). -/
structure LaneState where
  /-- Which lane this is (21 Table SYS-9). -/
  id : Lane := .a
  /-- Register file by offset from 0x10000000; an unlisted register holds its reset value (07 R154). -/
  regs : List (Nat × Word) := []
  /-- SRAM, AOM, boot ROM overlay and DRAM; unlisted 0x00: DESIGN CHOICE (log 3) (07 Table MEM-1). -/
  mem : List (Nat × Byte) := []
  /-- Error patterns of the stored codewords (07 R161). -/
  ecc : MemEcc := {}
  /-- Core 0 (08 R174). -/
  c0 : Core := {}
  /-- Core 1: the twin, or the auxiliary core in split mode (08 R174). -/
  c1 : Core := {}
  /-- Vital application loaded; none at reset (03 R93). -/
  app : Option AppImage := none
  /-- Auxiliary application loaded; none at reset (08 R184). -/
  aux : Option AppImage := none
  /-- Configuration in force (06 Table MOD-3). -/
  cfg : CfgImage := {}
  /-- Force table by index, unlisted empty; empty at start-up (06 R146) (06 R145). -/
  forces : List (Nat × ForceEnt) := []
  /-- Lane executive (02 R32). -/
  exe : ExecState := {}
  /-- AGREE (02 R42). -/
  agree : AgreeState := {}
  /-- Triangulation voter (09 R194). -/
  tri : TriState := {}
  /-- Reintegration (09 R218). -/
  reint : ReintState := {}
  /-- Meridian instance (12 R263). -/
  mer : MerState := {}
  /-- Carousel (13 R292). -/
  car : CarState := {}
  /-- Inauguration (14 R323). -/
  ina : InaState := {}
  /-- Consist switch (15 R340). -/
  ecn : EcnState := {}
  /-- CAN controllers (16 R351). -/
  can : Vector CanState 4 := Vector.replicate 4 {}
  /-- Field I/O (17 R373). -/
  fio : FioState := {}
  /-- Safety layer (10 R235). -/
  saf : SafState := {}
  /-- Backplane bridge (18 R400). -/
  brg : BrgState := {}
  /-- Partner link (19 R417). -/
  prt : PrtState := {}
  /-- Power sequencing (20 R437). -/
  pwr : PwrLane := {}
  /-- Debug (08 R190). -/
  dbg : DebugState := {}
  /-- Performance unit of core 0 (24 R513). -/
  pmc0 : PmcCore := {}
  /-- Performance unit of core 1 (24 R513). -/
  pmc1 : PmcCore := {}
  /-- MBX block (22 R475). -/
  mbx : MbxLane := {}
  /-- the model's own record of the value the last register read command returned; 0 at reset: DESIGN CHOICE (log 5) -/
  rdval : Word := 0
  /-- the model's own record that the last register command ended in a bus error (00 R7); false at reset: DESIGN CHOICE (log 5) -/
  berr : Bool := false
  /-- the model's own log of what left this lane's ports and links, newest first; empty at reset: DESIGN CHOICE (log 5) -/
  sent : List Emit := []
deriving DecidableEq, Repr, Inhabited

/-- An admitted event record (22 Table EVR-1). -/
structure EvRec where
  /-- INDEX (22 R484). -/
  index : DWord := 0
  /-- Time, cycle, code, source, data, task, ext (22 Table EVR-1). -/
  rep : Report := {}
  /-- HELD (22 R489). -/
  held : Bool := false
  /-- DEFERRED (22 R491). -/
  deferred : Bool := false
  /-- FIRST_AFTER_CLEAR (22 R486). -/
  firstAfterClear : Bool := false
  /-- LOSS_BEFORE (22 R489). -/
  lossBefore : Bool := false
  /-- SUPPRESSED (22 R488). -/
  suppressed : Word := 0
  /-- POWER_CYCLES (22 R481). -/
  powerCycles : Word := 0
deriving DecidableEq, Repr, Inhabited

/-- The event recorder beside its registers (22). -/
structure EvrState where
  /-- Merged reports not yet recorded, oldest first (22 R483). -/
  reports : List Report := []
  /-- Last area, newest first (22 R485). -/
  lastArea : List EvRec := []
  /-- First area, newest first (22 R485). -/
  firstArea : List EvRec := []
  /-- Holding buffer, newest first (22 R489). -/
  hold : List EvRec := []
  /-- Records deferred during a dip, newest first (21 R463). -/
  defer : List EvRec := []
  /-- Source that holds the freeze (22 R490). -/
  frozenBy : Option FreezeSrc := none
  /-- INDEX of the newest record; 0 before the first (22 R484). -/
  newest : DWord := 0
  /-- Records were lost since the last admitted one (22 R489). -/
  loss : Bool := false
  /-- The next admitted record is the first after a clear (22 R486). -/
  afterClear : Bool := false
  /-- Token bucket by code: thousandths of a token, time in ms; unlisted full (22 R487). -/
  buckets : List (Nat × Nat × Nat) := []
  /-- Suppression by code: count, time in ms of the first unreported (22 R488). -/
  supp : List (Nat × Nat × Nat) := []
  /-- Event records lost at a shutdown (21 R465). -/
  counters : Nat := 0
deriving DecidableEq, Repr, Inhabited

/-- One image slot (23 R495). -/
structure Slot where
  /-- Image with its signature block (23 Table UPD-1). -/
  img : Bytes := []
  /-- 0 empty, 1 staging, 2 verified, 3 failed; lives also in UPD_SLOTt_STAT (23 Table UPD-7). -/
  st : Nat := 0
deriving DecidableEq, Repr, Inhabited

/-- Slots and selection of one image type (21 R459; 23 R495, R508). -/
structure ImgSel where
  /-- Slot A (23 R495). -/
  a : Slot := {}
  /-- Slot B (23 R495). -/
  b : Slot := {}
  /-- Selected slot is B (21 R459). -/
  selB : Bool := false
  /-- Consecutive start-ups that did not reach STOP (21 R459). -/
  count : Nat := 0
  /-- The selection is provisional (23 R508). -/
  provisional : Bool := false
  /-- Selection changed since the last start-up that reached STOP (21 R459). -/
  changed : Bool := false
  /-- Moment of selection, larger is more recent (21 R458). -/
  selOrder : Nat := 0
  /-- The selected image has verified in this start-up (21 R457). -/
  verified : Bool := false
  /-- Fell back in this start-up (21 Table SYS-9). -/
  fellBack : Bool := false
deriving DecidableEq, Repr, Inhabited

/-- A staging in progress (23 R497). -/
structure Staging where
  /-- Image type (23 R497). -/
  typ : ImgType := .vital
  /-- TAG (23 Table UPD-2). -/
  tag : DWord := 0
  /-- Image length with signature block (23 Table UPD-2). -/
  len : Nat := 0
  /-- End port of the provider (23 R497). -/
  port : Nat := 0
  /-- Chunks stored (23 R497). -/
  chunks : Nat := 0
  /-- Segments of the chunk in progress (23 R497). -/
  segs : List (Nat × Bytes) := []
  /-- CRC failures toward this provider (23 R497). -/
  fails : Nat := 0
  /-- Repeats toward this provider (23 R497). -/
  repeats : Nat := 0
  /-- The other neighbour's port when it announces the same TAG (23 R497). -/
  other : Option Nat := none
deriving DecidableEq, Repr, Inhabited

/-- The activation order a module holds (23 R501-R504). -/
structure OrderState where
  /-- The order (23 Table UPD-3). -/
  ord : UpdOrder := {}
  /-- UPD_ORDER_STAT state 1 pending, 2 ready sent, 3 GO held, 4 activated, 5 cancelled, 6 missed, 7 refused (23 Table UPD-6). -/
  st : Nat := 0
  /-- Refusal cause (23 Table UPD-5). -/
  cause : Nat := 0
  /-- First DECISION received: GO true (23 R503). -/
  final : Option Bool := none
  /-- REFUSED map (READY map is UPD_READY) (23 R502). -/
  refused : DWord := 0
  /-- Topology count under which the maps were gathered (23 R502). -/
  topo : Word := 0
deriving DecidableEq, Repr, Inhabited

/-- A service session (22 R476, R477). -/
structure Session where
  /-- Session number (22 R476). -/
  sid : Nat := 0
  /-- Authority level granted (22 R477). -/
  level : Option Auth := none
deriving DecidableEq, Repr, Inhabited

/-- An offer taken in Safety Net (21 R469). -/
structure SnetOffer where
  /-- TYPE (21 R469). -/
  typ : ImgType := .vital
  /-- Image length (21 R469). -/
  len : Nat := 0
  /-- BUILD_ID (21 R469). -/
  build : DWord := 0
  /-- Came over the service port (21 R469). -/
  svc : Bool := false
  /-- Next OFFSET (21 R469). -/
  off : Nat := 0
  /-- Bytes read so far (21 R469). -/
  buf : Bytes := []
  /-- Repeats of the READ outstanding (21 R469). -/
  repeats : Nat := 0
  /-- SEQ of the READ outstanding (21 Table SYS-7). -/
  seq : Half := 0
deriving DecidableEq, Repr, Inhabited

/-- A key table entry (21 R457). -/
structure KeyEnt where
  /-- Public key; entries 0-3 hold Oxausk's: Config constant (21 R457). -/
  key : Bytes := []
  /-- Written (21 R457). -/
  written : Bool := false
  /-- Revoked (21 R457). -/
  revoked : Bool := false
deriving DecidableEq, Repr, Inhabited

/-- Power-state control beside the PWR registers (20). -/
structure PwrState where
  /-- OFF or without supply; at reset no supply: DESIGN CHOICE (log 6) (20 R433). -/
  off : Bool := true
  /-- Request held, entry at the next boundary (20 R435). -/
  req : Option Nat := none
  /-- Participants gated, newest first (20 R437). -/
  gated : List Nat := []
  /-- Lanes whose current participant completed QUIESCE (20 R437). -/
  quiesced : List Lane := []
  /-- MER has not gated (20 R445). -/
  entering : Bool := false
  /-- Gated participants still to restart, in order (20 R439). -/
  restart : List Nat := []
  /-- Backbone, consist and CAN sources armed (20 R444). -/
  armed : Bool := false
  /-- Mode in force before entry (20 R439). -/
  modeAt : Mode := .stop
  /-- DORMANT entered under R436 (20 Table PWR-6). -/
  r436 : Bool := false
  /-- Woken by the pattern (20 R446). -/
  patternWoke : Bool := false
  /-- The wake takes the DORMANT path (20 R449; 23 R505). -/
  dormantPath : Bool := false
  /-- Wake event after MER gated, not yet in effect (20 R445). -/
  wakePending : Bool := false
  /-- Controllers with CAN_CFG.WAKE_EN when entry began (20 Table PWR-6). -/
  wakeCan : List Nat := []
  /-- Channels with FIO_CHi_CFG.WAKE when entry began (20 Table PWR-6). -/
  wakeFio : List Nat := []
  /-- Consist ports enabled when entry began (20 Table PWR-6). -/
  wakeEcn : List Nat := []
deriving DecidableEq, Repr, Inhabited

/-- Start-up of the module beside the SYS registers (21). -/
structure StartState where
  /-- Start-up step reached (21 Table SYS-2). -/
  step : Nat := 0
  /-- Lanes whose start-up tests have ended, and whether they passed (21 R456). -/
  tests : List (Lane × Bool) := []
  /-- +5 V standby present; absent at reset: DESIGN CHOICE (log 6) (20 R452). -/
  stby : Bool := false
  /-- +12 V input present (21 R463). -/
  input : Bool := false
  /-- Supply dip in progress (21 R463). -/
  dip : Bool := false
  /-- Restarted once for the configuration record in this start-up (21 R460). -/
  recTried : Bool := false
  /-- W recorded in flash (12 R280). -/
  savedW : Int := 0
  /-- Wanted BUILD_ID for types 1-5 (21 Table SYS-8). -/
  lastBuilds : List (Nat × DWord) := []
  /-- Cause of the module start under way or to come, 0 for none (21 Table SYS-4). -/
  cause : Nat := 0
  /-- The next start-up falls back from provisional selections (23 R508). -/
  fall : Bool := false
  /-- W at the last stop, from which Ringmaster keeps time while it runs (20 Table PWR-7; 12 R291). -/
  rmW : Option Int := none
  /-- The slot identification contact shows a peripheral slot; a system slot at reset: DESIGN CHOICE (log 6) (25 R528). -/
  periph : Bool := false
  /-- Lanes that the cross-lane link test has failed (21 Table SYS-3). -/
  linkLost : List Lane := []
deriving DecidableEq, Repr, Inhabited

/-- Safety Net (21 R466-R471). -/
structure SnetState where
  /-- Entry cause, 0 outside Safety Net (21 R466). -/
  cause : Nat := 0
  /-- Offers taken (21 R469). -/
  offers : List SnetOffer := []
  /-- Next SEQ (21 Table SYS-7). -/
  seq : Half := 0
  /-- Types written in this Safety Net (21 R470). -/
  written : List ImgType := []
deriving DecidableEq, Repr, Inhabited

/-- Life counters in flash (22 R481). -/
structure Life where
  /-- Operating seconds (22 R481). -/
  seconds : Nat := 0
  /-- Power cycles (22 R481). -/
  powerCycles : Nat := 0
  /-- Thermal cycles (22 R481). -/
  thermal : Nat := 0
  /-- Board inlet: 0 not below T_LOW yet, 1 below, 2 risen above T_LOW + 40 K (22 R481). -/
  phase : Nat := 0
  /-- Values last written to flash (22 R481). -/
  flash : Nat × Nat × Nat := (0, 0, 0)
deriving DecidableEq, Repr, Inhabited

/-- Ringmaster and what is module-wide (22). -/
structure RmState where
  /-- Ringmaster runs; down before standby power (22 R474). -/
  alive : Bool := false
  /-- Why Ringmaster is down: 1 watchdog, 2 firmware fault, 3 activation of its firmware, 0 otherwise (22 R474; 23 R507). -/
  downBy : Nat := 0
  /-- Sequence number of the last released item taken, by stream; empty at start-up (22 R475). -/
  took : List (Nat × Word) := []
  /-- Firmware slot that booted is B (23 R507). -/
  selFwB : Bool := false
  /-- Service sessions (22 R476). -/
  sessions : List Session := []
  /-- Next session number (22 R476). -/
  nextSid : Nat := 0
  /-- Operator messages sent since start-up (22 Table MBX-1). -/
  opSeq : Word := 0
  /-- Sensors outside their band (22 R480). -/
  sensors : List (Nat × Bool) := []
  /-- Sensors that recorded and have not been back 10 s (22 R480). -/
  reported : List Nat := []
  /-- Samples a sensor has been back inside (22 R480). -/
  back : List (Nat × Nat) := []
  /-- Shock histogram: axis x 16 + bin, count (22 R480). -/
  hist : List (Nat × Nat) := []
  /-- Life counters (22 R481). -/
  life : Life := {}
  /-- Event recorder (22 R483). -/
  evr : EvrState := {}
  /-- Slots of image types 1-5 (23 R495). -/
  imgs : Vector ImgSel 5 := Vector.replicate 5 {}
  /-- Stagings in progress (23 R497). -/
  stagings : List Staging := []
  /-- Order held or last held (23 R501). -/
  order : Option OrderState := none
  /-- Key table (21 R457). -/
  keys : Vector KeyEnt 8 := Vector.replicate 8 {}
  /-- Power-state control (20). -/
  pwr : PwrState := {}
  /-- Start-up (21). -/
  start : StartState := {}
  /-- Safety Net (21). -/
  snet : SnetState := {}
  /-- Moments at which a selection changed (21 R458). -/
  selClock : Nat := 0
  /-- Cycle slacks read for voltage steering, newest first (02 R53; 22 R482). -/
  slackHist : List (Lane × Nat) := []
  /-- Mode commands and force operations that wait for the next snapshot, in order of arrival (06 R135, R143). -/
  ops : List RmOp := []
  /-- Status returned to the last command (06 R135; 22 R490). -/
  status : CmdStatus := .ok
  /-- the model's own log of what Ringmaster sent, newest first; empty at reset: DESIGN CHOICE (log 5) -/
  sent : List Emit := []
deriving DecidableEq, Repr, Inhabited

/-- A lane as reset leaves it (log 6): which lane it is, and every other field at its default. -/
def LaneState.init (l : Lane) : LaneState := { id := l }

/-- The module: three lanes, Ringmaster, and the queue of waiting commands. -/
structure State where
  /-- Lane A (01 R9). -/
  la : LaneState := LaneState.init .a
  /-- Lane B (01 R9). -/
  lb : LaneState := LaneState.init .b
  /-- Lane C (01 R9). -/
  lc : LaneState := LaneState.init .c
  /-- Ringmaster (22). -/
  rm : RmState := {}
  /-- the model's own counter of free values taken; 0 at reset: DESIGN CHOICE (log 4) -/
  freeCtr : Nat := 0
  /-- commands waiting, first in first out; empty at reset -/
  pending : List Instr := []
deriving DecidableEq, Repr

/-- The reasons a step could stop with a fault. -/
inductive Fault where
  /-- Raised by no command: every command of the table has an effect or, by the spec, none (safe). -/
  | stopped
deriving DecidableEq, Repr

/-- The reasons a step could refuse a command. -/
inductive Refusal where
  /-- Raised by the dispatch for a command that has no meaning yet (safe: the machine stops). -/
  | notModelled (mnemonic : String)
deriving DecidableEq, Repr

/-- The module as reset leaves it: no power, no command waiting (log 6). -/
def State.reset : State := {}

end Sys2Proof.Machine
end

