-- ==== Sys2Proof/Machine/RegMap.lean ====
section
/-! DEFINITION. The register map: the offset of every register within the RIM, its access kind, who may read and write it, its bits, and what it holds at reset, row by row from the register tables of the block chapters. -/

namespace Sys2Proof.Machine

-- CYC (CYC-6)
abbrev Rg.CYC_BASE : Nat := 0x030000
abbrev Rg.CYC_BUDGET : Nat := 0x030004
abbrev Rg.CYC_AGREE : Nat := 0x030008
abbrev Rg.CYC_OVR : Nat := 0x03000C
abbrev Rg.CYC_STATUS : Nat := 0x030010
abbrev Rg.CYC_CYCLE_LO : Nat := 0x030014
abbrev Rg.CYC_CYCLE_HI : Nat := 0x030018
abbrev Rg.CYC_SLACK : Nat := 0x030020
abbrev Rg.CYC_SLACK_MIN : Nat := 0x030024
abbrev Rg.CYC_ABANDON_CNT : Nat := 0x030028
abbrev Rg.CYC_OVR_CNT : Nat := 0x03002C
abbrev Rg.CYC_AGREE_BITS : Nat := 0x030030
abbrev Rg.CYC_AGREE_ITEMS : Nat := 0x030034
abbrev Rg.CYC_TASKt_CFG (t : Nat) : Nat := 0x030100 + 16 * t
abbrev Rg.CYC_TASKt_ENTRY (t : Nat) : Nat := 0x030104 + 16 * t
abbrev Rg.CYC_TASKt_STAT (t : Nat) : Nat := 0x030108 + 16 * t
abbrev Rg.CYC_TASKt_RESP (t : Nat) : Nat := 0x03010C + 16 * t
abbrev Rg.CYC_CPp (p : Nat) : Nat := 0x030200 + 4 * p
abbrev Rg.CYC_STNs_CFG (s : Nat) : Nat := 0x031000 + 8 * s
abbrev Rg.CYC_STNs_STAT (s : Nat) : Nat := 0x031004 + 8 * s
-- MEM (MEM-7)
abbrev Rg.MEM_STATUS : Nat := 0x040000
abbrev Rg.MEM_SCRUB_CFG : Nat := 0x040004
abbrev Rg.MEM_SCRUB_POS_SRAM : Nat := 0x040008
abbrev Rg.MEM_SCRUB_POS_DRAM : Nat := 0x04000C
abbrev Rg.MEM_SCRUB_PASSES : Nat := 0x040010
abbrev Rg.MEM_CE_SRAM : Nat := 0x040020
abbrev Rg.MEM_CE_DRAM : Nat := 0x040024
abbrev Rg.MEM_UE_CNT : Nat := 0x040028
abbrev Rg.MEM_STUCK_CNT : Nat := 0x04002C
abbrev Rg.MEM_CE_ADDR_LO : Nat := 0x040030
abbrev Rg.MEM_CE_ADDR_HI : Nat := 0x040034
abbrev Rg.MEM_UE_ADDR_LO : Nat := 0x040038
abbrev Rg.MEM_UE_ADDR_HI : Nat := 0x04003C
abbrev Rg.MEM_POISON_CNT : Nat := 0x040040
abbrev Rg.MEM_DEVCE_k (k : Nat) : Nat := 0x040080 + 4 * k
abbrev Rg.MEM_VDR_BASE_LO : Nat := 0x040100
abbrev Rg.MEM_VDR_BASE_HI : Nat := 0x040104
abbrev Rg.MEM_VDR_LEN : Nat := 0x040108
abbrev Rg.MEM_ECC_INJ_ADDR_LO : Nat := 0x040200
abbrev Rg.MEM_ECC_INJ_ADDR_HI : Nat := 0x040204
abbrev Rg.MEM_ECC_INJ : Nat := 0x040208
-- TRP (TRP-5)
abbrev Rg.TRP_STATUS : Nat := 0x010000
abbrev Rg.TRP_MODE : Nat := 0x010004
abbrev Rg.TRP_MM_GROUP : Nat := 0x010008
abbrev Rg.TRP_MM_ADDR_LO : Nat := 0x01000C
abbrev Rg.TRP_MM_ADDR_HI : Nat := 0x010010
abbrev Rg.TRP_MM_CORE0 : Nat := 0x010014
abbrev Rg.TRP_MM_CORE1 : Nat := 0x010018
abbrev Rg.TRP_TEST_CNT : Nat := 0x010020
abbrev Rg.TRP_TEST_FAIL : Nat := 0x010024
abbrev Rg.TRP_DBG_CTRL : Nat := 0x010030
abbrev Rg.TRP_DBG_STATUS : Nat := 0x010034
abbrev Rg.TRP_AUX_BANKS : Nat := 0x010040
abbrev Rg.TRP_AUX_WIN_BASE_LO : Nat := 0x010044
abbrev Rg.TRP_AUX_WIN_BASE_HI : Nat := 0x010048
abbrev Rg.TRP_AUX_WIN_LEN : Nat := 0x01004C
abbrev Rg.TRP_FW_VIOL : Nat := 0x010050
abbrev Rg.TRP_FW_VIOL_ADDR_LO : Nat := 0x010054
abbrev Rg.TRP_FW_VIOL_ADDR_HI : Nat := 0x010058
abbrev Rg.TRP_AUX_TX_DROP : Nat := 0x01005C
abbrev Rg.TRP_AUX_STATUS : Nat := 0x010060
-- TRI (TRI-10)
abbrev Rg.TRI_STATUS : Nat := 0x020000
abbrev Rg.TRI_CFG : Nat := 0x020004
abbrev Rg.TRI_CATCHUP_WAIT : Nat := 0x020008
abbrev Rg.TRI_SKEWk (k : Nat) : Nat := 0x020010 + 4 * k
abbrev Rg.TRI_DEGLIMk (k : Nat) : Nat := 0x020020 + 4 * k
abbrev Rg.TRI_DELAY_MM : Nat := 0x020030
abbrev Rg.TRI_LANEL_STAT (l : Nat) : Nat := 0x020040 + 16 * l
abbrev Rg.TRI_LANEL_CNT (l : Nat) : Nat := 0x020044 + 16 * l
abbrev Rg.TRI_LANEL_ABS (l : Nat) : Nat := 0x020048 + 16 * l
abbrev Rg.TRI_LANEL_EXCL (l : Nat) : Nat := 0x02004C + 16 * l
abbrev Rg.TRI_LAST_STREAM : Nat := 0x020080
abbrev Rg.TRI_LAST_SEQ : Nat := 0x020084
abbrev Rg.TRI_LAST_CYCLE : Nat := 0x020088
abbrev Rg.TRI_SKEW_MAX : Nat := 0x020090
abbrev Rg.TRI_DEG_REMAIN : Nat := 0x020094
abbrev Rg.TRI_REL_CNT : Nat := 0x020098
abbrev Rg.TRI_REINT_STATUS : Nat := 0x0200A0
abbrev Rg.TRI_REINT_DIRTY : Nat := 0x0200A4
abbrev Rg.TRI_REINT_KIB : Nat := 0x0200A8
abbrev Rg.TRI_REINT_ABORTS : Nat := 0x0200AC
abbrev Rg.TRI_REINT_CTRL : Nat := 0x0200B0
abbrev Rg.TRI_SAFE_CAUSE : Nat := 0x0200C0
-- SAF (SAF-8)
abbrev Rg.SAF_STATUS : Nat := 0x0B0000
abbrev Rg.SAF_SRC_ID : Nat := 0x0B0004
abbrev Rg.SAF_UDP_PORT : Nat := 0x0B0008
abbrev Rg.SAF_SEND : Nat := 0x0B0010
abbrev Rg.SAF_DEGTIMEg (g : Nat) : Nat := 0x0B0020 + 4 * g
abbrev Rg.SAF_DEG_STAT : Nat := 0x0B0040
abbrev Rg.SAF_DEG_CLEAR : Nat := 0x0B0044
abbrev Rg.SAF_CONNc_CFG (c : Nat) : Nat := 0x0B1000 + 32 * c
abbrev Rg.SAF_CONNc_PEER (c : Nat) : Nat := 0x0B1004 + 32 * c
abbrev Rg.SAF_CONNc_ID (c : Nat) : Nat := 0x0B1008 + 32 * c
abbrev Rg.SAF_CONNc_BUF (c : Nat) : Nat := 0x0B100C + 32 * c
abbrev Rg.SAF_CONNc_TIME (c : Nat) : Nat := 0x0B1010 + 32 * c
abbrev Rg.SAF_CONNc_KEY (c : Nat) : Nat := 0x0B1014 + 32 * c
abbrev Rg.SAF_CONNc_STAT (c : Nat) : Nat := 0x0B1018 + 32 * c
abbrev Rg.SAF_CONNc_REJ (c : Nat) : Nat := 0x0B101C + 32 * c
-- CVU (CVU-1)
abbrev Rg.CVU_CTXk_CFG (k : Nat) : Nat := 0x0C0000 + 64 * k
abbrev Rg.CVU_CTXk_POLY_LO (k : Nat) : Nat := 0x0C0004 + 64 * k
abbrev Rg.CVU_CTXk_POLY_HI (k : Nat) : Nat := 0x0C0008 + 64 * k
abbrev Rg.CVU_CTXk_INIT_LO (k : Nat) : Nat := 0x0C000C + 64 * k
abbrev Rg.CVU_CTXk_INIT_HI (k : Nat) : Nat := 0x0C0010 + 64 * k
abbrev Rg.CVU_CTXk_XOROUT_LO (k : Nat) : Nat := 0x0C0014 + 64 * k
abbrev Rg.CVU_CTXk_XOROUT_HI (k : Nat) : Nat := 0x0C0018 + 64 * k
abbrev Rg.CVU_CTXk_RESTART (k : Nat) : Nat := 0x0C001C + 64 * k
abbrev Rg.CVU_CTXk_VALUE_LO (k : Nat) : Nat := 0x0C0020 + 64 * k
abbrev Rg.CVU_CTXk_VALUE_HI (k : Nat) : Nat := 0x0C0024 + 64 * k
abbrev Rg.CVU_CTXk_RESULT_LO (k : Nat) : Nat := 0x0C0028 + 64 * k
abbrev Rg.CVU_CTXk_RESULT_HI (k : Nat) : Nat := 0x0C002C + 64 * k
abbrev Rg.CVU_CTXk_FEED8 (k : Nat) : Nat := 0x0C0030 + 64 * k
abbrev Rg.CVU_CTXk_FEED16 (k : Nat) : Nat := 0x0C0034 + 64 * k
abbrev Rg.CVU_CTXk_FEED32 (k : Nat) : Nat := 0x0C0038 + 64 * k
-- MER (MER-5)
abbrev Rg.MER_STATUS : Nat := 0x050000
abbrev Rg.MER_CFG : Nat := 0x050004
abbrev Rg.MER_SERVO : Nat := 0x050008
abbrev Rg.MER_LOCK : Nat := 0x05000C
abbrev Rg.MER_XCHK_CFG : Nat := 0x050010
abbrev Rg.MER_XCHK_STAT : Nat := 0x050014
abbrev Rg.MER_ADJ_SEC : Nat := 0x050018
abbrev Rg.MER_ADJ_NS : Nat := 0x05001C
abbrev Rg.MER_ADJ_CTRL : Nat := 0x050020
abbrev Rg.MER_WT_NS : Nat := 0x050030
abbrev Rg.MER_WT_SEC_LO : Nat := 0x050034
abbrev Rg.MER_WT_SEC_HI : Nat := 0x050038
abbrev Rg.MER_WT_FRAC : Nat := 0x05003C
abbrev Rg.MER_Dd_STATUS (d : Nat) : Nat := 0x050040 + 32 * d
abbrev Rg.MER_Dd_OFFSET (d : Nat) : Nat := 0x050044 + 32 * d
abbrev Rg.MER_Dd_RATE (d : Nat) : Nat := 0x050048 + 32 * d
abbrev Rg.MER_Dd_GM_LO (d : Nat) : Nat := 0x05004C + 32 * d
abbrev Rg.MER_Dd_GM_HI (d : Nat) : Nat := 0x050050 + 32 * d
abbrev Rg.MER_Dd_STEPS (d : Nat) : Nat := 0x050054 + 32 * d
abbrev Rg.MER_Dd_STEP_REQ (d : Nat) : Nat := 0x050058 + 32 * d
abbrev Rg.MER_UTC : Nat := 0x050080
abbrev Rg.MER_CLASS : Nat := 0x050084
abbrev Rg.MER_HOLDOVER : Nat := 0x050088
abbrev Rg.MER_PORTp_ASYM (p : Nat) : Nat := 0x0500A0 + 4 * p
abbrev Rg.MER_PORTp_DELAY (p : Nat) : Nat := 0x0500C0 + 4 * p
abbrev Rg.MER_CMPu_CTRL (u : Nat) : Nat := 0x050100 + 16 * u
abbrev Rg.MER_CMPu_SEC (u : Nat) : Nat := 0x050104 + 16 * u
abbrev Rg.MER_CMPu_NS (u : Nat) : Nat := 0x050108 + 16 * u
abbrev Rg.MER_CMPu_PERIOD (u : Nat) : Nat := 0x05010C + 16 * u
abbrev Rg.MER_CMPu_STAT (u : Nat) : Nat := 0x050200 + 4 * u
abbrev Rg.MER_TCAPk_CFG (k : Nat) : Nat := 0x050300 + 16 * k
abbrev Rg.MER_TCAPk_SEC (k : Nat) : Nat := 0x050304 + 16 * k
abbrev Rg.MER_TCAPk_NS (k : Nat) : Nat := 0x050308 + 16 * k
abbrev Rg.MER_TCAPk_CNT (k : Nat) : Nat := 0x05030C + 16 * k
abbrev Rg.MER_GNSS_CFG : Nat := 0x050340
abbrev Rg.MER_GNSS_STAT : Nat := 0x050344
abbrev Rg.MER_GNSS_OFFSET : Nat := 0x050348
abbrev Rg.MER_PPSOUT_CFG : Nat := 0x050350
abbrev Rg.MER_PTP_CFG : Nat := 0x050360
-- CAR (CAR-11)
abbrev Rg.CAR_STATUS : Nat := 0x060000
abbrev Rg.CAR_CFG : Nat := 0x060004
abbrev Rg.CAR_ETYPE : Nat := 0x060008
abbrev Rg.CAR_DA_LO : Nat := 0x06000C
abbrev Rg.CAR_DA_HI : Nat := 0x060010
abbrev Rg.CAR_GUARD : Nat := 0x060014
abbrev Rg.CAR_CYCLE_LO : Nat := 0x060020
abbrev Rg.CAR_CYCLE_HI : Nat := 0x060024
abbrev Rg.CAR_SHEET : Nat := 0x060028
abbrev Rg.CAR_SHEET_CTRL : Nat := 0x06002C
abbrev Rg.CAR_CAB : Nat := 0x060030
abbrev Rg.CAR_DROP_GUARD : Nat := 0x060040
abbrev Rg.CAR_DROP_TOPO : Nat := 0x060044
abbrev Rg.CAR_DROP_FCS : Nat := 0x060048
abbrev Rg.CAR_DUP : Nat := 0x06004C
abbrev Rg.CAR_LG_CNT : Nat := 0x060050
abbrev Rg.CAR_UNSCHED_DROP : Nat := 0x060054
abbrev Rg.CAR_SYNC_ERR : Nat := 0x060058
abbrev Rg.CAR_PATH_X : Nat := 0x06005C
abbrev Rg.CAR_PATH_Y : Nat := 0x060060
abbrev Rg.CAR_PORTp_STAT (p : Nat) : Nat := 0x060080 + 4 * p
abbrev Rg.CAR_SHEETs_CFG (s : Nat) : Nat := 0x060100 + 16 * s
abbrev Rg.CAR_SHEETs_RANGE (s : Nat) : Nat := 0x060104 + 16 * s
abbrev Rg.CAR_SHEETs_SPAN (s : Nat) : Nat := 0x060108 + 16 * s
abbrev Rg.CAR_SHEETs_SIG (s : Nat) : Nat := 0x06010C + 16 * s
abbrev Rg.CAR_ATLAS_IDX : Nat := 0x060200
abbrev Rg.CAR_ATLAS_W0 : Nat := 0x060204
abbrev Rg.CAR_ATLAS_W1 : Nat := 0x060208
abbrev Rg.CAR_ATLAS_W2 : Nat := 0x06020C
abbrev Rg.CAR_BUFb_CFG (b : Nat) : Nat := 0x060400 + 8 * b
abbrev Rg.CAR_BUFb_ADDR (b : Nat) : Nat := 0x060404 + 8 * b
abbrev Rg.CAR_BUFb_STAT (b : Nat) : Nat := 0x060C00 + 4 * b
abbrev Rg.CAR_COMMIT : Nat := 0x061000
-- INA (INA-7)
abbrev Rg.INA_STATUS : Nat := 0x070000
abbrev Rg.INA_CFG : Nat := 0x070004
abbrev Rg.INA_TOPO : Nat := 0x070008
abbrev Rg.INA_RESULT : Nat := 0x07000C
abbrev Rg.INA_LAST_POS : Nat := 0x070010
abbrev Rg.INA_REF_EUI_LO : Nat := 0x070014
abbrev Rg.INA_REF_EUI_HI : Nat := 0x070018
abbrev Rg.INA_CAB_EUI_LO : Nat := 0x07001C
abbrev Rg.INA_CAB_EUI_HI : Nat := 0x070020
abbrev Rg.INA_ROUNDS : Nat := 0x070024
abbrev Rg.INA_MERGES : Nat := 0x070028
abbrev Rg.INA_PORTp_STAT (p : Nat) : Nat := 0x070040 + 4 * p
abbrev Rg.INA_COMPn (n : Nat) : Nat := 0x070100 + 4 * n
abbrev Rg.INA_CTRL : Nat := 0x070200
-- ECN (ECN-2)
abbrev Rg.ECN_STATUS : Nat := 0x080000
abbrev Rg.ECN_CFG : Nat := 0x080004
abbrev Rg.ECN_AGE : Nat := 0x080008
abbrev Rg.ECN_VITAL_IP : Nat := 0x08000C
abbrev Rg.ECN_MAC_LO : Nat := 0x080010
abbrev Rg.ECN_MAC_HI : Nat := 0x080014
abbrev Rg.ECN_PORTp_CFG (p : Nat) : Nat := 0x080020 + 4 * p
abbrev Rg.ECN_PORTp_STAT (p : Nat) : Nat := 0x080030 + 4 * p
abbrev Rg.ECN_PORTp_RX (p : Nat) : Nat := 0x080040 + 8 * p
abbrev Rg.ECN_PORTp_DROP (p : Nat) : Nat := 0x080044 + 8 * p
abbrev Rg.ECN_MAC_MOVES : Nat := 0x080070
abbrev Rg.ECN_LEARN_FAIL : Nat := 0x080074
abbrev Rg.ECN_HANDOVER_DROP : Nat := 0x080078
abbrev Rg.ECN_VLANv (v : Nat) : Nat := 0x080100 + 4 * v
abbrev Rg.ECN_STATIC_IDX : Nat := 0x080200
abbrev Rg.ECN_STATIC_MAC_LO : Nat := 0x080204
abbrev Rg.ECN_STATIC_MAC_HI : Nat := 0x080208
abbrev Rg.ECN_STATIC_PORT : Nat := 0x08020C
abbrev Rg.ECN_PTP_STAT : Nat := 0x080300
abbrev Rg.ECN_AUX_RX_BASE_LO : Nat := 0x080400
abbrev Rg.ECN_AUX_RX_BASE_HI : Nat := 0x080404
abbrev Rg.ECN_AUX_TX_BASE_LO : Nat := 0x080408
abbrev Rg.ECN_AUX_TX_BASE_HI : Nat := 0x08040C
abbrev Rg.ECN_AUX_KICK : Nat := 0x080410
-- CAN (CAN-6)
abbrev Rg.CAN_STATUS (k : Nat) : Nat := 0x090000 + 16384 * k
abbrev Rg.CAN_CTRL (k : Nat) : Nat := 0x090004 + 16384 * k
abbrev Rg.CAN_CFG (k : Nat) : Nat := 0x090008 + 16384 * k
abbrev Rg.CAN_NBT (k : Nat) : Nat := 0x09000C + 16384 * k
abbrev Rg.CAN_DBT (k : Nat) : Nat := 0x090010 + 16384 * k
abbrev Rg.CAN_TDC (k : Nat) : Nat := 0x090014 + 16384 * k
abbrev Rg.CAN_ERR (k : Nat) : Nat := 0x090018 + 16384 * k
abbrev Rg.CAN_ERRCNT (k : Nat) : Nat := 0x09001C + 16384 * k
abbrev Rg.CAN_RXDISC (k : Nat) : Nat := 0x090020 + 16384 * k
abbrev Rg.CAN_STAGE_LOST (k : Nat) : Nat := 0x090024 + 16384 * k
abbrev Rg.CAN_QqCFG (k q : Nat) : Nat := 0x090030 + 16384 * k + 8 * q
abbrev Rg.CAN_QqADDR (k q : Nat) : Nat := 0x090034 + 16384 * k + 8 * q
abbrev Rg.CAN_QqACK (k q : Nat) : Nat := 0x090040 + 16384 * k + 4 * q
abbrev Rg.CAN_QqSTAT (k q : Nat) : Nat := 0x090048 + 16384 * k + 4 * q
abbrev Rg.CAN_TXREQ (k : Nat) : Nat := 0x090060 + 16384 * k
abbrev Rg.CAN_TXCANCEL (k : Nat) : Nat := 0x090064 + 16384 * k
abbrev Rg.CAN_TXPEND (k : Nat) : Nat := 0x090068 + 16384 * k
abbrev Rg.CAN_MBmCFG (k m : Nat) : Nat := 0x090100 + 16384 * k + 8 * m
abbrev Rg.CAN_MBmADDR (k m : Nat) : Nat := 0x090104 + 16384 * k + 8 * m
abbrev Rg.CAN_MBmSTAT (k m : Nat) : Nat := 0x090200 + 16384 * k + 4 * m
abbrev Rg.CAN_FLTiID (k i : Nat) : Nat := 0x090400 + 16384 * k + 8 * i
abbrev Rg.CAN_FLTiMASK (k i : Nat) : Nat := 0x090404 + 16384 * k + 8 * i
abbrev Rg.CAN_FLTiCTRL (k i : Nat) : Nat := 0x090600 + 16384 * k + 4 * i
-- FIO (FIO-5)
abbrev Rg.FIO_STATUS : Nat := 0x0A0000
abbrev Rg.FIO_CFG : Nat := 0x0A0004
abbrev Rg.FIO_OPT : Nat := 0x0A0008
abbrev Rg.FIO_GSS : Nat := 0x0A000C
abbrev Rg.FIO_IMG : Nat := 0x0A0010
abbrev Rg.FIO_SOE_CFG : Nat := 0x0A0014
abbrev Rg.FIO_SOE_ADDR : Nat := 0x0A0018
abbrev Rg.FIO_SOE_ACK : Nat := 0x0A001C
abbrev Rg.FIO_SOE_STAT : Nat := 0x0A0020
abbrev Rg.FIO_CLEAR : Nat := 0x0A0024
/-- The table gives groups 4 and 5 the addresses of FIO_CMD0 and FIO_CMD1; their status is held outside the map (log 24). -/
abbrev Rg.FIO_GRPg_STAT (g : Nat) : Nat := if g < 4 then 0x0A0030 + 4 * g else 0x0A8030 + 4 * g
abbrev Rg.FIO_CMDw (w : Nat) : Nat := 0x0A0040 + 4 * w
abbrev Rg.FIO_CHi_CFG (i : Nat) : Nat := 0x0A0100 + 16 * i
abbrev Rg.FIO_CHi_RAW (i : Nat) : Nat := 0x0A0104 + 16 * i
abbrev Rg.FIO_CHi_DIAG (i : Nat) : Nat := 0x0A0108 + 16 * i
abbrev Rg.FIO_CHi_CNT (i : Nat) : Nat := 0x0A010C + 16 * i
-- BRG (BRG-5)
abbrev Rg.BRG_STATUS : Nat := 0x100000
abbrev Rg.BRG_CFG : Nat := 0x100004
abbrev Rg.BRG_VID : Nat := 0x100008
abbrev Rg.BRG_REC : Nat := 0x10000C
abbrev Rg.BRG_XFER : Nat := 0x100010
abbrev Rg.BRG_INB_BASE_LO : Nat := 0x100014
abbrev Rg.BRG_INB_BASE_HI : Nat := 0x100018
abbrev Rg.BRG_INB_EN : Nat := 0x10001C
abbrev Rg.BRG_LINKp_STAT (p : Nat) : Nat := 0x100020 + 4 * p
abbrev Rg.BRG_PWLOG_IDX : Nat := 0x100040
abbrev Rg.BRG_PWLOG_ADDR_LO : Nat := 0x100044
abbrev Rg.BRG_PWLOG_ADDR_HI : Nat := 0x100048
abbrev Rg.BRG_PWLOG_INFO : Nat := 0x10004C
abbrev Rg.BRG_PWLOG_CLR : Nat := 0x100050
abbrev Rg.BRG_PWLOG_LOST : Nat := 0x100054
abbrev Rg.BRG_UR_CNT : Nat := 0x100058
abbrev Rg.BRG_CPL_TO_CNT : Nat := 0x10005C
abbrev Rg.BRG_CFGACC_ADDR : Nat := 0x100060
abbrev Rg.BRG_CFGACC_DATA : Nat := 0x100064
abbrev Rg.BRG_CFGACC_STAT : Nat := 0x100068
abbrev Rg.BRG_REGr_CFG (r : Nat) : Nat := 0x100100 + 16 * r
abbrev Rg.BRG_REGr_XLAT_LO (r : Nat) : Nat := 0x100104 + 16 * r
abbrev Rg.BRG_REGr_XLAT_HI (r : Nat) : Nat := 0x100108 + 16 * r
abbrev Rg.BRG_REGr_BUDGET (r : Nat) : Nat := 0x10010C + 16 * r
-- PRT (PRT-5)
abbrev Rg.PRT_STATUS : Nat := 0x110000
abbrev Rg.PRT_CFG : Nat := 0x110004
abbrev Rg.PRT_WAIT : Nat := 0x110008
abbrev Rg.PRT_REC : Nat := 0x11000C
abbrev Rg.PRT_PARTNER_EUI_LO : Nat := 0x110010
abbrev Rg.PRT_PARTNER_EUI_HI : Nat := 0x110014
abbrev Rg.PRT_HB_MISS : Nat := 0x110018
abbrev Rg.PRT_SWITCHOVERS : Nat := 0x11001C
abbrev Rg.PRT_DUAL_MAX : Nat := 0x110020
abbrev Rg.PRT_BACKLOG : Nat := 0x110024
abbrev Rg.PRT_SYNC_CNT : Nat := 0x110028
abbrev Rg.PRT_CTRL : Nat := 0x11002C
-- PWR (PWR-10)
abbrev Rg.PWR_STATUS : Nat := 0x0E0000
abbrev Rg.PWR_REQ : Nat := 0x0E0004
abbrev Rg.PWR_CFG : Nat := 0x0E0008
abbrev Rg.PWR_WAKE_EN : Nat := 0x0E000C
abbrev Rg.PWR_WAKE_CFG : Nat := 0x0E0010
abbrev Rg.PWR_WAKE_ID : Nat := 0x0E0014
abbrev Rg.PWR_WAKE_CAUSE : Nat := 0x0E0018
abbrev Rg.PWR_WAKE_TX : Nat := 0x0E001C
abbrev Rg.PWR_REFUSE_CNT : Nat := 0x0E0020
abbrev Rg.PWR_LAST_REFUSER : Nat := 0x0E0024
abbrev Rg.PWR_REC : Nat := 0x0E0028
abbrev Rg.PWR_RES_CLR : Nat := 0x0E002C
abbrev Rg.PWR_HISTh (h : Nat) : Nat := 0x0E0040 + 4 * h
abbrev Rg.PWR_RESs_LO (s : Nat) : Nat := 0x0E0080 + 8 * s
abbrev Rg.PWR_RESs_HI (s : Nat) : Nat := 0x0E0084 + 8 * s
abbrev Rg.PWR_WDTk_c (k c : Nat) : Nat := 0x0E0100 + 16 * k + 4 * c
abbrev Rg.PWR_WDT_MM : Nat := 0x0E0200
-- SYS (SYS-9)
abbrev Rg.SYS_ID : Nat := 0x000000
abbrev Rg.SYS_SERIAL_LO : Nat := 0x000004
abbrev Rg.SYS_SERIAL_HI : Nat := 0x000008
abbrev Rg.SYS_STATUS : Nat := 0x00000C
abbrev Rg.SYS_EUI_LO : Nat := 0x000010
abbrev Rg.SYS_EUI_HI : Nat := 0x000014
abbrev Rg.SYS_MAC_LO : Nat := 0x000018
abbrev Rg.SYS_MAC_HI : Nat := 0x00001C
abbrev Rg.SYS_LANE : Nat := 0x000020
abbrev Rg.SYS_RESET_CAUSE : Nat := 0x000024
abbrev Rg.SYS_BOOT : Nat := 0x000028
abbrev Rg.SYS_BOOT_CFG : Nat := 0x00002C
abbrev Rg.SYS_CMD : Nat := 0x000030
abbrev Rg.SYS_BUILDt_LO (t : Nat) : Nat := 0x000040 + 8 * t
abbrev Rg.SYS_BUILDt_HI (t : Nat) : Nat := 0x000044 + 8 * t
abbrev Rg.SYS_SUPPLY : Nat := 0x000080
-- MBX (MBX-3)
abbrev Rg.MBX_STATUS : Nat := 0x120000
abbrev Rg.MBX_VSET : Nat := 0x120004
abbrev Rg.MBX_VMEAS : Nat := 0x120008
abbrev Rg.MBX_EVQ_LOST : Nat := 0x12000C
abbrev Rg.MBX_REC : Nat := 0x120010
abbrev Rg.MBX_AUXOUTi (i : Nat) : Nat := 0x120100 + 4 * i
abbrev Rg.MBX_AUXOUT_CTRL : Nat := 0x120200
abbrev Rg.MBX_AUX_STAT : Nat := 0x120204
abbrev Rg.MBX_AUXINi (i : Nat) : Nat := 0x120300 + 4 * i
abbrev Rg.MBX_AUXIN_ACK : Nat := 0x120400
-- EVR (EVR-3)
abbrev Rg.EVR_STATUS : Nat := 0x0F0000
abbrev Rg.EVR_NEWEST_LO : Nat := 0x0F0004
abbrev Rg.EVR_NEWEST_HI : Nat := 0x0F0008
abbrev Rg.EVR_CTRL : Nat := 0x0F000C
abbrev Rg.EVR_HOLD : Nat := 0x0F0010
abbrev Rg.EVR_RD_IDX_LO : Nat := 0x0F0014
abbrev Rg.EVR_RD_IDX_HI : Nat := 0x0F0018
abbrev Rg.EVR_RD_AREA : Nat := 0x0F001C
abbrev Rg.EVR_RD_STAT : Nat := 0x0F0020
abbrev Rg.EVR_RD_DATAk (k : Nat) : Nat := 0x0F0040 + 4 * k
abbrev Rg.EVR_SUPP_CNT : Nat := 0x0F0080
abbrev Rg.EVR_RATE_IDX : Nat := 0x0F0090
abbrev Rg.EVR_RATE_VAL : Nat := 0x0F0094
-- UPD (UPD-6)
abbrev Rg.UPD_STATUS : Nat := 0x130000
abbrev Rg.UPD_CFG : Nat := 0x130004
abbrev Rg.UPD_PRECONDk (k : Nat) : Nat := 0x130010 + 4 * k
/-- The table gives types 4 and 5 addresses it also gives UPD_ORDER_LO to UPD_CNT; their slot registers are held outside the map (log 24). -/
abbrev Rg.UPD_SLOTt_STAT (t : Nat) : Nat := if t < 4 then 0x130040 + 16 * t else 0x138040 + 16 * t
abbrev Rg.UPD_SLOTt_TAG_LO (t : Nat) : Nat := if t < 4 then 0x130044 + 16 * t else 0x138044 + 16 * t
abbrev Rg.UPD_SLOTt_TAG_HI (t : Nat) : Nat := if t < 4 then 0x130048 + 16 * t else 0x138048 + 16 * t
abbrev Rg.UPD_ORDER_LO : Nat := 0x130080
abbrev Rg.UPD_ORDER_HI : Nat := 0x130084
abbrev Rg.UPD_ORDER_STAT : Nat := 0x130088
abbrev Rg.UPD_READY_LO : Nat := 0x130090
abbrev Rg.UPD_READY_HI : Nat := 0x130094
abbrev Rg.UPD_CNT : Nat := 0x130098
abbrev Rg.UPD_VERIFY_FAIL : Nat := 0x13009C
-- PMC (PMC-3)
abbrev Rg.PMC_CTRLc (c : Nat) : Nat := 0x0D0000 + 4096 * c
abbrev Rg.PMC_OVFc (c : Nat) : Nat := 0x0D0004 + 4096 * c
abbrev Rg.PMC_FILTc (c : Nat) : Nat := 0x0D0008 + 4096 * c
abbrev Rg.PMC_SCFGc (c : Nat) : Nat := 0x0D000C + 4096 * c
abbrev Rg.PMC_SEEDc (c : Nat) : Nat := 0x0D0010 + 4096 * c
abbrev Rg.PMC_SSTATc (c : Nat) : Nat := 0x0D0014 + 4096 * c
abbrev Rg.PMC_SSKIPc (c : Nat) : Nat := 0x0D0018 + 4096 * c
abbrev Rg.PMC_SCTRLc (c : Nat) : Nat := 0x0D001C + 4096 * c
abbrev Rg.PMC_EVTc_n (c n : Nat) : Nat := 0x0D0100 + 4096 * c + 16 * n
abbrev Rg.PMC_CNTc_n_LO (c n : Nat) : Nat := 0x0D0104 + 4096 * c + 16 * n
abbrev Rg.PMC_CNTc_n_HI (c n : Nat) : Nat := 0x0D0108 + 4096 * c + 16 * n

/-- The access kinds of the register tables (00 R7, R8). -/
inductive AccKind where
  | ro | rw | rws | wo | rc | w1c
deriving DecidableEq, Repr

/-- One row of a register table: name, first offset, strides and counts (outermost first), access kind, who may read and write it, its defined bits and whether it is timing-dependent. -/
structure RegRow where
  name : String
  base : Nat
  dims : List (Nat × Nat)
  acc : AccKind
  readers : List Agent
  writers : List Agent
  mask : Nat
  wmask : Nat
  timing : Bool
deriving Repr

/-- Whether offset `d` within an array of registers falls on one of them. -/
def onDims : List (Nat × Nat) → Nat → Bool
  | [], d => d == 0
  | (st, n) :: ds, d => d / st < n && onDims ds (d % st)

/-- Whether address `a` is a register of the row. -/
def RegRow.covers (r : RegRow) (a : Nat) : Bool := r.base ≤ a && onDims r.dims (a - r.base)

/-- The CYC registers (CYC-6). -/
def regRowsCyc : List RegRow := [
  ⟨"CYC_BASE", 0x030000, [], .rws, [.v, .m, .d], [.v, .m, .d], 0xFFFFF, 0xFFFFF, false⟩,
  ⟨"CYC_BUDGET", 0x030004, [], .rws, [.v, .m, .d], [.v, .m, .d], 0xFFFFFFFF, 0xFFFFFFFF, false⟩,
  ⟨"CYC_AGREE", 0x030008, [], .rws, [.v, .m, .d], [.v, .m, .d], 0x7F, 0x7F, false⟩,
  ⟨"CYC_OVR", 0x03000C, [], .rws, [.v, .m, .d], [.v, .m, .d], 0x1F0F, 0x1F0F, false⟩,
  ⟨"CYC_STATUS", 0x030010, [], .ro, [.x, .m, .d], [.x, .m, .d], 0xF737, 0xF737, true⟩,
  ⟨"CYC_CYCLE_LO", 0x030014, [], .ro, [.x, .m, .d], [.x, .m, .d], 0xFFFFFFFF, 0xFFFFFFFF, true⟩,
  ⟨"CYC_CYCLE_HI", 0x030018, [], .ro, [.x, .m, .d], [.x, .m, .d], 0xFFFFFFFF, 0xFFFFFFFF, true⟩,
  ⟨"CYC_SLACK", 0x030020, [], .ro, [.x, .m, .d], [.x, .m, .d], 0x3FF03FF, 0x3FF03FF, true⟩,
  ⟨"CYC_SLACK_MIN", 0x030024, [], .rc, [.x, .m, .d], [.x, .m, .d], 0x3FF, 0x3FF, true⟩,
  ⟨"CYC_ABANDON_CNT", 0x030028, [], .rc, [.x, .m, .d], [.x, .m, .d], 0xFFFFFFFF, 0xFFFFFFFF, true⟩,
  ⟨"CYC_OVR_CNT", 0x03002C, [], .rc, [.x, .m, .d], [.x, .m, .d], 0xFFFFFFFF, 0xFFFFFFFF, true⟩,
  ⟨"CYC_AGREE_BITS", 0x030030, [], .rc, [.x, .m, .d], [.x, .m, .d], 0xFFFFFFFF, 0xFFFFFFFF, true⟩,
  ⟨"CYC_AGREE_ITEMS", 0x030034, [], .rc, [.x, .m, .d], [.x, .m, .d], 0xFFFFFFFF, 0xFFFFFFFF, true⟩,
  ⟨"CYC_TASKt_CFG", 0x030100, [(16, 16)], .rws, [.v, .m, .d], [.v, .m, .d], 0xFFFFFFF3, 0xFFFFFFF3, false⟩,
  ⟨"CYC_TASKt_ENTRY", 0x030104, [(16, 16)], .rws, [.v, .m, .d], [.v, .m, .d], 0xFFFFFFFC, 0xFFFFFFFC, false⟩,
  ⟨"CYC_TASKt_STAT", 0x030108, [(16, 16)], .rc, [.x, .m, .d], [.x, .m, .d], 0x3FFFFFF, 0x3FFFFFF, true⟩,
  ⟨"CYC_TASKt_RESP", 0x03010C, [(16, 16)], .rc, [.x, .m, .d], [.x, .m, .d], 0xFFFFFF, 0xFFFFFF, true⟩,
  ⟨"CYC_CPp", 0x030200, [(4, 32)], .rws, [.v, .m, .d], [.v, .m, .d], 0xFFFF01FF, 0xFFFF01FF, false⟩,
  ⟨"CYC_STNs_CFG", 0x031000, [(8, 256)], .rws, [.v, .m, .d], [.v, .m, .d], 0x80F3FFFF, 0x80F3FFFF, false⟩,
  ⟨"CYC_STNs_STAT", 0x031004, [(8, 256)], .ro, [.x, .m, .d], [.x, .m, .d], 0xFFFF0001, 0xFFFF0001, true⟩]

/-- The MEM registers (MEM-7). -/
def regRowsMem : List RegRow := [
  ⟨"MEM_STATUS", 0x040000, [], .ro, [.x, .m, .d], [.x, .m, .d], 0xF, 0xF, false⟩,
  ⟨"MEM_SCRUB_CFG", 0x040004, [], .rws, [.m, .d], [.m, .d], 0xFF03FF, 0xFF03FF, false⟩,
  ⟨"MEM_SCRUB_POS_SRAM", 0x040008, [], .ro, [.x, .m, .d], [.x, .m, .d], 0x1FFFFF, 0x1FFFFF, true⟩,
  ⟨"MEM_SCRUB_POS_DRAM", 0x04000C, [], .ro, [.x, .m, .d], [.x, .m, .d], 0x7FFFFFF, 0x7FFFFFF, true⟩,
  ⟨"MEM_SCRUB_PASSES", 0x040010, [], .ro, [.x, .m, .d], [.x, .m, .d], 0xFFFFFFFF, 0xFFFFFFFF, false⟩,
  ⟨"MEM_CE_SRAM", 0x040020, [], .rc, [.x, .m, .d], [.x, .m, .d], 0xFFFFFFFF, 0xFFFFFFFF, false⟩,
  ⟨"MEM_CE_DRAM", 0x040024, [], .rc, [.x, .m, .d], [.x, .m, .d], 0xFFFFFFFF, 0xFFFFFFFF, false⟩,
  ⟨"MEM_UE_CNT", 0x040028, [], .rc, [.x, .m, .d], [.x, .m, .d], 0xFFFFFFFF, 0xFFFFFFFF, false⟩,
  ⟨"MEM_STUCK_CNT", 0x04002C, [], .ro, [.x, .m, .d], [.x, .m, .d], 0xFFFFFFFF, 0xFFFFFFFF, false⟩,
  ⟨"MEM_CE_ADDR_LO", 0x040030, [], .ro, [.x, .m, .d], [.x, .m, .d], 0xFFFFFFFF, 0xFFFFFFFF, false⟩,
  ⟨"MEM_CE_ADDR_HI", 0x040034, [], .ro, [.x, .m, .d], [.x, .m, .d], 0x1FFFF, 0x1FFFF, false⟩,
  ⟨"MEM_UE_ADDR_LO", 0x040038, [], .ro, [.x, .m, .d], [.x, .m, .d], 0xFFFFFFFF, 0xFFFFFFFF, false⟩,
  ⟨"MEM_UE_ADDR_HI", 0x04003C, [], .ro, [.x, .m, .d], [.x, .m, .d], 0x1FFFF, 0x1FFFF, false⟩,
  ⟨"MEM_POISON_CNT", 0x040040, [], .ro, [.x, .m, .d], [.x, .m, .d], 0xFFFFFFFF, 0xFFFFFFFF, false⟩,
  ⟨"MEM_DEVCE_k", 0x040080, [(4, 19)], .rc, [.x, .m, .d], [.x, .m, .d], 0xFFFFFFFF, 0xFFFFFFFF, false⟩,
  ⟨"MEM_VDR_BASE_LO", 0x040100, [], .ro, [.v, .x, .m, .d], [.v, .x, .m, .d], 0xFFFFF000, 0xFFFFF000, false⟩,
  ⟨"MEM_VDR_BASE_HI", 0x040104, [], .ro, [.v, .x, .m, .d], [.v, .x, .m, .d], 0xFF, 0xFF, false⟩,
  ⟨"MEM_VDR_LEN", 0x040108, [], .ro, [.v, .x, .m, .d], [.v, .x, .m, .d], 0x7FFFFFF, 0x7FFFFFF, false⟩,
  ⟨"MEM_ECC_INJ_ADDR_LO", 0x040200, [], .rws, [.m, .d], [.m, .d], 0xFFFFFFFF, 0xFFFFFFFF, false⟩,
  ⟨"MEM_ECC_INJ_ADDR_HI", 0x040204, [], .rws, [.m, .d], [.m, .d], 0xFF, 0xFF, false⟩,
  ⟨"MEM_ECC_INJ", 0x040208, [], .rws, [.m, .d], [.m, .d], 0x81FF1F1F, 0x81FF1F1F, false⟩]

/-- The TRP registers (TRP-5). -/
def regRowsTrp : List RegRow := [
  ⟨"TRP_STATUS", 0x010000, [], .ro, [.x, .m, .d], [.x, .m, .d], 0x3FF3, 0x3FF3, false⟩,
  ⟨"TRP_MODE", 0x010004, [], .ro, [.v, .x, .m, .d], [.v, .x, .m, .d], 0x3, 0x3, false⟩,
  ⟨"TRP_MM_GROUP", 0x010008, [], .ro, [.x, .m, .d], [.x, .m, .d], 0x7F, 0x7F, false⟩,
  ⟨"TRP_MM_ADDR_LO", 0x01000C, [], .ro, [.x, .m, .d], [.x, .m, .d], 0xFFFFFFFF, 0xFFFFFFFF, false⟩,
  ⟨"TRP_MM_ADDR_HI", 0x010010, [], .ro, [.x, .m, .d], [.x, .m, .d], 0xFF, 0xFF, false⟩,
  ⟨"TRP_MM_CORE0", 0x010014, [], .ro, [.x, .m, .d], [.x, .m, .d], 0xFFFFFFFF, 0xFFFFFFFF, false⟩,
  ⟨"TRP_MM_CORE1", 0x010018, [], .ro, [.x, .m, .d], [.x, .m, .d], 0xFFFFFFFF, 0xFFFFFFFF, false⟩,
  ⟨"TRP_TEST_CNT", 0x010020, [], .ro, [.x, .m, .d], [.x, .m, .d], 0xFFFFFFFF, 0xFFFFFFFF, false⟩,
  ⟨"TRP_TEST_FAIL", 0x010024, [], .ro, [.x, .m, .d], [.x, .m, .d], 0x13F, 0x13F, false⟩,
  ⟨"TRP_DBG_CTRL", 0x010030, [], .wo, [.m, .d], [.m, .d], 0x7F, 0x7F, false⟩,
  ⟨"TRP_DBG_STATUS", 0x010034, [], .ro, [.m, .d], [.m, .d], 0xF7, 0xF7, false⟩,
  ⟨"TRP_AUX_BANKS", 0x010040, [], .ro, [.x, .m, .d], [.x, .m, .d], 0x7FFE, 0x7FFE, false⟩,
  ⟨"TRP_AUX_WIN_BASE_LO", 0x010044, [], .ro, [.x, .m, .d], [.x, .m, .d], 0xFFF00000, 0xFFF00000, false⟩,
  ⟨"TRP_AUX_WIN_BASE_HI", 0x010048, [], .ro, [.x, .m, .d], [.x, .m, .d], 0xFF, 0xFF, false⟩,
  ⟨"TRP_AUX_WIN_LEN", 0x01004C, [], .ro, [.x, .m, .d], [.x, .m, .d], 0x1FFF, 0x1FFF, false⟩,
  ⟨"TRP_FW_VIOL", 0x010050, [], .rc, [.x, .m, .d], [.x, .m, .d], 0xFFFFFFFF, 0xFFFFFFFF, false⟩,
  ⟨"TRP_FW_VIOL_ADDR_LO", 0x010054, [], .ro, [.x, .m, .d], [.x, .m, .d], 0xFFFFFFFF, 0xFFFFFFFF, false⟩,
  ⟨"TRP_FW_VIOL_ADDR_HI", 0x010058, [], .ro, [.x, .m, .d], [.x, .m, .d], 0x3FF, 0x3FF, false⟩,
  ⟨"TRP_AUX_TX_DROP", 0x01005C, [], .rc, [.x, .m, .d], [.x, .m, .d], 0xFFFFFFFF, 0xFFFFFFFF, false⟩,
  ⟨"TRP_AUX_STATUS", 0x010060, [], .ro, [.x, .m, .d], [.x, .m, .d], 0xFF03, 0xFF03, false⟩]

/-- The TRI registers (TRI-10). -/
def regRowsTri : List RegRow := [
  ⟨"TRI_STATUS", 0x020000, [], .ro, [.x, .m, .d], [.x, .m, .d], 0x3777, 0x3777, true⟩,
  ⟨"TRI_CFG", 0x020004, [], .rws, [.m, .d], [.m, .d], 0x3FFF00F1, 0x3FFF00F1, false⟩,
  ⟨"TRI_CATCHUP_WAIT", 0x020008, [], .rws, [.m, .d], [.m, .d], 0xFFFF, 0xFFFF, false⟩,
  ⟨"TRI_SKEWk", 0x020010, [(4, 3)], .rws, [.m, .d], [.m, .d], 0x3FFF, 0x3FFF, false⟩,
  ⟨"TRI_DEGLIMk", 0x020020, [(4, 3)], .rws, [.m, .d], [.m, .d], 0x3FFF, 0x3FFF, false⟩,
  ⟨"TRI_DELAY_MM", 0x020030, [], .rc, [.x, .m, .d], [.x, .m, .d], 0x3FFFFF, 0x3FFFFF, false⟩,
  ⟨"TRI_LANEL_STAT", 0x020040, [(16, 3)], .ro, [.x, .m, .d], [.x, .m, .d], 0xFFFF0F37, 0xFFFF0F37, true⟩,
  ⟨"TRI_LANEL_CNT", 0x020044, [(16, 3)], .rc, [.x, .m, .d], [.x, .m, .d], 0xFFFFFFFF, 0xFFFFFFFF, true⟩,
  ⟨"TRI_LANEL_ABS", 0x020048, [(16, 3)], .rc, [.x, .m, .d], [.x, .m, .d], 0xFFFFFFFF, 0xFFFFFFFF, true⟩,
  ⟨"TRI_LANEL_EXCL", 0x02004C, [(16, 3)], .ro, [.x, .m, .d], [.x, .m, .d], 0xFFFF000F, 0xFFFF000F, false⟩,
  ⟨"TRI_LAST_STREAM", 0x020080, [], .ro, [.x, .m, .d], [.x, .m, .d], 0xFFFFF, 0xFFFFF, false⟩,
  ⟨"TRI_LAST_SEQ", 0x020084, [], .ro, [.x, .m, .d], [.x, .m, .d], 0xFFFFFFFF, 0xFFFFFFFF, false⟩,
  ⟨"TRI_LAST_CYCLE", 0x020088, [], .ro, [.x, .m, .d], [.x, .m, .d], 0xFFFFFFFF, 0xFFFFFFFF, false⟩,
  ⟨"TRI_SKEW_MAX", 0x020090, [], .rc, [.x, .m, .d], [.x, .m, .d], 0xFFFF, 0xFFFF, true⟩,
  ⟨"TRI_DEG_REMAIN", 0x020094, [], .ro, [.x, .m, .d], [.x, .m, .d], 0xFFFFF, 0xFFFFF, true⟩,
  ⟨"TRI_REL_CNT", 0x020098, [], .ro, [.x, .m, .d], [.x, .m, .d], 0xFFFFFFFF, 0xFFFFFFFF, true⟩,
  ⟨"TRI_REINT_STATUS", 0x0200A0, [], .ro, [.x, .m, .d], [.x, .m, .d], 0xFFF7, 0xFFF7, true⟩,
  ⟨"TRI_REINT_DIRTY", 0x0200A4, [], .ro, [.x, .m, .d], [.x, .m, .d], 0x7FFFF, 0x7FFFF, true⟩,
  ⟨"TRI_REINT_KIB", 0x0200A8, [], .ro, [.x, .m, .d], [.x, .m, .d], 0xFFFFFFFF, 0xFFFFFFFF, true⟩,
  ⟨"TRI_REINT_ABORTS", 0x0200AC, [], .rc, [.x, .m, .d], [.x, .m, .d], 0xFFFFFFFF, 0xFFFFFFFF, false⟩,
  ⟨"TRI_REINT_CTRL", 0x0200B0, [], .wo, [.m, .d], [.m, .d], 0x33, 0x33, false⟩,
  ⟨"TRI_SAFE_CAUSE", 0x0200C0, [], .ro, [.x, .m, .d], [.x, .m, .d], 0xF, 0xF, false⟩]

/-- The SAF registers (SAF-8). -/
def regRowsSaf : List RegRow := [
  ⟨"SAF_STATUS", 0x0B0000, [], .ro, [.x, .m, .d], [.x, .m, .d], 0xFFFF01FF, 0xFFFF01FF, true⟩,
  ⟨"SAF_SRC_ID", 0x0B0004, [], .rws, [.v, .m, .d], [.v, .m, .d], 0xFFFFFFFF, 0xFFFFFFFF, false⟩,
  ⟨"SAF_UDP_PORT", 0x0B0008, [], .rws, [.v, .m, .d], [.v, .m, .d], 0xFFFF, 0xFFFF, false⟩,
  ⟨"SAF_SEND", 0x0B0010, [], .wo, [.v], [.v], 0xFF, 0xFF, false⟩,
  ⟨"SAF_DEGTIMEg", 0x0B0020, [(4, 6)], .rws, [.v, .m, .d], [.v, .m, .d], 0x1FFFF, 0x1FFFF, false⟩,
  ⟨"SAF_DEG_STAT", 0x0B0040, [], .ro, [.x, .m, .d], [.x, .m, .d], 0x3F3F, 0x3F3F, true⟩,
  ⟨"SAF_DEG_CLEAR", 0x0B0044, [], .wo, [.m, .d], [.m, .d], 0x17F, 0x17F, false⟩,
  ⟨"SAF_CONNc_CFG", 0x0B1000, [(32, 256)], .rws, [.v, .m, .d], [.v, .m, .d], 0xF7FFF13F, 0xF7FFF13F, false⟩,
  ⟨"SAF_CONNc_PEER", 0x0B1004, [(32, 256)], .rws, [.v, .m, .d], [.v, .m, .d], 0xFFFFFFFF, 0xFFFFFFFF, false⟩,
  ⟨"SAF_CONNc_ID", 0x0B1008, [(32, 256)], .rws, [.v, .m, .d], [.v, .m, .d], 0xFFFFFFFF, 0xFFFFFFFF, false⟩,
  ⟨"SAF_CONNc_BUF", 0x0B100C, [(32, 256)], .rws, [.v, .m, .d], [.v, .m, .d], 0x3FFFFF, 0x3FFFFF, false⟩,
  ⟨"SAF_CONNc_TIME", 0x0B1010, [(32, 256)], .rws, [.v, .m, .d], [.v, .m, .d], 0xFFFFFFFF, 0xFFFFFFFF, false⟩,
  ⟨"SAF_CONNc_KEY", 0x0B1014, [(32, 256)], .wo, [.m, .d], [.m, .d], 0xFFFFFFFF, 0xFFFFFFFF, false⟩,
  ⟨"SAF_CONNc_STAT", 0x0B1018, [(32, 256)], .ro, [.x, .m, .d], [.x, .m, .d], 0xFFFFFF03, 0xFFFFFF03, true⟩,
  ⟨"SAF_CONNc_REJ", 0x0B101C, [(32, 256)], .rc, [.x, .m, .d], [.x, .m, .d], 0xFFFFFFFF, 0xFFFFFFFF, false⟩]

/-- The CVU registers (CVU-1). -/
def regRowsCvu : List RegRow := [
  ⟨"CVU_CTXk_CFG", 0x0C0000, [(64, 8)], .rws, [.v, .x, .m, .d], [.v, .x, .m, .d], 0xF3037F, 0xF3037F, false⟩,
  ⟨"CVU_CTXk_POLY_LO", 0x0C0004, [(64, 8)], .rws, [.v, .x, .m, .d], [.v, .x, .m, .d], 0xFFFFFFFF, 0xFFFFFFFF, false⟩,
  ⟨"CVU_CTXk_POLY_HI", 0x0C0008, [(64, 8)], .rws, [.v, .x, .m, .d], [.v, .x, .m, .d], 0xFFFFFFFF, 0xFFFFFFFF, false⟩,
  ⟨"CVU_CTXk_INIT_LO", 0x0C000C, [(64, 8)], .rws, [.v, .x, .m, .d], [.v, .x, .m, .d], 0xFFFFFFFF, 0xFFFFFFFF, false⟩,
  ⟨"CVU_CTXk_INIT_HI", 0x0C0010, [(64, 8)], .rws, [.v, .x, .m, .d], [.v, .x, .m, .d], 0xFFFFFFFF, 0xFFFFFFFF, false⟩,
  ⟨"CVU_CTXk_XOROUT_LO", 0x0C0014, [(64, 8)], .rws, [.v, .x, .m, .d], [.v, .x, .m, .d], 0xFFFFFFFF, 0xFFFFFFFF, false⟩,
  ⟨"CVU_CTXk_XOROUT_HI", 0x0C0018, [(64, 8)], .rws, [.v, .x, .m, .d], [.v, .x, .m, .d], 0xFFFFFFFF, 0xFFFFFFFF, false⟩,
  ⟨"CVU_CTXk_RESTART", 0x0C001C, [(64, 8)], .wo, [.v, .x, .d], [.v, .x, .d], 0xFFFFFFFF, 0xFFFFFFFF, false⟩,
  ⟨"CVU_CTXk_VALUE_LO", 0x0C0020, [(64, 8)], .rw, [.v, .x, .m, .d], [.v, .x, .d], 0xFFFFFFFF, 0xFFFFFFFF, false⟩,
  ⟨"CVU_CTXk_VALUE_HI", 0x0C0024, [(64, 8)], .rw, [.v, .x, .m, .d], [.v, .x, .d], 0xFFFFFFFF, 0xFFFFFFFF, false⟩,
  ⟨"CVU_CTXk_RESULT_LO", 0x0C0028, [(64, 8)], .ro, [.v, .x, .m, .d], [.v, .x, .m, .d], 0xFFFFFFFF, 0xFFFFFFFF, false⟩,
  ⟨"CVU_CTXk_RESULT_HI", 0x0C002C, [(64, 8)], .ro, [.v, .x, .m, .d], [.v, .x, .m, .d], 0xFFFFFFFF, 0xFFFFFFFF, false⟩,
  ⟨"CVU_CTXk_FEED8", 0x0C0030, [(64, 8)], .wo, [.v, .x, .d], [.v, .x, .d], 0xFF, 0xFF, false⟩,
  ⟨"CVU_CTXk_FEED16", 0x0C0034, [(64, 8)], .wo, [.v, .x, .d], [.v, .x, .d], 0xFFFF, 0xFFFF, false⟩,
  ⟨"CVU_CTXk_FEED32", 0x0C0038, [(64, 8)], .wo, [.v, .x, .d], [.v, .x, .d], 0xFF, 0xFF, false⟩]

/-- The MER registers (MER-5). -/
def regRowsMer : List RegRow := [
  ⟨"MER_STATUS", 0x050000, [], .ro, [.x, .m, .d], [.x, .m, .d], 0xFFFF00FF, 0xFFFF00FF, true⟩,
  ⟨"MER_CFG", 0x050004, [], .rws, [.m, .d], [.m, .d], 0x3, 0x3, false⟩,
  ⟨"MER_SERVO", 0x050008, [], .rws, [.m, .d], [.m, .d], 0xFFFFFFFF, 0xFFFFFFFF, false⟩,
  ⟨"MER_LOCK", 0x05000C, [], .rws, [.m, .d], [.m, .d], 0xFF0FFFFF, 0xFF0FFFFF, false⟩,
  ⟨"MER_XCHK_CFG", 0x050010, [], .rws, [.m, .d], [.m, .d], 0x3FF, 0x3FF, false⟩,
  ⟨"MER_XCHK_STAT", 0x050014, [], .ro, [.x, .m, .d], [.x, .m, .d], 0xFFFFFFFF, 0xFFFFFFFF, true⟩,
  ⟨"MER_ADJ_SEC", 0x050018, [], .wo, [.m], [.m], 0xFFFFFFFF, 0xFFFFFFFF, false⟩,
  ⟨"MER_ADJ_NS", 0x05001C, [], .wo, [.m], [.m], 0xFFFFFFFF, 0xFFFFFFFF, false⟩,
  ⟨"MER_ADJ_CTRL", 0x050020, [], .wo, [.m], [.m], 0x113, 0x113, false⟩,
  ⟨"MER_WT_NS", 0x050030, [], .ro, [.x, .m, .d], [.x, .m, .d], 0x3FFFFFFF, 0x3FFFFFFF, true⟩,
  ⟨"MER_WT_SEC_LO", 0x050034, [], .ro, [.x, .m, .d], [.x, .m, .d], 0xFFFFFFFF, 0xFFFFFFFF, true⟩,
  ⟨"MER_WT_SEC_HI", 0x050038, [], .ro, [.x, .m, .d], [.x, .m, .d], 0xFFFF, 0xFFFF, true⟩,
  ⟨"MER_WT_FRAC", 0x05003C, [], .ro, [.x, .m, .d], [.x, .m, .d], 0xFFFF, 0xFFFF, true⟩,
  ⟨"MER_Dd_STATUS", 0x050040, [(32, 2)], .ro, [.x, .m, .d], [.x, .m, .d], 0x7F7F, 0x7F7F, true⟩,
  ⟨"MER_Dd_OFFSET", 0x050044, [(32, 2)], .ro, [.x, .m, .d], [.x, .m, .d], 0xFFFFFFFF, 0xFFFFFFFF, true⟩,
  ⟨"MER_Dd_RATE", 0x050048, [(32, 2)], .ro, [.x, .m, .d], [.x, .m, .d], 0xFFFFFFFF, 0xFFFFFFFF, true⟩,
  ⟨"MER_Dd_GM_LO", 0x05004C, [(32, 2)], .ro, [.x, .m, .d], [.x, .m, .d], 0xFFFFFFFF, 0xFFFFFFFF, false⟩,
  ⟨"MER_Dd_GM_HI", 0x050050, [(32, 2)], .ro, [.x, .m, .d], [.x, .m, .d], 0xFFFFFFFF, 0xFFFFFFFF, false⟩,
  ⟨"MER_Dd_STEPS", 0x050054, [(32, 2)], .rc, [.x, .m, .d], [.x, .m, .d], 0xFFFFFFFF, 0xFFFFFFFF, false⟩,
  ⟨"MER_Dd_STEP_REQ", 0x050058, [(32, 2)], .ro, [.m, .d], [.m, .d], 0xFFFFFFFF, 0xFFFFFFFF, true⟩,
  ⟨"MER_UTC", 0x050080, [], .rw, [.x, .m, .d], [.m, .d], 0x7FFFF, 0x7FFFF, false⟩,
  ⟨"MER_CLASS", 0x050084, [], .ro, [.x, .m, .d], [.x, .m, .d], 0x307, 0x307, true⟩,
  ⟨"MER_HOLDOVER", 0x050088, [], .ro, [.x, .m, .d], [.x, .m, .d], 0xFFFFFFFF, 0xFFFFFFFF, true⟩,
  ⟨"MER_PORTp_ASYM", 0x0500A0, [(4, 8)], .rws, [.m, .d], [.m, .d], 0xFFFF, 0xFFFF, false⟩,
  ⟨"MER_PORTp_DELAY", 0x0500C0, [(4, 8)], .ro, [.x, .m, .d], [.x, .m, .d], 0xFFFFF, 0xFFFFF, true⟩,
  ⟨"MER_CMPu_CTRL", 0x050100, [(16, 16)], .rw, [.v, .x, .m, .d], [.v, .x, .m, .d], 0xFFFF000F, 0xFFFF0007, false⟩,
  ⟨"MER_CMPu_SEC", 0x050104, [(16, 16)], .rw, [.v, .x, .m, .d], [.v, .x, .m, .d], 0xFFFFFFFF, 0xFFFFFFFF, false⟩,
  ⟨"MER_CMPu_NS", 0x050108, [(16, 16)], .rw, [.v, .x, .m, .d], [.v, .x, .m, .d], 0x3FFFFFFF, 0x3FFFFFFF, false⟩,
  ⟨"MER_CMPu_PERIOD", 0x05010C, [(16, 16)], .rw, [.v, .x, .m, .d], [.v, .x, .m, .d], 0xFFFFFFFF, 0xFFFFFFFF, false⟩,
  ⟨"MER_CMPu_STAT", 0x050200, [(4, 16)], .rc, [.x, .m, .d], [.x, .m, .d], 0xFF01FFFF, 0xFF01FFFF, true⟩,
  ⟨"MER_TCAPk_CFG", 0x050300, [(16, 4)], .rws, [.v, .m, .d], [.v, .m, .d], 0x7, 0x7, false⟩,
  ⟨"MER_TCAPk_SEC", 0x050304, [(16, 4)], .ro, [.x, .m, .d], [.x, .m, .d], 0xFFFFFFFF, 0xFFFFFFFF, true⟩,
  ⟨"MER_TCAPk_NS", 0x050308, [(16, 4)], .ro, [.x, .m, .d], [.x, .m, .d], 0xBFFFFFFF, 0xBFFFFFFF, true⟩,
  ⟨"MER_TCAPk_CNT", 0x05030C, [(16, 4)], .rc, [.x, .m, .d], [.x, .m, .d], 0xFFFFFFFF, 0xFFFFFFFF, true⟩,
  ⟨"MER_GNSS_CFG", 0x050340, [], .rws, [.m, .d], [.m, .d], 0x3FFF0073, 0x3FFF0073, false⟩,
  ⟨"MER_GNSS_STAT", 0x050344, [], .ro, [.x, .m, .d], [.x, .m, .d], 0xFF07, 0xFF07, true⟩,
  ⟨"MER_GNSS_OFFSET", 0x050348, [], .ro, [.x, .m, .d], [.x, .m, .d], 0xFFFFFFFF, 0xFFFFFFFF, true⟩,
  ⟨"MER_PPSOUT_CFG", 0x050350, [], .rws, [.m, .d], [.m, .d], 0xFF03, 0xFF03, false⟩,
  ⟨"MER_PTP_CFG", 0x050360, [], .rws, [.m, .d], [.m, .d], 0x7FFFF, 0x7FFFF, false⟩]

/-- The CAR registers (CAR-11). -/
def regRowsCar : List RegRow := [
  ⟨"CAR_STATUS", 0x060000, [], .ro, [.x, .m, .d], [.x, .m, .d], 0x7F7F, 0x7F7F, true⟩,
  ⟨"CAR_CFG", 0x060004, [], .rws, [.m, .d], [.m, .d], 0xF3, 0xF3, false⟩,
  ⟨"CAR_ETYPE", 0x060008, [], .rws, [.m, .d], [.m, .d], 0xFFFF, 0xFFFF, false⟩,
  ⟨"CAR_DA_LO", 0x06000C, [], .rws, [.m, .d], [.m, .d], 0xFFFFFFFF, 0xFFFFFFFF, false⟩,
  ⟨"CAR_DA_HI", 0x060010, [], .rws, [.m, .d], [.m, .d], 0xFFFF, 0xFFFF, false⟩,
  ⟨"CAR_GUARD", 0x060014, [], .rws, [.m, .d], [.m, .d], 0xFFF0FFF, 0xFFF0FFF, false⟩,
  ⟨"CAR_CYCLE_LO", 0x060020, [], .ro, [.x, .m, .d], [.x, .m, .d], 0xFFFFFFFF, 0xFFFFFFFF, true⟩,
  ⟨"CAR_CYCLE_HI", 0x060024, [], .ro, [.x, .m, .d], [.x, .m, .d], 0xFFFFFFFF, 0xFFFFFFFF, true⟩,
  ⟨"CAR_SHEET", 0x060028, [], .ro, [.x, .m, .d], [.x, .m, .d], 0xFF01FF, 0xFF01FF, true⟩,
  ⟨"CAR_SHEET_CTRL", 0x06002C, [], .wo, [.m, .d], [.m, .d], 0xFF0F, 0xFF0F, false⟩,
  ⟨"CAR_CAB", 0x060030, [], .rw, [.v, .m, .d], [.v, .m, .d], 0x1, 0x1, false⟩,
  ⟨"CAR_DROP_GUARD", 0x060040, [], .rc, [.x, .m, .d], [.x, .m, .d], 0xFFFFFFFF, 0xFFFFFFFF, true⟩,
  ⟨"CAR_DROP_TOPO", 0x060044, [], .rc, [.x, .m, .d], [.x, .m, .d], 0xFFFFFFFF, 0xFFFFFFFF, true⟩,
  ⟨"CAR_DROP_FCS", 0x060048, [], .rc, [.x, .m, .d], [.x, .m, .d], 0xFFFFFFFF, 0xFFFFFFFF, true⟩,
  ⟨"CAR_DUP", 0x06004C, [], .rc, [.x, .m, .d], [.x, .m, .d], 0xFFFFFFFF, 0xFFFFFFFF, true⟩,
  ⟨"CAR_LG_CNT", 0x060050, [], .rc, [.x, .m, .d], [.x, .m, .d], 0xFFFFFFFF, 0xFFFFFFFF, true⟩,
  ⟨"CAR_UNSCHED_DROP", 0x060054, [], .rc, [.x, .m, .d], [.x, .m, .d], 0xFFFFFFFF, 0xFFFFFFFF, true⟩,
  ⟨"CAR_SYNC_ERR", 0x060058, [], .ro, [.x, .m, .d], [.x, .m, .d], 0xFFFFFFFF, 0xFFFFFFFF, true⟩,
  ⟨"CAR_PATH_X", 0x06005C, [], .ro, [.x, .m, .d], [.x, .m, .d], 0xFFFFFFFF, 0xFFFFFFFF, true⟩,
  ⟨"CAR_PATH_Y", 0x060060, [], .ro, [.x, .m, .d], [.x, .m, .d], 0xFFFFFFFF, 0xFFFFFFFF, true⟩,
  ⟨"CAR_PORTp_STAT", 0x060080, [(4, 4)], .ro, [.x, .m, .d], [.x, .m, .d], 0xFF07, 0xFF07, true⟩,
  ⟨"CAR_SHEETs_CFG", 0x060100, [(16, 16)], .rws, [.m, .d], [.m, .d], 0x8000FFFF, 0x8000FFFF, false⟩,
  ⟨"CAR_SHEETs_RANGE", 0x060104, [(16, 16)], .rws, [.m, .d], [.m, .d], 0x3FFF1FFF, 0x3FFF1FFF, false⟩,
  ⟨"CAR_SHEETs_SPAN", 0x060108, [(16, 16)], .rws, [.m, .d], [.m, .d], 0x3FFFF, 0x3FFFF, false⟩,
  ⟨"CAR_SHEETs_SIG", 0x06010C, [(16, 16)], .ro, [.x, .m, .d], [.x, .m, .d], 0xFFFFFFFF, 0xFFFFFFFF, false⟩,
  ⟨"CAR_ATLAS_IDX", 0x060200, [], .rw, [.m, .d], [.m, .d], 0x1FFF, 0x1FFF, false⟩,
  ⟨"CAR_ATLAS_W0", 0x060204, [], .rws, [.m, .d], [.m, .d], 0xFFFFFFFF, 0xFFFFFFFF, false⟩,
  ⟨"CAR_ATLAS_W1", 0x060208, [], .rws, [.m, .d], [.m, .d], 0xFFFFFFFF, 0xFFFFFFFF, false⟩,
  ⟨"CAR_ATLAS_W2", 0x06020C, [], .rws, [.m, .d], [.m, .d], 0xFFFFFFFF, 0xFFFFFFFF, false⟩,
  ⟨"CAR_BUFb_CFG", 0x060400, [(8, 256)], .rws, [.v, .m, .d], [.v, .m, .d], 0xF7FF0003, 0xF7FF0003, false⟩,
  ⟨"CAR_BUFb_ADDR", 0x060404, [(8, 256)], .rws, [.v, .m, .d], [.v, .m, .d], 0x3FFFFF, 0x3FFFFF, false⟩,
  ⟨"CAR_BUFb_STAT", 0x060C00, [(4, 256)], .ro, [.x, .m, .d], [.x, .m, .d], 0x7FFFF, 0x7FFFF, true⟩,
  ⟨"CAR_COMMIT", 0x061000, [], .wo, [.v], [.v], 0xFF, 0xFF, false⟩]

/-- The INA registers (INA-7). -/
def regRowsIna : List RegRow := [
  ⟨"INA_STATUS", 0x070000, [], .ro, [.x, .m, .d], [.x, .m, .d], 0x1FF, 0x1FF, true⟩,
  ⟨"INA_CFG", 0x070004, [], .rws, [.v, .m, .d], [.v, .m, .d], 0x1FFFF, 0x1FFFF, false⟩,
  ⟨"INA_TOPO", 0x070008, [], .ro, [.x, .m, .d], [.x, .m, .d], 0xFFFFFFFF, 0xFFFFFFFF, true⟩,
  ⟨"INA_RESULT", 0x07000C, [], .ro, [.x, .m, .d], [.x, .m, .d], 0xF0F3F3F, 0xF0F3F3F, true⟩,
  ⟨"INA_LAST_POS", 0x070010, [], .ro, [.x, .m, .d], [.x, .m, .d], 0x3F, 0x3F, false⟩,
  ⟨"INA_REF_EUI_LO", 0x070014, [], .ro, [.x, .m, .d], [.x, .m, .d], 0xFFFFFFFF, 0xFFFFFFFF, true⟩,
  ⟨"INA_REF_EUI_HI", 0x070018, [], .ro, [.x, .m, .d], [.x, .m, .d], 0xFFFFFFFF, 0xFFFFFFFF, true⟩,
  ⟨"INA_CAB_EUI_LO", 0x07001C, [], .ro, [.x, .m, .d], [.x, .m, .d], 0xFFFFFFFF, 0xFFFFFFFF, true⟩,
  ⟨"INA_CAB_EUI_HI", 0x070020, [], .ro, [.x, .m, .d], [.x, .m, .d], 0xFFFFFFFF, 0xFFFFFFFF, true⟩,
  ⟨"INA_ROUNDS", 0x070024, [], .rc, [.x, .m, .d], [.x, .m, .d], 0xFFFFFFFF, 0xFFFFFFFF, true⟩,
  ⟨"INA_MERGES", 0x070028, [], .rc, [.x, .m, .d], [.x, .m, .d], 0xFFFFFFFF, 0xFFFFFFFF, true⟩,
  ⟨"INA_PORTp_STAT", 0x070040, [(4, 4)], .ro, [.x, .m, .d], [.x, .m, .d], 0xFF3F, 0xFF3F, true⟩,
  ⟨"INA_COMPn", 0x070104, [(4, 63)], .rws, [.m, .d], [.m, .d], 0x8000000F, 0x8000000F, false⟩,
  ⟨"INA_CTRL", 0x070200, [], .wo, [.m], [.m], 0x1, 0x1, false⟩]

/-- The ECN registers (ECN-2). -/
def regRowsEcn : List RegRow := [
  ⟨"ECN_STATUS", 0x080000, [], .ro, [.x, .m, .d], [.x, .m, .d], 0xFFF0007, 0xFFF0007, true⟩,
  ⟨"ECN_CFG", 0x080004, [], .rws, [.m, .d], [.m, .d], 0x773F01, 0x773F01, false⟩,
  ⟨"ECN_AGE", 0x080008, [], .rws, [.m, .d], [.m, .d], 0xFFF, 0xFFF, false⟩,
  ⟨"ECN_VITAL_IP", 0x08000C, [], .rws, [.m, .d], [.m, .d], 0xFFFFFFFF, 0xFFFFFFFF, false⟩,
  ⟨"ECN_MAC_LO", 0x080010, [], .ro, [.x, .m, .d], [.x, .m, .d], 0xFFFFFFFF, 0xFFFFFFFF, false⟩,
  ⟨"ECN_MAC_HI", 0x080014, [], .ro, [.x, .m, .d], [.x, .m, .d], 0xFFFF, 0xFFFF, false⟩,
  ⟨"ECN_PORTp_CFG", 0x080020, [(4, 4)], .rws, [.m, .d], [.m, .d], 0xFFF00FF, 0xFFF00FF, false⟩,
  ⟨"ECN_PORTp_STAT", 0x080030, [(4, 4)], .ro, [.x, .m, .d], [.x, .m, .d], 0xFF03, 0xFF03, true⟩,
  ⟨"ECN_PORTp_RX", 0x080040, [(8, 5)], .rc, [.x, .m, .d], [.x, .m, .d], 0xFFFFFFFF, 0xFFFFFFFF, true⟩,
  ⟨"ECN_PORTp_DROP", 0x080044, [(8, 5)], .rc, [.x, .m, .d], [.x, .m, .d], 0xFFFFFFFF, 0xFFFFFFFF, true⟩,
  ⟨"ECN_MAC_MOVES", 0x080070, [], .rc, [.x, .m, .d], [.x, .m, .d], 0xFFFFFFFF, 0xFFFFFFFF, true⟩,
  ⟨"ECN_LEARN_FAIL", 0x080074, [], .rc, [.x, .m, .d], [.x, .m, .d], 0xFFFFFFFF, 0xFFFFFFFF, true⟩,
  ⟨"ECN_HANDOVER_DROP", 0x080078, [], .rc, [.x, .m, .d], [.x, .m, .d], 0xFFFFFFFF, 0xFFFFFFFF, true⟩,
  ⟨"ECN_VLANv", 0x080100, [(4, 64)], .rws, [.m, .d], [.m, .d], 0x80FFFFFF, 0x80FFFFFF, false⟩,
  ⟨"ECN_STATIC_IDX", 0x080200, [], .rw, [.m, .d], [.m, .d], 0x7F, 0x7F, false⟩,
  ⟨"ECN_STATIC_MAC_LO", 0x080204, [], .rws, [.m, .d], [.m, .d], 0xFFFFFFFF, 0xFFFFFFFF, false⟩,
  ⟨"ECN_STATIC_MAC_HI", 0x080208, [], .rws, [.m, .d], [.m, .d], 0x8FFFFFFF, 0x8FFFFFFF, false⟩,
  ⟨"ECN_STATIC_PORT", 0x08020C, [], .rws, [.m, .d], [.m, .d], 0x7, 0x7, false⟩,
  ⟨"ECN_PTP_STAT", 0x080300, [], .rc, [.x, .m, .d], [.x, .m, .d], 0xFFFF, 0xFFFF, true⟩,
  ⟨"ECN_AUX_RX_BASE_LO", 0x080400, [], .rws, [.x, .m, .d], [.x, .m, .d], 0xFFFFF000, 0xFFFFF000, false⟩,
  ⟨"ECN_AUX_RX_BASE_HI", 0x080404, [], .rws, [.x, .m, .d], [.x, .m, .d], 0xFF, 0xFF, false⟩,
  ⟨"ECN_AUX_TX_BASE_LO", 0x080408, [], .rws, [.x, .m, .d], [.x, .m, .d], 0xFFFFF000, 0xFFFFF000, false⟩,
  ⟨"ECN_AUX_TX_BASE_HI", 0x08040C, [], .rws, [.x, .m, .d], [.x, .m, .d], 0xFF, 0xFF, false⟩,
  ⟨"ECN_AUX_KICK", 0x080410, [], .wo, [.x], [.x], 0xFFFFFFFF, 0xFFFFFFFF, false⟩]

/-- The CAN registers (CAN-6). -/
def regRowsCan : List RegRow := [
  ⟨"CAN_STATUS", 0x090000, [(16384, 4)], .ro, [.m, .d], [.m, .d], 0x3F, 0x3F, true⟩,
  ⟨"CAN_CTRL", 0x090004, [(16384, 4)], .rw, [.m, .d], [.m, .d], 0x1, 0x1, false⟩,
  ⟨"CAN_CFG", 0x090008, [(16384, 4)], .rws, [.v, .m, .d], [.v, .m, .d], 0x3F, 0x3F, false⟩,
  ⟨"CAN_NBT", 0x09000C, [(16384, 4)], .rws, [.v, .m, .d], [.v, .m, .d], 0x7F7FFF1F, 0x7F7FFF1F, false⟩,
  ⟨"CAN_DBT", 0x090010, [(16384, 4)], .rws, [.v, .m, .d], [.v, .m, .d], 0xF0F1F1F, 0xF0F1F1F, false⟩,
  ⟨"CAN_TDC", 0x090014, [(16384, 4)], .rws, [.v, .m, .d], [.v, .m, .d], 0x7F01, 0x7F01, false⟩,
  ⟨"CAN_ERR", 0x090018, [(16384, 4)], .ro, [.m, .d], [.m, .d], 0x7FFFFFF, 0x7FFFFFF, true⟩,
  ⟨"CAN_ERRCNT", 0x09001C, [(16384, 4)], .rc, [.m, .d], [.m, .d], 0xFFFFFFFF, 0xFFFFFFFF, true⟩,
  ⟨"CAN_RXDISC", 0x090020, [(16384, 4)], .rc, [.m, .d], [.m, .d], 0xFFFFFFFF, 0xFFFFFFFF, true⟩,
  ⟨"CAN_STAGE_LOST", 0x090024, [(16384, 4)], .rc, [.m, .d], [.m, .d], 0xFFFFFFFF, 0xFFFFFFFF, true⟩,
  ⟨"CAN_QqCFG", 0x090030, [(16384, 4), (8, 2)], .rws, [.v, .m, .d], [.v, .m, .d], 0xF7, 0xF7, false⟩,
  ⟨"CAN_QqADDR", 0x090034, [(16384, 4), (8, 2)], .rws, [.v, .m, .d], [.v, .m, .d], 0xFFFF, 0xFFFF, false⟩,
  ⟨"CAN_QqACK", 0x090040, [(16384, 4), (4, 2)], .wo, [.v], [.v], 0xFFFFFFFF, 0xFFFFFFFF, false⟩,
  ⟨"CAN_QqSTAT", 0x090048, [(16384, 4), (4, 2)], .rc, [.m, .d], [.m, .d], 0xFFFFFFFF, 0xFFFFFFFF, true⟩,
  ⟨"CAN_TXREQ", 0x090060, [(16384, 4)], .wo, [.v], [.v], 0x1F, 0x1F, false⟩,
  ⟨"CAN_TXCANCEL", 0x090064, [(16384, 4)], .wo, [.v], [.v], 0x1F, 0x1F, false⟩,
  ⟨"CAN_TXPEND", 0x090068, [(16384, 4)], .ro, [.m, .d], [.m, .d], 0xFFFFFFFF, 0xFFFFFFFF, true⟩,
  ⟨"CAN_MBmCFG", 0x090100, [(16384, 4), (8, 32)], .rws, [.v, .m, .d], [.v, .m, .d], 0xF7, 0xF7, false⟩,
  ⟨"CAN_MBmADDR", 0x090104, [(16384, 4), (8, 32)], .rws, [.v, .m, .d], [.v, .m, .d], 0x3FFFFF, 0x3FFFFF, false⟩,
  ⟨"CAN_MBmSTAT", 0x090200, [(16384, 4), (4, 32)], .ro, [.m, .d], [.m, .d], 0xFFFFFF0F, 0xFFFFFF0F, true⟩,
  ⟨"CAN_FLTiID", 0x090400, [(16384, 4), (8, 64)], .rws, [.v, .m, .d], [.v, .m, .d], 0xFFFFFFFF, 0xFFFFFFFF, false⟩,
  ⟨"CAN_FLTiMASK", 0x090404, [(16384, 4), (8, 64)], .rws, [.v, .m, .d], [.v, .m, .d], 0xFFFFFFFF, 0xFFFFFFFF, false⟩,
  ⟨"CAN_FLTiCTRL", 0x090600, [(16384, 4), (4, 64)], .rws, [.v, .m, .d], [.v, .m, .d], 0x3, 0x3, false⟩]

/-- The FIO registers (FIO-5). -/
def regRowsFio : List RegRow := [
  ⟨"FIO_STATUS", 0x0A0000, [], .ro, [.x, .m, .d], [.x, .m, .d], 0x3F, 0x3F, true⟩,
  ⟨"FIO_CFG", 0x0A0004, [], .rws, [.v, .m, .d], [.v, .m, .d], 0xFF3FFF, 0xFF3FFF, false⟩,
  ⟨"FIO_OPT", 0x0A0008, [], .rws, [.v, .m, .d], [.v, .m, .d], 0x3FFF03FF, 0x3FFF03FF, false⟩,
  ⟨"FIO_GSS", 0x0A000C, [], .rws, [.v, .m, .d], [.v, .m, .d], 0xFFF, 0xFFF, false⟩,
  ⟨"FIO_IMG", 0x0A0010, [], .rws, [.v, .m, .d], [.v, .m, .d], 0xFFFFFFFF, 0xFFFFFFFF, false⟩,
  ⟨"FIO_SOE_CFG", 0x0A0014, [], .rws, [.v, .m, .d], [.v, .m, .d], 0xF1F, 0xF1F, false⟩,
  ⟨"FIO_SOE_ADDR", 0x0A0018, [], .rws, [.v, .m, .d], [.v, .m, .d], 0xFFFF, 0xFFFF, false⟩,
  ⟨"FIO_SOE_ACK", 0x0A001C, [], .wo, [.v], [.v], 0xFFFFFFFF, 0xFFFFFFFF, false⟩,
  ⟨"FIO_SOE_STAT", 0x0A0020, [], .rc, [.x, .m, .d], [.x, .m, .d], 0xFFFFFFFF, 0xFFFFFFFF, true⟩,
  ⟨"FIO_CLEAR", 0x0A0024, [], .wo, [.m], [.m], 0x7F, 0x7F, false⟩,
  ⟨"FIO_GRPg_STAT", 0x0A0030, [(4, 4)], .ro, [.x, .m, .d], [.x, .m, .d], 0xFFFFFF3F, 0xFFFFFF3F, true⟩,
  ⟨"FIO_CMDw", 0x0A0040, [(4, 3)], .ro, [.x, .m, .d], [.x, .m, .d], 0xFFFFFFFF, 0xFFFFFFFF, true⟩,
  ⟨"FIO_CHi_CFG", 0x0A0100, [(16, 96)], .rws, [.v, .m, .d], [.v, .m, .d], 0xFFF3FF, 0xFFF3FF, false⟩,
  ⟨"FIO_CHi_RAW", 0x0A0104, [(16, 96)], .ro, [.x, .m, .d], [.x, .m, .d], 0xFFFFFF03, 0xFFFFFF03, true⟩,
  ⟨"FIO_CHi_DIAG", 0x0A0108, [(16, 96)], .ro, [.x, .m, .d], [.x, .m, .d], 0x7F071FFF, 0x7F071FFF, true⟩,
  ⟨"FIO_CHi_CNT", 0x0A010C, [(16, 96)], .rc, [.x, .m, .d], [.x, .m, .d], 0xFFFFFFFF, 0xFFFFFFFF, true⟩]

/-- The BRG registers (BRG-5). -/
def regRowsBrg : List RegRow := [
  ⟨"BRG_STATUS", 0x100000, [], .ro, [.x, .m, .d], [.x, .m, .d], 0xFF3, 0xFF3, true⟩,
  ⟨"BRG_CFG", 0x100004, [], .rws, [.v, .m, .d], [.v, .m, .d], 0xFF03, 0xFF03, false⟩,
  ⟨"BRG_VID", 0x100008, [], .ro, [.v, .x, .m, .d], [.v, .x, .m, .d], 0xFFFFFFFF, 0xFFFFFFFF, false⟩,
  ⟨"BRG_REC", 0x10000C, [], .rws, [.v, .m, .d], [.v, .m, .d], 0x1FFFF, 0x1FFFF, false⟩,
  ⟨"BRG_XFER", 0x100010, [], .wo, [.v, .x], [.v, .x], 0xFFFFFFFF, 0xFFFFFFFF, false⟩,
  ⟨"BRG_INB_BASE_LO", 0x100014, [], .rws, [.m, .d], [.m, .d], 0xFF000000, 0xFF000000, false⟩,
  ⟨"BRG_INB_BASE_HI", 0x100018, [], .rws, [.m, .d], [.m, .d], 0xFFFFFFFF, 0xFFFFFFFF, false⟩,
  ⟨"BRG_INB_EN", 0x10001C, [], .rws, [.m, .d], [.m, .d], 0x1FF, 0x1FF, false⟩,
  ⟨"BRG_LINKp_STAT", 0x100020, [(4, 4)], .ro, [.x, .m, .d], [.x, .m, .d], 0xFF037F, 0xFF037F, true⟩,
  ⟨"BRG_PWLOG_IDX", 0x100040, [], .rw, [.m, .d], [.m, .d], 0x3F, 0x3F, false⟩,
  ⟨"BRG_PWLOG_ADDR_LO", 0x100044, [], .ro, [.m, .d], [.m, .d], 0xFFFFFFFF, 0xFFFFFFFF, false⟩,
  ⟨"BRG_PWLOG_ADDR_HI", 0x100048, [], .ro, [.m, .d], [.m, .d], 0xFFFFFFFF, 0xFFFFFFFF, false⟩,
  ⟨"BRG_PWLOG_INFO", 0x10004C, [], .ro, [.m, .d], [.m, .d], 0xFFFF00FF, 0xFFFF00FF, false⟩,
  ⟨"BRG_PWLOG_CLR", 0x100050, [], .wo, [.m], [.m], 0xFFFFFFFF, 0xFFFFFFFF, false⟩,
  ⟨"BRG_PWLOG_LOST", 0x100054, [], .rc, [.x, .m, .d], [.x, .m, .d], 0xFFFFFFFF, 0xFFFFFFFF, true⟩,
  ⟨"BRG_UR_CNT", 0x100058, [], .rc, [.x, .m, .d], [.x, .m, .d], 0xFFFFFFFF, 0xFFFFFFFF, true⟩,
  ⟨"BRG_CPL_TO_CNT", 0x10005C, [], .rc, [.x, .m, .d], [.x, .m, .d], 0xFFFFFFFF, 0xFFFFFFFF, true⟩,
  ⟨"BRG_CFGACC_ADDR", 0x100060, [], .rw, [.m], [.m], 0xFFFFFFF, 0xFFFFFFF, false⟩,
  ⟨"BRG_CFGACC_DATA", 0x100064, [], .rw, [.m], [.m], 0xFFFFFFFF, 0xFFFFFFFF, false⟩,
  ⟨"BRG_CFGACC_STAT", 0x100068, [], .ro, [.m], [.m], 0x7, 0x7, false⟩,
  ⟨"BRG_REGr_CFG", 0x100100, [(16, 16)], .rws, [.v, .m, .d], [.v, .m, .d], 0xFF7, 0xFF7, false⟩,
  ⟨"BRG_REGr_XLAT_LO", 0x100104, [(16, 16)], .rws, [.v, .m, .d], [.v, .m, .d], 0xF0000000, 0xF0000000, false⟩,
  ⟨"BRG_REGr_XLAT_HI", 0x100108, [(16, 16)], .rws, [.v, .m, .d], [.v, .m, .d], 0xFFFFFFFF, 0xFFFFFFFF, false⟩,
  ⟨"BRG_REGr_BUDGET", 0x10010C, [(16, 16)], .rws, [.v, .m, .d], [.v, .m, .d], 0x3FF, 0x3FF, false⟩]

/-- The PRT registers (PRT-5). -/
def regRowsPrt : List RegRow := [
  ⟨"PRT_STATUS", 0x110000, [], .ro, [.x, .m, .d], [.x, .m, .d], 0xFF7F, 0xFF7F, true⟩,
  ⟨"PRT_CFG", 0x110004, [], .rws, [.v, .m, .d], [.v, .m, .d], 0x3FF0F03, 0x3FF0F03, false⟩,
  ⟨"PRT_WAIT", 0x110008, [], .rws, [.m, .d], [.m, .d], 0xFFFF00FF, 0xFFFF00FF, false⟩,
  ⟨"PRT_REC", 0x11000C, [], .rws, [.v, .m, .d], [.v, .m, .d], 0x1FFFF, 0x1FFFF, false⟩,
  ⟨"PRT_PARTNER_EUI_LO", 0x110010, [], .ro, [.x, .m, .d], [.x, .m, .d], 0xFFFFFFFF, 0xFFFFFFFF, false⟩,
  ⟨"PRT_PARTNER_EUI_HI", 0x110014, [], .ro, [.x, .m, .d], [.x, .m, .d], 0xFFFFFFFF, 0xFFFFFFFF, false⟩,
  ⟨"PRT_HB_MISS", 0x110018, [], .ro, [.x, .m, .d], [.x, .m, .d], 0xFFFF, 0xFFFF, true⟩,
  ⟨"PRT_SWITCHOVERS", 0x11001C, [], .rc, [.x, .m, .d], [.x, .m, .d], 0xFFFFFFFF, 0xFFFFFFFF, false⟩,
  ⟨"PRT_DUAL_MAX", 0x110020, [], .rc, [.x, .m, .d], [.x, .m, .d], 0xFFFFFFFF, 0xFFFFFFFF, true⟩,
  ⟨"PRT_BACKLOG", 0x110024, [], .ro, [.x, .m, .d], [.x, .m, .d], 0x7FFFF, 0x7FFFF, true⟩,
  ⟨"PRT_SYNC_CNT", 0x110028, [], .rc, [.x, .m, .d], [.x, .m, .d], 0xFFFFFFFF, 0xFFFFFFFF, false⟩,
  ⟨"PRT_CTRL", 0x11002C, [], .wo, [.m], [.m], 0x3, 0x3, false⟩]

/-- The PWR registers (PWR-10). -/
def regRowsPwr : List RegRow := [
  ⟨"PWR_STATUS", 0x0E0000, [], .ro, [.x, .m, .d], [.x, .m, .d], 0x1F7F7, 0x1F7F7, true⟩,
  ⟨"PWR_REQ", 0x0E0004, [], .wo, [.v, .m], [.v, .m], 0x3, 0x3, false⟩,
  ⟨"PWR_CFG", 0x0E0008, [], .rws, [.v, .m, .d], [.v, .m, .d], 0xFFFF0071, 0xFFFF0071, false⟩,
  ⟨"PWR_WAKE_EN", 0x0E000C, [], .rws, [.v, .m, .d], [.v, .m, .d], 0x1F, 0x1F, false⟩,
  ⟨"PWR_WAKE_CFG", 0x0E0010, [], .rws, [.m, .d], [.m, .d], 0xFFFF3FF1, 0xFFFF3FF1, false⟩,
  ⟨"PWR_WAKE_ID", 0x0E0014, [], .rws, [.m, .d], [.m, .d], 0xFFFFFFFF, 0xFFFFFFFF, false⟩,
  ⟨"PWR_WAKE_CAUSE", 0x0E0018, [], .ro, [.x, .m, .d], [.x, .m, .d], 0x1F03FF, 0x1F03FF, true⟩,
  ⟨"PWR_WAKE_TX", 0x0E001C, [], .wo, [.m], [.m], 0xFFFFFFFF, 0xFFFFFFFF, false⟩,
  ⟨"PWR_REFUSE_CNT", 0x0E0020, [], .rc, [.x, .m, .d], [.x, .m, .d], 0xFFFFFFFF, 0xFFFFFFFF, false⟩,
  ⟨"PWR_LAST_REFUSER", 0x0E0024, [], .ro, [.x, .m, .d], [.x, .m, .d], 0xFFFFFFFF, 0xFFFFFFFF, false⟩,
  ⟨"PWR_REC", 0x0E0028, [], .rws, [.v, .m, .d], [.v, .m, .d], 0x1FFFF, 0x1FFFF, false⟩,
  ⟨"PWR_RES_CLR", 0x0E002C, [], .wo, [.m], [.m], 0xFFFFFFFF, 0xFFFFFFFF, false⟩,
  ⟨"PWR_HISTh", 0x0E0040, [(4, 16)], .ro, [.x, .m, .d], [.x, .m, .d], 0xFFFF3FFF, 0xFFFF3FFF, false⟩,
  ⟨"PWR_RESs_LO", 0x0E0080, [(8, 5)], .ro, [.x, .m, .d], [.x, .m, .d], 0xFFFFFFFF, 0xFFFFFFFF, true⟩,
  ⟨"PWR_RESs_HI", 0x0E0084, [(8, 5)], .ro, [.x, .m, .d], [.x, .m, .d], 0xFFFFFFFF, 0xFFFFFFFF, true⟩,
  ⟨"PWR_WDTk_c", 0x0E0100, [(16, 16), (4, 3)], .rws, [.m, .d], [.m, .d], 0x7FF, 0x7FF, false⟩,
  ⟨"PWR_WDT_MM", 0x0E0200, [], .rc, [.x, .m, .d], [.x, .m, .d], 0x3FFFFF, 0x3FFFFF, false⟩]

/-- The SYS registers (SYS-9). -/
def regRowsSys : List RegRow := [
  ⟨"SYS_ID", 0x000000, [], .ro, [.v, .x, .m, .d], [.v, .x, .m, .d], 0xFFFFFFFF, 0xFFFFFFFF, false⟩,
  ⟨"SYS_SERIAL_LO", 0x000004, [], .ro, [.v, .x, .m, .d], [.v, .x, .m, .d], 0xFFFFFFFF, 0xFFFFFFFF, false⟩,
  ⟨"SYS_SERIAL_HI", 0x000008, [], .ro, [.v, .x, .m, .d], [.v, .x, .m, .d], 0xFFFFFFFF, 0xFFFFFFFF, false⟩,
  ⟨"SYS_STATUS", 0x00000C, [], .ro, [.x, .m, .d], [.x, .m, .d], 0x7FFFFFF, 0x7FFFFFF, false⟩,
  ⟨"SYS_EUI_LO", 0x000010, [], .ro, [.v, .x, .m, .d], [.v, .x, .m, .d], 0xFFFFFFFF, 0xFFFFFFFF, false⟩,
  ⟨"SYS_EUI_HI", 0x000014, [], .ro, [.v, .x, .m, .d], [.v, .x, .m, .d], 0xFFFFFFFF, 0xFFFFFFFF, false⟩,
  ⟨"SYS_MAC_LO", 0x000018, [], .ro, [.x, .m, .d], [.x, .m, .d], 0xFFFFFFFF, 0xFFFFFFFF, false⟩,
  ⟨"SYS_MAC_HI", 0x00001C, [], .ro, [.x, .m, .d], [.x, .m, .d], 0xFFFF, 0xFFFF, false⟩,
  ⟨"SYS_LANE", 0x000020, [], .ro, [.x, .m, .d], [.x, .m, .d], 0x3, 0x3, false⟩,
  ⟨"SYS_RESET_CAUSE", 0x000024, [], .ro, [.x, .m, .d], [.x, .m, .d], 0xFFFF1F1F, 0xFFFF1F1F, false⟩,
  ⟨"SYS_BOOT", 0x000028, [], .ro, [.x, .m, .d], [.x, .m, .d], 0xFF031F1F, 0xFF031F1F, false⟩,
  ⟨"SYS_BOOT_CFG", 0x00002C, [], .rws, [.m, .d], [.m, .d], 0x3FF, 0x3FF, false⟩,
  ⟨"SYS_CMD", 0x000030, [], .wo, [.m], [.m], 0x7, 0x7, false⟩,
  ⟨"SYS_BUILDt_LO", 0x000048, [(8, 5)], .ro, [.x, .m, .d], [.x, .m, .d], 0xFFFFFFFF, 0xFFFFFFFF, false⟩,
  ⟨"SYS_BUILDt_HI", 0x00004C, [(8, 5)], .ro, [.x, .m, .d], [.x, .m, .d], 0xFFFFFFFF, 0xFFFFFFFF, false⟩,
  ⟨"SYS_SUPPLY", 0x000080, [], .ro, [.x, .m, .d], [.x, .m, .d], 0xFF01FFFF, 0xFF01FFFF, true⟩]

/-- The MBX registers (MBX-3). -/
def regRowsMbx : List RegRow := [
  ⟨"MBX_STATUS", 0x120000, [], .ro, [.x, .m, .d], [.x, .m, .d], 0xFFFF0FF3, 0xFFFF0FF3, true⟩,
  ⟨"MBX_VSET", 0x120004, [], .rw, [.x, .m, .d], [.m], 0x1F, 0x1F, true⟩,
  ⟨"MBX_VMEAS", 0x120008, [], .ro, [.x, .m, .d], [.x, .m, .d], 0xFFF03FF, 0xFFF03FF, true⟩,
  ⟨"MBX_EVQ_LOST", 0x12000C, [], .rc, [.x, .m, .d], [.x, .m, .d], 0xFFFFFFFF, 0xFFFFFFFF, true⟩,
  ⟨"MBX_REC", 0x120010, [], .rws, [.v, .m, .d], [.v, .m, .d], 0x1FFFF, 0x1FFFF, false⟩,
  ⟨"MBX_AUXOUTi", 0x120100, [(4, 64)], .rw, [.x, .m], [.x], 0xFFFFFFFF, 0xFFFFFFFF, false⟩,
  ⟨"MBX_AUXOUT_CTRL", 0x120200, [], .wo, [.x], [.x], 0x1FF, 0x1FF, false⟩,
  ⟨"MBX_AUX_STAT", 0x120204, [], .ro, [.x, .m], [.x, .m], 0x7FF, 0x7FF, false⟩,
  ⟨"MBX_AUXINi", 0x120300, [(4, 64)], .ro, [.x], [.x], 0xFFFFFFFF, 0xFFFFFFFF, false⟩,
  ⟨"MBX_AUXIN_ACK", 0x120400, [], .wo, [.x], [.x], 0xFFFFFFFF, 0xFFFFFFFF, false⟩]

/-- The EVR registers (EVR-3). -/
def regRowsEvr : List RegRow := [
  ⟨"EVR_STATUS", 0x0F0000, [], .ro, [.x, .m, .d], [.x, .m, .d], 0x1FFF0F, 0x1FFF0F, true⟩,
  ⟨"EVR_NEWEST_LO", 0x0F0004, [], .ro, [.x, .m, .d], [.x, .m, .d], 0xFFFFFFFF, 0xFFFFFFFF, true⟩,
  ⟨"EVR_NEWEST_HI", 0x0F0008, [], .ro, [.x, .m, .d], [.x, .m, .d], 0xFFFFFFFF, 0xFFFFFFFF, true⟩,
  ⟨"EVR_CTRL", 0x0F000C, [], .wo, [.x, .d], [.x, .d], 0x3, 0x3, false⟩,
  ⟨"EVR_HOLD", 0x0F0010, [], .ro, [.x, .m, .d], [.x, .m, .d], 0xFFFF01FF, 0xFFFF01FF, true⟩,
  ⟨"EVR_RD_IDX_LO", 0x0F0014, [], .rw, [.x, .d], [.x, .d], 0xFFFFFFFF, 0xFFFFFFFF, false⟩,
  ⟨"EVR_RD_IDX_HI", 0x0F0018, [], .rw, [.x, .d], [.x, .d], 0xFFFFFFFF, 0xFFFFFFFF, false⟩,
  ⟨"EVR_RD_AREA", 0x0F001C, [], .rw, [.x, .d], [.x, .d], 0x1, 0x1, false⟩,
  ⟨"EVR_RD_STAT", 0x0F0020, [], .ro, [.x, .d], [.x, .d], 0x7, 0x7, true⟩,
  ⟨"EVR_RD_DATAk", 0x0F0040, [(4, 16)], .ro, [.x, .d], [.x, .d], 0xFFFFFFFF, 0xFFFFFFFF, false⟩,
  ⟨"EVR_SUPP_CNT", 0x0F0080, [], .rc, [.x, .m, .d], [.x, .m, .d], 0xFFFFFFFF, 0xFFFFFFFF, true⟩,
  ⟨"EVR_RATE_IDX", 0x0F0090, [], .rw, [.m, .d], [.m, .d], 0x3FF, 0x3FF, false⟩,
  ⟨"EVR_RATE_VAL", 0x0F0094, [], .ro, [.x, .m, .d], [.x, .m, .d], 0xFFFFFFFF, 0xFFFFFFFF, false⟩]

/-- The UPD registers (UPD-6). -/
def regRowsUpd : List RegRow := [
  ⟨"UPD_STATUS", 0x130000, [], .ro, [.x, .m, .d], [.x, .m, .d], 0x11F1F, 0x11F1F, true⟩,
  ⟨"UPD_CFG", 0x130004, [], .rws, [.m, .d], [.m, .d], 0x10FFF, 0x10FFF, false⟩,
  ⟨"UPD_PRECONDk", 0x130010, [(4, 8)], .rws, [.m, .d], [.m, .d], 0x800FFFFF, 0x800FFFFF, false⟩,
  ⟨"UPD_SLOTt_STAT", 0x130050, [(16, 3)], .ro, [.x, .m, .d], [.x, .m, .d], 0xFFFF3F, 0xFFFF3F, true⟩,
  ⟨"UPD_SLOTt_TAG_LO", 0x130054, [(16, 3)], .ro, [.x, .m, .d], [.x, .m, .d], 0xFFFFFFFF, 0xFFFFFFFF, false⟩,
  ⟨"UPD_SLOTt_TAG_HI", 0x130058, [(16, 3)], .ro, [.x, .m, .d], [.x, .m, .d], 0xFFFFFFFF, 0xFFFFFFFF, false⟩,
  ⟨"UPD_ORDER_LO", 0x130080, [], .ro, [.x, .m, .d], [.x, .m, .d], 0xFFFFFFFF, 0xFFFFFFFF, false⟩,
  ⟨"UPD_ORDER_HI", 0x130084, [], .ro, [.x, .m, .d], [.x, .m, .d], 0xFFFFFFFF, 0xFFFFFFFF, false⟩,
  ⟨"UPD_ORDER_STAT", 0x130088, [], .ro, [.x, .m, .d], [.x, .m, .d], 0xF0F, 0xF0F, true⟩,
  ⟨"UPD_READY_LO", 0x130090, [], .ro, [.x, .m, .d], [.x, .m, .d], 0xFFFFFFFF, 0xFFFFFFFF, true⟩,
  ⟨"UPD_READY_HI", 0x130094, [], .ro, [.x, .m, .d], [.x, .m, .d], 0xFFFFFFFF, 0xFFFFFFFF, true⟩,
  ⟨"UPD_CNT", 0x130098, [], .rc, [.x, .m, .d], [.x, .m, .d], 0xFFFFFFFF, 0xFFFFFFFF, true⟩,
  ⟨"UPD_VERIFY_FAIL", 0x13009C, [], .rc, [.x, .m, .d], [.x, .m, .d], 0xFFFFFFFF, 0xFFFFFFFF, false⟩]

/-- The PMC registers (PMC-3). -/
def regRowsPmc : List RegRow := [
  ⟨"PMC_CTRLc", 0x0D0000, [(4096, 2)], .rw, [.x, .m, .d], [.x, .m, .d], 0x1FF, 0x1FF, true⟩,
  ⟨"PMC_OVFc", 0x0D0004, [(4096, 2)], .w1c, [.x, .m, .d], [.x, .m, .d], 0xFF, 0xFF, true⟩,
  ⟨"PMC_FILTc", 0x0D0008, [(4096, 2)], .rw, [.x, .m, .d], [.x, .m, .d], 0x7FFFF, 0x7FFFF, true⟩,
  ⟨"PMC_SCFGc", 0x0D000C, [(4096, 2)], .rw, [.x, .m, .d], [.x, .m, .d], 0x3F01, 0x3F01, true⟩,
  ⟨"PMC_SEEDc", 0x0D0010, [(4096, 2)], .rw, [.x, .m, .d], [.x, .m, .d], 0xFFFFFFFF, 0xFFFFFFFF, true⟩,
  ⟨"PMC_SSTATc", 0x0D0014, [(4096, 2)], .ro, [.x, .m, .d], [.x, .m, .d], 0x3FFFF, 0x3FFFF, true⟩,
  ⟨"PMC_SSKIPc", 0x0D0018, [(4096, 2)], .rc, [.x, .m, .d], [.x, .m, .d], 0xFFFFFFFF, 0xFFFFFFFF, true⟩,
  ⟨"PMC_SCTRLc", 0x0D001C, [(4096, 2)], .wo, [.x, .m, .d], [.x, .m, .d], 0x1, 0x1, true⟩,
  ⟨"PMC_EVTc_n", 0x0D0100, [(4096, 2), (16, 8)], .rw, [.x, .m, .d], [.x, .m, .d], 0x3FF, 0x3FF, true⟩,
  ⟨"PMC_CNTc_n_LO", 0x0D0104, [(4096, 2), (16, 8)], .rw, [.x, .m, .d], [.x, .m, .d], 0xFFFFFFFF, 0xFFFFFFFF, true⟩,
  ⟨"PMC_CNTc_n_HI", 0x0D0108, [(4096, 2), (16, 8)], .rw, [.x, .m, .d], [.x, .m, .d], 0xFFFF, 0xFFFF, true⟩]

/-- The rows of the block that owns an address: block n holds offsets n × 0x10000 to n × 0x10000 + 0xFFFF (07 R154). -/
def blockRows : Nat → List RegRow
  | 0 => regRowsSys
  | 1 => regRowsTrp
  | 2 => regRowsTri
  | 3 => regRowsCyc
  | 4 => regRowsMem
  | 5 => regRowsMer
  | 6 => regRowsCar
  | 7 => regRowsIna
  | 8 => regRowsEcn
  | 9 => regRowsCan
  | 10 => regRowsFio
  | 11 => regRowsSaf
  | 12 => regRowsCvu
  | 13 => regRowsPmc
  | 14 => regRowsPwr
  | 15 => regRowsEvr
  | 16 => regRowsBrg
  | 17 => regRowsPrt
  | 18 => regRowsMbx
  | 19 => regRowsUpd
  | _ => []

/-- The register table row of an address, when the address is a register. -/
def regRow (a : Nat) : Option RegRow := (blockRows (a / 0x10000)).find? (fun r => r.covers a)

/-- The default of each wake-delay step in 0.1 ms units (20 Table PWR-7). -/
def wakeDelayDefault : List Nat := [50, 50, 50, 20, 100, 20, 50, 50, 10, 10, 10, 10, 300, 50, 200, 100]

/-- Registers whose reset value is a number other than 0: first offset, strides and counts, value. CFG registers hold the default their chapter states (log 2). -/
def resetNums : Nat → List (Nat × List (Nat × Nat) × Nat)
  | 0 => [(0x000000, [], 0x396000A),
      (0x00000C, [], 0xFF0000),
      (0x00002C, [], 0x1E)]
  | 2 => [(0x020004, [], 0x4000031),
      (0x020008, [], 0x7D0),
      (0x020010, [(4, 3)], 0x64),
      (0x020020, [(4, 3)], 0x5A0)]
  | 3 => [(0x030000, [], 0x3E8),
      (0x030004, [], 0x3C001E),
      (0x030008, [], 0x14),
      (0x03000C, [], 0x2),
      (0x030020, [], 0x3E803E8),
      (0x030024, [], 0x3E8),
      (0x030108, [(16, 16)], 0x3E80000)]
  | 4 => [(0x040004, [], 0x18000A)]
  | 5 => [(0x050008, [], 0x1F4001F4),
      (0x05000C, [], 0xA030064),
      (0x050010, [], 0x14),
      (0x050350, [], 0x6400),
      (0x050360, [], 0x30008)]
  | 6 => [(0x060004, [], 0x2),
      (0x060008, [], 0x88B5),
      (0x06000C, [], 0x396),
      (0x060010, [], 0x300),
      (0x060014, [], 0x27100FA),
      (0x060100, [(16, 16)], 0xFA0)]
  | 8 => [(0x080004, [], 0x460000),
      (0x080008, [], 0x12C)]
  | 10 => [(0x0A0004, [], 0x801F4),
      (0x0A0008, [], 0x3E800C8),
      (0x0A000C, [], 0x3C),
      (0x0A0100, [(16, 96)], 0x1000)]
  | 11 => [(0x0B0008, [], 0x76C0),
      (0x0B0020, [(4, 6)], 0x258),
      (0x0B1000, [(32, 256)], 0x3000),
      (0x0B1014, [(32, 256)], 0xFFFFFFFF)]
  | 13 => [(0x0D0010, [(4096, 2)], 0x1)]
  | 14 => [(0x0E0010, [], 0x140)]
  | 16 => [(0x100004, [], 0x3200),
      (0x10010C, [(16, 16)], 0xA)]
  | 17 => [(0x110004, [], 0x320300),
      (0x110008, [], 0x88B6000A)]
  | 18 => [(0x120004, [], 0x1C)]
  | 19 => [(0x130004, [], 0x1012C)]
  | _ => []

/-- What the register at an address holds at reset in a lane (the Reset columns; identity from the identity record, 21 R454; log 1, log 2). -/
def resetReg (l : Lane) (a : Nat) : Word :=
  if a = Rg.ECN_MAC_LO then Config.macBase.setWidth 32
  else if a = Rg.ECN_MAC_HI then (Config.macBase >>> 32).setWidth 32
  else if a = Rg.BRG_VID then 0x03960000#32 ||| Config.oxauskVid.setWidth 32
  else if a = Rg.SYS_SERIAL_LO then Config.serial.setWidth 32
  else if a = Rg.SYS_SERIAL_HI then (Config.serial >>> 32).setWidth 32
  else if a = Rg.SYS_EUI_LO then Config.eui.setWidth 32
  else if a = Rg.SYS_EUI_HI then (Config.eui >>> 32).setWidth 32
  else if a = Rg.SYS_MAC_LO then Config.macBase.setWidth 32
  else if a = Rg.SYS_MAC_HI then (Config.macBase >>> 32).setWidth 32
  else if a = Rg.SYS_LANE then (match l with | .a => 0 | .b => 1 | .c => 2)
  else if Rg.PWR_WDTk_c 0 0 ≤ a ∧ a < Rg.PWR_WDTk_c 16 0 ∧ a % 16 < 12 then BitVec.ofNat 32 (wakeDelayDefault.getD ((a - Rg.PWR_WDTk_c 0 0) / 16) 0)
  else match (resetNums (a / 0x10000)).find? (fun r => r.1 ≤ a && onDims r.2.1 (a - r.1)) with
    | some r => BitVec.ofNat 32 r.2.2
    | none => 0

end Sys2Proof.Machine
end

