-- ==== Sys2Proof/Machine/Ops.lean ====
section
/-! DEFINITION. The named operations the meanings share: sparse tables in canonical form, register and field access, lane access, modes and voters, clocks, check values, reports and what leaves a port. -/

namespace Sys2Proof.Machine

/-! Sparse tables: a list of (key, value) pairs with rising keys and no entry equal to what an unlisted key reads as. -/

/-- What a table reads as at a key: its entry, or the value `d` gives an unlisted key. -/
def sget {α : Type} (d : Nat → α) : List (Nat × α) → Nat → α
  | [], k => d k
  | e :: l, k => if e.1 = k then e.2 else sget d l k

/-- Insert an entry before the first greater key. -/
def sins {α : Type} (k : Nat) (v : α) : List (Nat × α) → List (Nat × α)
  | [] => [(k, v)]
  | e :: l => if k < e.1 then (k, v) :: e :: l else e :: sins k v l

/-- Write one key: the old entry goes, and the new one is listed unless it equals what an unlisted key reads as. -/
def sset {α : Type} [DecidableEq α] (d : Nat → α) (l : List (Nat × α)) (k : Nat) (v : α) : List (Nat × α) :=
  if v = d k then l.filter (fun e => e.1 != k) else sins k v (l.filter (fun e => e.1 != k))

/-- The canonical form of a sparse table: keys strictly rise, and no entry equals what an unlisted key reads as. -/
def swf {α : Type} [DecidableEq α] (d : Nat → α) : List (Nat × α) → Bool
  | [] => true
  | e :: l => decide (e.2 ≠ d e.1) && l.all (fun f => decide (e.1 < f.1)) && swf d l

/-- Unlisted bytes read 0 (log 3). -/
abbrev zByte : Nat → Byte := fun _ => 0
/-- Unlisted counts read 0. -/
abbrev zNat : Nat → Nat := fun _ => 0

/-! Bit fields of a word. -/

/-- Bits `[hi:lo]` of a word, as a number. -/
def getBits (w : Word) (hi lo : Nat) : Nat := (w.toNat >>> lo) % 2 ^ (hi + 1 - lo)

/-- A word with bits `[hi:lo]` replaced by the low bits of `v`. -/
def putBits (w : Word) (hi lo v : Nat) : Word :=
  let n := hi + 1 - lo
  BitVec.ofNat 32 (w.toNat % 2 ^ lo + (v % 2 ^ n) * 2 ^ lo + (w.toNat / 2 ^ (hi + 1)) * 2 ^ (hi + 1))

/-- A flag as a number. -/
def b2n (b : Bool) : Nat := if b then 1 else 0

/-! Registers of a lane (07 R154): the one place they are read and written. -/

/-- The content of the register at an offset. -/
def rget (l : LaneState) (a : Nat) : Word := sget (resetReg l.id) l.regs a

/-- Replace the content of the register at an offset. -/
def rset (l : LaneState) (a : Nat) (v : Word) : LaneState :=
  { l with regs := sset (resetReg l.id) l.regs a v }

/-- A field of a register. -/
def fget (l : LaneState) (a hi lo : Nat) : Nat := getBits (rget l a) hi lo

/-- Replace a field of a register. -/
def fset (l : LaneState) (a hi lo v : Nat) : LaneState := rset l a (putBits (rget l a) hi lo v)

/-- One bit of a register. -/
def bget (l : LaneState) (a i : Nat) : Bool := fget l a i i == 1

/-- Replace one bit of a register. -/
def bset (l : LaneState) (a i : Nat) (b : Bool) : LaneState := fset l a i i (b2n b)

/-- Add to a counter field, which saturates (00 R7: counters stop at their largest value). -/
def finc (l : LaneState) (a hi lo n : Nat) : LaneState :=
  fset l a hi lo (min (fget l a hi lo + n) (2 ^ (hi + 1 - lo) - 1))

/-- A 64-bit value held in two registers. -/
def rget64 (l : LaneState) (lo hi : Nat) : DWord := (rget l hi ++ rget l lo : BitVec 64)

/-- Replace a 64-bit value held in two registers. -/
def rset64 (l : LaneState) (lo hi : Nat) (v : DWord) : LaneState :=
  rset (rset l lo (v.setWidth 32)) hi ((v >>> 32).setWidth 32)

/-! Lanes of the module. -/

/-- The three lanes in order. -/
def allLanes : List Lane := [.a, .b, .c]

/-- The number of a lane: A 0, B 1, C 2. -/
def laneNo : Lane → Nat
  | .a => 0
  | .b => 1
  | .c => 2

/-- The lane of a number; 3 and above name C. -/
def laneOf : Nat → Lane
  | 0 => .a
  | 1 => .b
  | _ => .c

/-- A lane of the module. -/
def State.lane (s : State) : Lane → LaneState
  | .a => s.la
  | .b => s.lb
  | .c => s.lc

/-- Replace a lane of the module. -/
def State.setLane (s : State) (l : Lane) (x : LaneState) : State :=
  match l with
  | .a => { s with la := x }
  | .b => { s with lb := x }
  | .c => { s with lc := x }

/-- Apply a change to every lane. -/
def State.mapLanes (s : State) (f : LaneState → LaneState) : State :=
  { s with la := f s.la, lb := f s.lb, lc := f s.lc }

/-- Put the same value into one register of every lane: what the module shows in each lane's copy (01 R9). -/
def State.rsetAll (s : State) (a : Nat) (v : Word) : State := s.mapLanes (fun l => rset l a v)

/-- Put the same value into one field of a register of every lane. -/
def State.fsetAll (s : State) (a hi lo v : Nat) : State := s.mapLanes (fun l => fset l a hi lo v)

/-! Modes, voters and states (02 Table CYC-7; 09 Tables TRI-11, TRI-13). -/

/-- The operating mode a lane shows. -/
def modeOf (l : LaneState) : Mode :=
  match fget l Rg.CYC_STATUS 5 4 with
  | 1 => .run
  | 2 => .hold
  | _ => .stop

/-- The code of an operating mode in CYC_STATUS. -/
def modeCode : Mode → Nat
  | .stop => 0
  | .run => 1
  | .hold => 2

/-- Set the operating mode a lane shows. -/
def setMode (l : LaneState) (m : Mode) : LaneState := fset l Rg.CYC_STATUS 5 4 (modeCode m)

/-- The module is in the safe state, as the lane sees it (09 R212). -/
def isSafe (l : LaneState) : Bool := bget l Rg.TRI_STATUS 9

/-- Whether a lane sees lane `x` as voting. -/
def sees (l : LaneState) (x : Lane) : Bool := bget l Rg.TRI_STATUS (4 + laneNo x)

/-- The lanes that vote, as a lane sees it. -/
def voters (l : LaneState) : List Lane := allLanes.filter (sees l)

/-- Whether the lane itself votes. -/
def votes (l : LaneState) : Bool := sees l l.id

/-- The module's voting lanes, by their own view. -/
def State.voting (s : State) : List Lane := allLanes.filter (fun x => votes (s.lane x))

/-- The module is in the safe state, by the view of any lane. -/
def State.safe (s : State) : Bool := allLanes.any (fun x => isSafe (s.lane x))

/-- The mode of the module: that of its first voting lane, or of lane A. -/
def State.mode (s : State) : Mode := modeOf (s.lane (s.voting.headD .a))

/-- The start-up phase the module shows (21 Table SYS-10). -/
def phaseOf (l : LaneState) : Nat := fget l Rg.SYS_STATUS 2 0

/-! Clocks (12 R264): time as whole nanoseconds since the epoch. -/

/-- A clock as whole nanoseconds. -/
def clockNs (c : Clock) : Int := (c.sec : Int) * 1000000000 + c.ns

/-- A clock set to whole nanoseconds; its fraction and residue keep their values. -/
def clockSet (c : Clock) (t : Int) : Clock :=
  { c with sec := ((t / 1000000000) % 2 ^ 48).toNat, ns := (t % 1000000000).toNat }

/-- Working time of a lane in ns. -/
def wNow (l : LaneState) : Int := clockNs l.mer.w

/-- The base cycle B in ns (02 R32). -/
def baseNs (l : LaneState) : Nat := fget l Rg.CYC_BASE 19 0 * 1000

/-- T(n) in ns: the start of base cycle n (02 R32). -/
def tOf (l : LaneState) (n : Nat) : Int := (n * baseNs l : Nat)

/-! Bytes. -/

/-- A number as `n` bytes, lowest first. -/
def leBytes : Nat → Nat → Bytes
  | 0, _ => []
  | n + 1, v => BitVec.ofNat 8 v :: leBytes n (v / 256)

/-- The number bytes stand for, lowest first. -/
def leNat : Bytes → Nat
  | [] => 0
  | b :: l => b.toNat + 256 * leNat l

/-- A signed number as `n` bytes, lowest first. -/
def leInt (n : Nat) (v : Int) : Bytes := leBytes n (v % (2 ^ (8 * n) : Nat)).toNat

/-- Read `n` bytes of a sparse byte table. -/
def sbytes (m : List (Nat × Byte)) (a n : Nat) : Bytes := (List.range n).map (fun i => sget zByte m (a + i))

/-- Write bytes into a sparse byte table. -/
def sput (m : List (Nat × Byte)) (a : Nat) : Bytes → List (Nat × Byte)
  | [] => m
  | b :: l => sput (sset zByte m a b) (a + 1) l

/-- Read memory of a lane without its code: `n` bytes. -/
def mrd (l : LaneState) (a n : Nat) : Bytes := sbytes l.mem a n

/-- Add to a list the numbers of another it does not hold. -/
def addNew {α : Type} [BEq α] (l m : List α) : List α := m.foldl (fun l x => if l.contains x then l else l ++ [x]) l

/-- Bytes of the codeword at an address: 4 in SRAM and AOM, 16 in DRAM (07 R161, R163). -/
def cwLen (cw : Nat) : Nat := if 0x100000000 ≤ cw then 16 else 4

/-- A codeword written whole loses its error and its poison (07 R164). -/
def eccCleared (l : LaneState) (a n : Nat) : LaneState :=
  let keeps (cw : Nat) : Bool := decide (cw < a) || decide (a + n < cw + cwLen cw)
  if l.ecc.errs == [] && l.ecc.poison == [] then l
  else
    let p := l.ecc.poison.filter keeps
    let y := { l with ecc := { l.ecc with errs := l.ecc.errs.filter (fun x => keeps x.1), poison := p } }
    if p.length = l.ecc.poison.length then y else rset y Rg.MEM_POISON_CNT (BitVec.ofNat 32 p.length)

/-- An armed injection applies to a write of its codeword (07 R172, Table MEM-10). -/
def eccInjected (l : LaneState) (a n : Nat) : LaneState :=
  if !bget l Rg.MEM_ECC_INJ 31 then l
  else
    let t := (rget64 l Rg.MEM_ECC_INJ_ADDR_LO Rg.MEM_ECC_INJ_ADDR_HI).toNat
    let cw := t / cwLen t * cwLen t
    if a + n ≤ cw || cw + cwLen cw ≤ a then l
    else
      let v := fget l Rg.MEM_ECC_INJ 23 16 % (if cwLen cw = 4 then 16 else 256)
      let pat := (fget l Rg.MEM_ECC_INJ 4 0, v) :: (if bget l Rg.MEM_ECC_INJ 24 then [(fget l Rg.MEM_ECC_INJ 12 8, v)] else [])
      bset { l with ecc := { l.ecc with errs := (cw, pat) :: l.ecc.errs.filter (fun x => x.1 != cw) } } Rg.MEM_ECC_INJ 31 false

/-- A write to a range reaches the memory code (07 R164, Table MEM-10). -/
def eccWritten (l : LaneState) (a n : Nat) : LaneState := eccInjected (eccCleared l a n) a n

/-- The copy set of reintegration, as ranges of 256-byte blocks in ascending order: SRAM but the auxiliary banks, and the declared vital DRAM region (09 R219). -/
def copyRanges (l : LaneState) : List (Nat × Nat) :=
  ((List.range 16).filter (fun k => !(bget l Rg.TRP_MODE 0 && bget l Rg.TRP_AUX_BANKS k))).map (fun k => (1024 * k, 1024))
    ++ [((rget64 l Rg.MEM_VDR_BASE_LO Rg.MEM_VDR_BASE_HI).toNat / 256, fget l Rg.MEM_VDR_LEN 26 0 / 256)]

/-- Whether a block belongs to the copy set. -/
def inCopySet (l : LaneState) (b : Nat) : Bool := (copyRanges l).any (fun r => decide (r.1 ≤ b) && decide (b < r.1 + r.2))

/-- The number of blocks of the copy set. -/
def copyCount (l : LaneState) : Nat := ((copyRanges l).map (·.2)).foldl (· + ·) 0

/-- A block by its place in ascending order. -/
def nthBlock : List (Nat × Nat) → Nat → Option Nat
  | [], _ => none
  | r :: rs, i => if i < r.2 then some (r.1 + i) else nthBlock rs (i - r.2)

/-- An active member marks blocks of an area in the private dirty map of the partner link (19 R421). -/
def prtMark (l : LaneState) (area : Nat) (bs : List Nat) : LaneState :=
  if fget l Rg.PRT_STATUS 2 0 = 2 then { l with prt := { l.prt with dirty := addNew l.prt.dirty (bs.map (fun b => (area, b))) } } else l

/-- A store to a range reaches the memory code, and marks its 256-byte blocks of the copy set: in the dirty map of a reintegration source, and in the partner link's maps of an active member (07 R164; 09 R220; 19 R421). -/
def markDirty (l : LaneState) (a n : Nat) : LaneState :=
  let l := eccWritten l a n
  if !bget l Rg.TRI_REINT_STATUS 4 && fget l Rg.PRT_STATUS 2 0 != 2 then l
  else
    let bs := ((List.range ((a % 256 + n + 255) / 256)).map (fun i => a / 256 + i)).filter (inCopySet l)
    let l := if bget l Rg.TRI_REINT_STATUS 4 then { l with reint := { l.reint with dirty := addNew l.reint.dirty bs } } else l
    prtMark (prtMark l 0 bs) 1 ((bs.filter (fun b => decide (0x3E00 ≤ b) && decide (b < 0x3F00))).map (· - 0x3E00))

/-- Write memory of a lane without its code, and mark its blocks. -/
def mwr (l : LaneState) (a : Nat) (b : Bytes) : LaneState := markDirty { l with mem := sput l.mem a b } a b.length

/-- SRAM address of the input image (07 Table MEM-3). -/
abbrev inBase : Nat := 0x3E0000
/-- SRAM address of the output image (07 Table MEM-3). -/
abbrev outBase : Nat := 0x3F0000
/-- Bytes of the output image that programs own (06 Table MOD-3). -/
abbrev outLen : Nat := 0xFF00

/-! Check values (11 R255; 09 R196; 10 R235). -/

/-- A catalogue CRC's parameters (11 R254). -/
structure CrcPar where
  width : Nat
  poly : Nat
  init : Nat
  xorOut : Nat
  refIn : Bool
  refOut : Bool
deriving DecidableEq, Repr

/-- The low `n` bits of a number in reverse order. -/
def reflectBits : Nat → Nat → Nat
  | 0, _ => 0
  | n + 1, v => (v % 2) * 2 ^ n + reflectBits n (v / 2)

/-- Feed the bits of a byte, `n` of them left, most significant first (11 R255). -/
def crcBits (p : CrcPar) (b : Nat) : Nat → Nat → Nat
  | 0, v => v
  | n + 1, v =>
    let top := (v / 2 ^ (p.width - 1) + b / 2 ^ n) % 2
    let v' := (v * 2) % 2 ^ p.width
    crcBits p b n (if top = 1 then v' ^^^ p.poly % 2 ^ p.width else v')

/-- Feed one byte (11 R255). -/
def crcByte (p : CrcPar) (v : Nat) (b : Byte) : Nat :=
  crcBits p (if p.refIn then reflectBits 8 b.toNat else b.toNat) 8 v

/-- The result of a running value (11 R255). -/
def crcResult (p : CrcPar) (v : Nat) : Nat :=
  (if p.refOut then reflectBits p.width v else v) ^^^ p.xorOut % 2 ^ p.width

/-- The check value of a byte string. -/
def crcOf (p : CrcPar) (bs : Bytes) : Nat := crcResult p (bs.foldl (crcByte p) (p.init % 2 ^ p.width))

/-- CRC-64 of 09 R196. -/
def crc64 (bs : Bytes) : DWord := BitVec.ofNat 64 (crcOf ⟨64, 0x42F0E1EBA9EA3693, 0, 0, false, false⟩ bs)

/-- CRC-32C of 10 R235 under a key. -/
def crc32c (key : Word) (bs : Bytes) : Word :=
  BitVec.ofNat 32 (crcOf ⟨32, 0x1EDC6F41, key.toNat, 0xFFFFFFFF, true, true⟩ bs)

/-! Reports and what leaves a port. -/

/-- Log what a lane sends, newest first (log 5). -/
def emit (l : LaneState) (e : Emit) : LaneState := { l with sent := e :: l.sent }

/-- Log what Ringmaster sends, newest first (log 5). -/
def State.rmEmit (s : State) (e : Emit) : State := { s with rm := { s.rm with sent := e :: s.rm.sent } }

/-- The cycle number a report carries (22 Table EVR-1). -/
def cycleNo (l : LaneState) : DWord := rget64 l Rg.CYC_CYCLE_LO Rg.CYC_CYCLE_HI

/-- The lane mask of one lane (22 Table EVR-1). -/
def laneBit (l : Lane) : BitVec 3 := 1#3 <<< laneNo l

/-- Pass a report to Ringmaster through the MBX block: held there until Ringmaster takes it, 256 at most while it is down; what does not fit is counted in MBX_EVQ_LOST (22 R475). -/
def pushReport (l : LaneState) (r : Report) : LaneState :=
  if !(bget l Rg.MBX_STATUS 0) && 256 ≤ l.mbx.evq.length then finc l Rg.MBX_EVQ_LOST 15 0 1
  else
    let l := { l with mbx := { l.mbx with evq := l.mbx.evq ++ [r] } }
    fset l Rg.MBX_STATUS 11 4 (if bget l Rg.MBX_STATUS 0 then 0 else min (l.mbx.evq.length / 4) 255)

/-- Raise a lane event (path L, 22 R483). -/
def event (l : LaneState) (code data : Nat) (ext : Nat := 0) : LaneState :=
  pushReport l { code := BitVec.ofNat 16 code, data := BitVec.ofNat 32 data, ext := BitVec.ofNat 128 ext,
                 path := 1, lanes := laneBit l.id, cycle := cycleNo l, time := wNow l,
                 timeValid := bget l Rg.MER_STATUS 5 }

/-- TIME_VALID, module-wide: two of three running instances, or every running one of fewer (22 R484). -/
def State.timeValid (s : State) : Bool :=
  let run := allLanes.filter (fun x => (s.lane x).mer.running)
  let ok := run.filter (fun x => bget (s.lane x) Rg.MER_STATUS 5)
  if run.length = 3 then 2 ≤ ok.length else run.length = ok.length && run != []

/-- Whether two reports merge: path L, equal code, data and cycle (22 R483). -/
def mergesWith (a b : Report) : Bool :=
  a.path == 1 && b.path == 1 && a.code == b.code && a.data == b.data && a.cycle == b.cycle
    && decide (b.time - a.time ≤ 10000000)

/-- Add a report to those Ringmaster holds, merging lane reports (22 R483). -/
def mergeReport (rs : List Report) (r : Report) : List Report :=
  if rs.any (fun a => mergesWith a r) then rs.map (fun a => if mergesWith a r then { a with lanes := a.lanes ||| r.lanes } else a)
  else rs ++ [r]

/-- Whether sequence number `q` comes after `p`, modulo 2³². -/
def seqAfter (p q : Word) : Bool := 1 ≤ (q - p).toNat && (q - p).toNat < 2147483648

/-- The status a force operation status code means (06 Table MOD-5). -/
def forceStat : Nat → CmdStatus
  | 0 => .ok
  | 1 => .full
  | 5 => .auth
  | 6 => .mode
  | 7 => .notFound
  | _ => .refused

/-- Ringmaster takes one released item of stream 0x0600, once however many lanes released it: an event becomes one record with the lanes that voted, a force status answers the operation (22 R475, R483; 06 R143). -/
def State.takeItem (s : State) (x : LaneState) (v : VItem) : State :=
  let new := match s.rm.took.find? (fun e => e.1 == v.q.stream) with
    | some e => seqAfter e.2 v.seq
    | none => true
  if !new then s
  else
    let s := { s with rm := { s.rm with took := (v.q.stream, v.seq) :: s.rm.took.filter (fun e => e.1 != v.q.stream) } }
    match v.q.pay with
    | .event c d t e =>
      let r : Report :=
        { code := BitVec.ofNat 16 c, data := d, ext := BitVec.ofNat 128 e, path := 2,
          lanes := BitVec.ofNat 3 (fget x Rg.TRI_STATUS 6 4), cycle := BitVec.ofNat 64 v.cycle, task := BitVec.ofNat 8 t,
          time := wNow x, timeValid := s.timeValid }
      { s with rm := { s.rm with evr := { s.rm.evr with reports := s.rm.evr.reports ++ [r] } } }
    | .forceStatus _ st => { s with rm := { s.rm with status := forceStat st } }
    | _ => s

/-- Take the stream 0x0600 items a lane's MBX block holds. -/
def State.takeItems (s : State) (x : Lane) : State :=
  let l := s.lane x
  let mine := l.mbx.itq.filter (fun v => v.q.stream == 0x600)
  let s := s.setLane x { l with mbx := { l.mbx with itq := l.mbx.itq.filter (fun v => v.q.stream != 0x600) } }
  mine.foldl (fun s v => s.takeItem l v) s

/-- Ringmaster takes what the MBX blocks hold, lane A first, while it runs (22 R475, R483). -/
def State.takeReports (s : State) : State :=
  if s.rm.alive then
    let rs := (s.la.mbx.evq ++ s.lb.mbx.evq ++ s.lc.mbx.evq).map (fun r => { r with timeValid := s.timeValid })
    let s := s.mapLanes (fun l => fset { l with mbx := { l.mbx with evq := [] } } Rg.MBX_STATUS 11 4 0)
    let s := { s with rm := { s.rm with evr := { s.rm.evr with reports := rs.foldl mergeReport s.rm.evr.reports } } }
    allLanes.foldl State.takeItems s
  else s

/-- A released item waits for Ringmaster in the MBX block; while Ringmaster is down 1,024 at most, and what does not fit is counted (22 R475). -/
def holdItem (l : LaneState) (v : VItem) : LaneState :=
  if !(bget l Rg.MBX_STATUS 0) && 1024 ≤ l.mbx.itq.length then finc l Rg.MBX_EVQ_LOST 31 16 1
  else { l with mbx := { l.mbx with itq := l.mbx.itq ++ [v] } }

/-- Ringmaster itself reports an event (path R). -/
def State.rmEvent (s : State) (code data : Nat) : State :=
  let run := allLanes.filter (fun x => (s.lane x).mer.running)
  let x := s.lane (run.headD .a)
  let r : Report := { code := BitVec.ofNat 16 code, data := BitVec.ofNat 32 data, path := 0,
                      cycle := if run = [] then 0xFFFFFFFFFFFFFFFF#64 else cycleNo x,
                      time := if run = [] then s.rm.start.rmW.getD s.rm.start.savedW else wNow x, timeValid := s.timeValid }
  { s with rm := { s.rm with evr := { s.rm.evr with reports := mergeReport s.rm.evr.reports r } } }

/-- A command that reaches one lane: its effect on that lane, after which Ringmaster takes the reports it raised. -/
def State.onLane (s : State) (l : Lane) (f : LaneState → LaneState) : State :=
  (s.setLane l (f (s.lane l))).takeReports

/-- A command that reaches every lane at once. -/
def State.onLanes (s : State) (f : LaneState → LaneState) : State := (s.mapLanes f).takeReports

/-- The status Ringmaster returns for a command. -/
def State.answer (s : State) (c : CmdStatus) : State := { s with rm := { s.rm with status := c } }

/-- Take one free value: advance the counter (log 4). -/
def State.tick4 (s : State) : State := { s with freeCtr := s.freeCtr + 1 }

/-- Whether a command's source has MAINTAINER level (06 R136: backbone commands carry OPERATOR at most). -/
def isMaintainer (c : CmdSrc) : Bool := !c.backbone && c.level == .maintainer

/-- Image types by number 1 to 5 (03 Table JFM-9). -/
def imgNo : ImgType → Nat
  | .ringmaster => 1
  | .executive => 2
  | .vital => 3
  | .auxiliary => 4
  | .config => 5

/-- All image types, in order. -/
def allTypes : List ImgType := [.ringmaster, .executive, .vital, .auxiliary, .config]

/-- Slots and selection of an image type. -/
def RmState.img (r : RmState) (t : ImgType) : ImgSel := r.imgs[imgNo t - 1]?.getD {}

/-- Replace slots and selection of an image type. -/
def RmState.setImg (r : RmState) (t : ImgType) (x : ImgSel) : RmState := { r with imgs := r.imgs.setIfInBounds (imgNo t - 1) x }

/-- Change Ringmaster's part of the state. -/
def State.onRm (s : State) (f : RmState → RmState) : State := { s with rm := f s.rm }

/-- A command finishes in a next state. -/
abbrev Res := Host.Outcome State Fault Refusal

end Sys2Proof.Machine
end

