-- ==== Sys2Proof/Machine/Access.lean ====
section
/-! DEFINITION. Who may read and write which register, and what each access kind does (00 R4 to R8, R545, Table SCO-2; 21 R455). -/

namespace Sys2Proof.Machine

/-- Split mode is in force in the lane (08 Table TRP-6). -/
def isSplit (l : LaneState) : Bool := bget l Rg.TRP_MODE 0

/-- Debug has taken the lane out of comparison (08 R191). -/
def outOfComparison (l : LaneState) : Bool := fget l Rg.TRP_STATUS 1 0 == 2

/-- Agents that may write a compare unit's registers (12 Table MER-5: split by unit). -/
def cmpWriters (l : LaneState) (u : Nat) : List Agent :=
  if 2 ≤ u ∧ u ≤ 5 then [.v, .m, .d]
  else if 6 ≤ u ∧ u ≤ 13 then (if isSplit l then [.x, .m, .d] else [.m, .d])
  else if u = 15 then [.m]
  else []

/-- Agents that may read a compare unit's registers. -/
def cmpReaders (u : Nat) : List Agent := if 2 ≤ u ∧ u ≤ 5 then [.v, .m, .d] else [.x, .m, .d]

/-- Whether an address is a control register of a compare unit, and of which. -/
def cmpUnit (a : Nat) : Option Nat :=
  if 0x050100 ≤ a ∧ a < 0x050200 then some ((a - 0x050100) / 16) else none

/-- In bring-up only these registers answer, and only reads by M and D (21 R455). -/
def bringUpRead (ag : Agent) (a : Nat) : Bool :=
  (ag == .m || ag == .d) && (a == Rg.SYS_ID || a == Rg.SYS_SERIAL_LO || a == Rg.SYS_SERIAL_HI || a == Rg.SYS_STATUS)

/-- Whether an agent exists in the lane: an auxiliary core only in split mode (08 R183). -/
def agentHere (l : LaneState) : Agent → Bool
  | .x => isSplit l
  | _ => true

/-- Whether an agent may read a register; otherwise the access ends in a bus error and changes nothing (00 R7). -/
def mayRead (l : LaneState) (ag : Agent) (a : Nat) : Bool :=
  match regRow a with
  | none => false
  | some r =>
    if phaseOf l = 0 then bringUpRead ag a
    else agentHere l ag && (match cmpUnit a with
      | some u => (cmpReaders u).contains ag
      | none => r.readers.contains ag)

/-- Whether an agent may write a register. Debug writes check-value state only on a lane out of comparison (11 R262). -/
def mayWrite (l : LaneState) (ag : Agent) (a : Nat) : Bool :=
  match regRow a with
  | none => false
  | some r =>
    if phaseOf l = 0 then false
    else agentHere l ag && (match cmpUnit a with
      | some u => (cmpWriters l u).contains ag
      | none => r.writers.contains ag &&
          !(ag == .d && 0x0C0000 ≤ a && a < 0x0C0200 && 0x1C ≤ a % 64 && !outOfComparison l) &&
          !(ag == .x && 0x0D0000 ≤ a && a < 0x0D1000))

/-- What an RC register holds after a read cleared it: 0, but 1,000 in the slack fields (00 Table SCO-2). -/
def rcClear (a : Nat) : Word :=
  if a = Rg.CYC_SLACK_MIN then 0x3E8
  else if Rg.CYC_TASKt_STAT 0 ≤ a ∧ a < Rg.CYC_TASKt_STAT 16 ∧ a % 16 = 8 then 0x3E80000
  else 0

/-- Replace the bits of `m` in `old` by those of `new`. -/
def maskWord (m : Nat) (old new : Word) : Word := (old &&& ~~~(BitVec.ofNat 32 m)) ||| (new &&& BitVec.ofNat 32 m)

/-- A plain register write by its access kind (00 Table SCO-2): RWS sets only in STOP, RO and RC do not change, W1C clears the bits written 1. What a WO register triggers is its own command. -/
def plainWrite (l : LaneState) (a : Nat) (v : Word) : LaneState :=
  match regRow a with
  | none => l
  | some r =>
    match r.acc with
    | .rw => rset l a (maskWord r.wmask (rget l a) v)
    | .rws => if modeOf l = .stop then rset l a (maskWord r.wmask (rget l a) v) else l
    | .w1c => rset l a (rget l a &&& ~~~(v &&& BitVec.ofNat 32 r.wmask))
    | _ => l

/-- What a read of a register returns: WO registers read 0. -/
def readVal (l : LaneState) (a : Nat) : Word :=
  match regRow a with
  | none => 0
  | some r => if r.acc = .wo then 0 else rget l a

/-- A plain register read: an RC register is cleared to its clear value. -/
def plainRead (l : LaneState) (a : Nat) : LaneState :=
  match regRow a with
  | none => l
  | some r => if r.acc = .rc then rset l a (rcClear a) else l

/-- A register write command: a permitted one has the effect given, any other ends in a bus error and changes nothing (00 R7; log 5). -/
def guardWrite (l : LaneState) (ag : Agent) (a : Nat) (f : LaneState → LaneState) : LaneState :=
  if mayWrite l ag a then f { l with berr := false } else { l with berr := true }

/-- A register read command: a permitted one returns the value and has the effect given, any other ends in a bus error and changes nothing (00 R7; log 5). -/
def guardRead (l : LaneState) (ag : Agent) (a : Nat) (v : Word) (f : LaneState → LaneState) : LaneState :=
  if mayRead l ag a then f { l with berr := false, rdval := v } else { l with berr := true }

end Sys2Proof.Machine
end

