-- ==== Sys2Proof/Machine/Instance.lean ====
section
/-! DEFINITION. The running task instance: what it may reach, the vote items it queues, and the outcome of a store to a register that acts (02 R34 to R44; 04 R99). -/

namespace Sys2Proof.Machine

/-- The outcome of a vital store to a register that acts: done, a bus error, or the error flag E set and nothing else (04 R84; 16 R359). -/
inductive WrRes where
  | ok (l : LaneState)
  | bus
  | setE

/-- The instance of a slot. -/
def instOf (l : LaneState) (t : Nat) : Option Instance := l.exe.insts.find? (fun i => i.slot == t && !i.done && !i.ended)

/-- The instance the vital core runs. -/
def runInst (l : LaneState) : Option Instance := l.exe.running.bind (instOf l)

/-- Change the live instance of a slot. -/
def updInst (l : LaneState) (t : Nat) (f : Instance → Instance) : LaneState :=
  { l with exe := { l.exe with insts := l.exe.insts.map (fun i => if i.slot == t && !i.done && !i.ended then f i else i) } }

/-- Change the running instance. -/
def updRun (l : LaneState) (f : Instance → Instance) : LaneState :=
  match l.exe.running with
  | some t => updInst l t f
  | none => l

/-- The task table entry of a slot. -/
def taskEnt (l : LaneState) (t : Nat) : TaskEnt := ((l.app.getD {}).tasks.find? (fun e => e.slot == t)).getD {}

/-- KIND of a task slot (02 Table CYC-9). -/
def kindOf (l : LaneState) (t : Nat) : Nat := fget l (Rg.CYC_TASKt_CFG t) 1 0

/-- PERIOD of a task slot. -/
def periodOf (l : LaneState) (t : Nat) : Nat := fget l (Rg.CYC_TASKt_CFG t) 19 8

/-- PRIO of a task slot; 0 is the highest. -/
def prioOf (l : LaneState) (t : Nat) : Nat := fget l (Rg.CYC_TASKt_CFG t) 7 4

/-- A periodic task with PERIOD 1 reads the live input image; every other task its own copy (02 R39). -/
def readsLive (l : LaneState) (t : Nat) : Bool := kindOf l t == 1 && periodOf l t == 1

/-- `n` bytes of an instance's own input image at an offset (02 R39). -/
def instIn (l : LaneState) (i : Instance) (off n : Nat) : Bytes :=
  if readsLive l i.slot then mrd l (inBase + off) n
  else (i.input.drop (off - (taskEnt l i.slot).inStart)).take n

/-- Queue a vote item in the running instance, offered at its COMMIT (02 R44 step 3). -/
def queueItem (l : LaneState) (stream : Nat) (p : Payload) : LaneState :=
  updRun l (fun i => { i with items := i.items ++ [⟨stream, p⟩] })

/-- HEAD, ACKED and OVR of a ring (16 Table CAN-1; 17 R381). -/
def ringOf (l : LaneState) (r : Nat) : Word × Word × Word := sget (fun _ => (0, 0, 0)) l.exe.rings r

/-- Replace HEAD, ACKED and OVR of a ring. -/
def setRing (l : LaneState) (r : Nat) (v : Word × Word × Word) : LaneState :=
  { l with exe := { l.exe with rings := sset (fun _ => (0, 0, 0)) l.exe.rings r v } }

/-- A word at an offset of a byte string. -/
def wordAt (b : Bytes) (off : Nat) : Word := BitVec.ofNat 32 (leNat ((b.drop off).take 4))

/-- An acknowledgement written by the running instance: it must lie from ACKED to HEAD, modulo 2³², as the instance's own input image shows them at the ring header's offset; the last one counts (16 R357; 17 R381). -/
def ackStore (l : LaneState) (ring task off : Nat) (v : Word) : WrRes :=
  match runInst l with
  | none => .bus
  | some i =>
    let h := instIn l i off 8
    let head := wordAt h 0
    let acked := wordAt h 4
    if i.slot ≠ task then .bus
    else if (head - acked).toNat < (v - acked).toNat then .bus
    else .ok (updRun l (fun i => { i with acks := i.acks.filter (fun a => a.1 != ring) ++ [(ring, v)] }))

/-- The 2-of-3 transmit-enable gate of a port: at least two lanes assert their input (01 R17). Ports: 0 Line X, 1 Line Y, 2 consist, 3 to 6 CAN0 to CAN3, 7 backplane, 8 partner link. -/
def State.gate (s : State) (p : Nat) : Bool :=
  2 ≤ (allLanes.filter (fun x => (s.lane x).tri.enables.contains p)).length

/-- Whether a lane drives a port now: it owns it and the gate is open (01 R16, R17). -/
def State.sends (s : State) (l : Lane) (p : Nat) : Bool := (s.lane l).tri.owns.contains p && s.gate p

/-- A lane withdraws its transmit-enable input of a port (01 R17). -/
def withdrawEnable (l : LaneState) (p : Nat) : LaneState :=
  { l with tri := { l.tri with enables := l.tri.enables.filter (· != p) } }

/-- While lane `l` sends on a port, each other lane compares what it sees at its readback tap with what it computes itself, and on a difference withdraws its input (01 R17 case 1). -/
def State.tapCheck (s : State) (l : Lane) (p : Nat) (differs : LaneState → Bool) : State :=
  if s.sends l p then
    allLanes.foldl (fun s y => if y != l && differs (s.lane y) then s.setLane y (withdrawEnable (s.lane y) p) else s) s
  else s

/-- A module that is part of a pair and not active releases no task and drives nothing (19 Table PRT-1). -/
def isStandby (l : LaneState) : Bool := fget l Rg.PRT_STATUS 2 0 == 1 || 3 ≤ fget l Rg.PRT_STATUS 2 0

end Sys2Proof.Machine
end

