-- ==== Sys2Proof/Machine/Can.lean ====
section
/-! DEFINITION. The four CAN FD controllers of a lane (16): filters, staging, queues, mailboxes, cancellation, errors and bus-off. Bits on the wire, bit timing and the sampling of TXD are not modelled: a command says what the controller saw (log 13). -/

namespace Sys2Proof.Machine

/-- A controller of a lane. -/
def canOf (l : LaneState) (k : Nat) : CanState := l.can[k]?.getD {}

/-- Replace a controller of a lane. -/
def setCan (l : LaneState) (k : Nat) (c : CanState) : LaneState := { l with can := l.can.setIfInBounds k c }

/-- The state shown in CAN_STATUS [2:0] (16 Table CAN-6). -/
def canSt (l : LaneState) (k : Nat) : Nat := fget l (Rg.CAN_STATUS k) 2 0

/-- A mailbox; an unlisted one is empty. -/
def mbOf (l : LaneState) (k m : Nat) : CanMb := sget (fun _ => {}) (canOf l k).mbs m

/-- Replace a mailbox, and show in CAN_TXPEND whether it holds a pending frame. -/
def setMb (l : LaneState) (k m : Nat) (b : CanMb) : LaneState :=
  let c := canOf l k
  bset (setCan l k { c with mbs := sset (fun _ => {}) c.mbs m b }) (Rg.CAN_TXPEND k) m b.frame.isSome

/-- Set the state field of CAN_MBmSTAT. -/
def mbStat (l : LaneState) (k m v : Nat) : LaneState := fset l (Rg.CAN_MBmSTAT k m) 2 0 v

/-- Show TEC and REC in CAN_ERR and the error state they mean in CAN_STATUS: passive from 128, bus-off above 255 (16 R364, R366; ISO 11898-1). -/
def showErr (l : LaneState) (k : Nat) : LaneState :=
  let c := canOf l k
  let l := fset (fset l (Rg.CAN_ERR k) 7 0 (min c.tec 255)) (Rg.CAN_ERR k) 15 8 (min c.rec_ 255)
  let st := if bget l (Rg.CAN_CTRL k) 0 then 0 else if bget l (Rg.CAN_CFG k) 2 then 4
    else if 255 < c.tec then 3 else if 128 ≤ c.tec ∨ 128 ≤ c.rec_ then 2 else 1
  fset l (Rg.CAN_STATUS k) 2 0 st

/-- Whether the controller is enabled and on the bus. -/
def canOn (l : LaneState) (k : Nat) : Bool :=
  bget l (Rg.CAN_CFG k) 0 && !bget l (Rg.CAN_CTRL k) 0 && (canSt l k == 1 || canSt l k == 2 || canSt l k == 4)

/-- The identifier bits a filter compares: a base identifier counts [17:0] as 0 (16 R354). -/
def canKey (id : Word) : Word := if id.getLsbD 29 then id else id &&& 0xFFFC0000#32

/-- Whether a filter pair matches a frame's ID (16 R354). -/
def fltMatch (l : LaneState) (k i : Nat) (id : Word) : Bool :=
  ((canKey id ^^^ rget l (Rg.CAN_FLTiID k i)) &&& rget l (Rg.CAN_FLTiMASK k i)) == 0

/-- The first enabled filter that matches (16 R354). -/
def fltFor (l : LaneState) (k : Nat) (id : Word) : Option Nat :=
  (List.range 64).find? (fun i => fget l (Rg.CAN_FLTiCTRL k i) 1 0 != 0 && fltMatch l k i id)

/-- Frames of a controller staged in this lane and not yet selected (16 Staging). -/
def staged (l : LaneState) (k : Nat) : Nat :=
  (l.agree.inbox.filter (fun it => match it.body with | .canRx k' _ _ _ => k'.val == k | _ => false)).length

/-- A frame was completed or received: NO_ACK_ALONE clears (16 R365). -/
def ackSeen (l : LaneState) (k : Nat) : LaneState :=
  let c := canOf l k
  bset (setCan l k { c with ackRun := 0 }) (Rg.CAN_STATUS k) 3 false

/-- REC after a frame received without error (ISO 11898-1): one less, or, above 127, a value of 119 to 127 that the standard leaves open (log 4). -/
def recDown (n : Nat) : Nat := if n = 0 then 0 else if n ≤ 127 then n - 1 else 119 + (Config.free8 n).toNat % 9

/-- Put a received frame into the stage as a message item stamped now, or count what the filters discard or a full stage loses (16 R354, Staging). -/
def canAccept (l : LaneState) (k : CanNo) (f : CanFrame) : LaneState :=
  match fltFor l k f.id with
  | none => finc l (Rg.CAN_RXDISC k) 31 0 1
  | some i =>
    let act := fget l (Rg.CAN_FLTiCTRL k i) 1 0
    if act = 3 then finc l (Rg.CAN_RXDISC k) 31 0 1
    else
      let q := act = 2
      if !bget l (Rg.CAN_QqCFG k (b2n q)) 0 then finc l (Rg.CAN_RXDISC k) 31 0 1
      else if 256 ≤ staged l k then finc l (Rg.CAN_STAGE_LOST k) 31 0 1
      else { l with agree := { l.agree with inbox := l.agree.inbox ++ [⟨.canRx k q i f, wNow l⟩] } }

/-- What leaves a mailbox when its frame leaves the bus without completing: a cancelled or one-shot frame is withdrawn, a replacing frame takes its place, and otherwise the frame stays pending for its retry (16 R360, R361, Table CAN-4). -/
def leaveBus (l : LaneState) (k m : Nat) : LaneState :=
  let c := canOf l k
  let b := mbOf l k m
  let l := setCan l k { c with onBus := none }
  let withdrawn := b.cancel || bget l (Rg.CAN_MBmCFG k m) 1
  match b.waiting with
  | some w => mbStat (setMb l k m { frame := some w, seq := b.wseq }) k m 1
  | none =>
    if withdrawn then mbStat (setMb l k m {}) k m (if b.cancel then 4 else 5)
    else mbStat (setMb l k m { b with cancel := false }) k m 1

/-- CAN_FRAME_RECEIVE: a frame received without error (16 R354). An FD frame on a controller with FD_EN = 0 is a form error of the receiver (16 R351). -/
def canReceive (l : LaneState) (k : CanNo) (f : CanFrame) : LaneState :=
  if !canOn l k then l
  else
    let c := canOf l k
    if f.id.getLsbD 31 && !bget l (Rg.CAN_CFG k) 1 then
      let l := if canSt l k = 4 then l else setCan l k { c with rec_ := c.rec_ + 1 }
      showErr (fset l (Rg.CAN_ERR k) 26 24 2) k
    else
      let l := setCan l k { c with rec_ := recDown c.rec_ }
      canAccept (ackSeen (showErr l k) k) k f

/-- CAN_FRAME_RECEIVE (16 R354). -/
def execCanFrameReceive (l : Lane) (k : CanNo) (f : CanFrame) (s : State) : Res := .next (s.onLane l (fun x => canReceive x k f))

/-- What a frame's identifier field is worth in arbitration: the lower wins (16 R361; ISO 11898-1). -/
def arbKey (f : CanFrame) : Nat :=
  let id := f.id.toNat
  let base := (id / 2 ^ 18) % 2 ^ 11
  let rtr := b2n (f.id.getLsbD 30)
  if f.id.getLsbD 29 then base * 2 ^ 21 + 2 ^ 20 + 2 ^ 19 + (id % 2 ^ 18) * 2 + rtr
  else base * 2 ^ 21 + rtr * 2 ^ 20

/-- The pending mailboxes of a controller with their frames, lowest first. -/
def pendingMbs (l : LaneState) (k : Nat) : List (Nat × CanFrame) :=
  (List.range 32).filterMap (fun m => (mbOf l k m).frame.map (fun f => (m, f)))

/-- The mailbox the controller would send next (16 R361). -/
def chooseMb (l : LaneState) (k : Nat) : Option Nat :=
  let ps := pendingMbs l k
  if bget l (Rg.CAN_CFG k) 3 then (ps.head?).map (·.1)
  else (ps.foldl (fun (b : Option (Nat × CanFrame)) p =>
    match b with
    | none => some p
    | some q => if arbKey p.2 < arbKey q.2 then some p else some q) none).map (·.1)

/-- Whether the controller starts frames of the vital program: on the bus, not LISTEN, in RUN, not in the safe state and not in a standby role (16 R363, R368; 19 R420). -/
def canSends (l : LaneState) (k : Nat) : Bool := canOn l k && canSt l k != 4 && modeOf l = .run && !isSafe l && !isStandby l

/-- The frame a lane's controller has on the bus, or would start next (16 R361, R369). -/
def busFrame (l : LaneState) (k : Nat) : Option CanFrame :=
  match (canOf l k).onBus with
  | some m => (mbOf l k m).frame
  | none => if canSends l k then (chooseMb l k).bind (fun m => (mbOf l k m).frame) else none

/-- While the owner of a controller drives a frame, the shadow controllers compare it with the one they compute and withdraw their enables on a difference (16 R369; 01 R17; log 137). -/
def State.canTaps (s : State) (l : Lane) (k : Nat) : State :=
  match (canOf (s.lane l) k).onBus, busFrame (s.lane l) k with
  | none, some f => s.tapCheck l (3 + k) (fun y => busFrame y k != some f)
  | _, _ => s

/-- CAN_FRAME_START: before a start of frame the controller chooses a pending mailbox; in RUN only, never with LISTEN (16 R361, R363, R368). -/
def execCanFrameStart (l : Lane) (k : CanNo) (s : State) : Res :=
  let s := s.canTaps l k
  .next (s.onLane l (fun x =>
    if canSends x k && (canOf x k).onBus.isNone then
      match chooseMb x k with
      | some m => mbStat (setCan x k { canOf x k with onBus := some m }) k m 2
      | none => x
    else x))

/-- CAN_FRAME_COMPLETE: the frame on the bus completes (16 R360, R362, Table CAN-4). The owner lane's frame leaves the port; every lane's readback tap sees it complete (09 R200). -/
def execCanFrameComplete (l : Lane) (k : CanNo) (s : State) : Res :=
  .next (s.onLane l (fun x =>
    match (canOf x k).onBus with
    | none => x
    | some m =>
      let c := canOf x k
      let b := mbOf x k m
      let x := setCan x k { c with onBus := none, tec := c.tec - 1 }
      let x := ackSeen (showErr x k) k
      let x := fset x (Rg.CAN_MBmSTAT k m) 31 16 (fget x (Rg.CAN_MBmSTAT k m) 31 16 + 1)
      let x := bset (mbStat x k m 3) (Rg.CAN_MBmSTAT k m) 3 b.cancel
      let x := { x with tri := { x.tri with taps := (0x200 + k.val, b.seq) :: x.tri.taps } }
      let x := match b.frame with
        | some f => if s.sends l (3 + k.val)
          then emit x (.can k f) else x
        | none => x
      match b.waiting with
      | some w => mbStat (setMb x k m { frame := some w, seq := b.wseq }) k m 1
      | none => setMb x k m {}))

/-- CAN_ARBITRATION_LOST: the frame leaves the bus and is retried, withdrawn or replaced (16 R361, Table CAN-4). -/
def execCanArbitrationLost (l : Lane) (k : CanNo) (s : State) : Res :=
  .next (s.onLane l (fun x =>
    match (canOf x k).onBus with
    | none => x
    | some m => leaveBus x k m))

/-- The code of an error in CAN_ERR (16 Table CAN-6). -/
def canErrCode : CanErrKind → Nat
  | .stuff => 1
  | .form => 2
  | .ack => 3
  | .bit1 => 4
  | .bit0 => 5
  | .crc => 6

/-- One-shot frames read FAILED when the controller goes bus-off (16 R366). -/
def failOneshots (l : LaneState) (k : Nat) : LaneState :=
  (List.range 32).foldl (fun l m =>
    if (mbOf l k m).frame.isSome && bget l (Rg.CAN_MBmCFG k m) 1 then mbStat (setMb l k m {}) k m 5 else l) l

/-- CAN_ERROR: an error of a frame the controller sends (TEC + 8, but not for an ACK error of an error-passive node that sees no dominant bit) or receives (REC + 1, or + 8 for a primary error) (16 R364 to R366; ISO 11898-1). -/
def execCanError (l : Lane) (k : CanNo) (e : CanErr) (s : State) : Res :=
  .next (s.onLane l (fun x =>
    if !canOn x k then x
    else
      let c := canOf x k
      let x := fset x (Rg.CAN_ERR k) 26 24 (canErrCode e.kind)
      let x := if e.kind = .ack then finc x (Rg.CAN_ERRCNT k) 31 16 1 else x
      if canSt x k = 4 then x
      else if e.tx then
        let quiet := e.kind = .ack ∧ canSt x k = 2 ∧ e.passiveNoDom
        let run := if e.kind = .ack then min (c.ackRun + 1) 16 else 0
        let x := setCan x k { c with tec := if quiet then c.tec else c.tec + 8, ackRun := run }
        let x := if 16 ≤ run then bset x (Rg.CAN_STATUS k) 3 true else x
        let x := match c.onBus with
          | some m => leaveBus x k m
          | none => x
        let x := showErr x k
        if canSt x k = 3 then
          event (failOneshots (fset (finc x (Rg.CAN_ERRCNT k) 15 0 1) (Rg.CAN_ERR k) 23 16 0) k) 0x0501 k
        else x
      else showErr (setCan x k { c with rec_ := c.rec_ + (if e.primary then 8 else 1) }) k))

/-- CAN_BUSOFF_RECOVERY: the 128th recessive sequence returns the controller to error active (16 R366). -/
def execCanBusoffRecovery (l : Lane) (k : CanNo) (s : State) : Res :=
  .next (s.onLane l (fun x =>
    if canSt x k = 3 then
      let x := setCan x k { canOf x k with tec := 0, rec_ := 0, ackRun := 0 }
      event (fset (showErr x k) (Rg.CAN_ERR k) 23 16 128) 0x0502 k
    else x))

/-- CAN_INIT: at MAINTAINER level only; INIT = 1 holds the controller off the bus, INIT = 0 lets it join again, a recovery starting from zero (16 R367). -/
def execCanInit (l : Lane) (k : CanNo) (src : CmdSrc) (on : Bool) (s : State) : Res :=
  if !isMaintainer src then .next (s.answer .auth)
  else .next ((s.onLane l (fun x =>
    let x := bset x (Rg.CAN_CTRL k) 0 on
    fset (showErr x k) (Rg.CAN_ERR k) 23 16 0)).answer .ok)

/-- A released request loads its mailbox (16 R360). -/
def canLoad (l : LaneState) (k m : Nat) (f : CanFrame) (seq : Word) : LaneState :=
  let b := mbOf l k m
  match b.frame with
  | none => mbStat (setMb l k m { frame := some f, seq := seq }) k m 1
  | some _ =>
    let l := finc l (Rg.CAN_MBmSTAT k m) 15 8 1
    if (canOf l k).onBus = some m then setMb l k m { b with waiting := some f, wseq := seq }
    else mbStat (setMb l k m { frame := some f, seq := seq }) k m 1

/-- A released cancellation acts on its mailbox (16 Table CAN-4). -/
def canCancel (l : LaneState) (k m : Nat) : LaneState :=
  let b := mbOf l k m
  match b.frame with
  | none => l
  | some _ =>
    if (canOf l k).onBus = some m then setMb l k m { b with waiting := none, cancel := true }
    else mbStat (setMb l k m {}) k m 4

/-- Every vital mailbox of a controller is cancelled (16 R363). -/
def canCancelAll (l : LaneState) (k : Nat) : LaneState := (List.range 32).foldl (fun l m => canCancel l k m) l

/-- Every vital mailbox of the lane is cancelled: STOP, HOLD and the safe state (16 R363). -/
def canCancelVital (l : LaneState) : LaneState := (List.range 4).foldl canCancelAll l

/-- Data bytes a DLC means (ISO 11898-1; 16 Table CAN-3). -/
def dlcBytes (fd : Bool) (dlc : Nat) : Nat :=
  if !fd then min dlc 8 else [0, 1, 2, 3, 4, 5, 6, 7, 8, 12, 16, 20, 24, 32, 48, 64].getD dlc 64

/-- A transmit descriptor read from SRAM, when it keeps Table CAN-3. -/
def descriptor (l : LaneState) (k a : Nat) : Option CanFrame :=
  let id := wordAt (mrd l a 4) 0
  let info := wordAt (mrd l (a + 4) 4) 0
  let fd := id.getLsbD 31
  let rtr := id.getLsbD 30
  let dlc := getBits info 3 0
  let brs := info.getLsbD 4
  if getBits info 31 5 ≠ 0 ∨ (rtr ∧ fd) ∨ (!fd ∧ (8 < dlc ∨ brs)) ∨ (fd ∧ !bget l (Rg.CAN_CFG k) 1) then none
  else some { id := id, dlc := dlc, brs := brs, esi := false,
              data := if rtr then [] else mrd l (a + 8) (dlcBytes fd dlc) }

/-- Requests and cancellations the running instance has queued for a controller. -/
def canQueued (i : Instance) (k : Nat) : Nat := (i.canCnt.filter (· == k)).length

/-- Whether the running instance may use a mailbox: it is enabled, not the safety engine's, and its task's (16 R359). -/
def mbAllowed (l : LaneState) (k m : Nat) (i : Instance) : Bool :=
  bget l (Rg.CAN_MBmCFG k m) 0 && !bget l (Rg.CAN_MBmCFG k m) 2 && fget l (Rg.CAN_MBmCFG k m) 7 4 == i.slot

/-- A write of CAN_TXREQ by the running instance (16 R359). -/
def canTxreqStore (l : LaneState) (k : Nat) (v : Word) : WrRes :=
  let m := getBits v 4 0
  match runInst l with
  | none => .bus
  | some i =>
    if !mbAllowed l k m i then .bus
    else if 64 ≤ canQueued i k then .setE
    else
      match descriptor l k (fget l (Rg.CAN_MBmADDR k m) 21 0) with
      | none => .setE
      | some f => .ok (updRun (queueItem l (0x200 + k) (.canReq m f)) (fun i => { i with canCnt := k :: i.canCnt }))

/-- A write of CAN_TXCANCEL by the running instance (16 R362). -/
def canTxcancelStore (l : LaneState) (k : Nat) (v : Word) : WrRes :=
  let m := getBits v 4 0
  match runInst l with
  | none => .bus
  | some i =>
    if !mbAllowed l k m i then .bus
    else if 64 ≤ canQueued i k then .setE
    else .ok (updRun (queueItem l (0x200 + k) (.canCancel m)) (fun i => { i with canCnt := k :: i.canCnt }))

/-- A write of CAN_QqACK by the running instance (16 R357). -/
def canQqackStore (l : LaneState) (k q : Nat) (v : Word) : WrRes :=
  ackStore l (2 * k + q) (fget l (Rg.CAN_QqCFG k q) 7 4) (fget l (Rg.CAN_QqADDR k q) 15 0) v

/-- Size of a queue entry (16 Table CAN-2). -/
def qEsize (l : LaneState) (k q : Nat) : Nat := if bget l (Rg.CAN_QqCFG k q) 2 then 80 else 24

/-- A queue entry's bytes (16 Table CAN-2). -/
def qEntry (wide : Bool) (stamp : Int) (flt : Nat) (f : CanFrame) : Bytes :=
  let n := if f.id.getLsbD 30 then 0 else dlcBytes (f.id.getLsbD 31) f.dlc
  let keep := if wide then 64 else 8
  let info := f.dlc % 16 + 16 * b2n f.brs + 32 * b2n f.esi + 256 * flt + 65536 * n
  leInt 8 stamp ++ leBytes 4 f.id.toNat ++ leBytes 4 info
    ++ (List.range keep).map (fun i => if i < n then f.data.getD i 0 else 0)

/-- At AGREE, append one agreed item to its queue in a table of bytes: overrun at 64 unacknowledged entries discards it or overwrites the oldest, as OVW says. Answers the lane, the bytes and whether it overran (16 R355, R358). -/
def canAppend (l : LaneState) (img : List (Nat × Byte)) (k q flt : Nat) (stamp : Int) (f : CanFrame) :
    LaneState × List (Nat × Byte) × Bool :=
  let r := 2 * k + q
  let h := ringOf l r
  let full := 64 ≤ (h.1 - h.2.1).toNat
  let ovw := bget l (Rg.CAN_QqCFG k q) 1
  let a := inBase + fget l (Rg.CAN_QqADDR k q) 15 0
  let put (l : LaneState) : LaneState × List (Nat × Byte) :=
    let h := ringOf l r
    let e := qEntry (bget l (Rg.CAN_QqCFG k q) 2) stamp flt f
    (finc (setRing l r (h.1 + 1, h.2.1, h.2.2)) (Rg.CAN_QqSTAT k q) 15 0 1,
     sput img (a + 16 + qEsize l k q * (h.1.toNat % 64)) e)
  if full then
    let l := finc l (Rg.CAN_QqSTAT k q) 31 16 1
    if ovw then
      let p := put (setRing l r (h.1, h.2.1 + 1, h.2.2 + 1))
      (p.1, p.2, true)
    else (setRing l r (h.1, h.2.1, h.2.2 + 1), img, true)
  else
    let p := put l
    (p.1, p.2, false)

/-- The BUS byte a lane samples for a controller (16 Table CAN-1, R356). -/
def busByte (l : LaneState) (k : Nat) : Nat :=
  b2n (canSt l k == 2) + 2 * b2n (canSt l k == 3) + 4 * b2n (bget l (Rg.CAN_STATUS k) 3) + 8 * b2n (bget l (Rg.CAN_CTRL k) 0)

/-- At AGREE, write the header of every enabled queue (16 Table CAN-1, R356). -/
def canHeaders (l : LaneState) (img : List (Nat × Byte)) (bus : BitVec 32) : List (Nat × Byte) :=
  (List.range 8).foldl (fun img r =>
    let k := r / 2
    let q := r % 2
    if bget l (Rg.CAN_QqCFG k q) 0 then
      let h := ringOf l r
      sput img (inBase + fget l (Rg.CAN_QqADDR k q) 15 0)
        (leBytes 4 h.1.toNat ++ leBytes 4 h.2.1.toNat ++ leBytes 4 h.2.2.toNat ++ leBytes 4 (bus.toNat / 256 ^ k % 16))
    else img) img

/-- Start a controller: it joins the bus unless INIT holds it off (16 R367). -/
def canStart (l : LaneState) (k : Nat) : LaneState :=
  if bget l (Rg.CAN_CFG k) 0 then showErr l k else l

/-- Stop a controller for a power state or shutdown: it drives recessive and is off the bus (20 Table PWR-3; 21 Table SYS-6). -/
def canStop (l : LaneState) (k : Nat) : LaneState :=
  fset (setCan l k { canOf l k with onBus := none }) (Rg.CAN_STATUS k) 2 0 0

end Sys2Proof.Machine
end

