-- ==== Sys2Proof/Machine/Evr.lean ====
section
/-! DEFINITION. The event recorder (22 R483 to R494): admission, rate limits, suppression, freeze, clear and the read path. -/

namespace Sys2Proof.Machine

/-- Codes a rate limit never touches (22 Table EVR-2, Exempt). -/
def exemptCodes : List Nat :=
  [0x0103, 0x0105, 0x0210, 0x0303, 0x0609, 0x060A, 0x060B, 0x0901, 0x0902, 0x0A05, 0x0B02, 0x0B03, 0x0B04, 0x0C02,
   0x0D01, 0x0E02, 0x0E03]

/-- The module's own codes (22 Table EVR-2). -/
def moduleCodes : List Nat :=
  [0x0101, 0x0102, 0x0103, 0x0104, 0x0105, 0x0110, 0x0111, 0x0120, 0x0121, 0x0201, 0x0202, 0x0203, 0x0210, 0x0220,
   0x0230, 0x0231, 0x0240, 0x0301, 0x0302, 0x0303, 0x0401, 0x0402, 0x0403, 0x0404, 0x0405, 0x0501, 0x0502, 0x0503]
  ++ [0x0601, 0x0602, 0x0603, 0x0604, 0x0605, 0x0606, 0x0607, 0x0608, 0x0609, 0x060A, 0x060B, 0x060C, 0x0701, 0x0702,
   0x0801, 0x0802, 0x0901, 0x0902, 0x0A01, 0x0A02, 0x0A03, 0x0A04, 0x0A05, 0x0B01, 0x0B02, 0x0B03, 0x0B04, 0x0C01,
   0x0C02, 0x0D01, 0x0E01, 0x0E02, 0x0E03]

/-- No other code is ever recorded (22 R492). -/
def codeKnown (c : Nat) : Bool := moduleCodes.contains c || (0x8000 ≤ c && c ≤ 0xFFFF)

/-- RATE and BURST of a code (22 R487): the configuration's setting, or 10 and 20. -/
def rateOf (cfg : CfgImage) (c : Nat) : Nat × Nat :=
  match cfg.rates.find? (fun r => r.1 == c) with
  | some r => r.2
  | none => (10, 20)

/-- The thousandths of a token in a code's bucket at a time in ms (22 R487). -/
def tokens (e : EvrState) (cfg : CfgImage) (c now : Nat) : Nat :=
  let r := rateOf cfg c
  match e.buckets.find? (fun b => b.1 == c) with
  | some b => min (r.2 * 1000) (b.2.1 + r.1 * (now - b.2.2))
  | none => r.2 * 1000

/-- Replace the entry of a code in a table of triples. -/
def setCode (t : List (Nat × Nat × Nat)) (c : Nat) (v : Option (Nat × Nat)) : List (Nat × Nat × Nat) :=
  let r := t.filter (fun b => b.1 != c)
  match v with
  | some x => (c, x.1, x.2) :: r
  | none => r

/-- The suppression count of a code. -/
def suppOf (e : EvrState) (c : Nat) : Nat :=
  match e.supp.find? (fun b => b.1 == c) with
  | some b => b.2.1
  | none => 0

/-- Show the recorder's state in every lane's EVR block (22 Table EVR-3). -/
def State.showEvr (s : State) : State :=
  let e := s.rm.evr
  let s := s.fsetAll Rg.EVR_STATUS 0 0 (b2n e.frozenBy.isSome)
  let s := s.fsetAll Rg.EVR_STATUS 1 1 (b2n (e.frozenBy == some .aux))
  let s := s.fsetAll Rg.EVR_STATUS 2 2 (b2n s.rm.start.dip)
  let s := s.fsetAll Rg.EVR_STATUS 3 3 (b2n !s.rm.alive)
  let s := s.fsetAll Rg.EVR_STATUS 20 8 e.firstArea.length
  s.fsetAll Rg.EVR_HOLD 8 0 e.hold.length

/-- Write one record to the last area and, while it has room, to the first area (22 R485). -/
def writeRec (e : EvrState) (r : EvRec) : EvrState :=
  { e with lastArea := (r :: e.lastArea).take 1048576,
           firstArea := if e.firstArea.length < 4096 then r :: e.firstArea else e.firstArea }

/-- Admit a record: it takes its INDEX and the code's suppression count, then goes to the holding buffer while frozen, to the dip buffer during a supply dip, and to flash otherwise (22 R484, R488, R489, R491). -/
def State.recordEvent (s : State) (r : Report) : State :=
  let e := s.rm.evr
  let c := r.code.toNat
  let idx := e.newest + 1
  let rec0 : EvRec :=
    { index := idx, rep := r, firstAfterClear := e.afterClear, lossBefore := e.loss,
      suppressed := BitVec.ofNat 32 (min (suppOf e c) 0xFFFFFFFF), powerCycles := BitVec.ofNat 32 s.rm.life.powerCycles }
  let e := { e with newest := idx, afterClear := false, loss := false, supp := setCode e.supp c none }
  let shown (s : State) : State :=
    let s := s.rsetAll Rg.EVR_NEWEST_LO (idx.setWidth 32)
    (s.rsetAll Rg.EVR_NEWEST_HI ((idx >>> 32).setWidth 32)).showEvr
  if e.frozenBy.isSome then
    if e.hold.length < 256 then
      shown { s with rm := { s.rm with evr := { e with hold := { rec0 with held := true } :: e.hold } } }
    else
      let s := { s with rm := { s.rm with evr := { e with loss := true } } }
      s.mapLanes (fun l => finc l Rg.EVR_HOLD 31 16 1)
  else if s.rm.start.dip then
    if e.defer.length < 4096 then
      shown { s with rm := { s.rm with evr := { e with defer := { rec0 with deferred := true } :: e.defer } } }
    else { s with rm := { s.rm with evr := { e with loss := true } } }
  else shown { s with rm := { s.rm with evr := writeRec e rec0 } }

/-- Take one report through its code's token bucket at a time in ms: admitted, or suppressed and counted (22 R487, R492). -/
def State.record (s : State) (r : Report) (now : Nat) : State :=
  let c := r.code.toNat
  let e := s.rm.evr
  if !codeKnown c then s
  else if exemptCodes.contains c then s.recordEvent r
  else
    let t := tokens e s.la.cfg c now
    if 1000 ≤ t then
      ({ s with rm := { s.rm with evr := { e with buckets := setCode e.buckets c (some (t - 1000, now)) } } }).recordEvent r
    else
      let first := match e.supp.find? (fun b => b.1 == c) with
        | some b => b.2.2
        | none => now
      { s with rm := { s.rm with evr := { e with buckets := setCode e.buckets c (some (t, now)),
                                                 supp := setCode e.supp c (some (suppOf e c + 1, first)) } } }

/-- EVENT_REPORT: Ringmaster records the oldest report it holds, at a time in ms (22 R483 to R491). Nothing is recorded while it is down. -/
def execEventReport (now : Nat) (s : State) : Res :=
  if s.rm.alive then
    match s.rm.evr.reports with
    | [] => .next s
    | r :: rs => .next (({ s with rm := { s.rm with evr := { s.rm.evr with reports := rs } } }).record r now)
  else .next s

/-- A record Ringmaster raises itself, admitted at once (path R). -/
def State.recordR (s : State) (code data : Nat) : State :=
  let s1 := s.rmEvent code data
  match s1.rm.evr.reports.getLast? with
  | some r => s.recordEvent r
  | none => s

/-- SUPPRESSION_SUMMARY: 60 s after the first unreported suppression of a code, EV_EVR_SUPPRESSED takes its count (22 R488). -/
def execSuppressionSummary (code : Half) (now : Nat) (s : State) : Res :=
  match s.rm.evr.supp.find? (fun b => b.1 == code.toNat) with
  | some b =>
    if s.rm.alive && 60000 ≤ now - b.2.2 then
      let e := s.rm.evr
      let s := { s with rm := { s.rm with evr := { e with supp := setCode e.supp code.toNat none } } }
      let s := s.recordR 0x0D01 (code.toNat + min b.2.1 0xFFFF * 65536)
      .next (s.mapLanes (fun l => finc l Rg.EVR_SUPP_CNT 31 0 1))
    else .next s
  | none => .next s

/-- EVR_CLEAR: at MAINTAINER level, and not while frozen, the first area is emptied and EV_EVR_CLEARED becomes its first entry (22 R486). -/
def execEvrClear (src : CmdSrc) (s : State) : Res :=
  if !s.rm.alive then .next s
  else if !isMaintainer src then .next (s.answer .auth)
  else if s.rm.evr.frozenBy.isSome then .next (s.answer .busy)
  else
    let s := { s with rm := { s.rm with evr := { s.rm.evr with firstArea := [], afterClear := true } } }
    .next ((s.recordR 0x0E03 0).answer .ok)

/-- Whether a source may ask to freeze: a session needs OPERATOR level (22 R489). -/
def State.mayFreeze (s : State) : FreezeSrc → Bool
  | .session n => s.rm.sessions.any (fun x => x.sid == n && x.level.isSome)
  | .aux => isSplit s.la
  | .debug => true

/-- FREEZE: no writes into either area; only one source can hold it, and the holder's FREEZE starts FREEZE_MAX again (22 R489, R490). -/
def execFreeze (fs : FreezeSrc) (_src : CmdSrc) (s : State) : Res :=
  if !s.rm.alive then .next s
  else if !s.mayFreeze fs then .next (s.answer .auth)
  else
    match s.rm.evr.frozenBy with
    | none =>
      let s := s.fsetAll Rg.EVR_HOLD 31 16 0
      .next (({ s with rm := { s.rm with evr := { s.rm.evr with frozenBy := some fs } } }).showEvr.answer .ok)
    | some h => .next (s.answer (if h = fs then .ok else .busy))

/-- End a freeze: the held records are written in INDEX order, or move to the dip buffer during a dip (22 R489, R491). -/
def State.unfreeze (s : State) : State :=
  let e := s.rm.evr
  let held := e.hold.reverse
  let e0 := { e with hold := [], frozenBy := none }
  let e1 := if s.rm.start.dip then { e0 with defer := (held.map (fun r => { r with deferred := true })).reverse ++ e.defer }
    else (e0.defer.reverse ++ held).foldl writeRec { e0 with defer := [] }
  ({ s with rm := { s.rm with evr := e1 } }).showEvr

/-- After a dip the deferred records go to flash, oldest first, unless a freeze keeps both areas from changing (21 R463; 22 R489, R491). -/
def State.flushDefer (s : State) : State :=
  let e := s.rm.evr
  if e.frozenBy.isSome || s.rm.start.dip then s
  else ({ s with rm := { s.rm with evr := e.defer.reverse.foldl writeRec { e with defer := [] } } }).showEvr

/-- UNFREEZE: only the holder ends the freeze; with no freeze it has no effect and returns OK (22 R489, R490). -/
def execUnfreeze (fs : FreezeSrc) (s : State) : Res :=
  if !s.rm.alive then .next s
  else
    match s.rm.evr.frozenBy with
    | none => .next (s.answer .ok)
    | some h => .next (if h = fs then s.unfreeze.answer .ok else s.answer .busy)

/-- FREEZE_MAX_EXPIRY: the freeze ends (22 R489). -/
def execFreezeMaxExpiry (s : State) : Res :=
  .next (if s.rm.evr.frozenBy.isSome then s.unfreeze else s)

/-- The 64 bytes of a record (22 Table EVR-1). -/
def recBytes (r : EvRec) : Bytes :=
  let flags := b2n r.rep.timeValid + 2 * b2n r.held + 4 * b2n r.deferred + 8 * b2n r.firstAfterClear + 16 * b2n r.lossBefore
  let src := r.rep.path + 16 * r.rep.lanes.toNat
  let body := leBytes 8 r.index.toNat ++ leInt 8 r.rep.time ++ leBytes 8 r.rep.cycle.toNat ++ leBytes 2 r.rep.code.toNat
    ++ leBytes 1 src ++ leBytes 1 flags ++ leBytes 4 r.rep.data.toNat ++ leBytes 4 r.suppressed.toNat
    ++ leBytes 1 r.rep.task.toNat ++ leBytes 3 0 ++ leBytes 16 r.rep.ext.toNat ++ leBytes 4 r.powerCycles.toNat
  body ++ leBytes 4 (crc32c 0xFFFFFFFF body).toNat

/-- Write words into consecutive registers from an offset. -/
def rsetWords (l : LaneState) (a : Nat) : Bytes → LaneState
  | b0 :: b1 :: b2 :: b3 :: bs => rsetWords (rset l a (BitVec.ofNat 32 (leNat [b0, b1, b2, b3]))) (a + 4) bs
  | [] => l
  | bs => rset l a (BitVec.ofNat 32 (leNat bs))

/-- The record that EVR_RD_IDX and EVR_RD_AREA name: by INDEX in the last area, by entry in the first area (22 R494). -/
def State.recNamed (s : State) (l : LaneState) : Option EvRec :=
  let idx := rget64 l Rg.EVR_RD_IDX_LO Rg.EVR_RD_IDX_HI
  if bget l Rg.EVR_RD_AREA 0 then s.rm.evr.firstArea.reverse[(rget l Rg.EVR_RD_IDX_LO).toNat]?
  else if idx = 0 then none
  else s.rm.evr.lastArea.find? (fun r => r.index == idx)

/-- Carry out a read of the recorder for a lane: VALID and the record, or NOT_HELD; BUSY stays while Ringmaster is down (22 R494). -/
def State.serveRead (s : State) (x : Lane) : State :=
  let l := s.lane x
  if !s.rm.alive then s.setLane x (fset l Rg.EVR_RD_STAT 2 0 1)
  else
    match s.recNamed l with
    | some r => s.setLane x (rsetWords (fset l Rg.EVR_RD_STAT 2 0 2) (Rg.EVR_RD_DATAk 0) (recBytes r))
    | none => s.setLane x (fset l Rg.EVR_RD_STAT 2 0 4)

/-- EVR_READ_START: a write of EVR_RD_IDX_HI starts the read (22 R494). -/
def execEvrReadStart (l : Lane) (ag : Agent) (v : Word) (s : State) : Res :=
  let x := s.lane l
  if mayWrite x ag Rg.EVR_RD_IDX_HI then
    .next ((s.setLane l (plainWrite { x with berr := false } Rg.EVR_RD_IDX_HI v)).serveRead l)
  else .next (s.setLane l { x with berr := true })

/-- EVR_READ_NEXT: a read of EVR_RD_DATA15 returns it, advances the index by 1 and starts the next read (22 R494). -/
def execEvrReadNext (l : Lane) (ag : Agent) (s : State) : Res :=
  let x := s.lane l
  let a := Rg.EVR_RD_DATAk 15
  if mayRead x ag a then
    let x1 := { x with berr := false, rdval := rget x a }
    let x2 := rset64 x1 Rg.EVR_RD_IDX_LO Rg.EVR_RD_IDX_HI (rget64 x1 Rg.EVR_RD_IDX_LO Rg.EVR_RD_IDX_HI + 1)
    .next ((s.setLane l x2).serveRead l)
  else .next (s.setLane l { x with berr := true })

/-- The rate setting an index reaches (22 Table EVR-3, EVR_RATE_VAL). -/
def rateWord (cfg : CfgImage) (i : Nat) : Word :=
  match cfg.rates[i]? with
  | some r => BitVec.ofNat 32 (r.1 % 65536 + (r.2.1 % 256) * 65536 + (r.2.2 % 128) * 16777216 + 2147483648)
  | none => 0

/-- EVR_RATE_VAL_READ: the setting EVR_RATE_IDX names; the read advances the index, wrapping at 1,024 (22 Table EVR-3). -/
def execEvrRateValRead (l : Lane) (ag : Agent) (s : State) : Res :=
  .next (s.onLane l (fun x =>
    let i := fget x Rg.EVR_RATE_IDX 9 0
    guardRead x ag Rg.EVR_RATE_VAL (rateWord x.cfg i) (fun y => fset y Rg.EVR_RATE_IDX 9 0 ((i + 1) % 1024))))

end Sys2Proof.Machine
end

