-- ==== Sys2Proof/Machine/Image.lean ====
section
/-! DEFINITION. Images: the Legend and its tables as a lane reads them, signatures, tags, and the slots Ringmaster keeps (03 Tables JFM-9 to JFM-12, R92; 06 Tables MOD-7, MOD-8; 21 R457; 23 R495). -/

namespace Sys2Proof.Machine

/-- What a configuration image holds, whose record layout the spec does not give (06 Table MOD-3; log 12). -/
opaque Config.cfgOf : Bytes → CfgImage

/-- A field of `n` bytes at an offset of an image, little-endian. -/
def imgField (b : Bytes) (off n : Nat) : Nat := leNat ((b.drop off).take n)

/-- The image number of a type byte (03 Table JFM-9). -/
def imgTypeOf : Nat → Option ImgType
  | 1 => some .ringmaster
  | 2 => some .executive
  | 3 => some .vital
  | 4 => some .auxiliary
  | 5 => some .config
  | _ => none

/-- IMAGE_LEN of an image. -/
def imageLen (b : Bytes) : Nat := imgField b 0x18 4

/-- BUILD_ID of an image. -/
def imgBuild (b : Bytes) : DWord := BitVec.ofNat 64 (imgField b 0x10 8)

/-- Whether `n` bytes at an offset are all 0. -/
def zeroBytes (b : Bytes) (off n : Nat) : Bool := ((b.drop off).take n).all (· == 0)

/-- The Header check of Table JFM-13, for an image of any type: MAGIC, PRODUCT, FORMAT, the type wanted, LEGEND_LEN, and every reserved field 0 (03 R93; 00 R2; 21 Table SYS-3 code 0x11). -/
def headerOk (b : Bytes) (t : ImgType) : Bool :=
  256 ≤ b.length && imgField b 0 4 == 0x444E474C && imgField b 4 2 == 0x396A && imgField b 6 2 == 1
    && imgField b 8 1 == imgNo t && imgField b 9 1 < 4 && zeroBytes b 0x0A 2 && imgField b 0x1C 4 == 256
    && zeroBytes b 0x7C 4 && zeroBytes b 0xB0 80 && (t == .vital || imgField b 0x44 4 == 0)

/-- The TAG of an image: the first 8 bytes of the SHA-384 over bytes 0 to IMAGE_LEN − 1 (23 Table UPD-2). -/
def imgTag (b : Bytes) : DWord := BitVec.ofNat 64 (leNat ((Config.sha384 (b.take (imageLen b))).take 8))

/-- The public key in a key table entry: Oxausk's in entries 0 to 3, a fleet key once written in 4 to 7 (21 R457). -/
def keyOf (r : RmState) (i : Nat) : Option Bytes :=
  match r.keys[i]? with
  | none => none
  | some k => if k.revoked then none else if i < 4 then some (Config.oxauskKey i) else if k.written then some k.key else none

/-- KEY_ID of a public key: the first 8 bytes of its SHA-384 (21 R457). -/
def keyId (key : Bytes) : Bytes := (Config.sha384 key).take 8

/-- Whether a signature block of KEY_ID, r and s verifies over a text against a key of the table: keys 0 to 3 only for types 0x01 and 0x02 (03 R92; 21 R457). -/
def sigVerifies (r : RmState) (oxauskOnly : Bool) (text sig : Bytes) : Bool :=
  (List.range (if oxauskOnly then 4 else 8)).any (fun i =>
    match keyOf r i with
    | some k => sig.take 8 == keyId k && Config.sigOk k text (sig.drop 8)
    | none => false)

/-- Whether an image verifies under R92 and R457. -/
def imgVerifies (r : RmState) (t : ImgType) (b : Bytes) : Bool :=
  decide (imageLen b + 104 ≤ b.length) &&
  sigVerifies r (t == .ringmaster || t == .executive) (b.take (imageLen b)) ((b.drop (imageLen b)).take 104)

/-- Verification of a received image: signature, PRODUCT and TYPE (21 R470; 23 R499). -/
def receivedOk (r : RmState) (t : ImgType) (b : Bytes) : Bool :=
  imgVerifies r t b && imgField b 4 2 == 0x396A && imgField b 8 1 == imgNo t

/-- The size of a type's slots in bytes (23 Table UPD-1). -/
def slotSize : ImgType → Nat
  | .ringmaster => 8388608
  | .executive => 16777216
  | .vital => 8388608
  | .auxiliary => 33554432
  | .config => 16777216

/-- Rows of a fixed size cut from a table. -/
def tableRows (b : Bytes) (off size : Nat) (n : Nat) : List Bytes :=
  (List.range n).map (fun i => (b.drop (off + size * i)).take size)

/-- A task table entry (03 Table JFM-10). -/
def parseTask (r : Bytes) : TaskEnt :=
  let fl := imgField r 1 1
  { slot := imgField r 0 1, arith := fl % 2 == 1, faultSafe := (fl / 2) % 2 == 1, rootBt := imgField r 2 2,
    wcet := imgField r 4 4, entry := imgField r 8 4, handler := imgField r 0xC 4, frame := imgField r 0x10 4,
    gp := imgField r 0x14 4, inStart := imgField r 0x18 2, inLast := imgField r 0x1A 2 }

/-- An exchange table entry (03 Table JFM-12). -/
def parseXchg (r : Bytes) : Xchg :=
  { exporter := imgField r 0 1, importer := imgField r 1 1, len := imgField r 2 2, src := imgField r 4 4,
    pub := imgField r 8 4, dst := imgField r 0xC 4 }

/-- A migration map entry (06 Table MOD-8). -/
def parseMig (r : Bytes) : MigEnt :=
  { sym := BitVec.ofNat 64 (imgField r 0 8), typeHash := BitVec.ofNat 64 (imgField r 8 8), oldAddr := imgField r 0x10 4,
    newAddr := imgField r 0x14 4, len := imgField r 0x18 4, kind := imgField r 0x1C 1, matched := imgField r 0x1D 1 == 1,
    area := imgField r 0x1E 1, width := imgField r 0x1F 1 }

/-- An application image as a lane loads it (03 Tables JFM-9 to JFM-12; 06 Table MOD-7). -/
def parseApp (b : Bytes) : AppImage :=
  let fl := imgField b 9 1
  let mo := imgField b 0x60 4
  { build := imgBuild b, symtab := BitVec.ofNat 64 (imgField b 0x80 8), split := (fl / 2) % 2 == 1, migration := fl % 2 == 1,
    loadAddr := imgField b 0x20 8, code := (b.drop (imgField b 0x28 4)).take (imgField b 0x2C 4),
    dataAddr := imgField b 0x30 8, data := (b.drop (imgField b 0x38 4)).take (imgField b 0x3C 4),
    tasks := (tableRows b (imgField b 0x40 4) 32 (imgField b 0x44 4)).map parseTask,
    blocks := (tableRows b (imgField b 0x48 4) 8 (imgField b 0x4C 4)).map (fun r => (imgField r 0 4, imgField r 4 2)),
    wsets := (tableRows b (imgField b 0x50 4) 8 (imgField b 0x54 4 / 8)).map (fun r => (imgField r 0 1, imgField r 2 2, imgField r 4 2)),
    xchg := (tableRows b (imgField b 0x58 4) 16 (imgField b 0x5C 4 / 16)).map parseXchg,
    oldBuild := if mo = 0 then 0 else BitVec.ofNat 64 (imgField b (mo + 8) 8),
    oldSymtab := if mo = 0 then 0 else BitVec.ofNat 64 (imgField b (mo + 0x10) 8),
    migr := if mo = 0 then [] else (tableRows b (mo + 32) 32 (imgField b (mo + 4) 4)).map parseMig,
    vdrBase := imgField b 0x68 8, vdrLen := imgField b 0x70 4, auxEntry := imgField b 0x74 4, auxTrap := imgField b 0x78 4 }

/-- The selected slot of a type. -/
def ImgSel.selected (x : ImgSel) : Slot := if x.selB then x.b else x.a

/-- The spare slot of a type (23 R495). -/
def ImgSel.spare (x : ImgSel) : Slot := if x.selB then x.a else x.b

/-- Replace the spare slot of a type. -/
def ImgSel.setSpare (x : ImgSel) (v : Slot) : ImgSel := if x.selB then { x with a := v } else { x with b := v }

/-- Switch the selection of a type to the other slot. -/
def ImgSel.switched (x : ImgSel) (moment : Nat) : ImgSel :=
  { x with selB := !x.selB, changed := true, selOrder := moment, count := 0 }

end Sys2Proof.Machine
end

