-- ==== Sys2Proof/Machine/Ringmaster.lean ====
section
/-! DEFINITION. Ringmaster: watchdog and restart, service sessions, operator messages, sensors and life counters, voltage steering, and the auxiliary message buffers (22 R473 to R482, R493; 02 R53; 01 R21). -/

namespace Sys2Proof.Machine

/-- The module is in bring-up: no lane has reached the start-up tests (21 R455). -/
def State.bringup (s : State) : Bool := phaseOf s.la == 0

/-- Whether Ringmaster carries out a command now; in bring-up it answers BRINGUP (21 R455). -/
def State.rmGate (s : State) (k : State → State) : Res :=
  if !s.rm.alive then .next s
  else if s.bringup then .next (s.answer .bringup)
  else .next (k s)

/-! Watchdog and restart. -/

/-- Service sessions end, and with them a freeze one of them holds (22 R474, R489). -/
def State.endSessions (s : State) : State :=
  let s := match s.rm.evr.frozenBy with
    | some (.session _) => s.unfreeze
    | _ => s
  { s with rm := { s.rm with sessions := [] } }

/-- Ringmaster goes down: sessions end and RM_ALIVE reads 0 in every lane (22 R474). -/
def State.rmDown (s : State) (why : Nat) : State :=
  if s.rm.alive then
    let s := s.endSessions
    let s := { s with rm := { s.rm with alive := false, downBy := why } }
    (s.fsetAll Rg.MBX_STATUS 0 0 0).showEvr
  else s

/-- RINGMASTER_WATCHDOG: the firmware has not refreshed the watchdog for 500 ms (22 R474). -/
def execRingmasterWatchdog (s : State) : Res := .next (s.rmDown 1)

/-- RINGMASTER_FAULT: a firmware fault restarts Ringmaster (22 R474). -/
def execRingmasterFault (s : State) : Res := .next (s.rmDown 2)

/-- The BUILD_ID of the firmware Ringmaster runs, 0 for its ROM code, shows in every lane (21 Table SYS-9). -/
def State.showFw (s : State) : State :=
  let x := s.rm.img .ringmaster
  let b := if x.verified then imgBuild (if s.rm.selFwB then x.b else x.a).img else 0
  (s.rsetAll (Rg.SYS_BUILDt_LO 1) (b.setWidth 32)).rsetAll (Rg.SYS_BUILDt_HI 1) ((b >>> 32).setWidth 32)

/-- Ringmaster runs: RM_ALIVE reads 1 and it takes what the lanes held (22 R474, R475). -/
def State.rmUp (s : State) : State :=
  let s := { s with rm := { s.rm with alive := true, downBy := 0, selFwB := (s.rm.img .ringmaster).selB } }
  ((s.showFw.fsetAll Rg.MBX_STATUS 0 0 1).showEvr).takeReports

/-- RINGMASTER_RESUME: Ringmaster has booted and verified its firmware, and records the restart (after an activation of new firmware with data the spec does not give, log 4); after a watchdog restart with a provisional firmware selection, its ROM boots the previous slot (22 R474; 23 R508). -/
def execRingmasterResume (s : State) : Res :=
  if s.rm.alive || s.rm.downBy = 0 then .next s
  else
    let why := s.rm.downBy
    let x := s.rm.img .ringmaster
    let back := why = 1 && x.provisional
    let s := if back then
        { s with rm := s.rm.setImg .ringmaster { x with selB := !x.selB, provisional := false, fellBack := true } }
      else s
    let s := s.rmUp
    let s := if back then s.rmEvent 0x0B03 1 else s
    let s := s.mapLanes (fun l => finc l Rg.MBX_STATUS 31 16 1)
    .next (if why = 3 then s.tick4.rmEvent 0x0E02 (Config.free32 s.freeCtr).toNat else s.rmEvent 0x0E02 why)

/-! Service sessions (22 R476, R477). -/

/-- The time a certificate is checked at: W, or the time recorded at the last shutdown while W has followed no source since power-on (22 R477). -/
def State.certNow (s : State) : Int :=
  match allLanes.find? (fun x => bget (s.lane x) Rg.MER_STATUS 5) with
  | some x => wNow (s.lane x)
  | none => s.rm.start.rmW.getD s.rm.start.savedW

/-- The level a certificate gives: it chains to a key of the table that is not revoked, carries a role, and its validity period includes the time (22 R477). -/
def State.certLevel (s : State) (c : Cert) : Option Auth :=
  match c.keyIdx with
  | none => none
  | some i =>
    if (keyOf s.rm i).isSome && decide (c.notBefore ≤ s.certNow ∧ s.certNow ≤ c.notAfter) then c.role else none

/-- SERVICE_SESSION_OPEN: at most two sessions exist, and a third connection is refused (22 R476). -/
def execServiceSessionOpen (cert : Cert) (s : State) : Res :=
  if !s.rm.alive then .next s
  else if 2 ≤ s.rm.sessions.length then .next (s.answer .refused)
  else
    let n := s.rm.nextSid
    .next (({ s with rm := { s.rm with sessions := s.rm.sessions ++ [Session.mk n (s.certLevel cert)], nextSid := n + 1 } }).answer .ok)

/-- End one session, and with it a freeze it holds (22 R477, R489). -/
def State.endSession (s : State) (sid : Nat) : State :=
  let s := if s.rm.evr.frozenBy = some (.session sid) then s.unfreeze else s
  { s with rm := { s.rm with sessions := s.rm.sessions.filter (fun x => x.sid != sid) } }

/-- SESSION_TIMEOUT: 15 min without a request (22 R476). -/
def execSessionTimeout (sid : Nat) (s : State) : Res := .next (s.endSession sid)

/-- SERVICE_SESSION_CLOSE: the session ends (22 R477). -/
def execServiceSessionClose (sid : Nat) (s : State) : Res := .next (s.endSession sid)

/-! Messages to the vital program (01 R25; 22 R479). -/

/-- A message item arrives in a lane, stamped with its Meridian time (02 R41). -/
def arrive (l : LaneState) (b : ItemBody) : LaneState :=
  { l with agree := { l.agree with inbox := l.agree.inbox ++ [⟨b, wNow l⟩] } }

/-- A Ringmaster message reaches every lane's mailbox (01 R25). -/
def State.sendRm (s : State) (m : RmMsg) : State := s.mapLanes (fun l => arrive l (.rm m))

/-- A byte string cut or filled with 0 to a length. -/
def padTo (n : Nat) (b : Bytes) : Bytes := (List.range n).map (fun i => b.getD i 0)

/-- OPERATOR_MESSAGE: a service command sends a 16-bit code and 56 bytes to the vital program; SEQ counts the messages sent since start-up (22 R479). -/
def execOperatorMessage (src : CmdSrc) (code : Half) (d : Bytes) (s : State) : Res :=
  s.rmGate (fun s =>
    if src.backbone then s.answer .auth
    else
      let n := s.rm.opSeq + 1
      (({ s with rm := { s.rm with opSeq := n } }).sendRm { code := code, seq := n, data := padTo 56 d }).answer .ok)

/-- RINGMASTER_MESSAGE: the mailbox write of a message to the vital program completes in every lane (01 R25; 02 R41). -/
def execRingmasterMessage (msg : RmMsg) (s : State) : Res :=
  .next (if s.rm.alive then s.sendRm msg else s)

/-! Sensors (22 R480; 25 R532). Sensors are numbered in the order of Tables MBX-2 and ELE-8 (log 14). -/

/-- Samples of a sensor in 10 s (22 Table MBX-2). -/
def samples10 (n : Nat) : Nat := if n < 14 then 10 else if n < 39 then 1000 else if n = 39 then 10000 else 1

/-- The warning band of a sensor: the configuration's, or 115 °C at most for a lane junction (22 R480; 25 Table ELE-8). -/
def bandOf (cfg : CfgImage) (n : Nat) : Option (Int × Int) :=
  match cfg.bands.find? (fun b => b.1 == n) with
  | some b => some b.2
  | none => if n < 3 then some (-273, 115) else none

/-- A sensor value against its band: EV_SENSOR_LIMIT when it leaves it, and again only after 10 s back inside by the hysteresis (22 R480; log 14). -/
def State.limitCheck (s : State) (n : Nat) (v : Int) : State :=
  match bandOf s.la.cfg n with
  | none => s
  | some (lo, hi) =>
    let out := v < lo ∨ hi < v
    let m := (hi - lo) / 50
    let inside := lo + m ≤ v ∧ v ≤ hi - m
    let r := s.rm
    if out then
      let s := { s with rm := { r with sensors := (n, true) :: r.sensors.filter (fun e => e.1 != n), back := sset zNat r.back n 0 } }
      if r.reported.contains n then s
      else
        let s := { s with rm := { s.rm with reported := n :: r.reported } }
        s.rmEvent 0x0E01 (n + (if hi < v then 256 else 0) + (v % 65536).toNat * 65536)
    else
      let k := if inside then sget zNat r.back n + 1 else 0
      let done := samples10 n ≤ k
      { s with rm := { r with sensors := r.sensors.filter (fun e => e.1 != n), back := sset zNat r.back n (if done then 0 else k),
                              reported := if done then r.reported.filter (fun m => m != n) else r.reported } }

/-- The thermal-cycle counter: the board inlet rises from below −10 °C to above 30 °C and falls below −10 °C again (22 R481). -/
def thermalStep (x : Life) (v : Int) : Life :=
  if v < -10 then (if x.phase = 2 then { x with thermal := x.thermal + 1, phase := 1 } else { x with phase := 1 })
  else if 30 < v ∧ x.phase = 1 then { x with phase := 2 }
  else x

/-- SENSOR_SAMPLE: Ringmaster samples a sensor (22 R480, R481; Table MBX-3; 21 Table SYS-9). A shock peak above 1 g goes into the histogram of its axis. -/
def execSensorSample (sn : Nat) (v : Int) (s : State) : Res :=
  if !s.rm.alive then .next s
  else
    let s := s.limitCheck sn v
    let s := if sn = 9 then { s with rm := { s.rm with life := thermalStep s.rm.life v } } else s
    let s := if 14 ≤ sn ∧ sn < 17 then
        let x := laneOf (sn - 14)
        s.setLane x (fset (s.lane x) Rg.MBX_VMEAS 9 0 (min (v * 10).toNat 1023))
      else s
    let s := if 36 ≤ sn ∧ sn < 39 then
        let x := laneOf (sn - 36)
        s.setLane x (fset (s.lane x) Rg.MBX_VMEAS 27 16 (min v.toNat 4095))
      else s
    let s := if sn = 32 then s.fsetAll Rg.SYS_SUPPLY 7 0 (min (v / 10).toNat 255) else s
    let s := if sn = 39 then s.fsetAll Rg.SYS_SUPPLY 15 8 (min (v / 20).toNat 255) else s
    let s := if 41 ≤ sn ∧ 1000 < v then
        let b := 16 * (sn - 41) + (Config.shockBin v).val
        { s with rm := { s.rm with hist := sset zNat s.rm.hist b (sget zNat s.rm.hist b + 1) } }
      else s
    .next s

/-- LIFE_COUNTER_UPDATE: the minute's flash update; operating seconds count while +12 V is present, and a dip defers the write (22 R481; 21 R463; log 15). -/
def execLifeCounterUpdate (s : State) : Res :=
  if !s.rm.alive then .next s
  else
    let x := s.rm.life
    let x := { x with seconds := if s.rm.start.input then x.seconds + 60 else x.seconds }
    let x := if s.rm.start.dip then x else { x with flash := (x.seconds, x.powerCycles, x.thermal) }
    .next { s with rm := { s.rm with life := x } }

/-! Voltage steering (02 R53; 22 R482; 01 R21). -/

/-- A steering command reaches a lane: its setpoint, and R21 no longer applies. -/
def steerTo (l : LaneState) (v : Nat) : LaneState :=
  let l := { l with mbx := { l.mbx with silentSteer := false } }
  bset (fset l Rg.MBX_VSET 4 0 v) Rg.MBX_STATUS 1 false

/-- STEERING_EVALUATION: after a DIGEST Ringmaster reads the lane's cycle slack. A reading below 100 ‰ raises the supply by 20 mV at once; at 64 readings and every 16th after, a worst slack of the last 16 above 200 ‰ lowers it by 10 mV. A lane that does not vote, an abandoned cycle and STEER_EN = 0 hold 0.90 V with an empty history (02 R53; 22 R482). -/
def execSteeringEvaluation (l : Lane) (s : State) : Res :=
  if !s.rm.alive then .next s
  else
    let x := s.lane l
    let others := s.rm.slackHist.filter (fun e => e.1 != l)
    let mine := s.rm.slackHist.filter (fun e => e.1 == l)
    if !votes x || !x.cfg.steerEn || bget x Rg.CYC_STATUS 9 then
      .next (({ s with rm := { s.rm with slackHist := others } }).setLane l (steerTo x 28))
    else
      let now := fget x Rg.CYC_SLACK 9 0
      let hist := (l, now) :: mine
      let n := hist.length
      let eval := n = 64 ∨ n = 80
      let keep := if n = 80 then hist.take 64 else hist
      let worst := ((hist.take 16).map (·.2)).foldl min 1000
      let v := fget x Rg.MBX_VSET 4 0
      let v' := if now < 100 then min (v + 2) 28 else if eval ∧ 200 < worst then v - 1 else v
      .next (({ s with rm := { s.rm with slackHist := keep ++ others } }).setLane l (steerTo x v'))

/-- VSET_REFRESH: Ringmaster writes the unchanged setpoint again, at least every 10 ms (22 R482). -/
def execVsetRefresh (l : Lane) (s : State) : Res :=
  .next (if s.rm.alive then s.setLane l (steerTo (s.lane l) (fget (s.lane l) Rg.MBX_VSET 4 0)) else s)

/-- STEER_FALLBACK: with no steering command for 100 ms the core regulator returns to 0.90 V by itself (01 R21). -/
def execSteerFallback (l : Lane) (s : State) : Res :=
  .next (s.onLane l (fun x =>
    let x := { x with mbx := { x.mbx with silentSteer := true } }
    bset (fset x Rg.MBX_VSET 4 0 28) Rg.MBX_STATUS 1 true))

/-! Auxiliary message buffers (22 Table MBX-3). -/

/-- The bytes of consecutive registers. -/
def regBytes (l : LaneState) (a n : Nat) : Bytes :=
  ((List.range ((n + 3) / 4)).flatMap (fun i => leBytes 4 (rget l (a + 4 * i)).toNat)).take n

/-- AUX_MESSAGE_SEND: the auxiliary core sends MBX_AUXOUT; ignored while OUT_BUSY. Ringmaster takes it at once while it runs (22 Table MBX-3; log 16). -/
def execAuxMessageSend (l : Lane) (v : Word) (s : State) : Res :=
  .next (s.onLane l (fun x => guardWrite x .x Rg.MBX_AUXOUT_CTRL (fun x =>
    let n := getBits v 8 0
    if bget x Rg.MBX_AUX_STAT 0 ∨ n = 0 ∨ 256 < n then x
    else if bget x Rg.MBX_STATUS 0 then emit x (.auxMsg (regBytes x (Rg.MBX_AUXOUTi 0) n))
    else bset x Rg.MBX_AUX_STAT 0 true)))

/-- AUX_MESSAGE_RECEIVE: Ringmaster writes a message for the auxiliary core into a free MBX_AUXIN (22 Table MBX-3). -/
def execAuxMessageReceive (l : Lane) (d : Bytes) (s : State) : Res :=
  .next (s.onLane l (fun x =>
    if !s.rm.alive ∨ !isSplit x ∨ bget x Rg.MBX_AUX_STAT 1 ∨ d.length = 0 ∨ 256 < d.length then x
    else fset (bset (rsetWords x (Rg.MBX_AUXINi 0) d) Rg.MBX_AUX_STAT 1 true) Rg.MBX_AUX_STAT 10 2 d.length))

/-- MBX_AUXIN_ACK: any write frees MBX_AUXIN and clears IN_FULL (22 Table MBX-3). -/
def execMbxAuxinAck (l : Lane) (s : State) : Res :=
  .next (s.onLane l (fun x => guardWrite x .x Rg.MBX_AUXIN_ACK (fun x =>
    fset (bset x Rg.MBX_AUX_STAT 1 false) Rg.MBX_AUX_STAT 10 2 0)))

end Sys2Proof.Machine
end

