-- ==== Sys2Proof/Machine/Blocks.lean ====
section
/-! DEFINITION. What several chapters make a lane do at once: outputs off, cores stopped, relays, the exclusion latch, and the safe state (09 R208, R209, R212; 13 R294; 10 R229). -/

namespace Sys2Proof.Machine

/-- The lane switches every field output off and opens each GSS and both SAFE_OK drives (09 R208, R212). -/
def fioOff (l : LaneState) : LaneState :=
  let l := { l with fio := { l.fio with gss := 0, okRelay := 0, pulse := none, gssPulse := none },
                    exe := { l.exe with outApplied := [] } }
  let l := rset (rset (rset l (Rg.FIO_CMDw 0) 0) (Rg.FIO_CMDw 1) 0) (Rg.FIO_CMDw 2) 0
  let l := (List.range 6).foldl (fun l g => bset l (Rg.FIO_GRPg_STAT g) 0 false) l
  fset l Rg.FIO_STATUS 1 0 0

/-- Whether the GSS of a group may close: the group is neither tripped nor held by a stuck rail (10 R229, R231). -/
def gssMayClose (l : LaneState) (g : Nat) : Bool := !bget l (Rg.FIO_GRPg_STAT g) 3

/-- Each GSS that may close and both SAFE_OK drives close (10 R229; 20 Table PWR-7 step 14). -/
def fioOn (l : LaneState) : LaneState :=
  let gs := (List.range 6).filter (gssMayClose l)
  let l := { l with fio := { l.fio with gss := BitVec.ofNat 6 ((gs.map (fun g => 2 ^ g)).foldl (· + ·) 0), okRelay := 3 } }
  let l := gs.foldl (fun l g => bset l (Rg.FIO_GRPg_STAT g) 0 true) l
  fset l Rg.FIO_STATUS 1 0 3

/-- The vital core stops: no instance runs any more and the lane offers no further item (03 R89; 09 R208). -/
def coreStop (l : LaneState) : LaneState :=
  { l with c0 := { l.c0 with halted := true }, c1 := if isSplit l then l.c1 else { l.c1 with halted := true },
           exe := { l.exe with insts := [], running := none } }

/-- The auxiliary core stops (08 R188). -/
def auxStop (l : LaneState) : LaneState :=
  if isSplit l then fset { l with c1 := { l.c1 with halted := true } } Rg.TRP_AUX_STATUS 1 0 2 else l

/-- The end ports show whether the lane commands them in line (13 Table CAR-11). -/
def showInLine (l : LaneState) (on : Bool) : LaneState := (List.range 4).foldl (fun l p => bset l (Rg.CAR_PORTp_STAT p) 2 on) l

/-- The lane no longer commands the bypass relays in line: its Carousel is bypassed and drops its position (13 R294; 20 R435). -/
def relaysOut (l : LaneState) : LaneState :=
  let l := showInLine { l with tri := { l.tri with bypass := true } } false
  fset (fset l Rg.CAR_STATUS 3 0 5) Rg.CAR_STATUS 13 8 0

/-- The lane commands the relays in line, and its Carousel starts in LISTEN, or DISABLED with ENABLE = 0 (13 R294, R314). -/
def relaysIn (l : LaneState) : LaneState :=
  let l := showInLine { l with tri := { l.tri with bypass := false } } true
  fset l Rg.CAR_STATUS 3 0 (if bget l Rg.CAR_CFG 0 then 1 else 0)

/-- The base cycle in force. -/
def cycleOf (l : LaneState) : Nat := l.exe.n

/-- Every vital slot buffer takes its configured stop content, eligible from the next cycle (06 R137 step 4; 09 R212; 02 R46). -/
def commitStopBufs (l : LaneState) : LaneState :=
  let bs := l.cfg.stopBufs.map (fun e => ({ b := e.1, bytes := e.2, from_ := l.exe.n + 1 } : TxBuf))
  { l with car := { l.car with txb := bs ++ l.car.txb.filter (fun t => !(bs.any (fun u => u.b == t.b))) } }

/-- Show the voters a lane sees and whether it runs degraded (09 Table TRI-11; 02 Table CYC-7; 21 Table SYS-10). -/
def setVoter (l : LaneState) (x : Lane) (on : Bool) : LaneState :=
  let l := bset l Rg.TRI_STATUS (4 + laneNo x) on
  let d := (voters l).length = 2
  bset (bset (bset l Rg.TRI_STATUS 8 d) Rg.CYC_STATUS 8 d) Rg.SYS_STATUS 4 d

/-- Show the state of a lane, coded as in Table TRI-13, and its own state in SELF. -/
def setLaneState (l : LaneState) (x : Lane) (st : Nat) : LaneState :=
  let l := fset l (Rg.TRI_LANEL_STAT (laneNo x)) 2 0 st
  if x = l.id then fset l Rg.TRI_STATUS 2 0 st else l

/-- A reintegration attempt in progress is abandoned: counted, and the joiner is excluded again; the attempt starts again from phase 1 (09 R223). -/
def dropReint (l : LaneState) : LaneState :=
  let ph := fget l Rg.TRI_REINT_STATUS 2 0
  if ph = 0 || 5 < ph then l
  else
    let j := if bget l Rg.TRI_REINT_STATUS 5 then l.id else laneOf (fget l Rg.TRI_REINT_STATUS 7 6)
    let l := setLaneState l j 1
    finc { rset l Rg.TRI_REINT_STATUS 0 with reint := {} } Rg.TRI_REINT_ABORTS 31 0 1

/-- The lane enters the safe state: outputs off, transmit mailboxes cancelled, slot buffers at stop content, no task, MODE reads STOP, and only stream 0x0600 items may still be released; the first cause is latched (09 R212; 06 R142). -/
def enterSafe (l : LaneState) (cause : Nat) : LaneState :=
  if isSafe l then l
  else
    let l := fset (bset (bset l Rg.TRI_STATUS 9 true) Rg.SYS_STATUS 5 true) Rg.TRI_SAFE_CAUSE 3 0 cause
    let l := dropReint (commitStopBufs (canCancelVital (fioOff (setMode l .stop))))
    { l with exe := { l.exe with insts := [], running := none, waiting := [], owed := [], nextImg := none,
                                 mig := none, cold := 0 },
             tri := { l.tri with items := l.tri.items.filter (fun v => v.applied || v.q.stream == 0x600) } }

/-- Fewer than two lanes vote, other than under debug SOLO: the safe state (09 Table TRI-5 cause 1). -/
def checkVoters (l : LaneState) : LaneState :=
  if (voters l).length < 2 && !bget l Rg.TRI_STATUS 10 then enterSafe l 1 else l

/-- What a lane does when its own exclusion latch sets (09 R208; 01 R17, R18). -/
def setLatch (l : LaneState) : LaneState :=
  if l.tri.latch then l
  else
    let l := auxStop (fioOff (coreStop l))
    let l := setLaneState (setVoter l l.id false) l.id 1
    { l with tri := { l.tri with latch := true, enables := [], drivers := false,
                                 items := l.tri.items.filter (fun v => v.applied) } }

/-- Whether an exclusion cause is hard: only 5, a state digest mismatch, is soft (09 Table TRI-4). -/
def hardCause (c : Nat) : Bool := c != 5

/-- FAIL_LIMIT (09 R209). -/
def failLimit (l : LaneState) : Nat := fget l Rg.TRI_CFG 7 4

/-- A lane notes the exclusion of lane `x`: cause and count, EV_LANE_EXCLUDED, hard exclusions toward FAIL_LIMIT, FAILED when they reach it, and the safe state when fewer than two lanes still vote (09 R207 to R210). `counts` is false for an exclusion under rule 4 in which the other judge gave AGREE. -/
def noteExcluded (l : LaneState) (x : Lane) (cause : Nat) (counts : Bool) : LaneState :=
  if !sees l x then l
  else
    let e := Rg.TRI_LANEL_EXCL (laneNo x)
    let l := finc (fset l e 3 0 cause) e 31 16 1
    let l := event l 0x0103 (laneNo x + 256 * cause)
    let st := Rg.TRI_LANEL_STAT (laneNo x)
    let l := if hardCause cause && counts then
        let l := { l with tri := { l.tri with hardT := l.tri.hardT ++ [(x, l.mer.ltime)] } }
        fset l st 11 8 (min ((l.tri.hardT.filter (fun h => h.1 == x)).length) 15)
      else if !hardCause cause then finc l st 31 16 1 else l
    let l := setVoter l x false
    let l := setLaneState l x (if failLimit l ≤ fget l st 11 8 then 5 else 1)
    checkVoters l

/-- A lane announces its own exclusion: its latch sets, and the others hear of it (09 R207; 08 R178). -/
def selfExclude (l : LaneState) (cause : Nat) : LaneState :=
  if l.tri.latch then l
  else
    let l := emit l (.assertion l.id)
    let e := Rg.TRI_LANEL_EXCL (laneNo l.id)
    let l := finc (fset l e 3 0 cause) e 31 16 1
    setLatch { l with tri := { l.tri with announced := l.id :: l.tri.announced } }

end Sys2Proof.Machine
end

