-- ==== Sys2Proof/Machine/PairLink.lean ====
section
/-! DEFINITION. The role of a paired module, its boundary and cycle counts, and pair slots (19 R418 to R428; 17 R396). -/

namespace Sys2Proof.Machine

/-- The module is part of a pair (19 R418). -/
def paired (l : LaneState) : Bool := bget l Rg.PRT_CFG 0

/-- ROLE (19 Table PRT-1). -/
def roleOf (l : LaneState) : Nat := fget l Rg.PRT_STATUS 2 0

/-- HB_LOSS. -/
def hbLoss (l : LaneState) : Nat := fget l Rg.PRT_CFG 11 8

/-- Whether a field channel is an output with PAIRED = 1 (17 R396). -/
def pairedOut (l : LaneState) (i : Nat) : Bool := fget l (Rg.FIO_CHi_CFG i) 8 8 == 1 && sget zNat l.fio.mode i == 3

/-- The PARTNER byte of the pair record (19 Table PRT-3). -/
def partnerByte (l : LaneState) : Byte :=
  BitVec.ofNat 8 (b2n (bget l Rg.PRT_STATUS 4) + 2 * b2n ((l.prt.lastHb.map (·.role)).getD 0 == 4) + 4 * b2n (bget l Rg.PRT_STATUS 5))

/-- A role change: a message item of the pair record, stamped at the boundary (19 R431). -/
def setRole (l : LaneState) (r : Nat) : LaneState :=
  if roleOf l = r then l
  else
    let l := fset l Rg.PRT_STATUS 2 0 r
    arrive l (.pairRole (BitVec.ofNat 8 r) (partnerByte l) ((cycleNo l + 1).setWidth 32))

/-- Clear the commands of the PAIRED outputs (19 R427). -/
def pairedOff (l : LaneState) : LaneState :=
  (List.range 96).foldl (fun l i => if pairedOut l i then bset l (Rg.FIO_CMDw (i / 32)) (i % 32) false else l) l

/-- The module resigns: at once it stops sending in pair slots and drives its PAIRED outputs off; it is a standby from the next boundary (19 R427, R428). -/
def resign (l : LaneState) : LaneState :=
  pairedOff (finc { l with prt := { l.prt with resigned := true } } Rg.PRT_SWITCHOVERS 31 16 1)

/-- The module sees its partner active while it is active itself: INDEX 1 resigns (19 R427). -/
def dualSeen (l : LaneState) : LaneState :=
  if roleOf l ≠ 2 || l.prt.resigned then l
  else
    let l := { l with prt := { l.prt with dualAt := some (l.prt.dualAt.getD (wNow l)) } }
    if bget l Rg.PRT_CFG 1 then resign l else l

/-- A standby acts for the module no longer: no instance, no item of its own, no frame in a mailbox (19 R420). -/
def stand (l : LaneState) (r : Nat) : LaneState :=
  let l := canCancelVital (setRole l r)
  { l with exe := { l.exe with insts := [], running := none, waiting := [] },
           prt := { l.prt with resigned := false, dirty := [], stage := [], consistent := none, wantFull := false } }

/-- What a base-cycle boundary does in a pair: a resignation takes effect, and HB_MISS counts (19 R424, R427). -/
def pairBoundary (l : LaneState) : LaneState :=
  if !paired l then l
  else
    let l := if l.prt.resigned then
        let us := match l.prt.dualAt with
          | some t => ((wNow l - t) / 1000).toNat
          | none => 0
        let l := if l.prt.dualAt.isSome then
            rset (event l 0x0902 us) Rg.PRT_DUAL_MAX (BitVec.ofNat 32 (max (rget l Rg.PRT_DUAL_MAX).toNat us))
          else l
        stand { l with prt := { l.prt with dualAt := none } } 3
      else l
    let miss := if l.prt.hbSeen then 0 else min (fget l Rg.PRT_HB_MISS 7 0 + 1) 255
    let l := fset l Rg.PRT_HB_MISS 7 0 miss
    let l := bset { l with prt := { l.prt with hbSeen := false } } Rg.PRT_STATUS 4 (l.prt.lastHb.isSome && decide (miss < hbLoss l))
    match l.prt.consistent with
    | some c =>
      let l := fset l Rg.PRT_STATUS 15 8 (min (l.exe.n - c) 255)
      if roleOf l = 4 && decide (c + 16 < (l.prt.lastHb.map (·.cycle)).getD 0) then setRole l 3 else l
    | none => if roleOf l = 4 then setRole l 3 else l

/-- What a Carousel cycle start does in a pair: SLOT_MISS and the cycles without a frame sent (19 R424, R428). -/
def pairCarousel (l : LaneState) : LaneState :=
  if !paired l then l
  else
    let l := fset l Rg.PRT_HB_MISS 15 8 (if l.prt.slotSeen then 0 else min (fget l Rg.PRT_HB_MISS 15 8 + 1) 255)
    let l := bset l Rg.PRT_STATUS 5 l.prt.slotSeen
    { l with prt := { l.prt with slotSeen := false, sentNow := false, txSilent := if l.prt.sentNow then 0 else l.prt.txSilent + 1 } }

/-- Whether the slots of a sender are pair slots: it is the position of either member (19 R423). -/
def pairSlot (l : LaneState) (sender : Nat) : Bool :=
  paired l && sender != 0 && (sender == fget l Rg.CAR_STATUS 13 8 || sender == (l.prt.lastHb.map (·.pos)).getD 0)

/-- A valid frame was taken in a pair slot that this module did not send (19 R423, R427). -/
def pairFrame (l : LaneState) : LaneState :=
  dualSeen { l with prt := { l.prt with slotSeen := true, slotAgo := some (wNow l) } }

/-- The data of a block of an area: the copy set, the agreed input image, the released output image, or the transmit buffers, eight blocks for each (19 R421). -/
def pairData (l : LaneState) (area b : Nat) : Bytes :=
  match area with
  | 0 => mrd l (256 * b) 256
  | 1 => mrd l (inBase + 256 * b) 256
  | 2 => sbytes l.exe.outApplied (256 * b) 256
  | _ =>
    let d := ((l.car.txb.find? (fun t => t.b == b / 8)).map (·.bytes)).getD []
    (List.range 256).map (fun i => d.getD (b % 8 * 256 + i) 0)

/-- Every block of every area (19 R422). -/
def allBlocks (l : LaneState) : List (Nat × Nat) :=
  (copyRanges l).flatMap (fun r => (List.range r.2).map (fun i => (0, r.1 + i)))
    ++ (List.range 256).map (fun b => (1, b)) ++ (List.range 255).map (fun b => (2, b)) ++ (List.range 2048).map (fun b => (3, b))

/-- The active marks every block of every area: a full copy starts (19 R422). -/
def markAll (l : LaneState) : LaneState :=
  if roleOf l = 2 then finc { l with prt := { l.prt with dirty := allBlocks l } } Rg.PRT_SYNC_CNT 31 16 1 else l

/-- The heartbeat of cycle `n`; a standby that asks for a full copy says so in BACKLOG (19 Table PRT-2, R422; log 140). -/
def heartbeat (l : LaneState) (n sent : Nat) : Heartbeat :=
  { role := roleOf l, mode := modeOf l, index := bget l Rg.PRT_CFG 1, backlog := if roleOf l = 2 then l.prt.dirty != [] else l.prt.wantFull,
    safe := isSafe l, handover := l.prt.handN != 0, pos := fget l Rg.CAR_STATUS 13 8, topo := rget l Rg.INA_TOPO, cycle := n,
    digest := if roleOf l = 2 then l.exe.digest else 0, blocks := sent, handoverN := l.prt.handN, eui := Config.eui,
    build := (l.app.map (·.build)).getD 0 }

/-- The block frames of cycle `n`: as many dirty blocks of the active as go out before T(n + 1) − 20 µs (19 R421; log 98). -/
def blockFrames (l : LaneState) (n : Nat) : List PairBlock :=
  (if roleOf l = 2 then l.prt.dirty.take (Config.linkRoom n) else []).map (fun b => { area := b.1, cycle := n, off := b.2, data := pairData l b.1 b.2 })

/-- After its DIGEST the active sends block frames and its heartbeat, another member only a heartbeat. `own` says that the lane drives the partner link; every lane keeps the frames it computes (19 R421). -/
def pairSend (own : Bool) (n : Nat) (l : LaneState) : LaneState :=
  if !paired l then l
  else
    let out := blockFrames l n
    let l := { l with prt := { l.prt with dirty := l.prt.dirty.drop out.length } }
    let l := bset (fset l Rg.PRT_BACKLOG 18 0 (min l.prt.dirty.length 524287)) Rg.PRT_STATUS 6 (roleOf l == 2 && l.prt.dirty != [])
    let hb := heartbeat l n out.length
    let l := { l with prt := { l.prt with frames := some (n, out, hb), wantFull := false } }
    if own then emit (out.foldl (fun l f => emit l (.pair f)) l) (.hb hb) else l

/-- Every lane compares the partner-link frames of a cycle with those it computes: a lane that does not drive the link withdraws its enable where they differ (19 R421; 01 R17). -/
def State.linkTaps (s : State) (l : Lane) : State :=
  match (s.lane l).prt.frames with
  | none => s
  | some f =>
    let off (y : Lane) : Bool := match (s.lane y).prt.frames with
      | some g => g.1 == f.1 && g.2 != f.2
      | none => false
    if s.sends l 8 then s.tapCheck l 8 (fun y => off y.id)
    else if allLanes.any (fun y => y != l && s.sends y 8 && off y) then s.setLane l (withdrawEnable (s.lane l) 8)
    else s

end Sys2Proof.Machine
end

