-- ==== Sys2Proof/Machine/Meridian.lean ====
section
/-! DEFINITION. Meridian (12): the clocks of an instance and their advance, the servos, sources of working time, steps and the cross-check, compare units, time inputs and outputs. -/

namespace Sys2Proof.Machine

/-! Signed numbers in registers. -/

/-- The low `n` bits of a number, read as signed. -/
def sgn (n v : Nat) : Int := let m := v % 2 ^ n; if m < 2 ^ (n - 1) then (m : Int) else (m : Int) - 2 ^ n

/-- A signed number saturated to `n` bits, as the bits of a field. -/
def satBits (n : Nat) (v : Int) : Nat :=
  let c := max (-(2 ^ (n - 1) : Nat) : Int) (min v (2 ^ (n - 1) - 1 : Nat))
  (c % (2 ^ n : Nat)).toNat

/-- A signed number saturated to a register. -/
def satWord (v : Int) : Word := BitVec.ofNat 32 (satBits 32 v)

/-- A number held between two bounds. -/
def clampInt (lo hi v : Int) : Int := max lo (min v hi)

/-- The middle of a list of three values, or the mean of two truncated toward zero to a multiple of 2 ns (12 R273). -/
def agreedStep : List Int → Int
  | [x, y, z] => max (min x y) (min (max x y) z)
  | [x, y] => 2 * (x + y).tdiv 4
  | x :: _ => x
  | [] => 0

/-! Clocks (12 R264, R267). -/

/-- ±100 ppm in units of 2⁻⁴⁰. -/
abbrev maxRate : Int := 109951163
/-- 10 ppm in units of 2⁻⁴⁰ (12 R279). -/
abbrev slewRate : Int := 10995116

/-- A clock one local step later: 2 × (1 + RATE × 2⁻⁴⁰) ns, the residue kept (12 R267). -/
def clockTick (c : Clock) : Clock :=
  let t : Int := (c.frac * 2 ^ 24 + c.resid : Nat) + 2 ^ 41 + 2 * clampInt (-maxRate) maxRate c.rate
  let low := (t % 2 ^ 40).toNat
  { clockSet c (clockNs c + t / 2 ^ 40) with frac := low / 2 ^ 24, resid := low % 2 ^ 24 }

/-- Shift a clock by whole nanoseconds. -/
def clockShift (c : Clock) (amt : Int) : Clock := clockSet c (clockNs c + amt)

/-- A domain clock. -/
def domClock (l : LaneState) (d : Nat) : Clock := if d = 0 then l.mer.d0 else l.mer.d1

/-- Replace a domain clock, and show its RATE. -/
def setDom (l : LaneState) (d : Nat) (c : Clock) : LaneState :=
  rset { l with mer := if d = 0 then { l.mer with d0 := c } else { l.mer with d1 := c } } (Rg.MER_Dd_RATE d) (satWord c.rate)

/-- The servo of a domain. -/
def servoOf (l : LaneState) (d : Nat) : Servo := if d = 0 then l.mer.s0 else l.mer.s1

/-- Replace the servo of a domain. -/
def setServo (l : LaneState) (d : Nat) (s : Servo) : LaneState :=
  { l with mer := if d = 0 then { l.mer with s0 := s } else { l.mer with s1 := s } }

/-- STATE of a domain (12 Table MER-7). -/
def domSt (l : LaneState) (d : Nat) : Nat := fget l (Rg.MER_Dd_STATUS d) 2 0

/-- Set STATE of a domain. -/
def setDomSt (l : LaneState) (d st : Nat) : LaneState := fset l (Rg.MER_Dd_STATUS d) 2 0 st

/-- FOLLOW: 0 holdover, 1 domain 0, 2 domain 1, 3 GNSS (12 Table MER-6). -/
def follow (l : LaneState) : Nat := fget l Rg.MER_STATUS 1 0

/-- The module's time-source class (12 Table MER-2). -/
def classOf (l : LaneState) : Nat := fget l Rg.MER_CLASS 2 0

/-- Show whether W follows GNSS or a LOCKED domain. -/
def showLocked (l : LaneState) : LaneState :=
  let f := follow l
  bset l Rg.MER_STATUS 3 (f == 3 || (1 ≤ f && domSt l (f - 1) == 3))

/-- The RATE of the source W follows. -/
def srcRate (l : LaneState) (f : Nat) : Int :=
  if f = 3 then l.mer.sg.integ else if f = 0 then l.mer.w.rate else (domClock l (f - 1)).rate

/-- W takes the rate of its source, and ±10 ppm during a slew (12 R267, R279). -/
def rateW (l : LaneState) : LaneState :=
  let f := follow l
  if f = 0 then l
  else { l with mer := { l.mer with w := { l.mer.w with rate := clampInt (-maxRate) maxRate (srcRate l f + l.mer.slew * slewRate) } } }

/-- Carousel cycle number of a lane. -/
def carCycle (l : LaneState) : Nat := (rget64 l Rg.CAR_CYCLE_LO Rg.CAR_CYCLE_HI).toNat

/-- The Carousel cycle length of a sheet in µs. -/
def sheetUs (l : LaneState) (s : Nat) : Nat := fget l (Rg.CAR_SHEETs_CFG s) 15 0

/-- The sheet in force. -/
def sheetNow (l : LaneState) : Nat := fget l Rg.CAR_SHEET 3 0

/-! The servo (12 R272). -/

/-- Request a step of a domain clock (12 R273). -/
def reqStep (l : LaneState) (d : Nat) (amt : Int) : LaneState :=
  let l := setServo l d { servoOf l d with req := some (amt, carCycle l) }
  rset (bset l (Rg.MER_Dd_STATUS d) 14 true) (Rg.MER_Dd_STEP_REQ d) (satWord amt)

/-- The PI part of R272: the new integrator and RATE for an offset in ns and a measurement interval in µs. -/
def servoPi (l : LaneState) (integ th sUs : Int) : Int × Int :=
  let tp : Int := fget l Rg.MER_SERVO 15 0
  let ti : Int := fget l Rg.MER_SERVO 31 16
  let i := clampInt (-maxRate) maxRate (integ - (th * sUs * 2 ^ 40).tdiv (tp * ti * 1000000000))
  (i, clampInt (-maxRate) maxRate (i - (th * 2 ^ 40).tdiv (tp * 1000000)))

/-- The servo of a domain takes a valid measurement of offset `th` (12 R272). A domain that had no grandmaster starts in ACQUIRE, and a LOST one continues in TRACK. -/
def servoMeas (l : LaneState) (d : Nat) (th : Int) (sUs : Nat) : LaneState :=
  let st := domSt l d
  let l := rset l (Rg.MER_Dd_OFFSET d) (satWord th)
  let l := if st = 4 then setDomSt l d 2 else l
  let st := if st = 4 then 2 else st
  let sv := servoOf l d
  if st ≤ 1 then
    setDomSt (reqStep (setServo l d { sv with integ := 0, good := 0, bad := 0 }) d (-th)) d 2
  else if 1000000 < th.natAbs then
    reqStep (setServo l d { sv with good := 0 }) d (-th)
  else
    let tol := fget l Rg.MER_LOCK 15 0
    let (i, rate) := servoPi l sv.integ th sUs
    let good := if th.natAbs ≤ tol then min (sv.good + 1) 16 else 0
    let bad := if 10 * tol < th.natAbs then min (sv.bad + 1) 4 else 0
    let l := setDom l d { domClock l d with rate := rate }
    let l := setServo l d { sv with integ := i, good := good, bad := bad }
    let l := if st = 2 ∧ good = 16 then setServo (setDomSt l d 3) d { servoOf l d with bad := 0 }
      else if st = 3 ∧ bad = 4 then setServo (setDomSt l d 2) d { servoOf l d with good := 0 }
      else l
    rateW (showLocked l)

/-- A domain without a valid measurement becomes LOST and keeps its RATE (12 R272). -/
def domainLost (l : LaneState) (d : Nat) : LaneState :=
  if 1 ≤ domSt l d ∧ domSt l d ≤ 3 then showLocked (setDomSt l d 4) else l

/-- DOMAIN_LOST (12 R272). -/
def execDomainLost (l : Lane) (d : Bool) (s : State) : Res := .next (s.onLane l (fun x => domainLost x (b2n d)))

/-! Link delay (12 R270, R271). -/

/-- The last Pdelay results of a port, newest first. -/
def pdelays (l : LaneState) (p : Nat) : List (Nat × Nat × Nat) := l.mer.pdel.filter (fun e => e.1 == p)

/-- The mean link delay of a port: the last 8 results. -/
def linkDelay (l : LaneState) (p : Nat) : Nat :=
  let r := pdelays l p
  if r = [] then 0 else ((r.map (fun e => e.2.1)).foldl (· + ·) 0) / r.length

/-- ASYM of a port in ns, its fraction of 0.125 ns units dropped toward zero (12 R269). -/
def asymNs (l : LaneState) (p : Nat) : Int := (sgn 16 (fget l (Rg.MER_PORTp_ASYM p) 15 0)).tdiv 8

/-- The port has a Pdelay result from the last 4 PDELAY_INT (12 R271). -/
def pdelayFresh (l : LaneState) (p : Nat) : Bool :=
  (pdelays l p).any (fun e => l.mer.ltime - e.2.2 ≤ 4 * fget l Rg.MER_PTP_CFG 7 0 * 62500000)

/-- The line of a backbone end port: 0 X, 1 Y. -/
def lineOf (port : Nat) : Nat := if port < 2 then 0 else 1

/-- A frame waits for an unscheduled window on an end port, by priority (13 R305). -/
def queueUnsched (l : LaneState) (port prio : Nat) (e : Emit) : LaneState :=
  { l with car := { l.car with unschedQ := l.car.unschedQ ++ [(port, prio, e)] } }

/-- PDELAY_REQ_SEND: a Pdelay_Req goes out on an end port in the next unscheduled window (12 R270; 13 R305). -/
def execPdelayReqSend (l : Lane) (port : Nat) (s : State) : Res :=
  .next (s.onLane l (fun x =>
    let q := sget zNat x.mer.pseq port
    let x := { x with mer := { x.mer with pseq := sset zNat x.mer.pseq port ((q + 1) % 65536) } }
    queueUnsched x port 1 (.pdelayReq port q)))

/-- PDELAY_REQ: a one-step Pdelay_Resp answers in an unscheduled window (12 R270; 13 R305). -/
def execPdelayReq (l : Lane) (port : Nat) (seq : Half) (rx : Nat) (s : State) : Res :=
  .next (s.onLane l (fun x => queueUnsched x port 1 (.pdelayResp port seq.toNat rx)))

/-- PDELAY_RESP: a link delay result; the port shows the mean of its last 8, and whether its segment is too long (12 R270, R271; 14 R336). -/
def execPdelayResp (l : Lane) (port : Nat) (delayNs : Nat) (s : State) : Res :=
  .next (s.onLane l (fun x =>
    let mine := ((port, delayNs, x.mer.ltime) :: pdelays x port).take 8
    let x := { x with mer := { x.mer with pdel := mine ++ x.mer.pdel.filter (fun e => e.1 != port) } }
    let x := fset x (Rg.MER_PORTp_DELAY port) 19 0 (min (linkDelay x port) 0xFFFFF)
    if port < 4 then bset x (Rg.INA_PORTp_STAT port) 5 (550 < linkDelay x port) else x))

/-! Sync (12 R271). -/

/-- Which end, 0 or 1, faces lower positions (14: End 1 unless the orientation is opposite). -/
def lowEnd (l : LaneState) : Nat := fget l Rg.CAR_STATUS 14 14

/-- The module's own position, 0 when none. -/
def ownPos (l : LaneState) : Nat := fget l Rg.CAR_STATUS 13 8

/-- Whether an end port faces the module at a position; true while either position is unknown. -/
def facesPos (l : LaneState) (port p : Nat) : Bool :=
  let k := ownPos l
  if p = 0 ∨ k = 0 ∨ p = k then true else if p < k then port % 2 == lowEnd l else port % 2 != lowEnd l

/-- What Meridian takes from a sync frame's domain block: grandmaster data, the UTC values of the domain W follows, and the measurement (12 R266, R271). -/
def merSync (l : LaneState) (m : SyncMsg) : LaneState :=
  let d := b2n m.d
  if !m.hasDom || !m.valid || domSt l d == 5 || !facesPos l m.port m.gmPos then l
  else
    let l := rset64 l (Rg.MER_Dd_GM_LO d) (Rg.MER_Dd_GM_HI d) m.gmEui
    let l := fset (fset l (Rg.MER_Dd_STATUS d) 6 4 m.gmClass) (Rg.MER_Dd_STATUS d) 13 8 m.gmPos
    let l := if follow l = d + 1 && classOf l != 1 then rset l Rg.MER_UTC (m.utc &&& 0x7FFFF#32) else l
    if !pdelayFresh l m.port then l
    else
      let th := clockNs (domClock l d) - m.origin - (linkDelay l m.port + asymNs l m.port)
      let line := lineOf m.port
      if line = 0 then
        if (servoOf l d).usedX then l
        else
          let l := bset l (Rg.MER_Dd_STATUS d) 3 false
          let l := servoMeas l d th (sheetUs l (sheetNow l))
          setServo l d { servoOf l d with usedX := true }
      else setServo l d { servoOf l d with heldY := some th }

/-- At the end of a Carousel cycle a domain takes the Line Y measurement when Line X gave none, and counts the cycle as missed when neither did (12 R271, R272). -/
def merCycleEnd (l : LaneState) (d : Nat) : LaneState :=
  let sv := servoOf l d
  let l := setServo l d { sv with usedX := false, heldY := none, miss := 0 }
  if sv.usedX then l
  else
    match sv.heldY with
    | some th => servoMeas (bset l (Rg.MER_Dd_STATUS d) 3 true) d th (sheetUs l (sheetNow l))
    | none =>
      let n := min (sv.miss + 1) 15
      let l := setServo l d { sv with usedX := false, heldY := none, miss := n, good := 0, bad := 0 }
      if fget l Rg.MER_LOCK 19 16 ≤ n then domainLost l d else l

/-! Sources of working time (12 R277 to R281). -/

/-- The source R277 prefers now: GNSS in class 1, the PREF domain or the other one when LOCKED, holdover. -/
def bestSource (l : LaneState) : Nat :=
  let p := fget l Rg.MER_CFG 0 0
  if classOf l = 1 then 3 else if domSt l p = 3 then p + 1 else if domSt l (1 - p) = 3 then 2 - p else 0

/-- The source W should follow now: it leaves a domain that is LOST, or out of LOCKED while another source is available (12 R277, R278). -/
def nextSource (l : LaneState) : Nat :=
  let f := follow l
  if classOf l = 1 then 3
  else if f = 1 ∨ f = 2 then
    let st := domSt l (f - 1)
    if st = 3 then f
    else if domSt l (2 - f) = 3 then 3 - f
    else if st = 1 ∨ st = 2 then f else 0
  else bestSource l

/-- The time of a source. For GNSS it is W less the last PPS offset. -/
def srcNs (l : LaneState) (f : Nat) : Int :=
  if f = 3 then wNow l - sgn 32 (rget l Rg.MER_GNSS_OFFSET).toNat else clockNs (domClock l (f - 1))

/-- The sync error of the Carousel that comes from what W follows (13 R311). -/
def followErr (l : LaneState) : Nat :=
  let f := follow l
  if f = 0 then l.car.holdErr + 100 * (rget l Rg.MER_HOLDOVER).toNat
  else if f = 3 ∨ domSt l (f - 1) = 5 then 0
  else (sgn 32 (rget l (Rg.MER_Dd_OFFSET (f - 1))).toNat).natAbs + (wNow l - clockNs (domClock l (f - 1))).natAbs

/-- W enters holdover with the rate of its last source (12 R280). -/
def toHoldover (l : LaneState) : LaneState :=
  let e := followErr l
  let f := follow l
  let l := { l with mer := { l.mer with w := { l.mer.w with rate := srcRate l f }, slew := 0, wreq := none,
                                        lastSrc := f, holdAt := l.mer.ltime },
                    car := { l.car with holdErr := e } }
  let l := rset (fset (bset l Rg.MER_STATUS 2 false) Rg.MER_STATUS 1 0 0) Rg.MER_HOLDOVER 0
  event (showLocked l) 0x0302 0

/-- W changes its source: a slew between the domains or for an offset up to 1 ms, a step request otherwise (12 R278, R279). EV_TIME_DOMAIN_SWITCH carries the old and the new source. -/
def toSource (l : LaneState) (f : Nat) : LaneState :=
  let old := follow l
  let l := event l 0x0301 (old + 16 * f)
  if f = 0 then toHoldover l
  else
    let dl := srcNs l f - wNow l
    let both := 1 ≤ old ∧ old ≤ 2 ∧ f ≤ 2
    let slews := both ∨ dl.natAbs ≤ 1000000
    let sg : Int := if slews then dl.sign else 0
    let l := bset (fset l Rg.MER_STATUS 1 0 f) Rg.MER_STATUS 5 true
    let l := rset (bset l Rg.MER_STATUS 2 (sg != 0)) Rg.MER_HOLDOVER 0
    let l := { l with mer := { l.mer with slew := sg, wreq := if slews then none else some (dl, carCycle l),
                                          sg := if f = 3 then { integ := l.mer.w.rate } else l.mer.sg } }
    rateW (showLocked l)

/-- SOURCE_CHANGE (12 R277, R278). -/
def execSourceChange (l : Lane) (s : State) : Res :=
  .next (s.onLane l (fun x => if nextSource x = follow x then showLocked x else toSource x (nextSource x)))

/-- RETURN_HOLD_EXPIRY: PREF has been LOCKED for RETURN_HOLD, and W returns to it (12 R278). -/
def execReturnHoldExpiry (l : Lane) (s : State) : Res :=
  .next (s.onLane l (fun x =>
    let p := fget x Rg.MER_CFG 0 0
    if domSt x p = 3 ∧ follow x ≠ p + 1 ∧ follow x ≠ 3 then toSource x (p + 1) else x))

/-- A slew ends: W equals its source and follows it exactly (12 R279). -/
def slewEnd (l : LaneState) : LaneState :=
  if l.mer.slew = 0 then l
  else
    let f := follow l
    let w := if f = 1 ∨ f = 2 then domClock l (f - 1) else clockSet l.mer.w (srcNs l f)
    rateW (bset { l with mer := { l.mer with slew := 0, w := w } } Rg.MER_STATUS 2 false)

/-- SLEW_END (12 R279). -/
def execSlewEnd (l : Lane) (s : State) : Res := .next (s.onLane l slewEnd)

/-! Compare units (12 R283 to R286). -/

/-- Units lie 16 bytes apart. -/
abbrev unitCtrl (u : Nat) : Nat := Rg.MER_CMPu_CTRL u

/-- d of R283 for a target of seconds [31:0] and nanoseconds. -/
def cmpDist (l : LaneState) (sec ns : Nat) : Int :=
  sgn 32 (((l.mer.w.sec % 2 ^ 32 : Nat) + 2 ^ 32 - sec % 2 ^ 32) % 2 ^ 32) * 1000000000 + ((l.mer.w.ns : Int) - ns)

/-- d of a unit's target. -/
def unitDist (l : LaneState) (u : Nat) : Int :=
  cmpDist l (rget l (Rg.MER_CMPu_SEC u)).toNat (fget l (Rg.MER_CMPu_NS u) 29 0)

/-- Move a unit's target forward, with carry (12 R284). -/
def unitAdvance (l : LaneState) (u : Nat) (ns : Nat) : LaneState :=
  let t := fget l (Rg.MER_CMPu_NS u) 29 0 + ns
  let sec := ((rget l (Rg.MER_CMPu_SEC u)).toNat + t / 1000000000) % 2 ^ 32
  fset (rset l (Rg.MER_CMPu_SEC u) (BitVec.ofNat 32 sec)) (Rg.MER_CMPu_NS u) 29 0 (t % 1000000000)

/-- The level a TOUT pin takes from this instance: its pulse, inverted when INVERT = 1 (12 R286). -/
def toutLevel (l : LaneState) (k : Nat) : Bool := l.mer.tout.getLsbD k != bget l (unitCtrl (k + 2)) 2

/-- Start or end the pulse of a TOUT pin (12 R286). -/
def setTout (l : LaneState) (k : Nat) (on : Bool) : LaneState :=
  let m : BitVec 4 := 1#4 <<< k
  let l := { l with mer := { l.mer with tout := if on then l.mer.tout ||| m else l.mer.tout &&& ~~~m } }
  emit l (.tout k (toutLevel l k))

/-- A unit fires: a one-shot clears ARM, a periodic target moves on by PERIOD, and by as many whole periods more as W has already passed, which count as MISSED (12 R284, R286). -/
def unitFire (l : LaneState) (u : Nat) : LaneState :=
  let l := finc l (Rg.MER_CMPu_STAT u) 15 0 1
  let per := (rget l (Rg.MER_CMPu_PERIOD u)).toNat
  let l := if bget l (unitCtrl u) 1 ∧ per ≠ 0 then
      let l := unitAdvance l u per
      let d := unitDist l u
      if 0 ≤ d then
        let k := d.toNat / per + 1
        finc (unitAdvance l u (k * per)) (Rg.MER_CMPu_STAT u) 31 24 k
      else l
    else bset l (unitCtrl u) 0 false
  if 2 ≤ u ∧ u ≤ 5 then setTout l (u - 2) true else l

/-- Every armed unit whose target W has reached fires. -/
def fireDue (l : LaneState) : LaneState :=
  (List.range 16).foldl (fun l u => if bget l (unitCtrl u) 0 && decide (0 ≤ unitDist l u) then unitFire l u else l) l

/-- Whether an arming write of units keeps the rules for PERIOD (12 R286; Table MER-5). -/
def armOk (l : LaneState) (u : Nat) : Bool :=
  let per := (rget l (Rg.MER_CMPu_PERIOD u)).toNat
  !bget l (unitCtrl u) 1 || (1000 ≤ per && (!(2 ≤ u && u ≤ 5) || fget l (unitCtrl u) 31 16 * 1000 < per))

/-- A write of MER_CMPu_CTRL: the old target fires first when it falls on the same step; ARM = 1 arms the unit with SEC, NS and PERIOD as they stand, or sets ERR; a target already reached fires at once and sets LATE (12 R284, R286). -/
def cmpCtrlWrite (l : LaneState) (u : Nat) (v : Word) : LaneState :=
  let l := if bget l (unitCtrl u) 0 && decide (0 ≤ unitDist l u) then unitFire l u else l
  let l := rset l (unitCtrl u) (maskWord 0xFFFF0007 (rget l (unitCtrl u)) v)
  if !v.getLsbD 0 then l
  else if armOk l u then
    let l := bset l (unitCtrl u) 3 false
    if 0 ≤ unitDist l u then bset (unitFire l u) (Rg.MER_CMPu_STAT u) 16 true else l
  else bset (bset l (unitCtrl u) 0 false) (unitCtrl u) 3 true

/-- COMPARE_FIRE: an armed unit's target is reached (12 R283, R284; log 19). -/
def execCompareFire (l : Lane) (un : Nat) (s : State) : Res :=
  .next (s.onLane l (fun x => if un < 16 ∧ bget x (unitCtrl un) 0 then unitFire x un else x))

/-- TOUT_PULSE_END (12 R286). -/
def execToutPulseEnd (l : Lane) (k : Nat) (s : State) : Res :=
  .next (s.onLane l (fun x => if k < 4 then setTout x k false else x))

/-- Set a unit the executive writes: its target in ns and its period (12 Table MER-3). -/
def armUnit (l : LaneState) (u : Nat) (t : Int) (per : Nat) : LaneState :=
  let l := rset l (Rg.MER_CMPu_SEC u) (BitVec.ofNat 32 (t / 1000000000).toNat)
  let l := rset l (Rg.MER_CMPu_NS u) (BitVec.ofNat 32 (t % 1000000000).toNat)
  rset (rset l (Rg.MER_CMPu_PERIOD u) (BitVec.ofNat 32 per)) (unitCtrl u) 3

/-- The first multiple of a length that lies at or after a time. -/
def firstMultiple (t : Int) (len : Nat) : Int := -((-t) / len) * len

/-! Steps of a clock (12 R273, R281; 02 R54). -/

/-- W steps: EV_TIME_STEP, the next release of every task carries TSTEP in any mode, and unit 0, where the executive has armed it or the module runs, goes on at the first boundary that lies at least B/2 after the step (12 R281, R284; 02 R54, R58). -/
def stepW (l : LaneState) (amt : Int) : LaneState :=
  let l := { l with mer := { l.mer with w := clockShift l.mer.w amt } }
  let l := event l 0x0303 (satBits 32 amt)
  let b := baseNs l
  let l := { l with exe := { l.exe with tstep := List.range 16 } }
  let l := if (modeOf l = .run ∨ bget l (unitCtrl 0) 0) ∧ b ≠ 0 then
      armUnit l 0 (firstMultiple (wNow l + b / 2) b) b
    else l
  fireDue l

/-- Apply a commanded shift: a step of a domain clock counts in STEPS, and W steps with the domain it follows; a correction is no step of the module's time (12 R273, R281, R290). -/
def applyShift (l : LaneState) (c : MerClk) (amt : Int) (step : Bool) : LaneState :=
  match c with
  | .w => if step then { stepW l amt with mer := { (stepW l amt).mer with wreq := none } }
          else { l with mer := { l.mer with w := clockShift l.mer.w amt } }
  | .d0 =>
    let l := setDom l 0 (clockShift l.mer.d0 amt)
    if step then
      let l := finc l (Rg.MER_Dd_STEPS 0) 31 0 1
      if follow l = 1 then stepW l amt else l
    else l
  | .d1 =>
    let l := setDom l 1 (clockShift l.mer.d1 amt)
    if step then
      let l := finc l (Rg.MER_Dd_STEPS 1) 31 0 1
      if follow l = 2 then stepW l amt else l
    else l

/-- Show whether a commanded step waits for its epoch. -/
def showPending (l : LaneState) : LaneState := bset l Rg.MER_STATUS 6 (l.mer.cmds.any (fun c => c.2.2.1))

/-- Command a shift of a clock: a step waits two check epochs, a correction one (12 R273, R290). -/
def commandShift (l : LaneState) (c : MerClk) (amt : Int) (step : Bool) : LaneState :=
  showPending { l with mer := { l.mer with cmds := l.mer.cmds ++ [(c, amt, step, if step then 2 else 1)] } }

/-- At a check epoch each commanded shift comes one epoch nearer, and those due apply. -/
def epochShifts (l : LaneState) : LaneState :=
  let cs := l.mer.cmds.map (fun c => (c.1, c.2.1, c.2.2.1, c.2.2.2 - 1))
  let due := cs.filter (fun c => c.2.2.2 == 0)
  let l := { l with mer := { l.mer with cmds := cs.filter (fun c => c.2.2.2 != 0) } }
  showPending (due.foldl (fun l c => applyShift l c.1 c.2.1 c.2.2.1) l)

/-- Latch W, D0 and D1 (12 R290). -/
def latchEpoch (l : LaneState) : LaneState :=
  { l with mer := { l.mer with epochs := (l.mer.ltime, wNow l, clockNs l.mer.d0, clockNs l.mer.d1) :: l.mer.epochs.take 2 } }

/-- A clock in ns. -/
def clkNs (l : LaneState) : MerClk → Int
  | .w => wNow l
  | .d0 => clockNs l.mer.d0
  | .d1 => clockNs l.mer.d1

/-- The three clocks. -/
def allClks : List MerClk := [.w, .d0, .d1]

/-- The outstanding step request for a clock. -/
def clkReq (l : LaneState) : MerClk → Option (Int × Nat)
  | .w => l.mer.wreq
  | .d0 => l.mer.s0.req
  | .d1 => l.mer.s1.req

/-- Drop the collected requests. -/
def dropReqs (l : LaneState) : LaneState :=
  let l := { l with mer := { l.mer with s0 := { l.mer.s0 with req := none }, s1 := { l.mer.s1 with req := none }, wreq := none } }
  bset (bset l (Rg.MER_Dd_STATUS 0) 14 false) (Rg.MER_Dd_STATUS 1) 14 false

/-- The lanes whose instance runs. -/
def State.merRunning (s : State) : List Lane := allLanes.filter (fun x => (s.lane x).mer.running)

/-- The step Ringmaster commands for a clock: at least two requests from measurements of the same Carousel cycle (12 R273). -/
def State.wantedStep (s : State) (c : MerClk) : Option Int :=
  let rs := s.merRunning.filterMap (fun x => clkReq (s.lane x) c)
  let ok := rs.filter (fun r => 2 ≤ (rs.filter (fun q => q.2 == r.2)).length)
  if ok = [] then none else some (agreedStep (ok.map (·.1)))

/-- TOL in ns. -/
def xTol (l : LaneState) : Nat := fget l Rg.MER_XCHK_CFG 9 0

/-- The cross-check corrects one clock of one instance; more than 3 corrections within 10 s mark it FAULTY, and its lane announces its own exclusion (12 R290). -/
def correct (l : LaneState) (c : MerClk) (diff : Int) : LaneState :=
  let t := l.mer.ltime
  let recent := t :: l.mer.corrT.filter (fun u => t - u ≤ 5000000000)
  let l := commandShift { l with mer := { l.mer with corrT := recent } } c diff false
  let l := fset (finc l Rg.MER_XCHK_STAT 15 0 1) Rg.MER_XCHK_STAT 31 16 (satBits 16 diff)
  if 3 < recent.length then selfExclude (coreStop (bset l Rg.MER_STATUS 4 true)) 2 else l

/-- The cross-check of one clock over three running instances (12 R290). -/
def State.xcheck (s : State) (c : MerClk) : State :=
  match s.merRunning with
  | [x, y, z] =>
    let vs := [x, y, z].map (fun k => clkNs (s.lane k) c)
    let m := agreedStep vs
    [x, y, z].foldl (fun s k =>
      let l := s.lane k
      if xTol l < (clkNs l c - m).natAbs then s.setLane k (correct l c (m - clkNs l c)) else s) s
  | _ => s

/-- Count the consecutive epochs an instance passes within TOL (12 R291). -/
def State.countOk (s : State) : State :=
  let run := s.merRunning
  let med (c : MerClk) : Int := agreedStep (run.map (fun k => clkNs (s.lane k) c))
  run.foldl (fun s k =>
    let l := s.lane k
    let ok := allClks.all (fun c => decide ((clkNs l c - med c).natAbs ≤ xTol l))
    s.setLane k { l with mer := { l.mer with joinOk := if ok then min (l.mer.joinOk + 1) 3 else 0 } }) s

/-- Two running instances that differ by more than TOL disagree in degraded 2oo2 (12 R290; 09 R211). -/
def State.xpair (s : State) : State :=
  match s.merRunning with
  | [x, y] =>
    let far := allClks.any (fun c => decide (xTol (s.lane x) < (clkNs (s.lane x) c - clkNs (s.lane y) c).natAbs))
    if far then s.mapLanes (fun l => if bget l Rg.TRI_STATUS 8 then enterSafe l 2 else l) else s
  | _ => s

/-- CHECK_EPOCH: commanded shifts apply, the instances latch their clocks, Ringmaster collects step requests and cross-checks. It pauses while Ringmaster is down (12 R273, R290, R291). -/
def execCheckEpoch (s : State) : Res :=
  if !s.rm.alive then .next s
  else
    let run (l : LaneState) (f : LaneState → LaneState) : LaneState := if l.mer.running then f l else l
    let s := s.mapLanes (fun l => run l epochShifts)
    let s := s.mapLanes (fun l => run l latchEpoch)
    let want := allClks.filterMap (fun c => (s.wantedStep c).map (fun a => (c, a)))
    let s := s.mapLanes (fun l => run l dropReqs)
    let s := want.foldl (fun s w => s.mapLanes (fun l => run l (fun l => commandShift l w.1 w.2 true))) s
    let s := s.countOk
    let s := (allClks.foldl State.xcheck s).xpair
    .next s.takeReports

/-- The amount Ringmaster left in MER_ADJ_SEC and MER_ADJ_NS, in ns. -/
def adjNs (l : LaneState) : Int :=
  sgn 32 (rget l Rg.MER_ADJ_SEC).toNat * 1000000000 + sgn 32 (rget l Rg.MER_ADJ_NS).toNat

/-- The clock MER_ADJ_CTRL [1:0] names. -/
def clkOf : Nat → Option MerClk
  | 0 => some .w
  | 1 => some .d0
  | 2 => some .d1
  | _ => none

/-- A write of MER_ADJ_CTRL: GO commands the shift that MER_ADJ_SEC and MER_ADJ_NS hold (12 Table MER-5). -/
def adjCtrlWrite (l : LaneState) (v : Word) : LaneState :=
  match clkOf (getBits v 1 0) with
  | some c => if v.getLsbD 8 then commandShift l c (adjNs l) (v.getLsbD 4) else l
  | none => l

/-- The code of a clock in MER_ADJ_CTRL. -/
def clkCode : MerClk → Nat
  | .w => 0
  | .d0 => 1
  | .d1 => 2

/-- MER_STEP: Ringmaster writes MER_ADJ_CTRL with GO and STEP (12 R273). -/
def execMerStep (l : Lane) (clk : MerClk) (s : State) : Res :=
  .next (s.onLane l (fun x => guardWrite x .m Rg.MER_ADJ_CTRL (fun x => adjCtrlWrite x (BitVec.ofNat 32 (clkCode clk + 0x110)))))

/-- MER_CORRECTION: Ringmaster writes MER_ADJ_CTRL with GO and without STEP (12 R290). -/
def execMerCorrection (l : Lane) (clk : MerClk) (s : State) : Res :=
  .next (s.onLane l (fun x => guardWrite x .m Rg.MER_ADJ_CTRL (fun x => adjCtrlWrite x (BitVec.ofNat 32 (clkCode clk + 0x100)))))

/-! Grandmasters (12 R274, R275). -/

/-- The order R274 ranks candidates in: class, cab-active first, lower position. -/
def candBefore (a b : Nat × Nat × Bool) : Bool :=
  if a.2.1 ≠ b.2.1 then a.2.1 < b.2.1
  else if a.2.2 ≠ b.2.2 then a.2.2
  else a.1 < b.1

/-- The best of a list of candidates. -/
def bestCand (cs : List (Nat × Nat × Bool)) : Option (Nat × Nat × Bool) :=
  cs.foldl (fun b c => match b with
    | none => some c
    | some x => if candBefore c x then some c else some x) none

/-- The module's own entry in the ranking. -/
def ownCand (l : LaneState) : List (Nat × Nat × Bool) :=
  if bget l Rg.MER_CFG 1 && 1 ≤ classOf l && classOf l ≤ 3 && ownPos l != 0 then [(ownPos l, classOf l, bget l Rg.CAR_CAB 0)] else []

/-- The ranking of a Carousel cycle that ended: positions and classes of both grandmasters, and how many cycles it has stood (12 R274). -/
def rankCycle (l : LaneState) : LaneState :=
  let cs := ownCand l ++ l.mer.cands.filter (fun c => c.1 != ownPos l)
  let pick (o : Option (Nat × Nat × Bool)) : Nat × Nat := match o with
    | some c => (c.1, c.2.1)
    | none => (0, 0)
  let a := pick (bestCand cs)
  let b := pick (bestCand (cs.filter (fun c => c.1 != a.1)))
  { l with mer := { l.mer with cands := [], gmCand := (a, b),
                               gmStood := if l.mer.gmCand = (a, b) then min (l.mer.gmStood + 1) 8 else 1 } }

/-- A ranked module becomes grandmaster of a domain, or nobody does (12 R274, R275). -/
def setGm (l : LaneState) (d : Nat) (g : Nat × Nat) : LaneState :=
  let own := g.1 ≠ 0 ∧ g.1 = ownPos l
  let st := domSt l d
  let l := fset (fset l (Rg.MER_Dd_STATUS d) 6 4 g.2) (Rg.MER_Dd_STATUS d) 13 8 g.1
  let l := bset l Rg.MER_CLASS (8 + d) own
  if own then
    let l := rset64 (setDomSt l d 5) (Rg.MER_Dd_GM_LO d) (Rg.MER_Dd_GM_HI d) Config.eui
    if classOf l = 1 then l else setDom l d l.mer.w
  else if g.1 = 0 then
    rset64 (setDomSt l d (if st = 0 ∨ st = 5 then 0 else 4)) (Rg.MER_Dd_GM_LO d) (Rg.MER_Dd_GM_HI d) 0
  else if st = 5 then setDomSt l d 2
  else if st = 0 then setDomSt l d 1
  else l

/-- GRANDMASTER_CHANGE: a ranking that has stood unchanged for 8 cycles takes effect (12 R274). -/
def execGrandmasterChange (l : Lane) (s : State) : Res :=
  .next (s.onLane l (fun x =>
    if x.mer.gmStood < 8 then x
    else
      let (a, b) := x.mer.gmCand
      let apply (x : LaneState) (d : Nat) (g : Nat × Nat) : LaneState :=
        if fget x (Rg.MER_Dd_STATUS d) 13 8 = g.1 ∧ (domSt x d = 5 ↔ (g.1 ≠ 0 ∧ g.1 = ownPos x)) then x else setGm x d g
      showLocked (apply (apply x 0 a) 1 b)))

/-! Classes and GNSS (12 Table MER-2, R288). -/

/-- The class of the module (12 Table MER-2, R288). -/
def updateClass (l : LaneState) : LaneState :=
  let c := if bget l Rg.MER_GNSS_STAT 0 then (if bget l Rg.MER_UTC 18 then 1 else 3)
    else if !l.mer.absent10 then 2 else if l.mer.ocxoWarm then 3 else 4
  fset l Rg.MER_CLASS 2 0 c

/-- GNSS stops being valid (12 R288). -/
def gnssBreak (l : LaneState) : LaneState :=
  updateClass (fset (bset l Rg.MER_GNSS_STAT 0 false) Rg.MER_GNSS_STAT 15 8 0)

/-- OCXO_WARM: 15 min after power-on (12 Table MER-2). -/
def execOcxoWarm (l : Lane) (s : State) : Res :=
  .next (s.onLane l (fun x => updateClass { x with mer := { x.mer with ocxoWarm := true } }))

/-- GNSS_ABSENCE_EXPIRY: 10 min after GNSS was last valid (12 Table MER-2). -/
def execGnssAbsenceExpiry (l : Lane) (s : State) : Res :=
  .next (s.onLane l (fun x =>
    if bget x Rg.MER_GNSS_STAT 0 then x else updateClass { x with mer := { x.mer with absent10 := true } }))

/-- PPS_MISSING: no edge within 1 µs of 1 s after the previous one (12 R288). -/
def execPpsMissing (l : Lane) (s : State) : Res :=
  .next (s.onLane l (fun x => gnssBreak { bset x Rg.MER_GNSS_STAT 1 false with mer := { x.mer with ppsGood := false } }))

/-- PPS_IN_EDGE: the edge is stamped; it is good when it lies within 1 µs of 1 s after the previous one on the local counter (12 R288). -/
def execPpsInEdge (l : Lane) (s : State) : Res :=
  .next (s.onLane l (fun x =>
    if !bget x Rg.MER_GNSS_CFG 0 then x
    else
      let t := x.mer.ltime
      let good := match x.mer.ppsAt with
        | some u => 499999500 ≤ t - u && t - u ≤ 500000500
        | none => false
      let x := { x with mer := { x.mer with ppsAt := some t, ppsW := wNow x, ppsGood := good } }
      let x := bset x Rg.MER_GNSS_STAT 1 true
      if good then x else gnssBreak x))

/-- What a labelled PPS edge gives: the offset of W, and the servo of W and of a domain clock the module masters in class 1 (12 R275, R288). -/
def ppsOffset (l : LaneState) (label : Nat) : LaneState :=
  let utc := sgn 16 (fget l Rg.MER_UTC 15 0)
  let th := l.mer.ppsW - fget l Rg.MER_GNSS_CFG 29 16 - ((label : Int) + utc) * 1000000000
  let l := rset l Rg.MER_GNSS_OFFSET (satWord th)
  if classOf l ≠ 1 then l
  else
    let l := if follow l = 3 then
        if 1000000 < th.natAbs then { l with mer := { l.mer with wreq := some (-th, carCycle l) } }
        else
          let (i, r) := servoPi l l.mer.sg.integ th 1000000
          { l with mer := { l.mer with sg := { l.mer.sg with integ := i },
                                       w := { l.mer.w with rate := clampInt (-maxRate) maxRate (r + l.mer.slew * slewRate) } } }
      else l
    [0, 1].foldl (fun l d =>
      if domSt l d = 5 then
        let td := th + (clockNs (domClock l d) - wNow l)
        if 1000000 < td.natAbs then reqStep l d (-td)
        else
          let (i, r) := servoPi l (servoOf l d).integ td 1000000
          setServo (setDom l d { domClock l d with rate := r }) d { servoOf l d with integ := i }
      else l) l

/-- RMC_SENTENCE: a sentence 10 to 900 ms after a PPS edge labels it; three consecutive good seconds make GNSS valid (12 R288). -/
def execRmcSentence (l : Lane) (stA : Bool) (label : Nat) (msAfter : Nat) (s : State) : Res :=
  .next (s.onLane l (fun x =>
    if !bget x Rg.MER_GNSS_CFG 0 || msAfter < 10 || 900 < msAfter then x
    else
      let x := bset x Rg.MER_GNSS_STAT 2 stA
      let good := x.mer.ppsGood && stA && label == x.mer.label + 1
      let x := { x with mer := { x.mer with label := label } }
      if good then
        let x := finc x Rg.MER_GNSS_STAT 15 8 1
        let ok := 3 ≤ fget x Rg.MER_GNSS_STAT 15 8
        let x := if ok then
            updateClass { bset x Rg.MER_GNSS_STAT 0 true with mer := { x.mer with absent10 := false } }
          else x
        if ok then ppsOffset x label else x
      else gnssBreak x))

/-- LEAP_SECOND: MER_UTC changes at the end of the announced UTC day; W does not jump (12 R266). -/
def execLeapSecond (l : Lane) (s : State) : Res :=
  .next (s.onLane l (fun x =>
    let u := fget x Rg.MER_UTC 15 0
    let v := if bget x Rg.MER_UTC 16 then u + 1 else if bget x Rg.MER_UTC 17 then u + 65535 else u
    bset (bset (fset x Rg.MER_UTC 15 0 v) Rg.MER_UTC 16 false) Rg.MER_UTC 17 false))

/-! Consist PTP (12 R276; 15 R347). -/

/-- The consist port number 0 to 3 of a stamped port 4 to 7. -/
def consistPtp (l : LaneState) (port : Nat) : Bool :=
  4 ≤ port && port < 8 && bget l (Rg.ECN_PORTp_CFG (port - 4)) 3

/-- clockClass announced on the consist network (12 R276). -/
def clockClass (l : LaneState) : Nat :=
  let f := follow l
  if f = 3 then 6 else if f = 0 ∧ l.mer.lastSrc = 3 then 7 else if f ≠ 0 ∧ domSt l (f - 1) = 3 then 52 else 248

/-- CONSIST_SYNC_SEND: the owner lane sends Sync and Announce on a PTP-enabled consist port (12 R276). -/
def execConsistSyncSend (l : Lane) (port : Nat) (s : State) : Res :=
  .next (s.onLane l (fun x =>
    if consistPtp x port && s.sends l 2 then
      emit x (.consistSync port (wNow x) (rget x Rg.MER_UTC) (clockClass x) (fget x Rg.MER_PTP_CFG 15 8))
    else x))

/-- DELAY_REQ: the owner lane answers with Delay_Resp, and every lane counts it (12 R276; 15 Table ECN-2). -/
def execDelayReq (l : Lane) (port : Nat) (seq : Half) (s : State) : Res :=
  .next (s.onLane l (fun x =>
    if consistPtp x port then
      let x := finc x Rg.ECN_PTP_STAT 15 0 1
      if s.sends l 2 then emit x (.delayResp port seq.toNat (wNow x)) else x
    else x))

/-- FOREIGN_PTP: Announce and Sync from vehicle devices are ignored and counted (12 R276). -/
def execForeignPtp (l : Lane) (s : State) : Res := .next (s.onLane l (fun x => finc x Rg.MER_STATUS 31 16 1))

/-! Time inputs and outputs (12 R287, R289). -/

/-- PPS_OUT_EDGE: PPS OUT rises at each whole second of W and falls after WIDTH; with QUAL = 1 it stays low in holdover and before the first source (12 R287). -/
def execPpsOutEdge (l : Lane) (rise : Bool) (s : State) : Res :=
  .next (s.onLane l (fun x =>
    let allowed := bget x Rg.MER_PPSOUT_CFG 0 && !(bget x Rg.MER_PPSOUT_CFG 1 && (follow x == 0 || !bget x Rg.MER_STATUS 5))
    let on := rise && allowed
    if on = x.mer.ppsOut then x else emit { x with mer := { x.mer with ppsOut := on } } (.pps on)))

/-- Captures of an input the instance holds (12 R289). -/
def tcapHeld (l : LaneState) (k : Nat) : Nat :=
  (l.agree.inbox.filter (fun it => match it.body with | .tcap j _ => j == k | _ => false)).length

/-- TCAP_EDGE: a selected edge captures W; at most 64 captures are held (12 R289). -/
def execTcapEdge (l : Lane) (k : Nat) (rising : Bool) (s : State) : Res :=
  .next (s.onLane l (fun x =>
    let e := fget x (Rg.MER_TCAPk_CFG k) 2 1
    if !bget x (Rg.MER_TCAPk_CFG k) 0 || !(if rising then e % 2 == 1 else 2 ≤ e) then x
    else if 64 ≤ tcapHeld x k then finc x (Rg.MER_TCAPk_CNT k) 31 16 1
    else
      let x := finc (arrive x (.tcap k rising)) (Rg.MER_TCAPk_CNT k) 15 0 1
      let x := rset x (Rg.MER_TCAPk_SEC k) (BitVec.ofNat 32 x.mer.w.sec)
      rset x (Rg.MER_TCAPk_NS k) (BitVec.ofNat 32 (x.mer.w.ns + if rising then 2 ^ 31 else 0))))

/-- A read of MER_WT_NS latches the seconds and the fraction (12 Table MER-5). -/
def wtLatch (l : LaneState) : LaneState :=
  let w := l.mer.w
  let l := rset l Rg.MER_WT_NS (BitVec.ofNat 32 w.ns)
  let l := rset l Rg.MER_WT_SEC_LO (BitVec.ofNat 32 w.sec)
  let l := rset l Rg.MER_WT_SEC_HI (BitVec.ofNat 32 (w.sec / 2 ^ 32))
  rset l Rg.MER_WT_FRAC (BitVec.ofNat 32 w.frac)

/-- MER_WT_NS_READ (12 R292). -/
def execMerWtNsRead (l : Lane) (ag : Agent) (s : State) : Res :=
  .next (s.onLane l (fun x => guardRead x ag Rg.MER_WT_NS (BitVec.ofNat 32 x.mer.w.ns) wtLatch))

/-! The local step (12 R263, R267). -/

/-- One 2 ns local step of an instance: the counter and the clocks advance, a domain clock the module masters outside class 1 stays equal to W, a slew ends when W reaches its source, and due units fire. -/
def merTick (l : LaneState) : LaneState :=
  if !l.mer.running then l
  else
    let m := l.mer
    let w := clockTick m.w
    let keep (d : Nat) (c : Clock) : Clock := if domSt l d = 5 ∧ classOf l ≠ 1 then w else clockTick c
    let l := { l with mer := { m with ltime := m.ltime + 1, w := w, d0 := keep 0 m.d0, d1 := keep 1 m.d1 } }
    let f := follow l
    let gap := srcNs l f - wNow l
    let l := if l.mer.slew ≠ 0 ∧ (f = 1 ∨ f = 2) ∧ gap.sign ≠ l.mer.slew then slewEnd l else l
    let l := if f = 0 then rset l Rg.MER_HOLDOVER (BitVec.ofNat 32 (min ((l.mer.ltime - l.mer.holdAt) / 500000000) 0xFFFFFFFF)) else l
    fireDue l

/-- One local step of all three instances, which count from one oscillator (12 R263; log 20). -/
def State.tick (s : State) : State := s.onLanes merTick

end Sys2Proof.Machine
end

