-- ==== Sys2Proof/Machine/Carousel.lean ====
section
/-! DEFINITION. The Carousel (13): sheets and the Atlas, what a module sends in its slots, reception and relaying, guardians, the leader, joining, cold start and sheet changes. -/

namespace Sys2Proof.Machine

/-! Sheets and entries (13 Table CAR-4). -/

/-- An Atlas entry. -/
abbrev AtlasEnt := Word × Word × Word

/-- An Atlas entry by number; an unlisted one is 0. -/
def atlasEnt (l : LaneState) (i : Nat) : AtlasEnt := sget (fun _ => ((0, 0, 0) : AtlasEnt)) l.car.atlas i

/-- The entries of a sheet, in order. -/
def sheetEnts (l : LaneState) (s : Nat) : List AtlasEnt :=
  let first := fget l (Rg.CAR_SHEETs_RANGE s) 12 0
  (List.range (fget l (Rg.CAR_SHEETs_RANGE s) 29 16)).map (fun i => atlasEnt l (first + i))

/-- KIND of an entry. -/
def entKind (e : AtlasEnt) : Nat := getBits e.1 31 29
/-- SENDER of an entry. -/
def entSender (e : AtlasEnt) : Nat := getBits e.1 28 23
/-- OFFSET of an entry, in 8 ns units. -/
def entOffset (e : AtlasEnt) : Nat := getBits e.1 22 0
/-- FRAME_ID of an entry. -/
def entId (e : AtlasEnt) : Nat := getBits e.2.1 15 0
/-- LEN of an entry. -/
def entLen (e : AtlasEnt) : Nat := getBits e.2.1 26 16
/-- BUF of an entry. -/
def entBuf (e : AtlasEnt) : Nat := getBits e.2.2 7 0

/-- Whether a sheet is VALID. -/
def sheetValid (l : LaneState) (s : Nat) : Bool := bget l (Rg.CAR_SHEETs_CFG s) 31

/-- The signature of a sheet (13 R300). -/
def sheetSig (l : LaneState) (s : Nat) : Word :=
  crc32c 0xFFFFFFFF (leBytes 4 (sheetUs l s) ++
    (sheetEnts l s).flatMap (fun e => leBytes 4 e.1.toNat ++ leBytes 4 e.2.1.toNat))

/-- wire(LEN) in ns (13 R296). -/
def wireNs (len : Nat) : Nat := 8 * (54 + max len 30)

/-- CS_SHEET. -/
def csSheet (l : LaneState) : Nat := fget l Rg.CAR_CFG 7 4

/-- The Carousel cycle length in ns that cycle points use: the sheet in force, before one is in force or with the Carousel disabled CS_SHEET's, and B when that is not VALID (02 R47). -/
def cycleLenNs (l : LaneState) : Nat :=
  if l.car.inForce && bget l Rg.CAR_CFG 0 then sheetUs l (sheetNow l) * 1000
  else if sheetValid l (csSheet l) then sheetUs l (csSheet l) * 1000
  else baseNs l

/-- The slot time of an entry in the cycle in force, in ns (13 R296). -/
def slotTime (l : LaneState) (e : AtlasEnt) : Int := (carCycle l * (sheetUs l (sheetNow l) * 1000) + 8 * entOffset e : Nat)

/-! The Carousel's own state. -/

/-- STATE of CAR_STATUS: 0 DISABLED, 1 LISTEN, 2 COLDSTART, 3 RUNNING, 4 SUPPRESSED, 5 BYPASSED. -/
def carSt (l : LaneState) : Nat := fget l Rg.CAR_STATUS 2 0

/-- Set STATE. -/
def setCarSt (l : LaneState) (st : Nat) : LaneState := fset l Rg.CAR_STATUS 2 0 st

/-- This module is the leader. -/
def isLeader (l : LaneState) : Bool := bget l Rg.CAR_STATUS 3

/-- Set the Carousel cycle number. -/
def setCarCycle (l : LaneState) (c : Nat) : LaneState := rset64 l Rg.CAR_CYCLE_LO Rg.CAR_CYCLE_HI (BitVec.ofNat 64 c)

/-- Whether an end port carries Carousel traffic: link up, neither fenced nor foreign (14 R323, R325). -/
def portUsable (l : LaneState) (p : Nat) : Bool :=
  bget l (Rg.CAR_PORTp_STAT p) 0 && !bget l (Rg.INA_PORTp_STAT p) 2 && !bget l (Rg.INA_PORTp_STAT p) 3

/-- Set a pending inauguration trigger (14 R324). -/
def setTrigger (l : LaneState) : LaneState := bset l Rg.INA_STATUS 3 true

/-- The module drops its position and sets a pending trigger (14 R333). -/
def dropPos (l : LaneState) : LaneState :=
  setTrigger (fset (fset (fset l Rg.CAR_STATUS 13 8 0) Rg.INA_RESULT 5 0 0) Rg.INA_RESULT 13 8 0)

/-- CAB_ACTIVE (13 R297). -/
def cabActive (l : LaneState) : Bool := bget l Rg.CAR_CAB 0

/-- The module's topology count in force. -/
def topoOf (l : LaneState) : Word := rget l Rg.INA_TOPO

/-! Arrival errors and the sync error (13 R306, R311). -/

/-- Insert in order. -/
def insertInt (x : Int) : List Int → List Int
  | [] => [x]
  | y :: l => if x ≤ y then x :: y :: l else y :: insertInt x l

/-- A list of integers in order. -/
def sortInt : List Int → List Int
  | [] => []
  | x :: l => insertInt x (sortInt l)

/-- The median of 8 values: of the two middle ones their mean, truncated (log 21). -/
def median8 (l : List Int) : Int := let s := sortInt l; ((s.getD 3 0) + (s.getD 4 0)).tdiv 2

/-- GUARD or GUARD_WIDE in ns. -/
def guardNs (l : LaneState) (wide : Bool) : Nat := 8 * (if wide then fget l Rg.CAR_GUARD 27 16 else fget l Rg.CAR_GUARD 11 0)

/-- The reference r of a line (13 R306): 0 until 8 frames have been accepted, else their median within ±GUARD. -/
def refErr (l : LaneState) (line : Nat) : Int :=
  let es := if line = 0 then l.car.errX else l.car.errY
  if es.length < 8 then 0 else clampInt (-(guardNs l false : Nat)) (guardNs l false : Nat) (median8 es)

/-- |r| of a line, counted only when the last 8 accepted frames came from at least 3 senders (13 R311). -/
def refCount (l : LaneState) (line : Nat) : Nat :=
  let ss := if line = 0 then l.car.sndX else l.car.sndY
  if 3 ≤ ss.dedup.length then (refErr l line).natAbs else 0

/-- The sync error in ns (13 R311). -/
def syncErr (l : LaneState) : Nat := max (followErr l) (max (refCount l 0) (refCount l 1))

/-- Show the sync error, and note when it exceeds 1 µs (13 R313). -/
def showSyncErr (l : LaneState) : LaneState :=
  let e := syncErr l
  let l := rset l Rg.CAR_SYNC_ERR (BitVec.ofNat 32 (min e 0xFFFFFFFF))
  if 1000 < e then { l with car := { l.car with syncBad := true } } else l

/-! PATH (13 R304). -/

/-- PATH of a position on a line; unknown reads 0xFFFFFFFF. -/
def pathOf (l : LaneState) (line p : Nat) : Word :=
  (if line = 0 then l.car.pathX else l.car.pathY).getD (p - 1) 0xFFFFFFFF

/-- Replace the PATH table of a line, and show the module's own entry. -/
def setPaths (l : LaneState) (line : Nat) (t : List Word) : LaneState :=
  let own := if ownPos l = 0 then 0xFFFFFFFF#32 else t.getD (ownPos l - 1) 0xFFFFFFFF
  if line = 0 then rset { l with car := { l.car with pathX := t } } Rg.CAR_PATH_X own
  else rset { l with car := { l.car with pathY := t } } Rg.CAR_PATH_Y own

/-- What a sync frame brings to the PATH table: a neighbour's lower or higher positions, and the own entry from the lower neighbour (13 R304). -/
def pathSync (l : LaneState) (m : SyncMsg) : LaneState :=
  let line := lineOf m.port
  let k := ownPos l
  let low := m.port % 2 == lowEnd l
  let got (p : Nat) : Word := m.path.getD (p - 1) 0xFFFFFFFF
  let entry (p : Nat) : Word :=
    if k = 0 then got p
    else if p = k then
      if k = 1 then 0
      else if low && m.pos = k - 1 then
        (if got (k - 1) = 0xFFFFFFFF then 0xFFFFFFFF else got (k - 1) + BitVec.ofNat 32 (linkDelay l m.port + 1200))
      else pathOf l line p
    else if p < k then (if low then got p else pathOf l line p)
    else (if low then pathOf l line p else got p)
  setPaths l line ((List.range 63).map (fun i => entry (i + 1)))

/-- The expected delay from a sender, when both PATH entries are known (13 R304). -/
def expected (l : LaneState) (line sender : Nat) : Option Int :=
  let a := pathOf l line (ownPos l)
  let b := pathOf l line sender
  if ownPos l = 0 ∨ sender = 0 ∨ a = 0xFFFFFFFF ∨ b = 0xFFFFFFFF then none
  else some (((a.toNat : Int) - b.toNat).natAbs - 1200)

/-- What the Carousel takes from a neighbour's sync frame (13 R304, R313). A frame outside its slot is dropped and counted (13 R305). -/
def carSync (l : LaneState) (m : SyncMsg) : LaneState :=
  if !m.valid then finc l Rg.CAR_UNSCHED_DROP 31 0 1
  else
    let l := pathSync l m
    let good := m.sheet == sheetNow l && m.sig == rget l (Rg.CAR_SHEETs_SIG (sheetNow l))
    if good && !l.car.syncOk.contains m.port then { l with car := { l.car with syncOk := m.port :: l.car.syncOk } } else l

/-- SYNC_RECEIVE: offset, servo, PATH and sheet data of a sync frame (12 R271; 13 R303, R304). A fenced or foreign port accepts none (14 R325). -/
def execSyncReceive (l : Lane) (m : SyncMsg) (s : State) : Res :=
  .next (s.onLane l (fun x =>
    if carSt x = 0 ∨ carSt x = 5 ∨ !portUsable x m.port then x else showSyncErr (carSync (merSync x m) m)))

/-! Sending (13 R301 to R303). -/

/-- The SENDER byte of the module's frames (13 Table CAR-2). -/
def senderByte (l : LaneState) : Byte :=
  BitVec.ofNat 8 (ownPos l + 64 * lowEnd l + 128 * b2n (isLeader l))

/-- Whether the module carries PROP = 1: the leader from the first proposing cycle, another module while it acknowledges (13 R319). -/
def carriesProp (l : LaneState) : Bool :=
  match l.car.prop with
  | some p => decide (p.2.2 ≤ carCycle l)
  | none => !isLeader l && bget l Rg.CAR_SHEET 8

/-- The header of a scheduled frame (13 Table CAR-2). -/
def header (l : LaneState) (id : Nat) (flags : Byte) : CarFrame :=
  let prop := carriesProp l
  { typ := 1, sender := senderByte l, frameId := BitVec.ofNat 16 id, topo := topoOf l, cycle := BitVec.ofNat 32 (carCycle l),
    sheets := BitVec.ofNat 8 (sheetNow l + if prop then 16 * fget l Rg.CAR_SHEET 7 4 else 0),
    state := BitVec.ofNat 8 (classOf l + 8 * b2n (bget l Rg.MER_CFG 1) + 16 * b2n (cabActive l) + 32 * b2n prop
                              + 64 * b2n (isLeader l && prop && l.car.newSheet.isSome)),
    flags := flags, switch := BitVec.ofNat 8 (if prop then fget l Rg.CAR_SHEET 23 16 else 0) }

/-- The buffer R46 selects for a slot: the latest one eligible at the slot time (02 R46). -/
def eligible (l : LaneState) (b : Nat) (t : Int) : Option TxBuf :=
  l.car.txb.find? (fun x => x.b == b && decide (tOf l x.from_ ≤ t))

/-- In its first slot of the cycle before the switch the leader confirms or lets the proposal lapse (13 R320). -/
def leaderConfirm (l : LaneState) (ent : Nat) : LaneState :=
  match l.car.prop with
  | none => l
  | some (sh, sw, _) =>
    let firstOwn := (List.range (sheetEnts l (sheetNow l)).length).find? (fun i =>
      let e := (sheetEnts l (sheetNow l)).getD i (0, 0, 0)
      entKind e == 0 && entSender e == ownPos l)
    if carCycle l + 1 = sw ∧ firstOwn = some ent ∧ isLeader l ∧ l.car.newSheet.isNone then
      let act := (l.car.active.filter (fun a => a.1 + 2 == sw)).map (·.2)
      let both := act.filter (fun p => l.car.active.contains (sw - 3, p))
      if both.all (fun p => l.car.acks.any (fun a => a.1 == p)) then { l with car := { l.car with newSheet := some (sh, sw) } }
      else event (fset { l with car := { l.car with prop := none } } Rg.CAR_SHEET 8 8 0) 0x0403 0xFF
    else l

/-- The frame a lane computes for a slot of the sheet in force: `none` when it would stay silent (13 R302). -/
def slotFrame (x : LaneState) (entry : Nat) : Option CarFrame :=
  let e := (sheetEnts x (sheetNow x)).getD entry (0, 0, 0)
  let pair := pairSlot x (entSender e)
  if carSt x ≠ 3 ∨ entKind e ≠ 0 ∨ ownPos x = 0 ∨ (entSender e ≠ ownPos x ∧ !pair) then none
  else if pair && (roleOf x != 2 || x.prt.resigned) then none
  else
    let x := leaderConfirm x entry
    match eligible x (entBuf e) (slotTime x e) with
    | none => none
    | some t =>
      if t.matched then
        some { header x (entId e) t.flags with payload := t.bytes, sender := BitVec.ofNat 8 (entSender e) ||| (senderByte x &&& 0xC0) }
      else none

/-- Whether a line has an end port on which a frame can leave. -/
def lineUsable (x : LaneState) (line : Nat) : Bool := portUsable x (2 * line) || portUsable x (2 * line + 1)

/-- While the owner of a line sends a scheduled frame, the other two lanes compare it with their own and withdraw their enables on a difference (13 R302; 01 R17; log 137). -/
def State.slotTaps (s : State) (l : Lane) (entry : Nat) : State :=
  match slotFrame (s.lane l) entry with
  | none => s
  | some f => [0, 1].foldl (fun s q => if lineUsable (s.lane l) q then s.tapCheck l q (fun y => slotFrame y entry != some f) else s) s

/-- SLOT_TRANSMIT: at its slot time the line owner sends the selected buffer from its own copy, or stays silent while that copy has not matched (13 R301, R302; 02 R46). -/
def execSlotTransmit (l : Lane) (entry : Nat) (s : State) : Res :=
  let s := s.slotTaps l entry
  .next (s.onLane l (fun x =>
    let e := (sheetEnts x (sheetNow x)).getD entry (0, 0, 0)
    let pair := pairSlot x (entSender e)
    if carSt x ≠ 3 ∨ entKind e ≠ 0 ∨ ownPos x = 0 ∨ (entSender e ≠ ownPos x ∧ !pair) then x
    else if pair && (roleOf x != 2 || x.prt.resigned) then x
    else
      let x := leaderConfirm x entry
      let b := entBuf e
      match eligible x b (slotTime x e) with
      | none => x
      | some t =>
        let x := { x with car := { x.car with txb := x.car.txb.filter (fun u => u.b != b || u == t || decide (slotTime x e < tOf x u.from_)) } }
        if !t.matched then bset x (Rg.CAR_BUFb_STAT b) 18 true
        else
          let x := bset (fset x (Rg.CAR_BUFb_STAT b) 15 0 (fget x (Rg.CAR_BUFb_STAT b) 15 0 + 1)) (Rg.CAR_BUFb_STAT b) 18 false
          let f := { header x (entId e) t.flags with payload := t.bytes, sender := BitVec.ofNat 8 (entSender e) ||| (senderByte x &&& 0xC0) }
          let x := { x with prt := { x.prt with sentNow := x.prt.sentNow || [0, 1, 2, 3].any (fun p => portUsable x p && allLanes.any (fun y => s.sends y (lineOf p))) } }
          [0, 1, 2, 3].foldl (fun x p =>
            if s.sends l (lineOf p) && portUsable x p then emit x (.car p { f with port := p }) else x) x))

/-- The sync frames one port sends: one record for each domain block it carries, or one without (13 R303, Table CAR-5). -/
def syncFrames (l : LaneState) (p : Nat) : List SyncMsg :=
  let base : SyncMsg := { port := p, hasDom := false, sheet := sheetNow l, pos := ownPos l,
                          sig := rget l (Rg.CAR_SHEETs_SIG (sheetNow l)), path := if lineOf p = 0 then l.car.pathX else l.car.pathY }
  let doms := [0, 1].filter (fun d =>
    let st := domSt l d
    st == 5 || (st != 0 && !facesPos l p (fget l (Rg.MER_Dd_STATUS d) 13 8)))
  if doms = [] then [base]
  else doms.map (fun d => { base with
    d := d == 1, hasDom := true, origin := clockNs (domClock l d), gmEui := rget64 l (Rg.MER_Dd_GM_LO d) (Rg.MER_Dd_GM_HI d),
    gmClass := fget l (Rg.MER_Dd_STATUS d) 6 4, gmPos := fget l (Rg.MER_Dd_STATUS d) 13 8, utc := rget l Rg.MER_UTC })

/-- The sync frames of a line without the time-stamps that hardware inserts: what the taps compare. -/
def syncShape (x : LaneState) (line : Nat) : List (List SyncMsg) :=
  if carSt x ≠ 3 then [] else [2 * line, 2 * line + 1].map (fun p => (syncFrames x p).map (fun m => { m with origin := 0 }))

/-- While the owner of a line sends its sync frame, the other two lanes compare it with their own (01 R17; log 137). -/
def State.syncTaps (s : State) (l : Lane) : State :=
  if carSt (s.lane l) ≠ 3 then s
  else [0, 1].foldl (fun s q => if lineUsable (s.lane l) q then s.tapCheck l q (fun y => syncShape y q != syncShape (s.lane l) q) else s) s

/-- SYNC_SLOT_TRANSMIT: the line owners send the sync frame (13 R301, R303). A LISTEN or SUPPRESSED module sends none (13 R312, R314). -/
def execSyncSlotTransmit (l : Lane) (s : State) : Res :=
  let s := s.syncTaps l
  .next (s.onLane l (fun x =>
    if carSt x ≠ 3 then x
    else
      let x := { x with prt := { x.prt with sentNow := x.prt.sentNow || [0, 1, 2, 3].any (fun p => portUsable x p && allLanes.any (fun y => s.sends y (lineOf p))) } }
      [0, 1, 2, 3].foldl (fun x p =>
      if s.sends l (lineOf p) && portUsable x p then (syncFrames x p).foldl (fun x m => emit x (.sync p m)) x else x) x))

/-! Unscheduled traffic (13 R305). -/

/-- The time a waiting unscheduled frame takes on the wire, in ns. -/
def unschedNs : Emit → Nat
  | .pdelayReq _ _ => 736
  | .pdelayResp _ _ _ => 736
  | .ina _ _ _ => wireNs 32
  | .unsched _ d => wireNs d.length
  | .upd _ _ _ d => wireNs (24 + d.length)
  | .updOrder _ _ => wireNs 200
  | .updReady _ _ _ _ _ => wireNs 56
  | .updDecision _ _ _ => wireNs 40
  | .auxMsg d => wireNs d.length
  | _ => wireNs 64

/-- Send the waiting frames of a port that fit, highest priority first; answers the frames that still wait. -/
def fitFrames (left : Nat) : List (Nat × Nat × Emit) → List Emit × List (Nat × Nat × Emit)
  | [] => ([], [])
  | f :: fs =>
    let n := unschedNs f.2.2
    if n ≤ left then let r := fitFrames (left - n) fs; (f.2.2 :: r.1, r.2)
    else ([], f :: fs)

/-- UNSCHEDULED_WINDOW: each port sends its waiting frames by priority, each ending at least GUARD before the window does (13 R305). The owner lane's frames leave; every lane keeps the same queue. -/
def execUnscheduledWindow (l : Lane) (lenNs : Nat) (s : State) : Res :=
  .next (s.onLane l (fun x =>
    if carSt x = 0 ∨ carSt x = 5 then x
    else [0, 1, 2, 3].foldl (fun x p =>
      let mine := x.car.unschedQ.filter (fun q => q.1 == p)
      let byPrio := [1, 2, 3].flatMap (fun k => mine.filter (fun q => q.2.1 == k))
      if !portUsable x p then x
      else
        let r := fitFrames (lenNs - guardNs x false) byPrio
        let x := { x with car := { x.car with unschedQ := x.car.unschedQ.filter (fun q => q.1 != p) ++ r.2 } }
        if s.sends l (lineOf p) then r.1.foldl emit x else x) x))

/-- UNSCHEDULED_FRAME_RECEIVE: a frame outside its window is dropped and counted; INA classes and Ringmaster's have their own commands, and any other class is discarded (13 R305; 14 Wave frames). -/
def execUnscheduledFrameReceive (l : Lane) (f : UnschedFrame) (s : State) : Res :=
  .next (s.onLane l (fun x =>
    if carSt x = 0 ∨ carSt x = 5 then x
    else if bget x (Rg.INA_PORTp_STAT f.port) 2 ∨ bget x (Rg.INA_PORTp_STAT f.port) 3 then x
    else if !f.inWindow then finc x Rg.CAR_UNSCHED_DROP 31 0 1
    else x))

/-! Reception (13 R306 to R308, Table CAR-6). -/

/-- Count a discarded frame by line. -/
def dropCount (l : LaneState) (a line : Nat) : LaneState :=
  let l := { l with car := { l.car with bad := true } }
  if line = 0 then finc l a 15 0 1 else finc l a 31 16 1

/-- The sheet entry a frame belongs to (13 Table CAR-6, Entry). -/
def entryFor (l : LaneState) (f : CarFrame) : Option AtlasEnt :=
  (sheetEnts l (sheetNow l)).find? (fun e =>
    entKind e == 0 && entId e == f.frameId.toNat && entSender e == f.sender.toNat % 64)

/-- Compare unit 1 starts cycles of a sheet's length from the next multiple of it on; it stands as it is when it counts that length already (13 R296). -/
def cycleUnit (l : LaneState) (sh : Nat) : LaneState :=
  let n := sheetUs l sh * 1000
  if n = 0 || rget l (Rg.MER_CMPu_PERIOD 1) = BitVec.ofNat 32 n then l else armUnit l 1 (firstMultiple (wNow l + 1) n) n

/-- A LISTEN module follows the cycle number, sheet and topology count of the leader's frames, and drops its position when the count differs (13 R314; 14 R333). -/
def followLeader (l : LaneState) (f : CarFrame) : LaneState :=
  let l := if topoOf l ≠ f.topo then dropPos l else l
  let l := rset l Rg.INA_TOPO f.topo
  let l := cycleUnit { l with car := { l.car with inForce := true } } (f.sheets.toNat % 16)
  rset (fset l Rg.CAR_SHEET 3 0 (f.sheets.toNat % 16)) Rg.CAR_CYCLE_LO f.cycle

/-- A COLDSTART module withdraws (13 R317). -/
def withdraw (l : LaneState) : LaneState :=
  event (setCarSt { l with car := { l.car with csStart := none } } 1) 0x0401 2

/-- The line owner relays a frame out of the other end, cut at its LEN; a cut frame or one with a bad FCS ends with a wrong one (13 R307). -/
def relay (l : LaneState) (sends : Bool) (f : CarFrame) (len : Nat) : LaneState :=
  let o := if f.port % 2 = 0 then f.port + 1 else f.port - 1
  if sends && portUsable l o then
    emit l (.car o { f with port := o, payload := f.payload.take len, fcsOk := f.fcsOk && f.payload.length ≤ len })
  else l

/-- Note an accepted frame's arrival error and sender on its line (13 R306, R311). -/
def noteArrival (l : LaneState) (line sender : Nat) (e : Int) : LaneState :=
  if line = 0 then { l with car := { l.car with errX := (e :: l.car.errX).take 8, sndX := (sender :: l.car.sndX).take 8 } }
  else { l with car := { l.car with errY := (e :: l.car.errY).take 8, sndY := (sender :: l.car.sndY).take 8 } }

/-- What a frame says of its sender's time class, its candidature and its cab (12 R274). -/
def noteCand (l : LaneState) (f : CarFrame) : LaneState :=
  let p := f.sender.toNat % 64
  let st := f.state.toNat
  let cl := st % 8
  let others := l.mer.cands.filter (fun c => c.1 != p)
  if p = 0 then l
  else if st / 8 % 2 = 1 ∧ 1 ≤ cl ∧ cl ≤ 3 then
    { l with mer := { l.mer with cands := (p, cl, st / 16 % 2 == 1) :: others } }
  else { l with mer := { l.mer with cands := others } }

/-- What a frame says of a sheet change: a RUNNING module acknowledges the leader's proposal for a VALID sheet and takes its CONFIRM, and the leader counts acknowledgements (13 R319, R320). -/
def noteSheet (l : LaneState) (f : CarFrame) : LaneState :=
  let p := f.sender.toNat % 64
  let st := f.state.toNat
  let prop := st / 32 % 2 = 1
  let sh := f.sheets.toNat / 16
  if isLeader l then
    let same := prop ∧ sh = fget l Rg.CAR_SHEET 7 4 ∧ f.switch.toNat = fget l Rg.CAR_SHEET 23 16 ∧ l.car.prop.isSome
    let acks := l.car.acks.filter (fun a => a.1 != p)
    { l with car := { l.car with acks := if same then (p, carCycle l) :: acks else acks,
                                 active := (carCycle l, p) :: l.car.active.filter (fun a => a != (carCycle l, p)) } }
  else if f.sender.toNat < 128 then l
  else if !prop then { fset l Rg.CAR_SHEET 8 8 0 with car := { l.car with newSheet := none } }
  else
    let l := if sheetValid l sh then
        fset (fset (fset l Rg.CAR_SHEET 7 4 sh) Rg.CAR_SHEET 8 8 1) Rg.CAR_SHEET 23 16 f.switch.toNat
      else l
    if st / 64 % 2 = 1 ∧ (carCycle l + 1) % 256 = f.switch.toNat then
      { l with car := { l.car with newSheet := some (sh, carCycle l + 1) } }
    else l

/-- A receive buffer takes the first valid copy as a message item (13 R308). -/
def deliver (l : LaneState) (e : AtlasEnt) (f : CarFrame) : LaneState :=
  let b := entBuf e
  if !e.2.2.getLsbD 9 then l
  else
    let y := lineOf f.port == 1
    let l := arrive l (.carRx b y f.flags f.sender f.cycle (f.payload.take (entLen e)))
    let a := Rg.CAR_BUFb_STAT b
    bset (bset (fset l a 15 0 (fget l a 15 0 + 1)) a 16 (!y)) a 17 y

/-- A frame that passed every check but Duplicate. -/
def takeFrame (l : LaneState) (e : AtlasEnt) (f : CarFrame) : LaneState :=
  let line := lineOf f.port
  let lead := 128 ≤ f.sender.toNat
  let l := if lead then { l with car := if line = 0 then { l.car with leadX := true } else { l.car with leadY := true } } else l
  if l.car.taken.contains (f.cycle, f.frameId) then finc l Rg.CAR_DUP 31 0 1
  else
    let l := { l with car := { l.car with taken := (f.cycle, f.frameId) :: l.car.taken } }
    deliver (noteSheet (noteCand l f) f) e f

/-- The reserved bits of a header are 0 and its TYPE is listed (13 R297). -/
def headerGood (f : CarFrame) : Bool :=
  f.state.toNat < 128 && f.flags.toNat < 16 && [1, 2, 3, 4, 6].contains f.typ.toNat

/-- A type 1 frame received on an end port, through the checks of Table CAR-6 in order (13 R306 to R308). -/
def carReceive (l : LaneState) (sends : Bool) (f : CarFrame) : LaneState :=
  let line := lineOf f.port
  let st := carSt l
  if st = 0 ∨ st = 5 ∨ !portUsable l f.port then l
  else if !headerGood f then dropCount l Rg.CAR_DROP_FCS line
  else if f.typ ≠ 1 then l
  else
    let lead := 128 ≤ f.sender.toNat ∧ f.fcsOk
    let l := if st = 2 ∧ lead then withdraw l else l
    let l := if (st = 1 ∨ st = 2) ∧ lead then followLeader l f else l
    if f.topo ≠ topoOf l then dropCount l Rg.CAR_DROP_TOPO line
    else if f.cycle.toNat ≠ carCycle l % 2 ^ 32 ∨ f.sheets.toNat % 16 ≠ sheetNow l then dropCount l Rg.CAR_DROP_TOPO line
    else
      match entryFor l f with
      | none => dropCount l Rg.CAR_DROP_GUARD line
      | some e =>
        let p := f.sender.toNat % 64
        let err := (expected l line p).map (fun d => wNow l - (slotTime l e + d))
        let late := match err with
          | some d => carSt l = 3 && !pairSlot l p && guardNs l (e.2.2.getLsbD 8) < (d - refErr l line).natAbs
          | none => false
        if late then event (dropCount l Rg.CAR_DROP_GUARD line) 0x0402 (p + 256 * line)
        else
          let l := relay l sends f (entLen e)
          if entLen e < f.payload.length then dropCount l Rg.CAR_DROP_GUARD line
          else if !f.fcsOk then dropCount l Rg.CAR_DROP_FCS line
          else
            let l := match err with
              | some d => if pairSlot l p then l else noteArrival l line p d
              | none => l
            let l := if pairSlot l p then pairFrame l else l
            showSyncErr (takeFrame l e f)

/-- SCHEDULED_FRAME_RECEIVE (13 R306 to R308). -/
def execScheduledFrameReceive (l : Lane) (f : CarFrame) (s : State) : Res :=
  .next (s.onLane l (fun x => carReceive x (s.sends l (lineOf f.port)) f))

/-! Leader, joining and loss (13 R313 to R315). -/

/-- Every sender of the sheet in force has a PATH entry (13 R313 item 4). -/
def pathsKnown (l : LaneState) : Bool :=
  (sheetEnts l (sheetNow l)).all (fun e =>
    entKind e != 0 || entSender e == ownPos l || pathOf l 0 (entSender e) != 0xFFFFFFFF || pathOf l 1 (entSender e) != 0xFFFFFFFF)

/-- The sync frames of both neighbours carried this module's sheet and signature (13 R313 item 3); an end without a usable port has no neighbour. -/
def neighboursAgree (l : LaneState) : Bool :=
  [0, 1].all (fun e => (!portUsable l e && !portUsable l (e + 2)) || l.car.syncOk.contains e || l.car.syncOk.contains (e + 2))

/-- The cycle that ends was join-valid (13 R313). -/
def joinValid (l : LaneState) : Bool :=
  !l.car.bad && neighboursAgree l && pathsKnown l && !l.car.syncBad && syncErr l ≤ 1000 && (l.car.leadX || l.car.leadY)

/-- The module enters RUNNING: r starts from 0 again (13 R306, R314). -/
def enterRunning (l : LaneState) : LaneState :=
  setCarSt { l with car := { l.car with errX := [], errY := [], sndX := [], sndY := [], lgGood := 0 } } 3

/-- Apply a confirmed sheet change at its boundary (13 R320). -/
def switchSheet (l : LaneState) (sh c : Nat) : LaneState :=
  let old := sheetNow l
  let lo := sheetUs l old
  let ln := sheetUs l sh
  let l := fset (fset l Rg.CAR_SHEET 3 0 sh) Rg.CAR_SHEET 8 8 0
  let l := { l with car := { l.car with newSheet := none, prop := none, acks := [], active := [] } }
  let l := setCarCycle l (if ln = 0 then c else c * lo / ln)
  event (armUnit l 1 (wNow l + ln * 1000) (ln * 1000)) 0x0403 (old + 16 * sh)

/-- The evaluation of the cycle that ends: valid lines, the running-valid cycle, the sync error, the local guardian and the join (13 R311 to R314). -/
def cycleEval (l : LaneState) : LaneState :=
  let jv := joinValid l
  let e := syncErr l
  let rv := l.car.leadX || l.car.leadY || isLeader l
  let l := bset (bset (bset l Rg.CAR_STATUS 4 l.car.leadX) Rg.CAR_STATUS 5 l.car.leadY) Rg.CAR_STATUS 6 jv
  let l := showSyncErr l
  let l := { l with car := { l.car with lastLead := if rv then some (carCycle l) else l.car.lastLead, leadX := false, leadY := false,
                                        bad := false, syncOk := [], taken := [], syncBad := false } }
  match carSt l with
  | 1 => if jv then enterRunning l else l
  | 3 => if 1000 < e then event (setCarSt { l with car := { l.car with lgGood := 0 } } 4) 0x0405 1 else l
  | 4 =>
    let l := finc l Rg.CAR_LG_CNT 31 0 1
    let n := if e ≤ 500 then l.car.lgGood + 1 else 0
    if 8 ≤ n then event (setCarSt { l with car := { l.car with lgGood := 0 } } 3) 0x0405 0
    else { l with car := { l.car with lgGood := n } }
  | _ => l

/-- A yield decided in a merge takes effect at the cycle start: LISTEN without position, and every backbone station lost at the next snapshot (14 R337). -/
def applyYield (l : LaneState) : LaneState :=
  if !l.ina.yielding || !l.ina.yieldWaved then l
  else
    let l := dropPos (bset (setCarSt l 1) Rg.CAR_STATUS 3 false)
    let l := { l with ina := { l.ina with yielding := false, yieldWaved := false, yieldSent := true },
                      exe := { l.exe with stns := l.exe.stns.map (fun t =>
                        if l.cfg.stnPorts.any (fun p => p.1 == t.stn && p.2.1 == 0) then { t with newest := none, fresh := 0 } else t) } }
    let l := finc (fset l Rg.INA_STATUS 2 0 4) Rg.INA_MERGES 15 0 1
    event l 0x0404 (4 + 65536 * ((topoOf l).toNat % 65536))

/-- The type 3 frame of this module (13 Table CAR-9). -/
def coldFrame (l : LaneState) : ColdFrame :=
  { eui := Config.eui, pos := fget l Rg.INA_LAST_POS 5 0, cab := cabActive l, sheet := csSheet l, sec := l.mer.w.sec, ns := l.mer.w.ns }

/-- At a cycle start of CS_SHEET a COLDSTART module sends its type 3 frame on all four ends (13 R316). -/
def coldSend (l : LaneState) (sends : Nat → Bool) (c : Nat) : LaneState :=
  if carSt l ≠ 2 then l
  else
    let l := { l with car := { l.car with csStart := some (l.car.csStart.getD c) } }
    [0, 1, 2, 3].foldl (fun l p => if sends (lineOf p) && bget l (Rg.CAR_PORTp_STAT p) 0 then emit l (.cold p (coldFrame l)) else l) l

/-- What a Carousel cycle start does in a lane (13 R296, R297, R312 to R316, R320; 12 R271, R272, R274). -/
def carCycleStart (l : LaneState) (sends : Nat → Bool) (c : Nat) : LaneState :=
  let l := match l.car.cabNext with
    | some b => { bset l Rg.CAR_CAB 0 b with car := { l.car with cabNext := none } }
    | none => l
  if carSt l = 0 ∨ carSt l = 5 then pairCarousel l
  else
    let l := pairCarousel l
    let l := rankCycle (merCycleEnd (merCycleEnd l 0) 1)
    let l := applyYield (cycleEval l)
    let l := setCarCycle l c
    let l := { l with car := { l.car with active := l.car.active.filter (fun a => c ≤ a.1 + 4) } }
    let l := match l.car.newSheet with
      | some (sh, sw) => if sw = c ∧ carSt l ≠ 1 then switchSheet l sh c else { l with car := { l.car with newSheet := none } }
      | none => l
    coldSend l sends c

/-- RUNNING_VALID_LOSS: no running-valid cycle for 2 × Lmax (13 R315). -/
def execRunningValidLoss (l : Lane) (s : State) : Res :=
  .next (s.onLane l (fun x => if (carSt x = 3 ∨ carSt x = 4) ∧ !isLeader x then setCarSt x 1 else x))

/-! Cold start (13 R316 to R318). -/

/-- COLDSTART_ENTRY: a LISTEN module with CS_EN = 1 that heard no leader and no type 3 frame for 2 × Lmax (13 R316; 14 R333). -/
def execColdstartEntry (l : Lane) (s : State) : Res :=
  .next (s.onLane l (fun x =>
    if carSt x = 1 ∧ bget x Rg.CAR_CFG 1 then
      event (dropPos (setCarSt (cycleUnit { x with car := { x.car with csStart := none } } (csSheet x)) 2)) 0x0401 0
    else x))

/-- Whether a cold-start frame ranks above another (13 R317). -/
def coldBetter (a b : ColdFrame) : Bool :=
  if a.cab ≠ b.cab then a.cab
  else if a.pos ≠ b.pos then (if a.pos = 0 then false else if b.pos = 0 then true else a.pos < b.pos)
  else a.eui.toNat < b.eui.toNat

/-- COLDSTART_FRAME_RECEIVE: a better-ranked frame makes a COLDSTART module withdraw, and the frame waits for its relay out of the other end, unless that queue is full (13 R317, R318). -/
def execColdstartFrameReceive (l : Lane) (port : Nat) (f : ColdFrame) (s : State) : Res :=
  .next (s.onLane l (fun x =>
    if carSt x = 0 ∨ carSt x = 5 ∨ !portUsable x port then x
    else
      let o := if port % 2 = 0 then port + 1 else port - 1
      let x := if x.car.csQ.any (fun q => q.1 == o) then x else { x with car := { x.car with csQ := (o, f) :: x.car.csQ } }
      if carSt x = 2 ∧ coldBetter f (coldFrame x) then withdraw x else x))

/-- COLDSTART_RELAY_SEND: a queued type 3 frame leaves once the port is free (13 R318). -/
def execColdstartRelaySend (l : Lane) (port : Nat) (s : State) : Res :=
  .next (s.onLane l (fun x =>
    match x.car.csQ.find? (fun q => q.1 == port) with
    | none => x
    | some q =>
      let x := { x with car := { x.car with csQ := x.car.csQ.filter (fun r => r.1 != port) } }
      if carSt x ≠ 5 && s.sends l (lineOf port) && portUsable x port then emit x (.cold port q.2) else x))

/-- The module becomes leader: RUNNING with CS_SHEET in force, position 1, the next topology count, a trigger, and grandmaster of domain 0 with D0 := W (13 R317; 14 R334). -/
def becomeLeader (l : LaneState) : LaneState :=
  let l := bset (enterRunning l) Rg.CAR_STATUS 3 true
  let l := fset (fset l Rg.CAR_SHEET 3 0 (csSheet l)) Rg.CAR_SHEET 8 8 0
  let l := { l with car := { l.car with inForce := true, csStart := none, newSheet := none, prop := none } }
  let l := rset (fset l Rg.CAR_STATUS 13 8 1) Rg.INA_TOPO (topoOf l + 1)
  let l := fset (bset (fset l Rg.INA_RESULT 5 0 1) Rg.INA_RESULT 17 true) Rg.INA_LAST_POS 5 0 1
  let us := sheetUs l (csSheet l)
  let l := setCarCycle l (if us = 0 then 0 else (wNow l / (us * 1000)).toNat)
  event (setTrigger (setGm l 0 (1, classOf l))) 0x0401 1

/-- CONTENTION_WINDOW_END: a module that has not withdrawn becomes leader (13 R317). -/
def execContentionWindowEnd (l : Lane) (s : State) : Res :=
  .next (s.onLane l (fun x => if carSt x = 2 then becomeLeader x else x))

/-! Register writes that act. -/

/-- The switch cycle of a proposal: at least `n` cycles after the first proposing cycle, at most 255, with s × L_old a multiple of the new L (13 R319). -/
def switchCycle (l : LaneState) (sh n : Nat) : Option Nat :=
  let lo := sheetUs l (sheetNow l)
  let ln := sheetUs l sh
  ((List.range 256).map (fun i => carCycle l + 1 + i)).find? (fun c =>
    decide (carCycle l + 1 + n ≤ c) && ln != 0 && c * lo % ln == 0)

/-- A write of CAR_SHEET_CTRL: only the leader proposes, and a new proposal replaces a pending one only before its first proposing cycle (13 R319). -/
def sheetCtrl (l : LaneState) (v : Word) : LaneState :=
  let sh := getBits v 3 0
  let n := getBits v 15 8
  let may := match l.car.prop with
    | none => true
    | some p => decide (carCycle l < p.2.2)
  if !isLeader l || n < 3 || !may then l
  else
    match switchCycle l sh n with
    | none => l
    | some c =>
      let l := { l with car := { l.car with prop := some (sh, c, carCycle l + 1), newSheet := none, acks := [] } }
      fset (fset (fset l Rg.CAR_SHEET 7 4 sh) Rg.CAR_SHEET 8 8 1) Rg.CAR_SHEET 23 16 (c % 256)

/-- A store of CAR_CAB by the running instance: a vote item of stream 0x0700 (13 R297). -/
def cabStore (l : LaneState) (v : Word) : WrRes :=
  match runInst l with
  | none => .bus
  | some _ => .ok (queueItem l 0x700 (.cab (v.getLsbD 0)))

/-- A write of CAR_CAB by Ringmaster or debug: in effect at the next cycle start, without a vote (13 R297). -/
def cabWrite (l : LaneState) (v : Word) : LaneState := { l with car := { l.car with cabNext := some (v.getLsbD 0) } }

/-- A store of CAR_COMMIT by the running instance: a copy of the next area becomes a vote item of stream 0x0300 + b (13 R310). -/
def commitStore (l : LaneState) (v : Word) : WrRes :=
  let b := getBits v 7 0
  let a := Rg.CAR_BUFb_CFG b
  match runInst l with
  | none => .bus
  | some i =>
    if !bget l a 0 || bget l a 1 || fget l a 31 28 != i.slot then .bus
    else .ok (queueItem l (0x300 + b) (.slotBuf b 0 (mrd l (fget l (Rg.CAR_BUFb_ADDR b) 21 0) (fget l a 26 16))))

/-- Replace a word of the Atlas entry that CAR_ATLAS_IDX names (13 Table CAR-11: RWS). -/
def atlasWrite (l : LaneState) (k : Nat) (v : Word) : LaneState :=
  if modeOf l ≠ .stop then l
  else
    let i := fget l Rg.CAR_ATLAS_IDX 12 0
    let e := atlasEnt l i
    let e' : AtlasEnt := if k = 0 then (v, e.2.1, e.2.2) else if k = 1 then (e.1, v, e.2.2) else (e.1, e.2.1, v)
    { l with car := { l.car with atlas := sset (fun _ => ((0, 0, 0) : AtlasEnt)) l.car.atlas i e' } }

/-- A word of the Atlas entry that CAR_ATLAS_IDX names. -/
def atlasRead (l : LaneState) (k : Nat) : Word :=
  let e := atlasEnt l (fget l Rg.CAR_ATLAS_IDX 12 0)
  if k = 0 then e.1 else if k = 1 then e.2.1 else e.2.2

/-- An access of CAR_ATLAS_W2 advances CAR_ATLAS_IDX by 1, wrapping at 8,192 (13 Table CAR-11). -/
def atlasNext (l : LaneState) : LaneState := fset l Rg.CAR_ATLAS_IDX 12 0 ((fget l Rg.CAR_ATLAS_IDX 12 0 + 1) % 8192)

/-- CAR_ATLAS_W2: a read or a write, which advances the index (13 Table CAR-11). -/
def execCarAtlasW2 (l : Lane) (ag : Agent) (wr : Option Word) (s : State) : Res :=
  .next (s.onLane l (fun x =>
    match wr with
    | some v => guardWrite x ag Rg.CAR_ATLAS_W2 (fun x => atlasNext (atlasWrite x 2 v))
    | none => guardRead x ag Rg.CAR_ATLAS_W2 (atlasRead x 2) atlasNext))

/-- SHEET_PROPOSE: a write of CAR_SHEET_CTRL (13 R319). -/
def execSheetPropose (l : Lane) (ag : Agent) (v : Word) (s : State) : Res :=
  .next (s.onLane l (fun x => guardWrite x ag Rg.CAR_SHEET_CTRL (fun x => sheetCtrl x v)))

/-- What a lane's Carousel and inauguration show at a cycle boundary: state, leader, position, sheet in force, cycle number, inauguration state, topology count and result. -/
def carShows (l : LaneState) : List Nat :=
  [carSt l, fget l Rg.CAR_STATUS 3 3, fget l Rg.CAR_STATUS 14 8, sheetNow l, carCycle l, fget l Rg.INA_STATUS 2 0, (topoOf l).toNat, (rget l Rg.INA_RESULT).toNat]

/-- A lane takes the state of another lane's Carousel and inauguration (13 R315; 14 R331). -/
def takeCar (src l : LaneState) : LaneState :=
  let l := fset (fset (fset l Rg.CAR_STATUS 3 0 (fget src Rg.CAR_STATUS 3 0)) Rg.CAR_STATUS 14 8 (fget src Rg.CAR_STATUS 14 8)) Rg.CAR_SHEET 3 0 (sheetNow src)
  let l := rset (rset (rset l Rg.INA_STATUS (rget src Rg.INA_STATUS)) Rg.INA_TOPO (topoOf src)) Rg.INA_RESULT (rget src Rg.INA_RESULT)
  { setCarCycle l (carCycle src) with car := { l.car with inForce := src.car.inForce }, ina := src.ina }

/-- Once every voting lane has started the cycle of one boundary, a lane whose Carousel differs from two that are equal takes theirs (13 R315; log 138). -/
def State.carAgree (s : State) : State :=
  let vs := s.voting
  let start (x : Lane) : Nat := carCycle (s.lane x) * sheetUs (s.lane x) (sheetNow (s.lane x))
  match vs.find? (fun x => vs.any (fun y => y != x && carShows (s.lane x) == carShows (s.lane y))) with
  | some x =>
    if vs.all (fun y => start y == start x) then
      vs.foldl (fun s y => if carShows (s.lane y) == carShows (s.lane x) then s else s.setLane y (takeCar (s.lane x) (s.lane y))) s
    else s
  | none => s

end Sys2Proof.Machine
end

