-- ==== Sys2Proof/Machine/Inaug.lean ====
section
/-! DEFINITION. Inauguration (14): link state and debounce, fencing and merges, waves, rounds, and adoption. -/

namespace Sys2Proof.Machine

/-! Ports (14 R323 to R325). -/

/-- Whether an end port is open: link down, fenced or foreign (14 R323). -/
def openPort (l : LaneState) (p : Nat) : Bool := !portUsable l p

/-- The other end of the same line. -/
def otherEnd (p : Nat) : Nat := if p % 2 = 0 then p + 1 else p - 1

/-- Show whether a port is open. -/
def showOpen (l : LaneState) (p : Nat) : LaneState := bset l (Rg.INA_PORTp_STAT p) 4 (openPort l p)

/-- The last MERGE frame of a port. -/
def peerOf (l : LaneState) (p : Nat) : Option InaFrame := (l.ina.peers.find? (fun e => e.1 == p)).map (·.2)

/-- LINK_STATE_CHANGE: the debounce restarts; a port whose link comes up is fenced at once, and one whose link goes down is no longer foreign (14 R324, R325; 13 Table CAR-11). -/
def execLinkStateChange (l : Lane) (port : Nat) (up : Bool) (s : State) : Res :=
  .next (s.onLane l (fun x =>
    let a := Rg.INA_PORTp_STAT port
    let x := bset x (Rg.CAR_PORTp_STAT port) 0 up
    let x := if up then x else finc x (Rg.CAR_PORTp_STAT port) 15 8 1
    let x := finc (bset (bset x a 0 up) a 1 false) a 15 8 1
    let x := bset (bset x a 2 up) a 3 false
    let x := { x with ina := { x.ina with peers := x.ina.peers.filter (fun e => e.1 != port) } }
    let x := if fget x Rg.INA_STATUS 2 0 = 0 then fset x Rg.INA_STATUS 2 0 1 else x
    showOpen x port))

/-- DEBOUNCE_EXPIRY: the port has been stable for 100 ms, which sets a pending trigger (14 R324). -/
def execDebounceExpiry (l : Lane) (port : Nat) (s : State) : Res :=
  .next (s.onLane l (fun x =>
    let x := setTrigger (bset x (Rg.INA_PORTp_STAT port) 1 true)
    if fget x Rg.INA_STATUS 2 0 = 1 && [0, 1, 2, 3].all (fun p => bget x (Rg.INA_PORTp_STAT p) 1 || fget x (Rg.INA_PORTp_STAT p) 15 8 == 0)
    then fset x Rg.INA_STATUS 2 0 0 else x))

/-- Unfence a port (14 R326). -/
def unfence (l : LaneState) (p : Nat) : LaneState :=
  showOpen (bset { l with ina := { l.ina with peers := l.ina.peers.filter (fun e => e.1 != p) } } (Rg.INA_PORTp_STAT p) 2 false) p

/-! Merges (14 R326, R337). -/

/-- A module carries LEADERLESS while its Carousel state is neither RUNNING nor SUPPRESSED (14 R326). -/
def leaderless (l : LaneState) : Bool := !(carSt l == 3 || carSt l == 4)

/-- The MERGE frame a fenced port sends (14 Table INA-1, R326). -/
def mergeFrame (l : LaneState) : InaFrame :=
  let pos := ownPos l
  { yield := l.ina.yieldSent, leaderless := leaderless l, count := if pos = 0 then 0 else fget l Rg.INA_RESULT 13 8,
    topo := topoOf l, euiA := if pos = 0 then 0 else rget64 l Rg.INA_REF_EUI_LO Rg.INA_REF_EUI_HI,
    euiB := rget64 l (Rg.MER_Dd_GM_LO 0) (Rg.MER_Dd_GM_HI 0),
    cabs := b2n (cabActive l || rget64 l Rg.INA_CAB_EUI_LO Rg.INA_CAB_EUI_HI != 0) }

/-- The side rank of R326: whether frame `a` ranks below frame `b`. -/
def ranksBelow (a b : InaFrame) : Bool :=
  if a.leaderless != b.leaderless then a.leaderless
  else if (a.cabs == 1) != (b.cabs == 1) then b.cabs == 1
  else if a.count ≠ b.count then a.count < b.count
  else if a.euiA ≠ b.euiA then b.euiA.toNat < a.euiA.toNat
  else b.euiB.toNat < a.euiB.toNat

/-- The two ends belong to one train (14 R326 item 1). -/
def oneTrain (a b : InaFrame) : Bool := (a.leaderless && b.leaderless) || (a.topo == b.topo && a.euiB == b.euiB)

/-- In Safety Net an INA frame goes unchanged out of the other end of its line, without the module adding itself (21 R467). -/
def snetForward (l : LaneState) (sends : Bool) (port cls : Nat) (f : InaFrame) : LaneState :=
  if sends && (portUsable l (otherEnd port) || l.tri.cutX) then emit l (.ina (otherEnd port) f cls) else l

/-- Whether a port is fenced and not foreign, so that it sends MERGE frames (14 R325). -/
def sendsMerge (l : LaneState) (port : Nat) : Bool := bget l (Rg.INA_PORTp_STAT port) 2 && !bget l (Rg.INA_PORTp_STAT port) 3

/-- While the line owner sends a MERGE frame, a lane that sees the port fenced compares it with its own (01 R17; log 137). -/
def State.mergeTaps (s : State) (l : Lane) (port : Nat) : State :=
  if sendsMerge (s.lane l) port then
    s.tapCheck l (lineOf port) (fun y => sendsMerge y port && mergeFrame y != mergeFrame (s.lane l))
  else s

/-- MERGE_SEND: the line owner of a fenced port sends a MERGE frame each millisecond. An end that has yielded, or a LEADERLESS end below its peer, unfences once its frame is out (14 R325, R326, R337; log 22). -/
def execMergeSend (l : Lane) (port : Nat) (s : State) : Res :=
  let s := s.mergeTaps l port
  .next (s.onLane l (fun x =>
    let a := Rg.INA_PORTp_STAT port
    if !bget x a 2 || bget x a 3 then x
    else
      let f := mergeFrame x
      let x := if s.sends l (lineOf port) then emit x (.ina port f 3) else x
      let below := match peerOf x port with
        | some g => ranksBelow f g
        | none => false
      if below && (f.yield || f.leaderless) then
        unfence { x with ina := { x.ina with yieldSent := false } } port
      else x))

/-- MERGE_RECEIVE: the two frames decide: one train unfences, the lower side yields, the higher side unfences when its peer yields or is LEADERLESS (14 R326, R337). -/
def execMergeReceive (l : Lane) (port : Nat) (f : InaFrame) (s : State) : Res :=
  .next (s.onLane l (fun x =>
    let a := Rg.INA_PORTp_STAT port
    if phaseOf x = 6 then snetForward x (s.sends l (lineOf port)) port 3 f
    else if !bget x a 2 || bget x a 3 then x
    else
      let own := mergeFrame x
      let x := { x with ina := { x.ina with peers := (port, f) :: x.ina.peers.filter (fun e => e.1 != port) } }
      if oneTrain own f then unfence x port
      else if ranksBelow own f then
        if own.leaderless then x else { x with ina := { x.ina with yielding := !x.ina.yieldSent } }
      else if f.yield || f.leaderless then
        let x := unfence x port
        if f.yield then finc x Rg.INA_MERGES 31 16 1 else x
      else x))

/-- FOREIGN_TIMEOUT: no MERGE frame within 3 × Lmax of link-up (14 R325). -/
def execForeignTimeout (l : Lane) (port : Nat) (s : State) : Res :=
  .next (s.onLane l (fun x =>
    let a := Rg.INA_PORTp_STAT port
    if bget x a 2 && (peerOf x port).isNone then showOpen (bset x a 3 true) port else x))

/-! Waves (14 R327). -/

/-- Whether the module takes part in waves (14 R327). -/
def inWaves (l : LaneState) : Bool := carSt l != 0 && carSt l != 5 && syncErr l ≤ 1000 && phaseOf l != 6

/-- The STATE of INA_STATUS: 2 while I1, 3 while I2. -/
def inaSt (l : LaneState) : Nat := fget l Rg.INA_STATUS 2 0

/-- A WAVE frame that starts from this module (14 R327). -/
def ownWave (l : LaneState) : InaFrame :=
  let cab := cabActive l
  { trigger := bget l Rg.INA_STATUS 3, yield := l.ina.yielding, count := 1, cabDist := if cab then 0 else 255, topo := topoOf l,
    euiA := Config.eui, euiB := if cab then Config.eui else 0, cabs := b2n cab }

/-- Whether the round's result differs from what is in force (14 R331). -/
def changedOwn (l : LaneState) : Bool :=
  let r := l.ina.res
  ownPos l == 0 || r.pos != ownPos l || r.orient != bget l Rg.CAR_STATUS 14 || r.n != fget l Rg.INA_RESULT 13 8 || r.sheet != sheetNow l

/-- A CONFIRM frame that starts from this module (14 R331). -/
def ownConfirm (l : LaneState) : InaFrame :=
  let r := l.ina.res
  { agree := r.complete, changed := changedOwn l, yield := l.ina.yielding, count := 1, topo := r.topo, csig := r.csig }

/-- An onward WAVE frame (14 R327). -/
def onwardWave (l : LaneState) (f : InaFrame) : InaFrame :=
  let cab := cabActive l
  let me := cab && (f.euiB == 0 || decide (Config.eui.toNat < f.euiB.toNat))
  { f with trigger := f.trigger || bget l Rg.INA_STATUS 3, yield := f.yield || l.ina.yielding, count := f.count + 1,
           topo := if f.topo.toNat < (topoOf l).toNat then topoOf l else f.topo, cabs := f.cabs + b2n cab,
           euiB := if me then Config.eui else f.euiB,
           cabDist := if me then 0 else if f.euiB = 0 then 255 else f.cabDist + 1 }

/-- An onward CONFIRM frame (14 R327, R331). -/
def onwardConfirm (l : LaneState) (f : InaFrame) : InaFrame :=
  let o := ownConfirm l
  { f with agree := f.agree && o.agree && f.csig == o.csig, changed := f.changed || o.changed, yield := f.yield || o.yield,
           count := f.count + 1 }

/-- WAVE_WINDOW_START: in the first KIND 2 window of a cycle, out of each end whose other end is open, a frame of the module's own: CONFIRM in I2, WAVE otherwise. A pending trigger begins a round (14 R327, R331, R337). -/
def execWaveWindowStart (l : Lane) (s : State) : Res :=
  .next (s.onLane l (fun x =>
    if !inWaves x then x
    else
      let x := { x with ina := { x.ina with waves := [], confirms := [], yieldWaved := x.ina.yielding } }
      let x := if inaSt x ≠ 3 && bget x Rg.INA_STATUS 3 then fset x Rg.INA_STATUS 2 0 2 else x
      let conf := inaSt x = 3
      [0, 1, 2, 3].foldl (fun x p =>
        if openPort x (otherEnd p) && portUsable x p && s.sends l (lineOf p) then
          (if conf then emit x (.ina p (ownConfirm x) 2) else emit x (.ina p (ownWave x) 1))
        else x) x))

/-- A received wave frame carries YIELD: this module yields too (14 R337). -/
def takeYield (l : LaneState) (f : InaFrame) : LaneState :=
  if f.yield then { l with ina := { l.ina with yielding := true, yieldWaved := true } } else l

/-- WAVE_RECEIVE: a WAVE frame begins a round when it carries TRIGGER, and goes on out of the other end (14 R327, R331). -/
def execWaveReceive (l : Lane) (port : Nat) (f : InaFrame) (s : State) : Res :=
  .next (s.onLane l (fun x =>
    if phaseOf x = 6 then snetForward x (s.sends l (lineOf port)) port 1 f
    else if !inWaves x || openPort x port then x
    else
      let x := takeYield { x with ina := { x.ina with waves := (port, f) :: x.ina.waves.filter (fun e => e.1 != port) } } f
      let x := if f.trigger && inaSt x ≠ 3 then fset x Rg.INA_STATUS 2 0 2 else x
      let o := otherEnd port
      if portUsable x o && s.sends l (lineOf o) then emit x (.ina o (onwardWave x f) 1) else x))

/-- CONFIRM_RECEIVE: a CONFIRM frame is combined with the module's own result and goes on out of the other end (14 R327, R331). -/
def execConfirmReceive (l : Lane) (port : Nat) (f : InaFrame) (s : State) : Res :=
  .next (s.onLane l (fun x =>
    if phaseOf x = 6 then snetForward x (s.sends l (lineOf port)) port 2 f
    else if !inWaves x || openPort x port then x
    else
      let x := takeYield { x with ina := { x.ina with confirms := (port, f) :: x.ina.confirms.filter (fun e => e.1 != port) } } f
      let o := otherEnd port
      if portUsable x o && s.sends l (lineOf o) then emit x (.ina o (onwardConfirm x f) 2) else x))

/-! Results (14 R329, R330). -/

/-- The wave frame of an end, when it is not open. -/
def waveOf (l : LaneState) (p : Nat) : Option InaFrame := if openPort l p then none else (l.ina.waves.find? (fun e => e.1 == p)).map (·.2)

/-- The composition table's sheet for n modules, or CS_SHEET with FALLBACK (14 R329). -/
def compSheet (l : LaneState) (n : Nat) : Nat × Bool :=
  let a := Rg.INA_COMPn n
  if bget l a 31 then (fget l a 3 0, false) else (csSheet l, true)

/-- The candidate with the lowest EUI: EUI, side, distance. -/
def lowestCab (cs : List (DWord × Nat × Nat)) : Option (DWord × Nat × Nat) :=
  cs.foldl (fun b c => match b with
    | none => some c
    | some x => if c.1.toNat < x.1.toNat then some c else some x) none

/-- The result of one line (14 R329). -/
def lineResult (l : LaneState) (line : Nat) : InaResult :=
  let f1 := waveOf l (2 * line)
  let f2 := waveOf l (2 * line + 1)
  let cnt (f : Option InaFrame) : Nat := match f with | some f => f.count | none => 0
  let a := cnt f1
  let b := cnt f2
  let n := a + b + 1
  let eui (f : Option InaFrame) : DWord := match f with | some f => f.euiA | none => Config.eui
  let e1 := eui f1
  let e2 := eui f2
  let cand (k : Nat) (f : Option InaFrame) : List (DWord × Nat × Nat) :=
    match f with
    | some f => if f.euiB = 0 then [] else [(f.euiB, k, f.cabDist + 1)]
    | none => []
  let cs := (if cabActive l then [(Config.eui, 0, 0)] else []) ++ cand 1 f1 ++ cand 2 f2
  let e21 := decide (e2.toNat < e1.toNat)
  let dist (base side : Nat) (c : DWord × Nat × Nat) : Int := if c.2.1 = side then base + c.2.2 else (base : Int) - c.2.2
  let ref2 := match lowestCab cs with
    | none => e21
    | some c =>
      let d1 := dist a 2 c
      let d2 := dist b 1 c
      if d1 < d2 then false else if d2 < d1 then true else e21
  let tp (f : Option InaFrame) : Nat := match f with | some f => f.topo.toNat | none => 0
  let topo := max (max (tp f1) (tp f2)) (topoOf l).toNat + 1
  let (sheet, fb) := compSheet l n
  let c := lowestCab cs
  let cEui : DWord := match c with | some c => c.1 | none => 0
  let ref := if ref2 then e2 else e1
  let pos := if ref2 then b + 1 else a + 1
  let cabPos := match c with
    | none => 0
    | some c =>
      let d := if ref2 then dist b 1 c else dist a 2 c
      (d + 1).toNat
  let sig := crc32c 0xFFFFFFFF (leBytes 4 topo ++ leBytes 1 n ++ leBytes 8 ref.toNat ++ leBytes 8 cEui.toNat
                                ++ leBytes 4 (rget l (Rg.CAR_SHEETs_SIG sheet)).toNat)
  { n := n, pos := pos, orient := ref2, topo := BitVec.ofNat 32 topo, sheet := sheet, fallback := fb, refCab := c.isSome,
    refEui := ref, cabEui := cEui, cabPos := cabPos, csig := sig,
    complete := (openPort l (2 * line) || f1.isSome) && (openPort l (2 * line + 1) || f2.isSome) && n ≤ 63 && topo < 2 ^ 32 }

/-- The result a round uses, and its line: the complete one with the larger n, Line X when equal (14 R330). -/
def roundResult (l : LaneState) : InaResult × Nat :=
  let x := lineResult l 0
  let y := lineResult l 1
  if x.complete && y.complete then (if x.n < y.n then (y, 1) else (x, 0))
  else if y.complete then (y, 1) else (x, 0)

/-- Cab-active modules counted on a line (14 R329). -/
def cabsCounted (l : LaneState) (line : Nat) : Nat :=
  let c (p : Nat) : Nat := match waveOf l p with | some f => f.cabs | none => 0
  b2n (cabActive l) + c (2 * line) + c (2 * line + 1)

/-- A module confirms on a line: a CONFIRM frame from every end that is not open, each with AGREE and its own CSIG (14 R331). -/
def confirmsOn (l : LaneState) (line : Nat) : Bool :=
  [2 * line, 2 * line + 1].all (fun p => openPort l p || (match l.ina.confirms.find? (fun e => e.1 == p) with
    | some e => e.2.agree && e.2.csig == l.ina.res.csig
    | none => false))

/-- EV_INAUGURATION (14 Table INA-2). -/
def inaEvent (l : LaneState) (code : Nat) : LaneState :=
  event l 0x0404 (code + 256 * l.ina.res.n + 65536 * ((topoOf l).toNat % 65536))

/-- WAVE_WINDOW_END: after I1 the module has its result; after I2 the round ends: adopted, without change, or failed (14 R329 to R331). -/
def execWaveWindowEnd (l : Lane) (s : State) : Res :=
  .next (s.onLane l (fun x =>
    if !inWaves x then x
    else if inaSt x = 2 then
      let (r, line) := roundResult x
      let x := { x with ina := { x.ina with res := r } }
      let x := bset (bset x Rg.INA_STATUS 4 (!r.complete)) Rg.INA_STATUS 5 (63 < r.n)
      let x := bset (bset x Rg.INA_STATUS 7 (1 < cabsCounted x line)) Rg.INA_STATUS 8 (line == 1)
      fset x Rg.INA_STATUS 2 0 3
    else if inaSt x = 3 then
      let ok := x.ina.res.complete && (confirmsOn x 0 || confirmsOn x 1)
      let changed := changedOwn x || x.ina.confirms.any (fun e => e.2.changed)
      if ok && changed then bset { x with ina := { x.ina with adopt := some x.ina.res } } Rg.INA_STATUS 3 false
      else if ok then inaEvent (fset (bset x Rg.INA_STATUS 3 false) Rg.INA_STATUS 2 0 0) 3
      else inaEvent (fset (finc x Rg.INA_ROUNDS 31 16 1) Rg.INA_STATUS 2 0 0) 2
    else x))

/-! Adoption (14 R332, R335). -/

/-- The inauguration record (14 Table INA-3), with CHANGED set. -/
def inaRecord (l : LaneState) (r : InaResult) (changed : Bool) : Bytes :=
  let flags := b2n r.orient + 2 * b2n (isLeader l) + 4 * b2n r.refCab + 8 * b2n r.fallback + 16 * b2n changed
  leBytes 4 (topoOf l).toNat ++ leBytes 1 (ownPos l) ++ leBytes 1 r.n ++ leBytes 1 flags ++ leBytes 1 (sheetNow l)
    ++ leBytes 1 r.cabPos ++ [0, 0, 0] ++ leBytes 4 (carCycle l)

/-- What adoption puts in force (14 R332). -/
def adopt (l : LaneState) (r : InaResult) : LaneState :=
  let lapse := l.car.prop.isSome
  let us := sheetUs l r.sheet
  let l := rset l Rg.INA_TOPO r.topo
  let l := bset (fset l Rg.CAR_STATUS 13 8 r.pos) Rg.CAR_STATUS 14 r.orient
  let l := fset (fset l Rg.CAR_SHEET 3 0 r.sheet) Rg.CAR_SHEET 8 8 0
  let l := setCarCycle l (if us = 0 then carCycle l else (wNow l / (us * 1000)).toNat)
  let l := armUnit l 1 (firstMultiple (wNow l + 1) (us * 1000)) (us * 1000)
  let l := rset l Rg.INA_RESULT (BitVec.ofNat 32 (r.pos + 256 * r.n + 2 ^ 16 * b2n r.orient + 2 ^ 17 * b2n (isLeader l)
                                                  + 2 ^ 18 * b2n r.refCab + 2 ^ 19 * b2n r.fallback + 2 ^ 24 * r.sheet))
  let l := fset (bset l Rg.INA_STATUS 6 r.fallback) Rg.INA_LAST_POS 5 0 r.pos
  let l := rset64 (rset64 l Rg.INA_REF_EUI_LO Rg.INA_REF_EUI_HI r.refEui) Rg.INA_CAB_EUI_LO Rg.INA_CAB_EUI_HI r.cabEui
  let l := setPaths (setPaths l 0 []) 1 []
  let l := { l with car := { l.car with inForce := true, prop := none, newSheet := none, acks := [], active := [] },
                    ina := { l.ina with adopt := none } }
  let l := if lapse then event l 0x0403 0xFF else l
  let l := finc (fset l Rg.INA_STATUS 2 0 0) Rg.INA_ROUNDS 15 0 1
  let l := inaEvent l (b2n r.fallback)
  if bget l Rg.INA_CFG 16 then arrive l (.inaug (inaRecord l r true)) else l

/-- ADOPTION: at the adoption boundary the count, position, orientation and sheet of the confirmed result take effect together (14 R332). -/
def execAdoption (l : Lane) (s : State) : Res :=
  .next (s.onLane l (fun x =>
    match x.ina.adopt with
    | some r => adopt x r
    | none => x))

/-- REINAUGURATE: Ringmaster writes INA_CTRL (14 R324). -/
def execReinaugurate (l : Lane) (s : State) : Res := .next (s.onLane l (fun x => guardWrite x .m Rg.INA_CTRL setTrigger))

end Sys2Proof.Machine
end

