-- ==== Sys2Proof/Machine/Ecn.lean ====
section
/-! DEFINITION. The consist switch (15): VLANs, queues, the MAC table, vital frames, address resolution, and the auxiliary rings; auxiliary transmit requests (08 R186). -/

namespace Sys2Proof.Machine

/-- Length of a frame on the wire without FCS. -/
def ethLen (f : EthFrame) : Nat := 14 + (if f.tag.isSome then 4 else 0) + f.body.length

/-- The module's MAC address (15 R346). -/
def ownMac (l : LaneState) : Mac48 :=
  BitVec.ofNat 48 (fget l Rg.ECN_MAC_HI 15 0 * 2 ^ 32 + (rget l Rg.ECN_MAC_LO).toNat)

/-! VLANs (15 R341, Table ECN-4). -/

/-- The index of the valid VLAN entry of a VID. -/
def vlanOf (l : LaneState) (vid : Nat) : Option Nat :=
  (List.range 64).find? (fun v => bget l (Rg.ECN_VLANv v) 31 && fget l (Rg.ECN_VLANv v) 11 0 == vid)

/-- Whether a port is a member of a VLAN entry. -/
def isMember (l : LaneState) (v p : Nat) : Bool := bget l (Rg.ECN_VLANv v) (12 + p)

/-- CLASS of a VLAN entry: 0 transit, 1 vital, 2 auxiliary. -/
def vlanClass (l : LaneState) (v : Nat) : Nat := fget l (Rg.ECN_VLANv v) 23 22

/-! MAC table (15 R345). -/

/-- A static entry by number; an unlisted one is 0. -/
def staticEnt (l : LaneState) (i : Nat) : Word × Word × Nat := sget (fun _ => ((0, 0, 0) : Word × Word × Nat)) l.ecn.statics i

/-- The port of a static entry for an address. -/
def staticPort (l : LaneState) (vid : Nat) (mac : Mac48) : Option Nat :=
  (List.range 128).findSome? (fun i =>
    let e := staticEnt l i
    if e.2.1.getLsbD 31 && getBits e.2.1 27 16 == vid && getBits e.2.1 15 0 * 2 ^ 32 + e.1.toNat == mac.toNat then some e.2.2
    else none)

/-- The learned entry of an address. -/
def learned (l : LaneState) (vid : Nat) (mac : Mac48) : Option MacEnt := l.ecn.macs.find? (fun m => m.vid == vid && m.mac == mac)

/-- The port an address is reached through. -/
def macPort (l : LaneState) (vid : Nat) (mac : Mac48) : Option Nat :=
  match staticPort l vid mac with
  | some p => some p
  | none => (learned l vid mac).map (·.port)

/-- Entries the table can still learn: 2,048 less the static ones. -/
def learnMax (l : LaneState) : Nat := 2048 - ((List.range 128).filter (fun i => (staticEnt l i).2.1.getLsbD 31)).length

/-- Show the number of learned entries (15 Table ECN-2). -/
def showMacs (l : LaneState) : LaneState :=
  let n := l.ecn.macs.length
  fset (bset l Rg.ECN_STATUS 2 (learnMax l ≤ n)) Rg.ECN_STATUS 27 16 n

/-- Learn a source address (15 R345). -/
def learn (l : LaneState) (vid : Nat) (mac : Mac48) (port : Nat) : LaneState :=
  match staticPort l vid mac with
  | some p => if p = port then l else finc l Rg.ECN_MAC_MOVES 31 0 1
  | none =>
    match learned l vid mac with
    | some m =>
      if m.port = port then l
      else
        let l := finc l Rg.ECN_MAC_MOVES 31 0 1
        { l with ecn := { l.ecn with macs := l.ecn.macs.map (fun e => if e.vid == vid && e.mac == mac then { e with port := port } else e) } }
    | none =>
      if learnMax l ≤ l.ecn.macs.length then finc l Rg.ECN_LEARN_FAIL 31 0 1
      else showMacs { l with ecn := { l.ecn with macs := l.ecn.macs ++ [⟨vid, mac, port⟩] } }

/-! Egress (15 R342, R346). -/

/-- Bytes waiting in the queues of a port from priority `lo` to `hi`. -/
def queuedBytes (l : LaneState) (p lo hi : Nat) : Nat :=
  ((l.ecn.queues.filter (fun q => q.1 == p && lo ≤ q.2.1 && q.2.1 ≤ hi)).map (fun q => ethLen q.2.2 + 4)).foldl (· + ·) 0

/-- Queue a frame on an external port: 64 KiB, of which 8 KiB is reserved for queues 6 and 7; what does not fit is dropped at the tail (15 R342). -/
def enqueue (l : LaneState) (p prio : Nat) (f : EthFrame) : LaneState :=
  let n := ethLen f + 4
  let all := queuedBytes l p 0 7
  let low := queuedBytes l p 0 5
  if 65536 < all + n ∨ (prio < 6 ∧ 57344 < low + n) then finc l (Rg.ECN_PORTp_DROP p) 15 0 1
  else { l with ecn := { l.ecn with queues := l.ecn.queues ++ [(p, prio, f)] } }

/-- The queue of a frame on a VLAN: its priority, lowered to AUX_MAXQ on an auxiliary VLAN (15 R342). -/
def queueOf (l : LaneState) (v prio : Nat) : Nat :=
  if vlanClass l v = 2 then min prio (fget l Rg.ECN_CFG 22 20) else prio

/-- A frame as it leaves an external port of its VLAN: tagged or not as UNTAG says. -/
def outFrame (l : LaneState) (v vid prio p : Nat) (f : EthFrame) : EthFrame :=
  { f with tag := if bget l (Rg.ECN_VLANv v) (17 + p) then none else some (vid, prio) }

/-- Send a frame out of one external port of its VLAN. -/
def egress (l : LaneState) (v vid prio p : Nat) (f : EthFrame) : LaneState :=
  if !bget l (Rg.ECN_PORTp_CFG p) 0 then l else enqueue l p prio (outFrame l v vid prio p f)

/-- The lane expects to see a frame leave a port: a copy of one received at W, for 2 ms, or a released telegram (15 R344). -/
def expectOut (l : LaneState) (v vid prio p : Nat) (f : EthFrame) (at_ : Option Int) : LaneState :=
  if !bget l (Rg.ECN_PORTp_CFG p) 0 then l
  else
    let live := l.ecn.due.filter (fun e => match e.2.2 with | some t => wNow l - t ≤ 2000000 | none => true)
    { l with ecn := { l.ecn with due := live ++ [(p, outFrame l v vid prio p f, at_)] } }

/-- Ports a frame goes to (15 R346). -/
def egressPorts (l : LaneState) (v vid ingress : Nat) (dst : Mac48) : List Nat :=
  let members := [0, 1, 2, 3, 4].filter (fun p => p != ingress && isMember l v p)
  if dst = ownMac l then members.filter (· == 4)
  else if dst.getLsbD 40 then members
  else match macPort l vid dst with
    | some p => members.filter (· == p)
    | none => members

/-! The auxiliary rings (15 R349, Table ECN-1). -/

/-- A ring's base address from its two registers. -/
def ringBase (l : LaneState) (lo hi : Nat) : Nat := (rget l lo).toNat + fget l hi 7 0 * 2 ^ 32

/-- A frame as bytes: addresses and type with the most significant octet first. -/
def beBytes (n v : Nat) : Bytes := (leBytes n v).reverse

/-- The bytes of a frame without FCS. -/
def ethBytes (f : EthFrame) : Bytes :=
  beBytes 6 f.dst.toNat ++ beBytes 6 f.src.toNat
    ++ (match f.tag with | some (v, p) => beBytes 2 0x8100 ++ beBytes 2 (v + 8192 * p) | none => [])
    ++ beBytes 2 f.etype ++ f.body

/-- The frame bytes spell. -/
def ethParse (b : Bytes) : EthFrame :=
  let be (off n : Nat) : Nat := leNat ((b.drop off).take n).reverse
  let tagged := be 12 2 = 0x8100
  let o := if tagged then 16 else 12
  let body := b.drop (o + 2)
  let ip := be o 2 = 0x0800
  { dst := BitVec.ofNat 48 (be 0 6), src := BitVec.ofNat 48 (be 6 6),
    tag := if tagged then some (be 14 2 % 4096, be 14 2 / 8192) else none, etype := be o 2,
    ipDst := if ip then some (BitVec.ofNat 32 (be (o + 18) 4)) else none,
    udpDst := if ip ∧ be (o + 11) 1 = 17 then some (be (o + 24) 2) else none, body := body }

/-- Whether `n` bytes at an address lie in the auxiliary DRAM window (08 R184; 15 R349). -/
def inAuxWindow (l : LaneState) (a n : Nat) : Bool :=
  let w := (rget l Rg.TRP_AUX_WIN_BASE_LO).toNat + fget l Rg.TRP_AUX_WIN_BASE_HI 7 0 * 2 ^ 32
  decide (w ≤ a) && decide (a + n ≤ w + fget l Rg.TRP_AUX_WIN_LEN 12 0 * 1048576)

/-- Whether a ring base is 4 KiB aligned and its ring lies in the auxiliary window (15 R349). -/
def ringBaseOk (l : LaneState) (base : Nat) : Bool := base % 4096 == 0 && inAuxWindow l base 4096

/-- The switch fills the lane's receive ring with an auxiliary frame, when the next descriptor is the switch's (15 R349). -/
def auxRingPut (l : LaneState) (f : EthFrame) : LaneState :=
  let base := ringBase l Rg.ECN_AUX_RX_BASE_LO Rg.ECN_AUX_RX_BASE_HI
  let d := base + 16 * l.ecn.rxNext
  let flags := leNat (mrd l (d + 0xA) 2)
  if !isSplit l || !ringBaseOk l base || flags % 2 = 0 || !inAuxWindow l (leNat (mrd l d 8)) 2048 then finc l (Rg.ECN_PORTp_DROP 4) 15 0 1
  else
    let b := ethBytes f
    let l := mwr l (leNat (mrd l d 8)) (b.take 2048)
    let l := mwr l (d + 8) (leBytes 2 b.length ++ leBytes 2 0 ++ leBytes 4 l.mer.w.ns)
    { l with ecn := { l.ecn with rxNext := (l.ecn.rxNext + 1) % 256 } }

/-- What port 4 receives: nothing of a transit VLAN, vital telegrams only of the vital one, and auxiliary frames into the receive ring (15 R341, R343). -/
def port4 (l : LaneState) (v : Nat) (f : EthFrame) : LaneState :=
  let l := finc l (Rg.ECN_PORTp_RX 4) 31 0 1
  match vlanClass l v with
  | 1 =>
    if f.etype = 0x0800 ∧ f.ipDst = some (rget l Rg.ECN_VITAL_IP) ∧ f.udpDst = some (fget l Rg.SAF_UDP_PORT 15 0) then
      arrive l (.consistTel (f.body.drop 28))
    else l
  | 2 => auxRingPut l f
  | _ => l

/-- Frames the switch terminates: PTP and PAUSE (15 R340, R347). -/
def terminated (f : EthFrame) : Bool :=
  f.etype == 0x88F7 || f.etype == 0x8808 || f.udpDst == some 319 || f.udpDst == some 320

/-- Forward a frame that passed the ingress checks (15 R346). -/
def forward (l : LaneState) (gap : Bool) (v vid prio ingress : Nat) (f : EthFrame) : LaneState :=
  let ps := egressPorts l v vid ingress f.dst
  let ext := ps.filter (· != 4)
  let l := if ps.contains 4 then port4 l v f else l
  if gap && ext != [] then finc l Rg.ECN_HANDOVER_DROP 31 0 1
  else ext.foldl (fun l p => expectOut (egress l v vid (queueOf l v prio) p f) v vid (queueOf l v prio) p f (some (wNow l))) l

/-- A frame received on an external port: ingress checks, learning and forwarding (15 R340 to R346). -/
def consistReceive (l : LaneState) (gap : Bool) (port : Nat) (f : EthFrame) : LaneState :=
  let c := Rg.ECN_PORTp_CFG port
  if !bget l Rg.ECN_CFG 0 || !bget l c 0 then l
  else
    let l := finc l (Rg.ECN_PORTp_RX port) 31 0 1
    if terminated f then l
    else
      let (vid, prio) := f.tag.getD (fget l c 27 16, fget l c 7 5)
      match vlanOf l vid with
      | none => finc l (Rg.ECN_PORTp_DROP port) 31 16 1
      | some v =>
        if !isMember l v port || 1518 + (if f.tag.isSome then 4 else 0) < ethLen f + 4 then finc l (Rg.ECN_PORTp_DROP port) 31 16 1
        else forward (learn l vid f.src port) gap v vid prio port f

/-- No lane drives the consist ports: the gap of an owner fallback (15 R348). -/
def State.ecnGap (s : State) : Bool := allLanes.all (fun x => !s.sends x 2)

/-- The switch runs: its island is not removed for a power state (20 Table PWR-3). -/
def ecnUp (l : LaneState) : Bool := !l.pwr.gated.contains 9

/-- CONSIST_FRAME_RECEIVE (15 R341 to R346, R348). -/
def execConsistFrameReceive (l : Lane) (port : Nat) (f : EthFrame) (s : State) : Res :=
  .next (s.onLane l (fun x => if port < 4 && ecnUp x then consistReceive x s.ecnGap port f else x))

/-- The next frame of a port: the oldest of its highest queue. -/
def nextFrame (l : LaneState) (port : Nat) : Option (Nat × Nat × EthFrame) :=
  [7, 6, 5, 4, 3, 2, 1, 0].findSome? (fun k => l.ecn.queues.find? (fun q => q.1 == port && q.2.1 == k))

/-- Whether a frame leaves a port on an auxiliary VLAN: by its tag, or untagged as UNTAG says (08 R186). -/
def auxOut (l : LaneState) (port : Nat) (f : EthFrame) : Bool :=
  (List.range 64).any (fun v => bget l (Rg.ECN_VLANv v) 31 && vlanClass l v == 2 && isMember l v port &&
    (match f.tag with | some t => fget l (Rg.ECN_VLANv v) 11 0 == t.1 | none => bget l (Rg.ECN_VLANv v) (17 + port)))

/-- Whether a frame seen leaving a port is one the lane does not expect: neither auxiliary, nor a released telegram, nor a copy of a frame received in the last 2 ms (15 R344). -/
def unexpected (l : LaneState) (port : Nat) (f : EthFrame) : Bool :=
  !auxOut l port f && !l.ecn.due.any (fun e => e.1 == port && e.2.1 == f && (match e.2.2 with | some t => decide (wNow l - t ≤ 2000000) | none => true))

/-- A frame a lane expected has left (15 R344). -/
def seenOut (l : LaneState) (port : Nat) (f : EthFrame) : LaneState :=
  match l.ecn.due.find? (fun e => e.1 == port && e.2.1 == f) with
  | some e => { l with ecn := { l.ecn with due := l.ecn.due.erase e } }
  | none => l

/-- While the owner sends a frame of the switch, the other lanes check it (15 R344; 01 R17). -/
def State.ecnTaps (s : State) (l : Lane) (port : Nat) : State :=
  match nextFrame (s.lane l) port with
  | some q => if s.sends l 2 then (s.tapCheck l 2 (fun y => unexpected y port q.2.2)).mapLanes (fun y => seenOut y port q.2.2) else s
  | none => s

/-- CONSIST_FRAME_SEND: an egress queue sends its next frame; it leaves the port from the owner lane (15 R342, R344). -/
def execConsistFrameSend (l : Lane) (port : Nat) (s : State) : Res :=
  let s := s.ecnTaps l port
  .next (s.onLane l (fun x =>
    match nextFrame x port with
    | none => x
    | some q =>
      let x := { x with ecn := { x.ecn with queues := x.ecn.queues.erase q } }
      if s.sends l 2 then emit x (.eth port q.2.2) else x))

/-- The index of the vital VLAN entry (15 Table ECN-2). -/
def vitalIdx (l : LaneState) : Nat := fget l Rg.ECN_CFG 13 8

/-- The answer a lane computes to an ARP request on the vital VLAN (15 R343). -/
def arpAnswer (x : LaneState) (port : Nat) (ip : Word) (mac : Mac48) (sip : Word) : Option EthFrame :=
  let v := vitalIdx x
  if !bget x Rg.ECN_CFG 0 || !ecnUp x || ip != rget x Rg.ECN_VITAL_IP || vlanClass x v != 1 || !isMember x v port then none
  else
    let body := beBytes 2 1 ++ beBytes 2 0x0800 ++ beBytes 1 6 ++ beBytes 1 4 ++ beBytes 2 2
      ++ beBytes 6 (ownMac x).toNat ++ beBytes 4 ip.toNat ++ beBytes 6 mac.toNat ++ beBytes 4 sip.toNat
    let untag := bget x (Rg.ECN_VLANv v) (17 + port)
    some { dst := mac, src := ownMac x, tag := if untag then none else some (fget x (Rg.ECN_VLANv v) 11 0, fget x Rg.ECN_CFG 18 16),
           etype := 0x0806, body := body }

/-- While the owner sends its ARP answer, the other lanes check it byte for byte (15 R343; 01 R17). -/
def State.arpTaps (s : State) (l : Lane) (port : Nat) (ip : Word) (mac : Mac48) (sip : Word) : State :=
  match arpAnswer (s.lane l) port ip mac sip with
  | some f => s.tapCheck l 2 (fun y => arpAnswer y port ip mac sip != some f)
  | none => s

/-- VITAL_ARP_REQUEST: the owner lane answers an ARP request for ECN_VITAL_IP on the vital VLAN (15 R343). -/
def execVitalArpRequest (l : Lane) (port : Nat) (ip : Word) (mac : Mac48) (sip : Word) (s : State) : Res :=
  let s := s.arpTaps l port ip mac sip
  .next (s.onLane l (fun x =>
    match arpAnswer x port ip mac sip with
    | some f => if s.sends l 2 then emit x (.eth port f) else x
    | none => x))

/-- MAC_AGE_OUT: a learned entry ages out (15 R345). -/
def execMacAgeOut (l : Lane) (vid : Nat) (mac : Mac48) (s : State) : Res :=
  .next (s.onLane l (fun x =>
    showMacs { x with ecn := { x.ecn with macs := x.ecn.macs.filter (fun m => !(m.vid == vid && m.mac == mac)) } }))

/-- A vital telegram goes from port 4 into VITAL_Q of its egress ports (15 R342, R343; 10 R251): an IPv4/UDP datagram to an address of the consist table. -/
def sendVital (l : LaneState) (ip : Word) (udp : Nat) (body : Bytes) : LaneState :=
  match l.cfg.consist.find? (fun e => e.1 == ip) with
  | none => l
  | some e =>
    let v := vitalIdx l
    let vid := fget l (Rg.ECN_VLANv v) 11 0
    let f : EthFrame := { dst := e.2, src := ownMac l, etype := 0x0800, ipDst := some ip, udpDst := some udp, body := body }
    let ps := (egressPorts l v vid 4 e.2).filter (· != 4)
    ps.foldl (fun l p => expectOut (egress l v vid (fget l Rg.ECN_CFG 18 16) p f) v vid (fget l Rg.ECN_CFG 18 16) p f none) l

/-! Auxiliary frames (08 R186; 15 R349). -/

/-- Whether a frame carries an auxiliary VLAN. -/
def auxVlan (l : LaneState) (f : EthFrame) : Option (Nat × Nat × Nat) :=
  match f.tag with
  | none => none
  | some (vid, prio) =>
    match vlanOf l vid with
    | some v => if vlanClass l v = 2 && isMember l v 4 then some (v, vid, prio) else none
    | none => none

/-- Send an auxiliary frame from port 4: by the owner only, else discarded without error and counted (08 R186). Answers the lane and whether it was dropped. -/
def auxSend (l : LaneState) (sends : Bool) (f : EthFrame) : LaneState × Bool :=
  match auxVlan l f with
  | none =>
    let l := finc l Rg.TRP_FW_VIOL 31 0 1
    (fset l Rg.TRP_FW_VIOL_ADDR_HI 9 8 3, true)
  | some (v, vid, prio) =>
    if sends then
      let ps := (egressPorts l v vid 4 f.dst).filter (· != 4)
      (ps.foldl (fun l p => egress l v vid (queueOf l v prio) p f) l, false)
    else (finc l Rg.TRP_AUX_TX_DROP 31 0 1, true)

/-- AUX_TX_REQUEST: an auxiliary transmit request (08 R186). -/
def execAuxTxRequest (l : Lane) (f : EthFrame) (s : State) : Res :=
  .next (s.onLane l (fun x => if isSplit x && ecnUp x then (auxSend x (s.sends l 2) f).1 else x))

/-- Scan the transmit ring from the next descriptor while the switch owns it: each frame is sent, or marked DROPPED by a lane that does not own the switch, or ERR when its length is outside 60 to 1,518 (15 R349, Table ECN-1). -/
def txScan : Nat → Bool → LaneState → LaneState
  | 0, _, l => l
  | fuel + 1, sends, l =>
    let d := ringBase l Rg.ECN_AUX_TX_BASE_LO Rg.ECN_AUX_TX_BASE_HI + 16 * l.ecn.txNext
    if leNat (mrd l (d + 0xA) 2) % 2 = 0 then l
    else
      let len := leNat (mrd l (d + 8) 2)
      let done (l : LaneState) (flags : Nat) : LaneState :=
        let l := mwr l (d + 0xA) (leBytes 2 flags ++ leBytes 4 0)
        { l with ecn := { l.ecn with txNext := (l.ecn.txNext + 1) % 256 } }
      if len < 60 || 1518 < len || !inAuxWindow l (leNat (mrd l d 8)) len then txScan fuel sends (done l 4)
      else
        let r := auxSend l sends (ethParse (mrd l (leNat (mrd l d 8)) len))
        txScan fuel sends (done r.1 (if r.2 then 2 else 0))

/-- ECN_AUX_KICK: any write makes the switch scan the transmit ring; with a ring base out of its place it ends in a bus error (15 R349). -/
def execEcnAuxKick (l : Lane) (s : State) : Res :=
  .next (s.onLane l (fun x =>
    if ringBaseOk x (ringBase x Rg.ECN_AUX_TX_BASE_LO Rg.ECN_AUX_TX_BASE_HI) && ringBaseOk x (ringBase x Rg.ECN_AUX_RX_BASE_LO Rg.ECN_AUX_RX_BASE_HI) then
      guardWrite x .x Rg.ECN_AUX_KICK (fun x => if ecnUp x then txScan 256 (s.sends l 2) x else x)
    else { x with berr := true }))

/-! Static entries (15 Table ECN-2). -/

/-- Replace a word of the static entry that ECN_STATIC_IDX names (RWS). -/
def staticWrite (l : LaneState) (k : Nat) (v : Word) : LaneState :=
  if modeOf l ≠ .stop then l
  else
    let i := fget l Rg.ECN_STATIC_IDX 6 0
    let e := staticEnt l i
    let e' : Word × Word × Nat :=
      if k = 0 then (v, e.2.1, e.2.2) else if k = 1 then (e.1, v &&& 0x8FFFFFFF#32, e.2.2) else (e.1, e.2.1, getBits v 2 0)
    { l with ecn := { l.ecn with statics := sset (fun _ => ((0, 0, 0) : Word × Word × Nat)) l.ecn.statics i e' } }

/-- A word of the static entry that ECN_STATIC_IDX names. -/
def staticRead (l : LaneState) (k : Nat) : Word :=
  let e := staticEnt l (fget l Rg.ECN_STATIC_IDX 6 0)
  if k = 0 then e.1 else if k = 1 then e.2.1 else BitVec.ofNat 32 e.2.2

/-- An access of ECN_STATIC_PORT advances ECN_STATIC_IDX by 1, wrapping at 128 (15 Table ECN-2). -/
def staticNext (l : LaneState) : LaneState := fset l Rg.ECN_STATIC_IDX 6 0 ((fget l Rg.ECN_STATIC_IDX 6 0 + 1) % 128)

/-- ECN_STATIC_PORT: a read or a write, which advances the index (15 R350). -/
def execEcnStaticPort (l : Lane) (ag : Agent) (wr : Option Word) (s : State) : Res :=
  .next (s.onLane l (fun x =>
    match wr with
    | some v => guardWrite x ag Rg.ECN_STATIC_PORT (fun x => staticNext (staticWrite x 2 v))
    | none => guardRead x ag Rg.ECN_STATIC_PORT (staticRead x 2) staticNext))

end Sys2Proof.Machine
end

