-- ==== Sys2Proof/Machine/Fio.lean ====
section
/-! DEFINITION. Field inputs and outputs (17) with the safe output functions (10 R229 to R233): sampling, the field record, diagnostics, off-pulses, degraded mode and group trips. -/

namespace Sys2Proof.Machine

/-- Replace one bit. -/
def putBit {n : Nat} (b : BitVec n) (i : Nat) (v : Bool) : BitVec n :=
  if v then b ||| (1#n <<< i) else b &&& ~~~(1#n <<< i)

/-- The executive raises an event it offers as a vote item of stream 0x0600 at the next COMMIT (02 R44; 17 R391). -/
def raiseV (l : LaneState) (code data : Nat) (ext : Nat := 0) : LaneState :=
  { l with exe := { l.exe with pendEv := l.exe.pendEv ++ [⟨0x600, .event code (BitVec.ofNat 32 data) 255 ext⟩] } }

/-- The mode in force on a channel (17 R372). -/
def chMode (l : LaneState) (i : Nat) : Nat := sget zNat l.fio.mode i

/-- A field of FIO_CHi_CFG. -/
def chCfg (l : LaneState) (i hi lo : Nat) : Nat := fget l (Rg.FIO_CHi_CFG i) hi lo

/-- Input-image offset of the field record (17 R373). -/
def fioIn (l : LaneState) : Nat := fget l Rg.FIO_IMG 15 0

/-- Output-image offset of the field command area. -/
def fioOut (l : LaneState) : Nat := fget l Rg.FIO_IMG 31 16

/-- A safe output channel: an output whose command bit is in SAFETY_MAP and whose off-pulse test is enabled (10, Safe output functions). -/
def safeCh (l : LaneState) (i : Nat) : Bool :=
  chMode l i == 3 && chCfg l i 6 6 == 1 && l.cfg.safeOut.contains (8 * fioOut l + i)

/-- A channel that touches a safety-assigned bit (17 R397). -/
def safetyAssigned (l : LaneState) (i : Nat) : Bool :=
  l.cfg.safeOut.contains (8 * fioOut l + i) || l.cfg.safeIn.contains (8 * fioIn l + i)

/-- The agreed status byte of a channel (17 Table FIO-2). -/
def chStat (l : LaneState) (i b : Nat) : Bool := bget l (Rg.FIO_CHi_DIAG i) b

/-- The group of a channel is tripped (10 R231). -/
def grpTripped (l : LaneState) (g : Nat) : Bool := bget l (Rg.FIO_GRPg_STAT g) 3

/-- The GSS of a group cannot open (10 R232). -/
def grpStuck (l : LaneState) (g : Nat) : Bool := bget l (Rg.FIO_GRPg_STAT g) 4

/-- The commands this lane applies (17 Table FIO-5, FIO_CMDw). -/
def cmdBits (l : LaneState) : BitVec 96 := rget l (Rg.FIO_CMDw 2) ++ rget l (Rg.FIO_CMDw 1) ++ rget l (Rg.FIO_CMDw 0)

/-- Show the commands this lane applies. -/
def setCmdBits (l : LaneState) (c : BitVec 96) : LaneState :=
  let l := rset l (Rg.FIO_CMDw 0) (c.setWidth 32)
  let l := rset l (Rg.FIO_CMDw 1) ((c >>> 32).setWidth 32)
  rset l (Rg.FIO_CMDw 2) ((c >>> 64).setWidth 32)

/-- The command bits of the last output image applied. -/
def imgCmd (l : LaneState) : BitVec 96 := BitVec.ofNat 96 (leNat (sbytes l.exe.outApplied (fioOut l) 12))

/-- Whether a rule of chapters 10, 17 or 19 commands a channel off whatever the image says: not an output, its driver tripped, LATCHED, CROSS on a safe channel, a safe channel behind a stuck GSS, or a standby module. -/
def heldOff (l : LaneState) (i : Nat) : Bool :=
  chMode l i != 3 || l.fio.oc.getLsbD i || chStat l i 3 || l.fio.offCmd.contains i
    || (grpStuck l (i / 16) && safeCh l i) || isStandby l || ((l.prt.resigned || l.prt.takeover) && pairedOut l i)

/-- Drive the transistors from the applied image: nothing while the drivers are not refreshed or in the safe state (17 R382, R395; 09 R212). A channel turned off is noted with its time. -/
def fioDrive (l : LaneState) : LaneState :=
  let old := cmdBits l
  let img := imgCmd l
  let on := l.tri.drivers && !isSafe l
  let new := (List.range 96).foldl (fun (c : BitVec 96) i => putBit c i (on && img.getLsbD i && !heldOff l i)) 0
  let off := (List.range 96).filter (fun i => old.getLsbD i && !new.getLsbD i)
  let l := { l with fio := { l.fio with offAt := off.map (fun i => (i, wNow l)) ++ l.fio.offAt.filter (fun e => !off.contains e.1) } }
  setCmdBits l new

/-- A committed output image reaches the drivers of the lane (09 R199); the channels it turns off are noted for case 2 of R231. -/
def fioApply (l : LaneState) (img : List (Nat × Byte)) : LaneState :=
  let old := cmdBits l
  let l := fioDrive { l with exe := { l.exe with outApplied := img } }
  { l with fio := { l.fio with turned := old &&& ~~~cmdBits l } }

/-! Sampling (17 R375 to R382, R387, R388, R393, R394). -/

/-- Classification of a sample by the thresholds of R376: voltage in mV, sink current in µA. -/
def classify (mv ua : Nat) (prev : Bool) : Bool :=
  if 11000 ≤ mv && 2000 ≤ ua then true
  else if mv ≤ 5000 || ua ≤ 1500 then false
  else prev

/-- Classification of a readback by voltage (17 R382). -/
def classifyOut (mv : Nat) (prev : Bool) : Bool := if 11000 ≤ mv then true else if mv ≤ 5000 then false else prev

/-- A sample in wire-break mode by sink current in µA: value, WIREBREAK and the count of samples in the gaps (17 R377, Table FIO-3). -/
def wireBreak (ua : Nat) (val wb : Bool) (gap : Nat) : Bool × Bool × Nat :=
  if ua < 700 then (false, true, 0)
  else if 1200 ≤ ua && ua ≤ 3500 then (false, false, 0)
  else if 5000 < ua then (true, false, 0)
  else
    let g := min (gap + 1) 8
    let w := wb || g == 8
    (val && !w, w, g)

/-- A tick that falls inside an off-pulse of the channel or a GSS test of its group is not used (17 R382). -/
def inPulse (l : LaneState) (i : Nat) : Bool :=
  (match l.fio.pulse with | some p => p.no == i | none => false)
    || (match l.fio.gssPulse with | some p => p.no == i / 16 | none => false)

/-- PAIRED outputs of a standby, and of a module just after a takeover, are neither tested nor raise EXT_DRIVE (17 R396). -/
def pairIdle (l : LaneState) (i : Nat) : Bool :=
  chCfg l i 8 8 == 1 && (isStandby l || (match l.fio.pairUntil with | some t => wNow l < t | none => false))

/-- The group supply is present (17 R394). -/
def supplyOk (l : LaneState) (g : Nat) : Bool := bget l (Rg.FIO_GRPg_STAT g) 2

/-- Ticks within 1 ms after the lane's command turned a channel off do not count toward EXT_DRIVE (17 R387). -/
def justOff (l : LaneState) (i : Nat) : Bool :=
  match l.fio.offAt.find? (fun e => e.1 == i) with
  | some e => wNow l - e.2 < 1000000
  | none => false

/-- One channel at a sample tick. -/
def sampleCh (m : FieldMeas) (l : LaneState) (i : Nat) : LaneState :=
  let mv := m.mv.getD i 0
  let ua := m.ua.getD i 0
  let f := l.fio
  let raw := Rg.FIO_CHi_RAW i
  match chMode l i with
  | 0 => l
  | 3 =>
    let l := fset l raw 31 16 (min (ua / 1000) 65535)
    if inPulse l i then l
    else
      let rb := classifyOut mv (f.rb.getLsbD i)
      let on := (cmdBits l).getLsbD i
      let low := if chCfg l i 7 7 == 1 && on && ua < 5000 && supplyOk l (i / 16) then min (sget zNat f.olRun i + 1) 3 else 0
      let ext := f.ext.getLsbD i || (!on && 11000 ≤ mv && !justOff l i && !pairIdle l i)
      bset { l with fio := { f with rb := putBit f.rb i rb, olRun := sset zNat f.olRun i low, ol := putBit f.ol i (low == 3),
                                    ext := putBit f.ext i ext } } raw 1 rb
  | md =>
    let r : Bool × Bool × Nat :=
      if md = 1 && chCfg l i 2 2 == 1 then wireBreak ua (f.cls.getLsbD i) (f.wb.getLsbD i) (sget zNat f.gap i)
      else (classify mv ua (f.cls.getLsbD i), false, 0)
    let l := { l with fio := { f with cls := putBit f.cls i r.1, wb := putBit f.wb i r.2.1, gap := sset zNat f.gap i r.2.2 } }
    fset (bset l raw 0 r.1) raw 15 8 (min (ua / 50) 255)

/-- One group at a sample tick: rail, supply and GSS current (17 R392, R394, Table FIO-5). -/
def sampleGrp (m : FieldMeas) (l : LaneState) (g : Nat) : LaneState :=
  let a := Rg.FIO_GRPg_STAT g
  let high := decide (5000 < m.railMv.getD g 0)
  let sup := m.supplyMv.getD g 0
  let l := { l with fio := { l.fio with railHigh := putBit l.fio.railHigh g high } }
  fset (fset (bset (bset l a 1 high) a 2 (decide (16000 ≤ sup))) a 15 8 (min (sup / 200) 255)) a 31 16 (min (m.groupMa.getD g 0) 65535)

/-- The monitoring contacts of SAFE_OK; a disagreement ends with the contact in its commanded place (17 R393). -/
def sampleOk (m : FieldMeas) (l : LaneState) : LaneState :=
  let l := fset l Rg.FIO_STATUS 3 2 m.safeOk.toNat
  let agree (l : LaneState) (k : Nat) : LaneState :=
    if m.safeOk.getLsbD k == l.fio.okRelay.getLsbD k then bset l Rg.FIO_STATUS (4 + k) false else l
  agree (agree l 0) 1

/-- SAMPLE_TICK: compare unit 14 makes the lane sample its inputs and read back its outputs (17 R375). -/
def execSampleTick (l : Lane) (m : FieldMeas) (s : State) : Res :=
  .next (s.onLane l (fun x =>
    if x.mer.running && !x.pwr.gated.contains 2 then
      (List.range 96).foldl (sampleCh m) ((List.range 6).foldl (sampleGrp m) (sampleOk m x))
    else x))

/-! Sequence of events (17 R380, R381). -/

/-- Entries of the sequence-of-events FIFO: edges stamped and not yet selected by a snapshot. -/
def soeHeld (l : LaneState) : Nat := (l.agree.inbox.filter (fun i => match i.body with | .soe _ _ => true | _ => false)).length

/-- SOE_EDGE: an edge of an input channel with SOE_EN = 1 in a direction that EDGES records is stamped with W at 1 µs resolution; a full FIFO loses it (17 R380). -/
def execSoeEdge (l : Lane) (ch : Chan) (rising : Bool) (s : State) : Res :=
  .next (s.onLane l (fun x =>
    let md := chMode x ch
    let rec_ := chCfg x ch (if rising then 4 else 5) (if rising then 4 else 5) == 1
    if chCfg x ch 3 3 == 1 && rec_ && (md == 1 || md == 2) && x.mer.running then
      if soeHeld x < 4096 then
        { x with agree := { x.agree with inbox := x.agree.inbox ++ [⟨.soe ch rising, wNow x / 1000 * 1000⟩] } }
      else finc x Rg.FIO_SOE_STAT 31 16 1
    else x))

/-- At AGREE, append one agreed edge to the SOE ring; overrun follows OVW as for CAN queues. Answers the lane, the bytes and whether it overran (17 R381). -/
def soeAppend (l : LaneState) (img : List (Nat × Byte)) (ch : Nat) (rising two : Bool) (stamp : Int) :
    LaneState × List (Nat × Byte) × Bool :=
  let n := 2 ^ (4 + fget l Rg.FIO_SOE_CFG 4 2)
  let a := inBase + fget l Rg.FIO_SOE_ADDR 15 0
  let e := leInt 8 stamp ++ leBytes 1 ch ++ leBytes 1 (b2n rising + 2 * b2n two) ++ leBytes 6 0
  let put (l : LaneState) : LaneState × List (Nat × Byte) :=
    let h := ringOf l 8
    (finc (setRing l 8 (h.1 + 1, h.2.1, h.2.2)) Rg.FIO_SOE_STAT 15 0 1, sput img (a + 16 + 16 * (h.1.toNat % n)) e)
  let h := ringOf l 8
  if !bget l Rg.FIO_SOE_CFG 0 then (l, img, false)
  else if n ≤ (h.1 - h.2.1).toNat then
    if bget l Rg.FIO_SOE_CFG 1 then
      let p := put (setRing l 8 (h.1, h.2.1 + 1, h.2.2 + 1))
      (p.1, p.2, true)
    else (setRing l 8 (h.1, h.2.1, h.2.2 + 1), img, true)
  else
    let p := put l
    (p.1, p.2, false)

/-- At AGREE, write the header of the SOE ring (17 R381; 16 Table CAN-1). -/
def soeHeader (l : LaneState) (img : List (Nat × Byte)) : List (Nat × Byte) :=
  if bget l Rg.FIO_SOE_CFG 0 then
    let h := ringOf l 8
    sput img (inBase + fget l Rg.FIO_SOE_ADDR 15 0)
      (leBytes 4 h.1.toNat ++ leBytes 4 h.2.1.toNat ++ leBytes 4 h.2.2.toNat ++ leBytes 4 0)
  else img

/-- A write of FIO_SOE_ACK by the running instance (17 R381). -/
def fioSoeAckStore (l : LaneState) (v : Word) : WrRes :=
  if bget l Rg.FIO_SOE_CFG 0 then ackStore l 8 (fget l Rg.FIO_SOE_CFG 11 8) (fget l Rg.FIO_SOE_ADDR 15 0) v else .bus

/-! Pulses (17 R383 to R386, R390). -/

/-- No test runs in the safe state, with a test in progress, or without the group's supply (17 R383, R394, R395). -/
def mayTest (l : LaneState) (g : Nat) : Bool :=
  !isSafe l && l.tri.drivers && !grpTripped l g && supplyOk l g && l.fio.pulse.isNone && l.fio.gssPulse.isNone && !isStandby l

/-- In pattern p lane p keeps its transistors on and the others turn theirs off; with lane p not voting every lane does (17 R384). -/
def pulseOff (l : LaneState) (p : Nat) : Bool := laneNo l.id != p || !sees l (laneOf p)

/-- Whether this lane's transistors of an output channel conduct: held by its latch, or commanded on and not taken off by a pulse of the channel (19 R426). -/
def transistorOn (l : LaneState) (i : Nat) : Bool :=
  l.fio.hold.getLsbD i || ((cmdBits l).getLsbD i && !(match l.fio.pulse with | some p => p.no == i && pulseOff l p.pattern | none => false))

/-- Whether this lane's switches of a GSS are closed; a stuck GSS counts as closed (10 R229, R232; 17 R386). -/
def gssOn (l : LaneState) (g : Nat) : Bool :=
  grpStuck l g ||
  (l.fio.gss.getLsbD g && !(match l.fio.gssPulse with | some p => p.no == g && pulseOff l p.pattern | none => false))

/-- Whether an output channel conducts: its own network and that of its group supply switch, each by two of three lanes (01 R23). -/
def State.conducts (s : State) (i : Nat) : Bool :=
  2 ≤ (allLanes.filter (fun x => transistorOn (s.lane x) i)).length
    && 2 ≤ (allLanes.filter (fun x => gssOn (s.lane x) (i / 16))).length

/-- OFF_PULSE_START: the pulse of interval k of an output channel with OPT_EN = 1 that is commanded on, with pattern k mod 3 (17 R383, R384). -/
def execOffPulseStart (l : Lane) (ch : Chan) (k : Nat) (s : State) : Res :=
  .next (s.onLane l (fun x =>
    if chMode x ch == 3 && chCfg x ch 6 6 == 1 && (cmdBits x).getLsbD ch && mayTest x (ch / 16) && !pairIdle x ch then
      { x with fio := { x.fio with pulse := some ⟨ch, k % 3⟩, pat := sset zNat x.fio.pat ch (k % 3) } }
    else x))

/-- OFF_PULSE_END: the lane passes the pulse when its readback fell to 5 V or below; a high channel commanded off that fell with it is a cross-connection (17 R385, R390). -/
def execOffPulseEnd (l : Lane) (ch : Chan) (low : Bool) (fell : List Nat) (s : State) : Res :=
  .next (s.onLane l (fun x =>
    match x.fio.pulse with
    | none => x
    | some p =>
      if p.no == ch.val then
        let ys := fell.filter (fun y => y != ch.val && y < 96 && chMode x y == 3 && !(cmdBits x).getLsbD y && x.fio.rb.getLsbD y)
        let x := { x with fio := { x.fio with pulse := none,
                                              pfail := if low then x.fio.pfail else putBit x.fio.pfail ch true,
                                              crossF := x.fio.crossF ++ ys.map (fun y => (ch.val, y)) } }
        if low then finc x (Rg.FIO_CHi_CNT ch) 15 0 1 else finc x (Rg.FIO_CHi_CNT ch) 31 16 1
      else x))

/-- GSS_TEST_START: in every interval k that is a multiple of GSS_EVERY, with pattern (k / GSS_EVERY) mod 3 (17 R386). -/
def execGssTestStart (l : Lane) (g : Grp) (k : Nat) (s : State) : Res :=
  .next (s.onLane l (fun x =>
    let every := fget x Rg.FIO_GSS 11 0
    if every != 0 && k % every == 0 && mayTest x g && x.fio.gss.getLsbD g then
      { x with fio := { x.fio with gssPulse := some ⟨g, k / every % 3⟩ } }
    else x))

/-- GSS_TEST_END: the test passes when the rail behind the GSS fell to 5 V or below (17 R386). -/
def execGssTestEnd (l : Lane) (g : Grp) (low : Bool) (s : State) : Res :=
  .next (s.onLane l (fun x =>
    match x.fio.gssPulse with
    | none => x
    | some p =>
      if p.no == g.val then
        { x with fio := { x.fio with gssPulse := none, gssFail := if low then x.fio.gssFail else putBit x.fio.gssFail g true } }
      else x))

/-! Overcurrent, overload, SAFE_OK and clears (17 R388, R389, R393, R397; 10 R231, R233). -/

/-- OVERCURRENT_TRIP: a channel in current limit for OC_BLANK is switched off by the lane's driver, without waiting for a snapshot (17 R388). -/
def execOvercurrentTrip (l : Lane) (ch : Chan) (s : State) : Res :=
  .next (s.onLane l (fun x =>
    if chMode x ch == 3 && (cmdBits x).getLsbD ch then
      fioDrive { x with fio := { x.fio with oc := putBit x.fio.oc ch true, ocNew := putBit x.fio.ocNew ch true,
                                            retryAt := x.fio.retryAt.filter (fun e => e.1 != ch.val) } }
    else x))

/-- OVERCURRENT_RETRY: at the first snapshot 1 s after the one that reported the trip the channel is driven again from its command, but not after the fourth trip (17 R388). -/
def execOvercurrentRetry (l : Lane) (ch : Chan) (s : State) : Res :=
  .next (s.onLane l (fun x =>
    if (x.fio.oc.getLsbD ch || chStat x ch 2) && !chStat x ch 3 && !x.fio.ocNew.getLsbD ch then
      fioDrive { x with fio := { x.fio with oc := putBit x.fio.oc ch false,
                                            retryAt := (ch.val, tOf x x.exe.n) :: x.fio.retryAt.filter (fun e => e.1 != ch.val) } }
    else x))

/-- Trips counted of a channel. -/
def setTrips (l : LaneState) (i n : Nat) : LaneState :=
  fset { l with fio := { l.fio with trips := sset zNat l.fio.trips i n } } (Rg.FIO_CHi_DIAG i) 18 16 n

/-- TRIP_COUNT_RESET: 60 s without a trip (17 R388). A channel whose fourth trip is latched keeps its count. -/
def execTripCountReset (l : Lane) (ch : Chan) (s : State) : Res :=
  .next (s.onLane l (fun x => if chStat x ch 3 then x else setTrips x ch 0))

/-- GROUP_OVERLOAD: the GSS current has exceeded 4.4 A for 20 ms (17 R389). -/
def execGroupOverload (l : Lane) (g : Grp) (s : State) : Res :=
  .next (s.onLane l (fun x => { x with fio := { x.fio with ovl := putBit x.fio.ovl g true } }))

/-- SAFE_OK_DISAGREE: FIO_STATUS reports a contact whose monitoring contact has disagreed with its command for longer than 20 ms (17 R393). -/
def execSafeOkDisagree (l : Lane) (second : Bool) (s : State) : Res :=
  .next (s.onLane l (fun x => bset x Rg.FIO_STATUS (if second then 5 else 4) true))

/-- FIO_CLEAR: Ringmaster asks to clear one channel's latched bits at the next snapshot: OPERATOR level, MAINTAINER for a safety-assigned channel; never a safe channel in degraded mode (17 R397). -/
def execFioClear (l : Lane) (src : CmdSrc) (v : Word) (s : State) : Res :=
  .next (s.onLane l (fun x =>
    let i := getBits v 6 0
    guardWrite x .m Rg.FIO_CLEAR (fun x =>
      if i < 96 && (!safetyAssigned x i || isMaintainer src) && !(safeCh x i && chStat x i 6) then
        { x with fio := { x.fio with clear := x.fio.clear ++ [i] } }
      else x)))

/-- A request to clear degraded mode, or a group trip, takes effect at the next snapshot; it needs MAINTAINER level (10 R233). -/
def degClear (l : LaneState) (src : CmdSrc) (ch : Nat) (grp : Bool) : LaneState :=
  guardWrite l .m Rg.SAF_DEG_CLEAR (fun x =>
    if ch < 96 && isMaintainer src then { x with fio := { x.fio with degClear := x.fio.degClear ++ [(ch, grp)] } } else x)

/-- SAF_DEG_CLEAR: clears degraded mode of a safe channel (10 R233). -/
def execSafDegClear (l : Lane) (src : CmdSrc) (ch : Nat) (s : State) : Res :=
  .next (s.onLane l (fun x => degClear x src ch false))

/-- SAF_DEG_CLEAR_GROUP: clears a group trip of the channel's group (10 R233). -/
def execSafDegClearGroup (l : Lane) (src : CmdSrc) (ch : Nat) (s : State) : Res :=
  .next (s.onLane l (fun x => degClear x src ch true))

/-- DEG_TIME_EXPIRY: the timer of a degraded safe channel has run out, and its group trips at the snapshot (10 R230, R231 case 1). -/
def execDegTimeExpiry (l : Lane) (ch : Chan) (s : State) : Res :=
  .next (s.onLane l (fun x =>
    if x.fio.deg.any (fun d => d.1 == ch.val) && !x.fio.tripPend.contains (ch.val / 16) then
      { x with fio := { x.fio with tripPend := x.fio.tripPend ++ [ch.val / 16] } }
    else x))

/-! The snapshot and AGREE (17 R372, R373, R379, R385 to R391; 10 R230 to R233). -/

/-- The field bits a lane sends for a snapshot, and the lane with what they report now reported (02 R41; 17 R379). -/
def fieldBits (l : LaneState) : FieldBits × LaneState :=
  let f := l.fio
  let outs : BitVec 96 := (List.range 96).foldl (fun (c : BitVec 96) i => putBit c i (chMode l i == 3)) 0
  let ovl := (List.range 6).foldl (fun (b : BitVec 6) g => if fget l (Rg.FIO_GRPg_STAT g) 31 16 < 4000 then putBit b g false else b) f.ovl
  let sup := (List.range 6).foldl (fun (b : BitVec 6) g => putBit b g (supplyOk l g)) 0
  ({ value := (f.cls &&& ~~~outs) ||| (f.rb &&& outs), wbol := (f.wb &&& ~~~outs) ||| (f.ol &&& outs), ext := f.ext, oc := f.ocNew,
     cross := f.crossF, pfail := f.pfail, railHigh := f.railHigh, supplyOk := sup, overload := f.ovl, gssFail := f.gssFail,
     canBus := BitVec.ofNat 32 (((List.range 4).map (fun k => busByte l k * 256 ^ k)).foldl (· + ·) 0) },
   { l with fio := { f with ext := 0, ocNew := 0, crossF := [], pfail := 0, gssFail := 0, ovl := ovl } })

/-- Per-bit majority of three. -/
def maj3 {n : Nat} (a b c : BitVec n) : BitVec n := (a &&& b) ||| (a &&& c) ||| (b &&& c)

/-- The agreed field bits of the sets a lane closed on: the per-bit majority of three; of two, a bit on which they differ takes 0 (02 R43; 01 R24). -/
def agreedBits : List FieldBits → FieldBits
  | [a, b, c] =>
    { value := maj3 a.value b.value c.value, wbol := maj3 a.wbol b.wbol c.wbol, ext := maj3 a.ext b.ext c.ext,
      oc := maj3 a.oc b.oc c.oc,
      cross := (a.cross.filter (fun p => b.cross.contains p || c.cross.contains p)) ++ b.cross.filter (fun p => !a.cross.contains p && c.cross.contains p),
      pfail := maj3 a.pfail b.pfail c.pfail, railHigh := maj3 a.railHigh b.railHigh c.railHigh,
      supplyOk := maj3 a.supplyOk b.supplyOk c.supplyOk, overload := maj3 a.overload b.overload c.overload,
      gssFail := maj3 a.gssFail b.gssFail c.gssFail, canBus := maj3 a.canBus b.canBus c.canBus }
  | [a, b] =>
    { value := a.value &&& b.value, wbol := a.wbol &&& b.wbol, ext := a.ext &&& b.ext, oc := a.oc &&& b.oc,
      cross := a.cross.filter (fun p => b.cross.contains p), pfail := a.pfail &&& b.pfail, railHigh := a.railHigh &&& b.railHigh,
      supplyOk := a.supplyOk &&& b.supplyOk, overload := a.overload &&& b.overload, gssFail := a.gssFail &&& b.gssFail,
      canBus := a.canBus &&& b.canBus }
  | [a] => a
  | _ => {}

/-- The channels whose value bits are not all equal among the sets (17 R379). -/
def valueDiff : List FieldBits → BitVec 96
  | [] => 0
  | a :: bs => bs.foldl (fun d b => d ||| (a.value ^^^ b.value)) 0

/-- A new mode takes effect at the snapshot: the transistors are switched off first and the diagnostic status is cleared (17 R372). -/
def modeSwitch (l : LaneState) (i : Nat) : LaneState :=
  let m := chCfg l i 1 0
  if m = chMode l i then l
  else
    let f := l.fio
    let l := { l with fio := { f with mode := sset zNat f.mode i m, oc := putBit f.oc i false, ext := putBit f.ext i false,
                                      wb := putBit f.wb i false, ol := putBit f.ol i false, rb := putBit f.rb i false,
                                      cls := putBit f.cls i false, gap := sset zNat f.gap i 0, olRun := sset zNat f.olRun i 0,
                                      dis := sset zNat f.dis i 0, eq := sset zNat f.eq i 0, trips := sset zNat f.trips i 0,
                                      retryAt := f.retryAt.filter (fun e => e.1 != i), deg := f.deg.filter (fun e => e.1 != i),
                                      offCmd := f.offCmd.filter (· != i) } }
    rset (setCmdBits l (putBit (cmdBits l) i false)) (Rg.FIO_CHi_DIAG i) 0

/-- The cause of a channel's latched bits is reported at this snapshot (17 R397; 10 R233). -/
def causeNow (fb : FieldBits) (i : Nat) : Bool :=
  fb.ext.getLsbD i || fb.oc.getLsbD i || fb.pfail.getLsbD i || fb.cross.any (fun p => p.1 == i || p.2 == i)

/-- Clear a channel's latched bits: EXT_DRIVE, LATCHED, CROSS and PULSE_FAIL (17 Table FIO-2). -/
def clearLatched (l : LaneState) (i : Nat) : LaneState :=
  let a := Rg.FIO_CHi_DIAG i
  let l := if chStat l i 3 then setTrips { l with fio := { l.fio with oc := putBit l.fio.oc i false } } i 0 else l
  let l := bset (bset (bset (bset l a 1 false) a 3 false) a 4 false) a 5 false
  fset (fset l a 12 8 0) a 30 24 0

/-- Show in SAF_DEG_STAT which groups are tripped and which hold a degraded channel (10 Table SAF-8). -/
def showDeg (l : LaneState) : LaneState :=
  (List.range 6).foldl (fun l g =>
    bset (bset l Rg.SAF_DEG_STAT g (grpTripped l g)) Rg.SAF_DEG_STAT (8 + g) (l.fio.deg.any (fun d => d.1 / 16 == g))) l

/-- The clears pending at a snapshot, each refused while its cause is still reported (17 R397; 10 R233). A cleared group trip closes its GSS again. -/
def applyClears (fb : FieldBits) (l : LaneState) : LaneState :=
  let cs := l.fio.clear
  let ds := l.fio.degClear
  let l := { l with fio := { l.fio with clear := [], degClear := [] } }
  let l := cs.foldl (fun l i => if causeNow fb i || (safeCh l i && chStat l i 6) then l else clearLatched l i) l
  ds.foldl (fun l d =>
    let i := d.1
    let g := i / 16
    if causeNow fb i then l
    else if d.2 then
      if !grpTripped l g || fb.gssFail.getLsbD g then l
      else
        let l := bset l (Rg.FIO_GRPg_STAT g) 3 false
        let l := { l with fio := { l.fio with tripCase := l.fio.tripCase.filter (fun e => e.1 != g), gssOpen := l.fio.gssOpen.filter (· != g),
                                              gss := putBit l.fio.gss g (!isSafe l) } }
        bset l (Rg.FIO_GRPg_STAT g) 0 (!isSafe l)
    else if safeCh l i then
      let l := clearLatched l i
      bset { l with fio := { l.fio with deg := l.fio.deg.filter (fun e => e.1 != i), offCmd := l.fio.offCmd.filter (· != i) } }
        (Rg.FIO_CHi_DIAG i) 6 false
    else l) l

/-- DISAGREE of a channel: set after DIS_LIMIT consecutive snapshots with unequal value bits, cleared after as many with equal ones (17 R379). -/
def disagree (l : LaneState) (i : Nat) (diff : Bool) : LaneState × Bool :=
  let lim := fget l Rg.FIO_CFG 23 16
  let f := l.fio
  let was := chStat l i 7
  if diff then
    let d := min (sget zNat f.dis i + 1) 255
    ({ l with fio := { f with dis := sset zNat f.dis i d, eq := sset zNat f.eq i 0 } }, was || lim ≤ d)
  else
    let e := if was then min (sget zNat f.eq i + 1) 255 else 0
    ({ l with fio := { f with dis := sset zNat f.dis i 0, eq := sset zNat f.eq i e } }, was && e < lim)

/-- The events of the status bits that rise on a channel, in ascending bit (17 R391, Table FIO-7); `st` and `old` are status bytes, and a CROSS event is counted at the pulsed channel x. -/
def chEvents (fb : FieldBits) (rose : Nat → Bool) (crossNew : Nat → Bool) (i : Nat) (l : LaneState) : LaneState :=
  let ev (b code data : Nat) (l : LaneState) : LaneState := if rose b then raiseV l code data else l
  let l := ev 0 (if chMode l i == 3 then 0x0606 else 0x0601) i l
  let l := ev 3 0x0607 i (ev 2 0x0604 i (ev 1 0x0602 i l))
  let l := (fb.cross.filter (fun p => p.1 == i && (crossNew p.1 || crossNew p.2))).foldl (fun l p => raiseV l 0x0603 (p.1 + 256 * p.2)) l
  let l := ev 5 0x0608 (i + 256 * sget zNat l.fio.pat i) l
  ev 7 0x0605 i (ev 6 0x0609 i l)

/-- One channel at AGREE of cycle `n`: its agreed status byte, degraded mode, and the events of the bits that rise. `crossNew` names the channels on which CROSS was not set before this snapshot, `ovlG` the groups on which OVERLOAD rises. A tripped group reports no diagnostics but EXT_DRIVE. -/
def chanAgree (fb : FieldBits) (diff : BitVec 96) (crossNew : Nat → Bool) (ovlG : Nat → Bool) (n : Nat) (l : LaneState) (i : Nat) : LaneState :=
  if chMode l i = 0 then l
  else
    let a := Rg.FIO_CHi_DIAG i
    let old (b : Nat) : Bool := chStat l i b
    let trip := grpTripped l (i / 16)
    let out := chMode l i == 3
    let oc := !trip && out && fb.oc.getLsbD i
    let ovl := !trip && out && ovlG (i / 16) && (cmdBits l).getLsbD i
    let cr := !trip && fb.cross.any (fun p => p.1 == i || p.2 == i)
    let pf := !trip && out && fb.pfail.getLsbD i
    let ex := out && fb.ext.getLsbD i
    let trips := min (sget zNat l.fio.trips i + b2n oc + b2n ovl) 4
    let l := if oc || ovl then setTrips l i trips else l
    let l := if oc then { l with fio := { l.fio with oc := putBit l.fio.oc i true, retryAt := l.fio.retryAt.filter (fun e => e.1 != i) } } else l
    let over1 := match l.fio.retryAt.find? (fun e => e.1 == i) with
      | some e => decide (e.2 + ((chCfg l i 15 12 + 1) * 1000000 : Nat) ≤ tOf l n)
      | none => false
    let l := if over1 then { l with fio := { l.fio with retryAt := l.fio.retryAt.filter (fun e => e.1 != i) } } else l
    let d := disagree l i (diff.getLsbD i)
    let l := d.1
    let enter := safeCh l i && (ex || cr || pf) && !old 6
    let l := if enter then { l with fio := { l.fio with deg := l.fio.deg ++ [(i, n)] } } else l
    let l := if cr && safeCh l i && !l.fio.offCmd.contains i then { l with fio := { l.fio with offCmd := l.fio.offCmd ++ [i] } } else l
    let new (b : Nat) : Bool :=
      match b with
      | 0 => !trip && fb.wbol.getLsbD i
      | 1 => old 1 || ex
      | 2 => oc || (old 2 && !over1)
      | 3 => old 3 || trips == 4
      | 4 => old 4 || cr
      | 5 => old 5 || pf
      | 6 => old 6 || enter
      | _ => !trip && d.2
    let l := (List.range 8).foldl (fun l b => bset l a b (new b)) l
    let l := if pf then bset (fset l a 9 8 (sget zNat l.fio.pat i)) a (10 + sget zNat l.fio.pat i) true else l
    let l := match fb.cross.find? (fun p => p.1 == i || p.2 == i) with
      | some p => if cr then fset l a 30 24 (if p.1 == i then p.2 else p.1) else l
      | none => l
    let l := chEvents fb (fun b => new b && !old b) crossNew i l
    if pf && safeCh l i && grpStuck l (i / 16) then enterSafe l 10 else l

/-- The case of R231 that trips a group at this snapshot, the lowest that holds. `before` names the channels degraded before it. -/
def tripCaseOf (fb : FieldBits) (before : List Nat) (l : LaneState) (g : Nat) : Option Nat :=
  let mine := (l.fio.deg.map (·.1)).filter (fun i => i / 16 == g)
  if l.fio.tripPend.contains g then some 1
  else if mine.any (fun i => l.fio.turned.getLsbD i && fb.value.getLsbD i) then some 2
  else if 2 ≤ mine.length && mine.any (fun i => !before.contains i) then some 3
  else if fb.gssFail.getLsbD g then some 4
  else none

/-- One group at AGREE: TRIPPED, GSS_STUCK and OVERLOAD with their events, in ascending bit; a group already tripped reports no OVERLOAD (17 R391, R392; 10 R231, R232). -/
def grpAgree (fb : FieldBits) (before : List Nat) (l : LaneState) (g : Nat) : LaneState :=
  let a := Rg.FIO_GRPg_STAT g
  let was := grpTripped l g
  let l := match tripCaseOf fb before l g with
    | some c =>
      if grpTripped l g then l
      else
        let l := bset l a 3 true
        raiseV { l with fio := { l.fio with tripCase := l.fio.tripCase ++ [(g, c)], gssOpen := l.fio.gssOpen ++ [g] } } 0x060A (g + 256 * c)
    | none => l
  let l := if l.fio.railChk.contains g && fb.railHigh.getLsbD g && !grpStuck l g then
      raiseV (bset { l with fio := { l.fio with stuck := putBit l.fio.stuck g true } } a 4 true) 0x060B g
    else l
  let ov := fb.overload.getLsbD g && !was
  let l := if ov && !bget l a 5 then raiseV l 0x060C g else l
  bset l a 5 ov

/-- The 116 bytes of the field record (17 Table FIO-1). -/
def fieldRecord (fb : FieldBits) (l : LaneState) : Bytes :=
  let val := (List.range 96).foldl (fun (c : BitVec 96) i =>
    putBit c i (chMode l i != 0 && !grpTripped l (i / 16) && fb.value.getLsbD i)) 0
  let grp (g : Nat) : Byte := BitVec.ofNat 8 (b2n (l.fio.gss.getLsbD g || grpStuck l g) + 2 * b2n (grpTripped l g) + 4 * b2n (fb.supplyOk.getLsbD g)
    + 8 * b2n (grpStuck l g) + 16 * b2n (bget l (Rg.FIO_GRPg_STAT g) 5))
  leBytes 12 val.toNat ++ (List.range 6).map grp ++ leBytes 2 0 ++ (List.range 96).map (fun i => BitVec.ofNat 8 (fget l (Rg.FIO_CHi_DIAG i) 7 0))

/-- AGREE of cycle `n` for the field I/O: new modes, clears, the status of each channel and group, and the field record, written into a table of bytes (17 R373, R379). -/
def fioAgree (fb : FieldBits) (diff : BitVec 96) (n : Nat) (l : LaneState) (img : List (Nat × Byte)) : LaneState × List (Nat × Byte) :=
  let l := (List.range 96).foldl modeSwitch l
  let l := applyClears fb l
  let l0 := l
  let ovlG (g : Nat) : Bool := fb.overload.getLsbD g && !bget l0 (Rg.FIO_GRPg_STAT g) 5
  let l := (List.range 96).foldl (chanAgree fb diff (fun i => !chStat l0 i 4) ovlG n) l
  let l := (List.range 6).foldl (grpAgree fb (l0.fio.deg.map (·.1))) l
  let l := { l with fio := { l.fio with tripPend := [], railChk := [], turned := 0 } }
  let l := fioDrive (showDeg l)
  (l, sput img (inBase + fioIn l) (fieldRecord fb l))

/-- At COMMIT the GSS of each group that tripped in this cycle opens, and the next snapshot checks its rail (10 R231; 17 R392). -/
def fioCommit (l : LaneState) : LaneState :=
  let gs := l.fio.gssOpen
  let l := gs.foldl (fun l g => bset { l with fio := { l.fio with gss := putBit l.fio.gss g false } } (Rg.FIO_GRPg_STAT g) 0 false) l
  { l with fio := { l.fio with gssOpen := [], railChk := gs } }

/-- A safe output channel is in degraded mode (10 R230, Table SAF-3). -/
def anyDegraded (l : LaneState) : Bool := l.fio.deg != []

end Sys2Proof.Machine
end

