-- ==== Sys2Proof/Machine/Saf.lean ====
section
/-! DEFINITION. The safety layer (10 R234 to R253): telegrams, sending, the receiver, and the bearers. -/

namespace Sys2Proof.Machine

/-! Connections and telegrams. -/

/-- A field of SAF_CONNc_CFG (10 Table SAF-10). -/
def connCfg (l : LaneState) (c hi lo : Nat) : Nat := fget l (Rg.SAF_CONNc_CFG c) hi lo

/-- An enabled sending connection. -/
def sendsConn (l : LaneState) (c : Nat) : Bool := connCfg l c 0 0 == 1 && connCfg l c 1 1 == 0

/-- An enabled receiving connection. -/
def receivesConn (l : LaneState) (c : Nat) : Bool := connCfg l c 0 0 == 1 && connCfg l c 1 1 == 1

/-- LEN of a connection. -/
def connLen (l : LaneState) (c : Nat) : Nat := connCfg l c 26 16

/-- REF of a connection. -/
def connRef (l : LaneState) (c : Nat) : Nat := fget l (Rg.SAF_CONNc_ID c) 23 16

/-- A telegram without its check value, FLAGS 0 (10 Table SAF-2). -/
def telegramBody (src dst : Word) (conn : Nat) (seq : Word) (tn : DWord) (payload : Bytes) : Bytes :=
  leBytes 4 src.toNat ++ leBytes 4 dst.toNat ++ leBytes 2 conn ++ [0, 1] ++ leBytes 4 seq.toNat ++ leBytes 8 tn.toNat
    ++ leBytes 2 payload.length ++ leBytes 2 0 ++ payload

/-- FLAGS of a telegram, from the state at the COMMIT that offers it (10 Table SAF-3, R238). -/
def safFlags (l : LaneState) : Byte :=
  let withdrawn := allLanes.any (fun x => fget l (Rg.TRI_LANEL_STAT (laneNo x)) 2 0 == 4)
  BitVec.ofNat 8 (b2n (l.forces != []) + 2 * b2n ((voters l).length == 2 || anyDegraded l) + 4 * b2n withdrawn
    + 8 * b2n (bget l Rg.TRI_STATUS 10))

/-- The telegram as its COMMIT offers it: FLAGS set and SCV computed under the connection's KEY (10 R235, R238). -/
def safFinish (l : LaneState) (c : Nat) (body : Bytes) : Bytes :=
  let b := body.set 10 (safFlags l)
  b ++ leBytes 4 (crc32c (rget l (Rg.SAF_CONNc_KEY c)) b).toNat

/-- The SEQ after one, which skips 0 (10 R237). -/
def nextSeq (q : Word) : Word := if q + 1 = 0 then 1 else q + 1

/-- A write of SAF_SEND by the running instance (10 R236): the ninth for one connection queues nothing and sets E; a connection that is not an enabled sending connection, or not this task's, is a bus error. -/
def safSendStore (l : LaneState) (v : Word) : WrRes :=
  let c := getBits v 7 0
  match runInst l with
  | none => .bus
  | some i =>
    if !sendsConn l c || connCfg l c 31 28 != i.slot then .bus
    else if 8 ≤ (i.safCnt.filter (· == c)).length then .setE
    else
      let seq := nextSeq (sget (fun _ => (0 : Word)) l.saf.txSeq c)
      let pay := mrd l (fget l (Rg.SAF_CONNc_BUF c) 21 0) (connLen l c)
      let b := telegramBody (rget l Rg.SAF_SRC_ID) (rget l (Rg.SAF_CONNc_PEER c)) (fget l (Rg.SAF_CONNc_ID c) 15 0) seq l.c0.ctx.tn pay
      let l := queueItem l (0x100 + c) (.telegram c b)
      let l := updRun l (fun i => { i with safCnt := c :: i.safCnt })
      .ok { l with saf := { l.saf with txSeq := sset (fun _ => (0 : Word)) l.saf.txSeq c seq } }

/-! Bearers (10 R250 to R252). -/

/-- The smallest CAN FD data length code that holds a number of bytes (10 R252; ISO 11898-1). -/
def dlcFor (n : Nat) : Nat := ((List.range 16).find? (fun d => n ≤ dlcBytes true d)).getD 15

/-- A telegram in the slot buffer of its backbone connection: it takes its place in the buffer's next area (10 R250). -/
def putTelegram (l : LaneState) (c : Nat) (t : Bytes) : LaneState :=
  mwr l (fget l (Rg.CAR_BUFb_ADDR (connRef l c)) 21 0 + 8 * fget l (Rg.SAF_CONNc_ID c) 31 24) t

/-- The IPv4 and UDP headers of a consist telegram, checksums aside: destination address and ports of R251, UDP checksum 0; the addresses in network order. -/
def udpHeaders (l : LaneState) (dst : Word) (n : Nat) : Bytes :=
  let be (k v : Nat) : Bytes := (leBytes k v).reverse
  let port := fget l Rg.SAF_UDP_PORT 15 0
  let ip := [0x45, 0x00] ++ be 2 (28 + n) ++ be 2 0 ++ be 2 0 ++ [0x40, 0x11]
  let tail := be 4 (rget l Rg.ECN_VITAL_IP).toNat ++ be 4 dst.toNat
  let rec sum (b : Bytes) : Nat :=
    match b with
    | x :: y :: r => x.toNat * 256 + y.toNat + sum r
    | _ => 0
  let t := sum (ip ++ tail)
  let t := t % 65536 + t / 65536
  let t := t % 65536 + t / 65536
  ip ++ be 2 (65535 - t) ++ tail ++ be 2 port ++ be 2 port ++ be 2 (8 + n) ++ be 2 0

/-- A released telegram leaves by its bearer: an item of its slot buffer, a datagram on the vital VLAN, or a CAN FD frame in its mailbox (10 R250 to R252). The identifier of that frame is not given (log 23). -/
def safRelease (l : LaneState) (c : Nat) (t : Bytes) (seq : Word) : LaneState :=
  let l := fset l (Rg.SAF_CONNc_STAT c) 31 16 (fget l (Rg.SAF_CONNc_STAT c) 31 16 + 1)
  match connCfg l c 3 2 with
  | 0 => putTelegram l c t
  | 1 =>
    match l.cfg.consist[connRef l c]? with
    | some e => sendVital l e.1 (fget l Rg.SAF_UDP_PORT 15 0) (udpHeaders l e.1 t.length ++ t)
    | none => l
  | 2 =>
    let k := connRef l c % 4
    let id := Config.safCanId k c
    let d := dlcFor t.length
    canLoad l k (connRef l c / 4 % 32)
      { id := (id &&& 0x3FFFFFFF#32) ||| 0x80000000#32, dlc := d, brs := id.getLsbD 30, data := padTo (dlcBytes true d) t } seq
  | _ => l

/-! The receiver (10 R240 to R247). -/

/-- A receiving connection; one not listed stands as at start-up. -/
def rxOf (l : LaneState) (c : Nat) : SafRx := sget (fun _ => ({} : SafRx)) l.saf.rx c

/-- Replace a receiving connection. -/
def setRx (l : LaneState) (c : Nat) (r : SafRx) : LaneState :=
  { l with saf := { l.saf with rx := sset (fun _ => ({} : SafRx)) l.saf.rx c r } }

/-- The first cause of Table SAF-5 that rejects a telegram at time `t`, 0 for none. `seqToo` is false for a resynchronisation. -/
def safCheck (l : LaneState) (c : Nat) (t : Int) (seqToo : Bool) (b : Bytes) : Nat :=
  let n := connLen l c
  let age := t - (let v := imgField b 0x10 8; if v < 2 ^ 63 then (v : Int) else (v : Int) - 2 ^ 64)
  let maxAge := fget l (Rg.SAF_CONNc_TIME c) 15 0 * 1000000
  let d := (BitVec.ofNat 32 (imgField b 0x0C 4) - (rxOf l c).lastSeq.getD 0).toNat
  if b.length < 32 + n || imgField b 0x18 2 != n then 1
  else if imgField b (0x1C + n) 4 != (crc32c (rget l (Rg.SAF_CONNc_KEY c)) (b.take (0x1C + n))).toNat then 2
  else if imgField b 0 4 != (rget l (Rg.SAF_CONNc_PEER c)).toNat || imgField b 4 4 != (rget l Rg.SAF_SRC_ID).toNat
      || imgField b 8 2 != fget l (Rg.SAF_CONNc_ID c) 15 0 then 3
  else if imgField b 0x0B 1 != 1 || 16 ≤ imgField b 0x0A 1 || imgField b 0x1A 2 != 0 then 4
  else if imgField b 0x0A 1 / 8 % 2 = 1 then 5
  else if imgField b 0x0A 1 % 2 = 1 && connCfg l c 8 8 = 1 then 6
  else if seqToo && !(1 ≤ d && d ≤ 65535) then 7
  else if age < -50000 || (maxAge : Int) < age then 8
  else 0

/-- The configured substitute: hold last, the fixed value of the configuration, or zero (10 R247). -/
def substitute (l : LaneState) (c : Nat) (last : Bytes) : Bytes :=
  match connCfg l c 5 4 with
  | 0 => last
  | 1 => ((l.cfg.safFixed.find? (fun e => e.1 == c)).map (·.2)).getD []
  | _ => []

/-- A connection enters substitution with a reason: EV_SAF_TIMEOUT (10 R245, R247). -/
def enterSubst (l : LaneState) (c reason : Nat) : LaneState :=
  let r := rxOf l c
  let l := setRx l c { r with subst := true, resync := false, payload := substitute l c r.payload }
  raiseV (finc l (Rg.SAF_CONNc_REJ c) 31 16 1) 0x0702 (c + 256 * reason)

/-- One telegram of a receiving connection at the snapshot of time `t` (10 R241 to R247). -/
def safTake (t : Int) (l : LaneState) (c : Nat) (data : Bytes) : LaneState :=
  let r := rxOf l c
  let b := data.take (32 + connLen l c)
  let st := Rg.SAF_CONNc_STAT c
  if r.lastBytes != [] && b == r.lastBytes then l
  else
    match safCheck l c t (!r.subst || r.resync) b with
    | 0 =>
      let l := fset (fset l st 15 8 0) st 31 16 (fget l st 31 16 + 1)
      let r := { r with lastSeq := some (BitVec.ofNat 32 (imgField b 0x0C 4)), lastAccept := some t, lastBytes := b }
      if r.subst && !r.resync then setRx l c { r with resync := true }
      else
        let v := imgField b 0x10 8
        setRx l c { r with subst := false, resync := false, payload := (b.drop 0x1C).take (connLen l c),
                           delivered := some (if v < 2 ^ 63 then (v : Int) else (v : Int) - 2 ^ 64) }
    | cause =>
      let l := fset (finc l st 11 8 1) st 15 12 cause
      let l := raiseV (finc l (Rg.SAF_CONNc_REJ c) 15 0 1) 0x0701 (c + 256 * cause)
      if cause = 5 && !r.subst then enterSubst l c 2 else l

/-- After the telegrams of a snapshot: the watchdog, then the reject limit (10 R245). -/
def safWatch (t : Int) (l : LaneState) (c : Nat) : LaneState :=
  let r := rxOf l c
  if r.subst then l
  else
    let wd := match r.lastAccept with
      | some a => decide (((fget l (Rg.SAF_CONNc_TIME c) 31 16 * 1000000 : Nat) : Int) < t - a)
      | none => false
    if wd then enterSubst l c 0
    else if connCfg l c 15 12 ≤ fget l (Rg.SAF_CONNc_STAT c) 11 8 then enterSubst l c 1
    else l

/-- The receive record of a connection at time `t` (10 Table SAF-6). -/
def safRecord (l : LaneState) (c : Nat) (t : Int) : Bytes :=
  let r := rxOf l c
  let st := Rg.SAF_CONNc_STAT c
  let fl := (r.lastBytes.getD 0x0A 0).toNat % 8
  let age := match r.delivered with
    | none => 0xFFFFFFFF
    | some d => if t < d then 0 else min ((t - d) / 1000).toNat 0xFFFFFFFF
  [BitVec.ofNat 8 (b2n (!r.subst) + 2 * fl + 16 * b2n r.subst), BitVec.ofNat 8 (fget l st 15 12), BitVec.ofNat 8 (fget l st 11 8), 0]
    ++ leBytes 4 age ++ padTo (connLen l c) r.payload

/-- A telegram on its way to a connection: agreed stamp, port order, content CRC, connection, bytes (10 R240). -/
structure SafArr where
  stamp : Int
  port : Nat
  crc : Nat
  conn : Nat
  data : Bytes

/-- The receiving connections of a lane. -/
def rxConns (l : LaneState) : List Nat := (List.range 256).filter (receivesConn l)

/-- The connections that take a telegram by its CONN_ID on the consist network, or on a CAN controller. -/
def connsById (l : LaneState) (bearer : Nat) (k : Option Nat) (b : Bytes) : List Nat :=
  if b.length < 10 then []
  else (rxConns l).filter (fun c => connCfg l c 3 2 == bearer && fget l (Rg.SAF_CONNc_ID c) 15 0 == imgField b 8 2 &&
    (match k with | some k => connRef l c % 4 == k | none => true))

/-- The telegrams an agreed item carries, and how many count as UNKNOWN. CAN FD frames of a controller with a receiving connection are telegrams (10 R240, R250 to R252; log 25). -/
def safArrivals (l : LaneState) (i : MsgItem) : List SafArr × Nat :=
  let crc (b : Bytes) : Nat := (crc64 b).toNat
  match i.body with
  | .carRx b _ _ _ _ p =>
    (((rxConns l).filter (fun c => connCfg l c 3 2 == 0 && connRef l c == b)).map (fun c =>
      let off := fget l (Rg.SAF_CONNc_ID c) 31 24
      let d := p.drop (8 * off)
      ⟨i.stamp, 256 * b + off, crc d, c, d⟩), 0)
  | .consistTel b =>
    match connsById l 1 none b with
    | [] => ([], 1)
    | cs => (cs.map (fun c => ⟨i.stamp, 65536, crc b, c, b⟩), 0)
  | .canRx k _ _ f =>
    if f.id.getLsbD 31 && (rxConns l).any (fun c => connCfg l c 3 2 == 2 && connRef l c % 4 == k.val) then
      match connsById l 2 (some k) f.data with
      | [] => ([], 1)
      | cs => (cs.map (fun c => ⟨i.stamp, 65537 + k, crc f.data, c, f.data⟩), 0)
    else ([], 0)
  | _ => ([], 0)

/-- Whether one telegram is taken before another (10 R240). -/
def arrBefore (a b : SafArr) : Bool :=
  a.stamp < b.stamp || (a.stamp == b.stamp && (a.port < b.port || (a.port == b.port && a.crc < b.crc)))

/-- Insert a telegram after those that are not later. -/
def insertArr (a : SafArr) : List SafArr → List SafArr
  | [] => [a]
  | b :: r => if arrBefore a b then a :: b :: r else b :: insertArr a r

/-- AGREE of cycle `n` for the safety layer: telegrams in order, then the watchdogs, then the receive records, written into a table of bytes (10 R240). -/
def safAgree (n : Nat) (items : List MsgItem) (l : LaneState) (img : List (Nat × Byte)) : LaneState × List (Nat × Byte) :=
  let t := tOf l n
  let arr := items.map (safArrivals l)
  let order := (arr.flatMap (·.1)).foldl (fun o a => insertArr a o) []
  let unk := (arr.map (·.2)).foldl (· + ·) 0
  let l := finc l Rg.SAF_STATUS 31 16 unk
  let l := order.foldl (fun l a => safTake t l a.conn a.data) l
  let l := (rxConns l).foldl (safWatch t) l
  let l := (rxConns l).foldl (fun l c =>
    bset (bset l (Rg.SAF_CONNc_STAT c) 0 (!(rxOf l c).subst)) (Rg.SAF_CONNc_STAT c) 1 (rxOf l c).subst) l
  let l := fset l Rg.SAF_STATUS 8 0 ((rxConns l).filter (fun c => (rxOf l c).subst)).length
  (l, (rxConns l).foldl (fun img c => sput img (inBase + fget l (Rg.SAF_CONNc_BUF c) 15 0) (safRecord l c t)) img)

/-- The safety layer at start-up and at a wake that counts as start-up: SEQ starts at 1, and receiving connections start in substitution with the configured substitute (10 R237, R247). -/
def safStart (l : LaneState) : LaneState :=
  let l := { l with saf := {} }
  (rxConns l).foldl (fun l c =>
    let l := setRx l c { payload := substitute l c [] }
    rset l (Rg.SAF_CONNc_STAT c) 2) l

end Sys2Proof.Machine
end

