-- ==== Sys2Proof/Machine/Bridge.lean ====
section
/-! DEFINITION. The backplane bridge (18): regions, cutting, completions, the posted-write log, inbound traffic and configuration accesses. -/

namespace Sys2Proof.Machine

/-! Regions and links (18 R399 to R405). -/

/-- First lane address of the outbound window. -/
abbrev winBase : Nat := 0x4000000000
/-- Bytes of a region. -/
abbrev regionLen : Nat := 0x10000000

/-- The region of a lane address in the outbound window. -/
def regionOf (a : Nat) : Option Nat :=
  if winBase ≤ a && a < winBase + 16 * regionLen then some ((a - winBase) / regionLen) else none

/-- A field of BRG_REGr_CFG (18 Table BRG-1). -/
def regAttr (l : LaneState) (r hi lo : Nat) : Nat := fget l (Rg.BRG_REGr_CFG r) hi lo

/-- The PCIe address of a lane address in region `r`. -/
def pcieAddr (l : LaneState) (r a : Nat) : Nat :=
  (rget64 l (Rg.BRG_REGr_XLAT_LO r) (Rg.BRG_REGr_XLAT_HI r)).toNat / regionLen * regionLen + a % regionLen

/-- The link of a region (18 Table BRG-1): link 0 in x4 operation. -/
def linkOf (l : LaneState) (r : Nat) : Nat := if bget l Rg.BRG_CFG 1 then regAttr l r 11 10 else 0

/-- A link is up and its peripherals are configured (18 R400). -/
def linkReady (l : LaneState) (p : Nat) : Bool := fget l (Rg.BRG_LINKp_STAT p) 1 0 == 3

/-- The negotiated maximum payload of a link. -/
def mpsOf (l : LaneState) (p : Nat) : Nat := if fget l (Rg.BRG_LINKp_STAT p) 9 8 = 1 then 256 else 128

/-- The pieces of a range cut at multiples of `step` of the PCIe address, in ascending order: address and length (18 R405). `fuel` bounds their number. -/
def cutRange : Nat → Nat → Nat → Nat → List (Nat × Nat)
  | 0, _, _, _ => []
  | fuel + 1, step, a, n =>
    if n = 0 then []
    else
      let k := min n (step - a % step)
      (a, k) :: cutRange fuel step (a + k) (n - k)

/-- The lane holds a completion for a region and sequence number. -/
def holdCpl (l : LaneState) (c : BrgCpl) : LaneState :=
  if l.brg.held.any (fun h => h.region == c.region && h.seq == c.seq) then l
  else { l with brg := { l.brg with held := l.brg.held ++ [c] } }

/-- The owner delivers a completion to its own instance and sends it to the other lanes; one of an auxiliary region is its auxiliary core's alone (09 R217; 18 R416). -/
def ownCpl (l : LaneState) (c : BrgCpl) : LaneState :=
  let l := { l with brg := { l.brg with opens := l.brg.opens.filter (fun o => !(o.1 == c.region && o.2.1 == c.seq)) } }
  if regAttr l c.region 2 1 = 2 then holdCpl l c else emit (holdCpl l c) (.cpl c)

/-- A posted-write failure: a log entry while the log has room, the event, and an agreed item (18 R409). -/
def postedFail (l : LaneState) (region addr cause : Nat) : LaneState :=
  let l := if l.brg.pwlog.length < 64 then
      { l with brg := { l.brg with pwlog := l.brg.pwlog ++ [⟨addr, region, cause, l.exe.n % 65536⟩] } }
    else finc l Rg.BRG_PWLOG_LOST 31 0 1
  arrive (event l 0x0801 (region + 256 * cause) addr) (.brgFail region)

/-! Released accesses (18 R402 to R406, R410; 09 R217). `own` says that this lane drives the backplane port. -/

/-- Send the TLPs of a write. -/
def sendWrite (l : LaneState) (link a : Nat) (d : Bytes) : LaneState :=
  (cutRange 512 (mpsOf l link) a d.length).foldl (fun l p => emit l (.pcieWrite link p.1 ((d.drop (p.1 - a)).take p.2))) l

/-- Discard a region's prefetch buffer (18 R406). -/
def dropPrefetch (l : LaneState) (r : Nat) : LaneState :=
  { l with brg := { l.brg with prefetch := l.brg.prefetch.filter (fun e => e.1 != r) } }

/-- The pieces of an access that crosses regions: region, lane address and length (18 R405). -/
def regionCut (a n : Nat) : List (Nat × Nat × Nat) := (cutRange 3 regionLen a n).map (fun p => ((regionOf p.1).getD 0, p.1, p.2))

/-- Send the TLPs of one piece of a write. -/
def sendPiece (l : LaneState) (a : Nat) (d : Bytes) (q : Nat × Nat × Nat) : LaneState :=
  sendWrite l (linkOf l q.1) (pcieAddr l q.1 q.2.1) ((d.drop (q.2.1 - a)).take q.2.2)

/-- A released write. In a CONFIRMED region a read-back fence follows it; on a link that is not ready a posted write is logged, and a confirmed one fails (18 R400, R402, R405, R410). -/
def brgWrite (l : LaneState) (own : Bool) (r a : Nat) (seq : Word) (d : Bytes) : LaneState :=
  let qs := regionCut a d.length
  let l := qs.foldl (fun l q => dropPrefetch l q.1) l
  if regAttr l r 9 9 == 1 then
    if qs.all (fun q => linkReady l (linkOf l q.1)) then
      let l := if own then qs.foldl (fun l q => sendPiece l a d q) l else l
      let l := { l with brg := { l.brg with opens := l.brg.opens ++ [(r, seq, pcieAddr l r a, d.length)] } }
      let e := a + d.length - 1
      let re := (regionOf e).getD r
      if own then emit l (.pcieRead (linkOf l re) (pcieAddr l re e) 0) else l
    else if own then ownCpl l ⟨r, seq, false, []⟩ else l
  else
    qs.foldl (fun l q =>
      if linkReady l (linkOf l q.1) then
        let l := if own then sendPiece l a d q else l
        { l with brg := { l.brg with posted := l.brg.posted ++ [(q.1, linkOf l q.1, pcieAddr l q.1 q.2.1, q.2.2)] } }
      else postedFail l q.1 (pcieAddr l q.1 q.2.1) 1) l

/-- How far a read in a PREFETCH region is extended: 256 bytes at most, up to the next 4 KiB boundary and the region's end (18 R406). -/
def prefetchExt (l : LaneState) (r a n : Nat) : Nat :=
  if regAttr l r 8 8 = 1 then
    let e := pcieAddr l r a + n
    min 256 (min (if e % 4096 = 0 then 0 else 4096 - e % 4096) (regionLen - (a % regionLen + n)))
  else 0

/-- Request one piece of a read. -/
def askPiece (l : LaneState) (q : Nat × Nat × Nat) : LaneState :=
  (cutRange 512 4096 (pcieAddr l q.1 q.2.1) q.2.2).foldl (fun l p => emit l (.pcieRead (linkOf l q.1) p.1 p.2)) l

/-- A released read: the owner performs it once, from the prefetch buffer when that holds all of it (18 R405, R406; 09 R217). -/
def brgRead (l : LaneState) (own : Bool) (r a : Nat) (seq : Word) (n : Nat) : LaneState :=
  let qs := regionCut a n
  if !own then { l with brg := { l.brg with opens := l.brg.opens ++ [(r, seq, a, n)] } }
  else
    match l.brg.prefetch.find? (fun e => e.1 == r && e.2.1 ≤ a && a + n ≤ e.2.1 + e.2.2.length) with
    | some e => ownCpl l ⟨r, seq, true, (e.2.2.drop (a - e.2.1)).take n⟩
    | none =>
      if qs.all (fun q => linkReady l (linkOf l q.1)) then
        let l := { l with brg := { l.brg with opens := l.brg.opens ++ [(r, seq, a, n)] } }
        if qs.length = 1 then askPiece l (r, a, n + prefetchExt l r a n) else qs.foldl askPiece l
      else ownCpl l ⟨r, seq, false, []⟩

/-- BACKPLANE_READ_COMPLETION: the owner receives a completion for an access it has open; what a PREFETCH read brought beyond its end goes to the prefetch buffer, and a confirmed write fails with a failure attributed to it (18 R406, R408, R410; 09 R217). -/
def execBackplaneReadCompletion (l : Lane) (c : BrgCpl) (s : State) : Res :=
  let own := s.sends l 7
  .next (s.onLane l (fun x =>
    match x.brg.opens.find? (fun o => o.1 == c.region && o.2.1 == c.seq) with
    | none => x
    | some o =>
      if !own then x
      else
        let n := o.2.2.2
        let bad := x.brg.failed.contains (c.region, c.seq)
        let x := { x with brg := { x.brg with failed := x.brg.failed.filter (· != (c.region, c.seq)) } }
        let x := if c.ok && regAttr x c.region 8 8 == 1 && n < c.data.length then
            let x := dropPrefetch x c.region
            { x with brg := { x.brg with prefetch := (c.region, o.2.2.1 + n, (c.data.drop n).take 256) :: x.brg.prefetch } }
          else x
        ownCpl x { c with ok := c.ok && !bad, data := c.data.take n }))

/-- BACKPLANE_COMPLETION_DELIVERY: the owner's completion reaches another lane, which holds it for its instance (09 R217). -/
def execBackplaneCompletionDelivery (l : Lane) (c : BrgCpl) (s : State) : Res :=
  .next (s.onLane l (fun x =>
    holdCpl { x with brg := { x.brg with opens := x.brg.opens.filter (fun o => !(o.1 == c.region && o.2.1 == c.seq)) } } c))

/-- COMPLETION_TIMEOUT: the owner's oldest open read has not completed within CPL_TO; it ends in an error and is not retried (18 R408). -/
def execCompletionTimeout (l : Lane) (s : State) : Res :=
  let own := s.sends l 7
  .next (s.onLane l (fun x =>
    match x.brg.opens with
    | [] => x
    | o :: _ =>
      if own then event (finc (ownCpl x ⟨o.1, o.2.1, false, []⟩) Rg.BRG_CPL_TO_CNT 31 0 1) 0x0802 o.1 else x))

/-! Errors and links (18 R400, R408, R409). -/

/-- Show in BRG_STATUS which links are up and READY. -/
def showLinks (l : LaneState) : LaneState :=
  (List.range 4).foldl (fun l p => bset (bset l Rg.BRG_STATUS (4 + p) (bget l (Rg.BRG_LINKp_STAT p) 0)) Rg.BRG_STATUS (8 + p) (bget l (Rg.BRG_LINKp_STAT p) 1)) l

/-- Whether a write of `n` bytes at PCIe address `pa` holds an address. -/
def coversAddr (pa n a : Nat) : Bool := pa ≤ a && a < pa + max n 1

/-- PCIE_ERROR_MESSAGE: a peripheral's ERR_NONFATAL or ERR_FATAL whose header log names a write's address. Every lane sees it (18 R409, R410). -/
def execPcieErrorMessage (l : Lane) (addr : DWord) (fatal : Bool) (s : State) : Res :=
  .next (s.onLane l (fun x =>
    match x.brg.posted.find? (fun w => coversAddr w.2.2.1 w.2.2.2 addr.toNat) with
    | some w => postedFail { x with brg := { x.brg with posted := x.brg.posted.filter (· != w) } } w.1 addr.toNat (if fatal then 3 else 2)
    | none =>
      match x.brg.opens.find? (fun o => regAttr x o.1 9 9 == 1 && coversAddr o.2.2.1 o.2.2.2 addr.toNat) with
      | some o => { x with brg := { x.brg with failed := (o.1, o.2.1) :: x.brg.failed } }
      | none => x))

/-- PCIE_LINK_DOWN: the link clears READY and retrains by itself; its open reads end in errors, and a posted write that the data link layer had not acknowledged fails. No command shows that acknowledgement, so which writes still waited for it is a free choice (18 R400, R408, R409; log 4, log 26). -/
def execPcieLinkDown (l : Lane) (p : Nat) (s : State) : Res :=
  let own := s.sends l 7
  let k := s.freeCtr
  let n := (s.lane l).brg.posted.length
  let s : State := { s with freeCtr := k + n }
  .next (s.onLane l (fun x =>
    if p < 4 then
      let a := Rg.BRG_LINKp_STAT p
      let x := finc (fset x a 1 0 0) a 23 16 1
      let mine := x.brg.opens.filter (fun o => linkOf x o.1 == p)
      let x := if own then mine.foldl (fun x o => ownCpl x ⟨o.1, o.2.1, false, []⟩) x else x
      let lost := (x.brg.posted.zipIdx).filter (fun e => e.1.2.1 == p && Config.freeBool (k + e.2))
      let x := { x with brg := { x.brg with posted := x.brg.posted.filter (fun w => w.2.1 != p) } }
      showLinks (lost.foldl (fun x e => postedFail x e.1.1 e.1.2.2.1 1) x)
    else x))

/-- PCIE_LINK_READY: the link has trained, and Ringmaster has written the stored configuration to its peripherals again (18 R399, R400). -/
def execPcieLinkReady (l : Lane) (p : Nat) (s : State) : Res :=
  let own := s.sends l 7
  .next (s.onLane l (fun x =>
    if p < 4 && bget x Rg.BRG_CFG 0 && (p = 0 || bget x Rg.BRG_CFG 1) then
      let a := Rg.BRG_LINKp_STAT p
      let x := fset (fset (fset (fset x a 1 0 3) a 3 2 (Config.linkRate p + 1)) a 6 4 (if bget x Rg.BRG_CFG 1 then 1 else 4))
        a 9 8 (b2n (Config.linkMps256 p))
      let x := if own then x.brg.cfgs.foldl (fun x e => emit x (.pcieCfg (BitVec.ofNat 32 e.1) e.2)) x else x
      showLinks x
    else x))

/-! Inbound traffic (18 R411 to R415). -/

/-- PCIe base of the staging windows. -/
def inbBase (l : LaneState) : Nat := (rget64 l Rg.BRG_INB_BASE_LO Rg.BRG_INB_BASE_HI).toNat

/-- TLPs of a staging window that wait in its landing buffer. -/
def landed (l : LaneState) (w : Nat) : Nat :=
  (l.agree.inbox.filter (fun i => match i.body with | .tlp v _ _ => v == w | _ => false)).length

/-- INBOUND_POSTED_WRITE: a write to an enabled window lands as a message item, unless the landing buffer is full and the credit withheld; any other write is discarded and counted (18 R412, R414). -/
def execInboundPostedWrite (l : Lane) (addr : DWord) (d : Bytes) (s : State) : Res :=
  .next (s.onLane l (fun x =>
    let o := addr.toNat - inbBase x
    let w := o / 0x100000
    if x.pwr.gated.contains 4 then x
    else if inbBase x ≤ addr.toNat && w < 8 && bget x Rg.BRG_INB_EN w then
      if landed x w < 1024 then arrive x (.tlp w (o % 0x100000) d) else x
    else finc x Rg.BRG_UR_CNT 31 16 1))

/-- INBOUND_MIRROR_READ: the owner serves a read of the output mirror from the last released image; a read anywhere else gets Unsupported Request (18 R414). -/
def execInboundMirrorRead (l : Lane) (addr : DWord) (len : Nat) (s : State) : Res :=
  let own := s.sends l 7 && !(s.lane l).pwr.gated.contains 4
  .next (s.onLane l (fun x =>
    let b := inbBase x + 0x800000
    let a := addr.toNat
    if bget x Rg.BRG_INB_EN 8 && b ≤ a && a + len ≤ b + 0x10000 then
      if own then
        let d := (List.range len).map (fun i => if a - b + i < outLen then sget zByte x.exe.outApplied (a - b + i) else 0)
        emit x (.mirror a d)
      else x
    else
      let x := finc x Rg.BRG_UR_CNT 15 0 1
      if own then emit x .unsupported else x))

/-- INBOUND_UNSUPPORTED: a locked, I/O or out-of-range request gets Unsupported Request and is counted; a write is discarded and counted (18 R411, R412, R414). -/
def execInboundUnsupported (l : Lane) (isWrite : Bool) (s : State) : Res :=
  let own := s.sends l 7
  .next (s.onLane l (fun x =>
    if isWrite then finc x Rg.BRG_UR_CNT 31 16 1
    else
      let x := finc x Rg.BRG_UR_CNT 15 0 1
      if own then emit x .unsupported else x))

/-- The agreed backplane items of a snapshot, in ascending agreed stamp: inbound writes become visible in their windows, and failures raise the count of their region (18 R409, R412). -/
def brgAgree (items : List MsgItem) (l : LaneState) : LaneState :=
  items.foldl (fun l i =>
    match i.body with
    | .tlp w off b => mwr l (0x0108000000 + w * 0x100000 + off) b
    | .brgFail r => { l with brg := { l.brg with fails := sset zNat l.brg.fails r ((sget zNat l.brg.fails r + 1) % 65536) } }
    | _ => l) l

/-- The bridge record, written into a table of bytes (18 R409). -/
def brgRecord (l : LaneState) (img : List (Nat × Byte)) : List (Nat × Byte) :=
  if bget l Rg.BRG_REC 16 then
    sput img (inBase + fget l Rg.BRG_REC 15 0)
      ((List.range 16).flatMap (fun r => leBytes 4 (sget zNat l.brg.fails r + 65536 * b2n (linkReady l (linkOf l r)))))
  else img

/-! Configuration accesses and the log (18 R400, R417). -/

/-- CFGACC_READ: a read of BRG_CFGACC_DATA performs a configuration read; what a peripheral answers is a free value (18 R400; log 4). A link that is down answers Unsupported Request. -/
def execCfgaccRead (l : Lane) (ag : Agent) (s : State) : Res :=
  let v := Config.free32 s.freeCtr
  .next (s.tick4.onLane l (fun x =>
    guardRead x ag Rg.BRG_CFGACC_DATA v (fun x =>
      fset (rset x Rg.BRG_CFGACC_DATA v) Rg.BRG_CFGACC_STAT 2 0 (if fget x Rg.BRG_STATUS 7 4 = 0 then 2 else 0))))

/-- A configuration write (18 R400); Ringmaster keeps what it wrote to restore a link. -/
def cfgaccWrite (l : LaneState) (own : Bool) (v : Word) : LaneState :=
  let a := rget l Rg.BRG_CFGACC_ADDR
  let l := { rset l Rg.BRG_CFGACC_DATA v with brg := { l.brg with cfgs := (l.brg.cfgs.filter (fun e => e.1 != a.toNat)) ++ [(a.toNat, v)] } }
  let l := fset l Rg.BRG_CFGACC_STAT 2 0 (if fget l Rg.BRG_STATUS 7 4 = 0 then 2 else 0)
  if own then emit l (.pcieCfg a v) else l

/-- CFGACC_WRITE: a write of BRG_CFGACC_DATA performs a configuration write (18 R400). -/
def execCfgaccWrite (l : Lane) (ag : Agent) (v : Word) (s : State) : Res :=
  let own := s.sends l 7
  .next (s.onLane l (fun x => guardWrite x ag Rg.BRG_CFGACC_DATA (fun x => cfgaccWrite x own v)))

/-- What the log registers show of the entry BRG_PWLOG_IDX names (18 Table BRG-5). -/
def pwlogWord (l : LaneState) (a : Nat) : Word :=
  match l.brg.pwlog[fget l Rg.BRG_PWLOG_IDX 5 0]? with
  | none => 0
  | some e =>
    if a = Rg.BRG_PWLOG_ADDR_LO then BitVec.ofNat 32 e.addr
    else if a = Rg.BRG_PWLOG_ADDR_HI then BitVec.ofNat 32 (e.addr / 2 ^ 32)
    else BitVec.ofNat 32 (e.region + 16 * e.cause + 128 + 65536 * e.cycle)

/-- BRG_PWLOG_INFO_READ: the read advances the index, wrapping at 64 (18 Table BRG-5). -/
def execBrgPwlogInfoRead (l : Lane) (ag : Agent) (s : State) : Res :=
  .next (s.onLane l (fun x =>
    guardRead x ag Rg.BRG_PWLOG_INFO (pwlogWord x Rg.BRG_PWLOG_INFO) (fun x =>
      fset x Rg.BRG_PWLOG_IDX 5 0 ((fget x Rg.BRG_PWLOG_IDX 5 0 + 1) % 64))))

/-- BRG_PWLOG_CLR: any write empties the log (18 Table BRG-5). -/
def execBrgPwlogClr (l : Lane) (ag : Agent) (s : State) : Res :=
  .next (s.onLane l (fun x => guardWrite x ag Rg.BRG_PWLOG_CLR (fun x => { x with brg := { x.brg with pwlog := [] } })))

end Sys2Proof.Machine
end

