-- ==== Sys2Proof/Machine/Vote.lean ====
section
/-! DEFINITION. Triangulation voting (09 R195 to R216): items and digests, release, what a released item does, verdicts, exclusion, and port ownership (01 R16 to R19). -/

namespace Sys2Proof.Machine

/-! Items and digests (09 R195, R196). -/

/-- The content of a vote item as bytes. The layouts the spec does not give are the model's (log 27). -/
def payBytes : Payload → Bytes
  | .outImage img => sbytes img 0 outLen
  | .telegram _ b => b
  | .canReq m f => leBytes 1 m ++ leBytes 4 f.id.toNat ++ leBytes 1 f.dlc ++ leBytes 1 (b2n f.brs + 2 * b2n f.esi) ++ f.data
  | .canCancel m => leBytes 1 (m + 128)
  | .slotBuf _ fl b => b ++ [fl]
  | .brgWrite a b => leBytes 8 a ++ b
  | .brgRead a n => leBytes 8 a ++ leBytes 2 n
  | .power t => leBytes 1 t
  | .event c d t e => leBytes 2 c ++ leBytes 4 d.toNat ++ leBytes 1 t ++ leBytes 16 e
  | .forceStatus o st => leBytes 2 0 ++ leBytes 4 st ++ leBytes 1 o
  | .cab on => leBytes 1 (b2n on)

/-- The digest of an item (09 R196). -/
def itemDigest (q : QItem) (seq : Word) (n : Nat) : DWord :=
  let c := payBytes q.pay
  crc64 (leBytes 2 q.stream ++ leBytes 4 seq.toNat ++ leBytes 8 n ++ leBytes 2 c.length ++ c)

/-- Local time of a lane in ns. -/
def localNs (l : LaneState) : Nat := 2 * l.mer.ltime

/-- The majority of three copies held in registers (09 R215). -/
def maj3Reg (l : LaneState) (a b c : Nat) : Word := maj3 (rget l a) (rget l b) (rget l c)

/-- SKEW in ns: the lane's own majority (09 R202, R216). -/
def skewNs (l : LaneState) : Nat := getBits (maj3Reg l (Rg.TRI_SKEWk 0) (Rg.TRI_SKEWk 1) (Rg.TRI_SKEWk 2)) 13 0 * 1000

/-- DEG_LIMIT in s: the lane's own majority (09 R210, R216). -/
def degLimitS (l : LaneState) : Nat := getBits (maj3Reg l (Rg.TRI_DEGLIMk 0) (Rg.TRI_DEGLIMk 1) (Rg.TRI_DEGLIMk 2)) 13 0 * 60

/-- At every base-cycle boundary a copy that differs from the majority is rewritten and reported (09 R215). -/
def delayCheck (l : LaneState) : LaneState :=
  let one (l : LaneState) (reg : Nat) (addr : Nat → Nat) : LaneState :=
    let m := maj3Reg l (addr 0) (addr 1) (addr 2)
    (List.range 3).foldl (fun l k =>
      if rget l (addr k) = m then l
      else
        let l := finc (rset l (addr k) m) Rg.TRI_DELAY_MM 15 0 1
        event (fset (fset l Rg.TRI_DELAY_MM 19 16 reg) Rg.TRI_DELAY_MM 21 20 k) 0x0121 (reg + 256 * k)) l
  let step (l : LaneState) (k : Nat) : LaneState :=
    let m := maj3Reg l (Rg.PWR_WDTk_c k 0) (Rg.PWR_WDTk_c k 1) (Rg.PWR_WDTk_c k 2)
    (List.range 3).foldl (fun l c =>
      if rget l (Rg.PWR_WDTk_c k c) = m then l
      else
        let l := finc (rset l (Rg.PWR_WDTk_c k c) m) Rg.PWR_WDT_MM 15 0 1
        event (fset (fset l Rg.PWR_WDT_MM 19 16 k) Rg.PWR_WDT_MM 21 20 c) 0x0121 (2 + 16 * k + 256 * c)) l
  (List.range 16).foldl step (one (one l 0 Rg.TRI_SKEWk) 1 Rg.TRI_DEGLIMk)

/-! Ports (01 R16 to R19, Table ARC-1). -/

/-- Owner and fallback of a port. Ports: 0 Line X, 1 Line Y, 2 consist, 3 to 6 CAN0 to CAN3, 7 backplane, 8 partner link. -/
def portHome : Nat → Lane × Lane
  | 0 => (.a, .c)
  | 1 => (.b, .a)
  | 2 => (.c, .b)
  | 3 | 4 => (.a, .b)
  | 5 | 6 => (.b, .c)
  | 7 => (.c, .a)
  | _ => (.a, .b)

/-- The lane that should drive a port, by the voters a lane sees. -/
def portLane (l : LaneState) (p : Nat) : Option Lane :=
  if sees l (portHome p).1 then some (portHome p).1
  else if sees l (portHome p).2 then some (portHome p).2
  else none

/-- Show which lane drives a port: 0 to 2, or 3 for none (15 Table ECN-2; 16 Table CAN-6; 18 Table BRG-5). -/
def showDriver (l : LaneState) (p v : Nat) : LaneState :=
  if p = 2 then fset l Rg.ECN_STATUS 1 0 v
  else if 3 ≤ p ∧ p ≤ 6 then fset l (Rg.CAN_STATUS (p - 3)) 5 4 v
  else if p = 7 then fset l Rg.BRG_STATUS 1 0 v
  else l

/-- A lane withdraws its enable on the ports of a lane it has excluded, and shows that none drives them until the next boundary (01 R17 case 2, R19). -/
def withdrawPorts (l : LaneState) (x : Lane) : LaneState :=
  let l := (List.range 9).foldl (fun l p => if portLane l p == some x then showDriver l p 3 else l) l
  { l with tri := { l.tri with enables := l.tri.enables.filter (fun p => portLane l p != some x) } }

/-- At a boundary a lane takes the ports that are now its own, asserts its enables, and shows who drives each port (01 R19). -/
def takePorts (l : LaneState) : LaneState :=
  let ok := votes l && !l.tri.latch
  let l := { l with tri := { l.tri with owns := if ok then (List.range 9).filter (fun p => portLane l p == some l.id) else [],
                                        enables := if ok || (fget l Rg.TRI_STATUS 2 0 == 4 && !l.tri.latch) then List.range 9 else [] } }
  (List.range 9).foldl (fun l p => showDriver l p (match portLane l p with | some x => laneNo x | none => 3)) l

/-! Offering (09 R195, R197). -/

/-- Send a cross-lane record (09 Table TRI-2). -/
def sendRec (l : LaneState) (typ stream : Nat) (seq : Word) (n : Nat) (dig : DWord) (aux : Nat) : LaneState :=
  emit l (.xrec { stream := BitVec.ofNat 16 stream, typ := BitVec.ofNat 8 typ, sender := l.id, seq := seq, cycle := BitVec.ofNat 64 n,
                  digest := dig, aux := BitVec.ofNat 64 aux })

/-- A lane offers items while it votes and is neither latched, in the safe state, nor in a standby role (09 R208, R212; 19 R420). -/
def mayOffer (l : LaneState) : Bool := votes l && !l.tri.latch && !isSafe l && !isStandby l

/-- Hold a digest, the first from its sender for its item. -/
def addDig (l : LaneState) (d : DigRec) : LaneState :=
  if l.tri.digs.any (fun e => e.sender == d.sender && e.stream == d.stream && e.seq == d.seq && e.cycle == d.cycle) then l
  else { l with tri := { l.tri with digs := l.tri.digs ++ [d] } }

/-- Offer one vote item in a cycle: the next sequence number of its stream, its digest held and sent (09 R195 to R197, R217). -/
def offer (l : LaneState) (q : QItem) (n : Nat) : LaneState :=
  if !mayOffer l then l
  else
    let seq := sget (fun _ => (0 : Word)) l.tri.seqs q.stream
    let d := itemDigest q seq n
    let l := { l with tri := { l.tri with seqs := sset (fun _ => (0 : Word)) l.tri.seqs q.stream (seq + 1),
                                          items := l.tri.items ++ [{ q := q, seq := seq, cycle := n }] } }
    let l := addDig l ⟨l.id, q.stream, seq, n, d, localNs l⟩
    let l := sendRec l 1 q.stream seq n d 0
    match q.pay with
    | .brgRead a k => sendRec l 6 q.stream seq n d (a % 2 ^ 40 + (k - 1) * 2 ^ 40)
    | _ => l

/-! Accusations and exclusion (09 R204 to R210, R214). -/

/-- Note the last verdict other than AGREE that this lane gave (09 Table TRI-10). -/
def noteLast (l : LaneState) (x : Lane) (verdict stream : Nat) (seq : Word) (n : Nat) : LaneState :=
  let l := rset l Rg.TRI_LAST_STREAM (BitVec.ofNat 32 (stream % 65536 + verdict * 65536 + laneNo x * 262144))
  rset (rset l Rg.TRI_LAST_SEQ seq) Rg.TRI_LAST_CYCLE (BitVec.ofNat 32 n)

/-- The accusations a lane holds among voting lanes: judge, subject, cause (09 R206). -/
def accPairs (l : LaneState) : List (Lane × Lane × Nat) :=
  (l.tri.accs.filter (fun a => (2 ≤ a.verdict || a.cause == 3) && sees l a.judge && sees l a.subject && a.judge != a.subject)).map
    (fun a => (a.judge, a.subject, a.cause))

/-- The other voting lanes than one. -/
def othersOf (l : LaneState) (x : Lane) : List Lane := (voters l).filter (· != x)

/-- The lanes to exclude, each with its cause and the rule of R206 that names it. -/
def rules (l : LaneState) : List (Lane × Nat × Nat) :=
  let acc := accPairs l
  let has (j s : Lane) : Bool := acc.any (fun a => a.1 == j && a.2.1 == s)
  let causes (s : Lane) : List Nat := (acc.filter (fun a => a.2.1 == s)).map (fun a => a.2.2)
  let low (s : Lane) : Nat := (causes s).foldl min 9
  let vs := voters l
  let r1 := (vs.filter (fun s => (othersOf l s).length == 2 && (othersOf l s).all (fun j => has j s))).map (fun s => (s, low s, 1))
  if r1 != [] then r1
  else
    let r2 := (vs.filter (fun x =>
      let o := othersOf l x
      o.length == 2 && o.all (fun y => has x y) && o.all (fun y => vs.all (fun z => !has y z)))).map (fun x => (x, 8, 2))
    if r2 != [] then r2.take 1
    else
      let r3 := vs.flatMap (fun x => (vs.filter (fun y => laneNo x < laneNo y && has x y && has y x &&
        acc.all (fun a => (a.1 == x && a.2.1 == y) || (a.1 == y && a.2.1 == x) || !(a.1 == x || a.1 == y || a.2.1 == x || a.2.1 == y)))).map
          (fun y => (y, 7, 3)))
      if r3 != [] then r3
      else (vs.filter (fun s => causes s != [])).map (fun s => (s, low s, 4))

/-- A lane's exclusion takes effect in this lane: the ports, the record and count of the cause, the judgement data of that lane, and the DEG_LIMIT timer (09 R207 to R210; 01 R17). -/
def excluded (l : LaneState) (x : Lane) (cause : Nat) (counts : Bool) : LaneState :=
  if !sees l x then l
  else
    let who := (accPairs l).filter (fun a => a.2.1 == x)
    let l := noteExcluded (withdrawPorts l x) x cause counts
    let t := l.tri
    let keep (a : Acc) : Bool := a.judge != x && a.subject != x
    let l := { l with tri := { t with
      accs := t.accs.filter keep, asserts := t.asserts.filter (fun a => a.1 != x && a.2 != x),
      digs := t.digs.filter (fun d => d.sender != x || t.released.any (fun r => r.stream == d.stream && r.seq == d.seq)),
      uncounted := if counts then t.uncounted else who.map (fun a => (x, a.1)) ++ t.uncounted,
      degAt := if t.degAt.isNone && (voters l).length = 2 then some (localNs l) else t.degAt } }
    let l := fset l (Rg.TRI_LANEL_STAT (laneNo x)) 5 4 0
    if x = l.id then setLatch l else l

/-- When both other voting lanes have asserted a lane's exclusion, its latch sets (09 R207). -/
def checkAsserts (l : LaneState) (x : Lane) : LaneState :=
  let o := othersOf l x
  if o.length == 2 && o.all (fun j => l.tri.asserts.contains (j, x)) then
    match (rules l).find? (fun r => r.1 == x) with
    | some r => excluded l x r.2.1 (r.2.2 != 4)
    | none => excluded l x (((accPairs l).filter (fun a => a.2.1 == x)).map (fun a => a.2.2) |>.foldl min 9) true
  else l

/-- A lane evaluates the accusations it holds and asserts the exclusions they lead to (09 R206). -/
def evaluate (l : LaneState) : LaneState :=
  if !votes l || l.tri.latch || (voters l).length < 3 then l
  else
    (rules l).foldl (fun l r =>
      if r.1 = l.id || l.tri.asserts.contains (l.id, r.1) then l
      else
        let l := emit { l with tri := { l.tri with asserts := l.tri.asserts ++ [(l.id, r.1)] } } (.assertion r.1)
        checkAsserts l r.1) l

/-- Hold an accusation or a cycle verdict. An accusation by the other judge of a lane whose exclusion did not count makes it count after all (09 R207, R209). -/
def addAcc (l : LaneState) (a : Acc) : LaneState :=
  let late := 2 ≤ a.verdict && l.tri.uncounted.any (fun u => u.1 == a.subject && u.2 != a.judge)
  let l := { l with tri := { l.tri with accs := l.tri.accs ++ [a] } }
  if late && hardCause a.cause then
    let l := { l with tri := { l.tri with uncounted := l.tri.uncounted.filter (fun u => u.1 != a.subject), hardT := l.tri.hardT ++ [(a.subject, l.mer.ltime)] } }
    let st := Rg.TRI_LANEL_STAT (laneNo a.subject)
    let l := finc l st 11 8 1
    if failLimit l ≤ fget l st 11 8 then setLaneState l a.subject 5 else l
  else l

/-- A judge accuses a lane: in degraded 2oo2 the disagreement is the safe state; otherwise a type 5 record, and R206 at once (09 R204, R206, R211). -/
def accuse (l : LaneState) (x : Lane) (n verdict cause : Nat) : LaneState :=
  if !votes l || l.tri.latch || isSafe l || !sees l x || x = l.id then l
  else if (voters l).length < 3 then enterSafe l 2
  else
    let l := addAcc l ⟨l.id, x, n, verdict, cause⟩
    evaluate (sendRec l 5 0xFFFF 0 n 0 (verdict * 4 ^ laneNo x + cause * 256))

/-- A DISSENT on an item or a commit-done count (09 R204 case 1; 22 LANE_DISSENT). -/
def dissent (l : LaneState) (x : Lane) (stream : Nat) (seq : Word) (n : Nat) : LaneState :=
  if !sees l x || x = l.id || l.tri.accs.any (fun a => a.judge == l.id && a.subject == x && a.cycle == n && a.cause == 1) then l
  else
    let l := noteLast (finc l (Rg.TRI_LANEL_CNT (laneNo x)) 15 0 1) x 2 stream seq n
    accuse (event l 0x0101 (laneNo x + 65536 * (stream % 65536))) x n 2 1

/-! What a released item does (09 R199, R200; Table TRI-1). -/

/-- An own item the lane now acts on. `sends` says which ports this lane drives. -/
def applyItem (l : LaneState) (sends : Nat → Bool) (v : VItem) : LaneState :=
  match v.q.pay with
  | .outImage img =>
    let bs := (List.range 255).filter (fun b => sbytes img (256 * b) 256 != sbytes l.exe.outApplied (256 * b) 256)
    emit (fioApply (prtMark l 2 bs) img) (.field img)
  | .telegram c b =>
    let l := emit (safRelease l c b v.seq) (.saf c b)
    if connCfg l c 3 2 == 0 then
      let k := connRef l c
      let a := Rg.CAR_BUFb_CFG k
      let d := mrd l (fget l (Rg.CAR_BUFb_ADDR k) 21 0) (fget l a 26 16)
      { l with tri := { l.tri with toOffer := l.tri.toOffer ++ [⟨0x300 + k, .slotBuf k (safFlags l) d⟩] } }
    else l
  | .canReq m f => canLoad l (v.q.stream % 4) m f v.seq
  | .canCancel m => canCancel l (v.q.stream % 4) m
  | .slotBuf b fl d =>
    let l := prtMark l 3 ((List.range ((d.length + 255) / 256)).map (fun i => 8 * b + i))
    { l with car := { l.car with txb := { b := b, bytes := d, flags := fl, from_ := v.cycle + 1 } :: l.car.txb.filter (fun t => !(t.b == b && t.from_ == v.cycle + 1 && !t.matched)) } }
  | .brgWrite a d => brgWrite l (sends 7) (v.q.stream % 16) a v.seq d
  | .brgRead a n =>
    let r := v.q.stream % 16
    if l.brg.opens.any (fun o => o.1 == r && o.2.1 == v.seq) || l.brg.held.any (fun h => h.region == r && h.seq == v.seq) then l
    else brgRead l (sends 7) r a v.seq n
  | .power t => emit (holdItem l v) (.power t)
  | .event _ _ _ _ => holdItem l v
  | .forceStatus _ _ => holdItem l v
  | .cab on => { l with car := { l.car with cabNext := some on } }

/-- The digest the lane itself offered for an item. -/
def ownDig (l : LaneState) (stream : Nat) (seq : Word) : Option DWord :=
  (l.tri.digs.find? (fun d => d.sender == l.id && d.stream == stream && d.seq == seq)).map (·.digest)

/-- The oldest own item that is released with its digest and not yet acted on. -/
def nextApply (l : LaneState) : Option VItem :=
  l.tri.items.find? (fun v => !v.applied &&
    (match l.tri.released.find? (fun r => r.stream == v.q.stream && r.seq == v.seq && r.cycle == v.cycle) with
     | some r => ownDig l v.q.stream v.seq == some r.digest
     | none => false))

/-- Act on an own item; a tap that sees a backplane write leave notes it (09 R200). -/
def applyNow (l : LaneState) (sends : Nat → Bool) (v : VItem) : LaneState :=
  let l := { l with tri := { l.tri with items := l.tri.items.map (fun u => if u.q.stream == v.q.stream && u.seq == v.seq then { u with applied := true } else u) } }
  let l := applyItem l sends v
  match v.q.pay with
  | .brgWrite _ _ => if sends 7 then { l with tri := { l.tri with taps := l.tri.taps ++ [(v.q.stream, v.seq)] } } else l
  | _ => l

/-! Release (09 R198, R201). -/

/-- The digests of voting lanes that a lane holds for an item, first received first. -/
def digsFor (l : LaneState) (stream : Nat) (seq : Word) : List DigRec :=
  l.tri.digs.filter (fun d => d.stream == stream && d.seq == seq && sees l d.sender)

/-- The digest two lanes supplied equally, with the cycle and the time at which the second was held. -/
def twoEqual : List DigRec → Option DigRec
  | [] => none
  | d :: ds => match ds.find? (fun e => e.digest == d.digest && e.cycle == d.cycle && e.sender != d.sender) with
    | some e => some e
    | none => twoEqual ds

/-- What the digests held for the next item of a stream lead to: its release, the safe state, or nothing yet. -/
def releaseOne (l : LaneState) (stream : Nat) : Option LaneState :=
  let seq := sget (fun _ => (0 : Word)) l.tri.rels stream
  let ds := digsFor l stream seq
  let solo := bget l Rg.TRI_STATUS 10
  if !votes l || l.tri.latch || ds == [] || (isSafe l && stream != 0x600) then none
  else
    match (if solo then ds.find? (fun d => d.sender == l.id) else twoEqual ds) with
    | some d =>
      let l := { l with tri := { l.tri with rels := sset (fun _ => (0 : Word)) l.tri.rels stream (seq + 1),
                                            released := l.tri.released ++ [⟨stream, seq, d.cycle, d.digest, localNs l⟩] } }
      let l := rset l Rg.TRI_REL_CNT (rget l Rg.TRI_REL_CNT + 1)
      let l := match l.tri.reqs.find? (fun r => r.stream.toNat == stream && r.seq == seq && r.digest == d.digest), ownDig l stream seq with
        | some r, none =>
          if l.tri.owns.contains 7 then brgRead l true (stream % 16) (r.aux.toNat % 2 ^ 40) seq (r.aux.toNat / 2 ^ 40 % 512 + 1) else l
        | _, _ => l
      let l := if 0x300 ≤ stream && stream < 0x400 && ownDig l stream seq != some d.digest then
          { l with car := { l.car with txb := { b := stream - 0x300, from_ := d.cycle + 1, matched := false } :: l.car.txb } }
        else l
      some (ds.foldl (fun l e => if e.digest != d.digest then dissent l e.sender stream seq d.cycle else l) l)
    | none =>
      if isSafe l then none
      else if 3 ≤ ds.length then some (enterSafe l 3)
      else if ds.length == 2 && (voters l).length == 2 then some (enterSafe l 2)
      else none

/-- Streams for which digests are held. -/
def heldStreams (l : LaneState) : List Nat := addNew [] (l.tri.digs.map (·.stream))

/-- The first stream that can move. -/
def releaseFirst (l : LaneState) : List Nat → Option LaneState
  | [] => none
  | st :: sts => match releaseOne l st with
    | some l' => some l'
    | none => releaseFirst l sts

/-- Release, act and offer until nothing moves; `fuel` bounds the steps. -/
def settle (sends : Nat → Bool) : Nat → LaneState → LaneState
  | 0, l => l
  | fuel + 1, l =>
    match l.tri.toOffer with
    | q :: qs => settle sends fuel (offer { l with tri := { l.tri with toOffer := qs } } q l.exe.n)
    | [] =>
      match nextApply l with
      | some v => settle sends fuel (applyNow l sends v)
      | none =>
        match releaseFirst l (heldStreams l) with
        | some l' => settle sends fuel l'
        | none => l

/-- Steps enough for all a lane holds. -/
def settleAll (sends : Nat → Bool) (l : LaneState) : LaneState :=
  settle sends (3 * (l.tri.digs.length + l.tri.items.length + l.tri.toOffer.length) + 8) l

/-- A lane other than `l` notes at its taps what left lane `l` (09 R200). -/
def passTaps (l : Lane) (new : List (Nat × Word)) (y : LaneState) : LaneState :=
  if y.id = l then y else { y with tri := { y.tri with taps := addNew y.tri.taps new } }

/-- A command that may release items in a lane; what its taps see leave, the other lanes' taps see too (09 R200). -/
def State.onVote (s : State) (l : Lane) (f : LaneState → LaneState) : State :=
  let old := (s.lane l).tri.taps
  let x := settleAll (s.sends l) (f (s.lane l))
  let new := x.tri.taps.filter (fun t => !old.contains t)
  let s := (s.setLane l x).mapLanes (passTaps l new)
  s.takeReports

/-! Records (09 R197, R198, R204, R206, R214, R217). -/

/-- A record reaches a lane from another voting lane over a link that works (01 R15; 09 R197). -/
def recOk (l : LaneState) (r : XRec) (typ : Nat) : Bool :=
  r.typ.toNat == typ && r.sender != l.id && sees l r.sender && votes l && !l.tri.latch && !l.tri.linksDown.contains r.sender

/-- A digest reaches a judge: one that differs from the released digest is a DISSENT, and the delay of the third after release is measured (09 R198, R201, R204, Table TRI-10). -/
def takeDigest (l : LaneState) (r : XRec) : LaneState :=
  let st := r.stream.toNat
  let n := r.cycle.toNat
  let l := addDig l ⟨r.sender, st, r.seq, n, r.digest, localNs l⟩
  match l.tri.released.find? (fun q => q.stream == st && q.seq == r.seq && q.cycle == n) with
  | some q =>
    let us := (localNs l - q.at_) / 1000
    let l := if fget l Rg.TRI_SKEW_MAX 15 0 < us then fset l Rg.TRI_SKEW_MAX 15 0 (min us 65535) else l
    if q.digest != r.digest then dissent l r.sender st r.seq n else l
  | none => l

/-- ITEM_DIGEST_RECORD: a type 1 record is received, and the item released once two equal digests are held (09 R198). -/
def execItemDigestRecord (l : Lane) (r : XRec) (s : State) : Res :=
  .next (s.onVote l (fun x => if recOk x r 1 then takeDigest x r else x))

/-- BACKPLANE_READ_REQUEST: a type 6 record carries the request with its digest (09 R217). -/
def execBackplaneReadRequest (l : Lane) (r : XRec) (s : State) : Res :=
  .next (s.onVote l (fun x =>
    if recOk x r 6 then takeDigest { x with tri := { x.tri with reqs := x.tri.reqs ++ [r] } } r else x))

/-- Commit-done counts of a cycle: with two equal counts held, a lane with a different count has dissented; in degraded 2oo2 a difference is the safe state (09 R204, R211). -/
def compareCounts (l : LaneState) (n : Nat) : LaneState :=
  let cs := l.tri.counts.filter (fun c => c.2.1 == n && sees l c.1)
  let ref := cs.find? (fun c => cs.any (fun d => d.1 != c.1 && d.2.2 == c.2.2))
  match ref with
  | some c => (cs.filter (fun d => d.2.2 != c.2.2)).foldl (fun l d => dissent l d.1 0xFFFF 0 n) l
  | none => if cs.length == 2 && (voters l).length == 2 && votes l && !isSafe l then enterSafe l 2 else l

/-- COMMIT_DONE_RECORD: a type 2 record is received and the counts compared (09 R204). -/
def execCommitDoneRecord (l : Lane) (r : XRec) (s : State) : Res :=
  .next (s.onVote l (fun x =>
    if recOk x r 2 then
      let n := r.cycle.toNat
      compareCounts { x with tri := { x.tri with counts := x.tri.counts.filter (fun c => !(c.1 == r.sender && c.2.1 == n)) ++ [(r.sender, n, r.aux.toNat)] } } n
    else x))

/-- STATE_DIGEST_RECORD: a type 3 record is held for comparison at the close (09 R214). -/
def execStateDigestRecord (l : Lane) (r : XRec) (s : State) : Res :=
  .next (s.onLane l (fun x =>
    if recOk x r 3 then
      { x with tri := { x.tri with sdigs := x.tri.sdigs.filter (fun c => !(c.1 == r.sender && c.2.1 == r.cycle.toNat)) ++ [(r.sender, r.cycle.toNat, r.digest)] } }
    else x))

/-- The cycle verdict a judge gave on a lane, as this lane holds it. -/
def cycleVerdict (l : LaneState) (j x : Lane) (n : Nat) : Option Nat :=
  (l.tri.accs.find? (fun a => a.judge == j && a.subject == x && a.cycle == n && a.cause != 3)).map (·.verdict)

/-- The LATE run of a lane after both judges' verdicts on a closed cycle: LATE from both advances it, AGREE from one ends it, anything else with one LATE leaves it; one LATE alone is a split. A run of 3 is an accusation (09 R205; log 28). With two voting lanes the single judge counts for both. -/
def lateRun (l : LaneState) (x : Lane) (n : Nat) : LaneState :=
  let st := Rg.TRI_LANEL_STAT (laneNo x)
  let split (l : LaneState) : LaneState := finc l (Rg.TRI_LANEL_ABS (laneNo x)) 31 16 1
  let both (l : LaneState) : LaneState :=
    let l := event (finc l st 5 4 1) 0x0102 (laneNo x)
    if 3 ≤ fget l st 5 4 then accuse l x n 1 3 else l
  let js := (othersOf l x).filter (· != l.id)
  match cycleVerdict l l.id x n, js with
  | some 1, [] => both l
  | some 0, [] => fset l st 5 4 0
  | some a, [j] =>
    match cycleVerdict l j x n with
    | some b =>
      if a = 1 && b = 1 then both l
      else
        let l := if a = 1 || b = 1 then split l else l
        if a = 0 || b = 0 then fset l st 5 4 0 else l
    | none => l
  | _, _ => l

/-- A LATE of this judge on a cycle for which the other judge gave no cycle verdict is a split (09 R205). -/
def lateAlone (n : Nat) (l : LaneState) (x : Lane) : LaneState :=
  match cycleVerdict l l.id x n, (othersOf l x).filter (· != l.id) with
  | some 1, [j] => if (cycleVerdict l j x n).isNone then finc l (Rg.TRI_LANEL_ABS (laneNo x)) 31 16 1 else l
  | _, _ => l

/-- VERDICT_RECORD: a type 4 record is received; LATE runs advance and exclusions are evaluated (09 R205, R206). -/
def execVerdictRecord (l : Lane) (r : XRec) (s : State) : Res :=
  .next (s.onVote l (fun x =>
    if recOk x r 4 then
      let n := r.cycle.toNat
      let x := (allLanes.filter (· != r.sender)).foldl (fun x y =>
        addAcc x ⟨r.sender, y, n, r.aux.toNat / 4 ^ laneNo y % 4, if 2 ≤ r.aux.toNat / 4 ^ laneNo y % 4 then r.aux.toNat / 256 % 16 else 0⟩) x
      evaluate (((othersOf x x.id).filter (· != r.sender)).foldl (fun x y => lateRun x y n) x)
    else x))

/-- ACCUSATION: a type 5 record is received, and exclusions are evaluated at once (09 R204, R206). -/
def execAccusation (l : Lane) (r : XRec) (s : State) : Res :=
  .next (s.onVote l (fun x =>
    if r.typ.toNat == 5 && r.sender != x.id && sees x r.sender && votes x && !x.tri.latch && !x.tri.linksDown.contains r.sender then
      let n := r.cycle.toNat
      let x := (allLanes.filter (fun y => y != r.sender && r.aux.toNat / 4 ^ laneNo y % 4 != 0)).foldl (fun x y =>
        addAcc x ⟨r.sender, y, n, r.aux.toNat / 4 ^ laneNo y % 4, r.aux.toNat / 256 % 16⟩) x
      if (voters x).length < 3 && !isSafe x then enterSafe x 2 else evaluate x
    else x))

/-! The close of a cycle (09 R203, R214, R544). -/

/-- A judge's verdict on a subject for one item: against the released digest, or the one two lanes supplied equally (09 Table TRI-3, R544). -/
def itemVerdict (l : LaneState) (x : Lane) (stream : Nat) (seq : Word) (n : Nat) : Nat :=
  let ds := digsFor l stream seq
  let ref : Option (DWord × Nat) :=
    match l.tri.released.find? (fun r => r.stream == stream && r.seq == seq && r.cycle == n) with
    | some r => some (r.digest, r.at_)
    | none => (twoEqual ds).map (fun d => (d.digest, d.at_))
  if l.tri.announced.contains x || l.tri.linksDown.contains x then 3
  else
    match ref with
    | some (d, t) =>
      match ds.find? (fun e => e.sender == x) with
      | none => 3
      | some e => if e.digest != d then 2 else if t + skewNs l < e.at_ then 1 else 0
    | none =>
      match ds with
      | [e] => if e.sender == l.id then 3 else if e.sender == x then 2 else 0
      | _ => 0

/-- The worse of two verdicts: DISSENT, ABSENT, LATE, AGREE (09 R203). -/
def worseV (a b : Nat) : Nat :=
  if a = 2 || b = 2 then 2 else if a = 3 || b = 3 then 3 else max a b

/-- The items of a cycle for which a lane holds a digest. -/
def itemsOf (l : LaneState) (n : Nat) : List (Nat × Word) :=
  addNew [] ((l.tri.digs.filter (fun d => d.cycle == n && sees l d.sender)).map (fun d => (d.stream, d.seq)))

/-- State digests of a closed cycle: the lane that differs from two equal ones, and those without a digest (09 R214). `none` when no two are equal. -/
def digestOdd (l : LaneState) (n : Nat) : Option (List Lane × List Lane) :=
  let ds := l.tri.sdigs.filter (fun d => d.2.1 == n && sees l d.1)
  match ds with
  | [] => some ([], [])
  | _ =>
    let missing := (voters l).filter (fun x => !ds.any (fun d => d.1 == x))
    match ds.find? (fun d => ds.any (fun e => e.1 != d.1 && e.2.2 == d.2.2)) with
    | some d => some ((ds.filter (fun e => e.2.2 != d.2.2)).map (·.1), missing)
    | none => if ds.length = 1 then some ([], missing) else none

/-- Settle the verdicts on one subject: item by item, counted as given, and the worst of them (09 R203). -/
def settleSubject (n : Nat) (l : LaneState) (x : Lane) : LaneState × Nat :=
  (itemsOf l n).foldl (fun (p : LaneState × Nat) it =>
    let v := itemVerdict p.1 x it.1 it.2 n
    let had := p.1.tri.accs.any (fun a => a.judge == p.1.id && a.subject == x && a.cycle == n && a.cause == 1)
    let l := match v with
      | 1 => noteLast (finc p.1 (Rg.TRI_LANEL_CNT (laneNo x)) 31 16 1) x 1 it.1 it.2 n
      | 2 => if had then p.1
             else event (noteLast (finc p.1 (Rg.TRI_LANEL_CNT (laneNo x)) 15 0 1) x 2 it.1 it.2 n) 0x0101 (laneNo x + 65536 * it.1)
      | 3 => noteLast (finc p.1 (Rg.TRI_LANEL_ABS (laneNo x)) 15 0 1) x 3 it.1 it.2 n
      | _ => p.1
    (l, worseV p.2 v)) (l, if l.tri.accs.any (fun a => a.judge == l.id && a.subject == x && a.cycle == n && a.verdict == 1) then 1 else 0)

/-- Records of cycles long closed are dropped; released items and digests stay while an own item of theirs is not yet acted on. -/
def dropOld (n : Nat) (l : LaneState) : LaneState :=
  let t := l.tri
  let live (st : Nat) (seq : Word) : Bool := t.items.any (fun v => v.q.stream == st && v.seq == seq && !v.applied)
  { l with tri := { t with
    items := t.items.filter (fun v => n ≤ v.cycle || !v.applied), digs := t.digs.filter (fun d => n ≤ d.cycle || live d.stream d.seq),
    released := t.released.filter (fun r => n ≤ r.cycle || live r.stream r.seq), counts := t.counts.filter (fun c => n ≤ c.2.1),
    sdigs := t.sdigs.filter (fun c => n ≤ c.2.1), accs := t.accs.filter (fun a => n ≤ a.cycle), reqs := t.reqs.filter (fun r => n ≤ r.cycle.toNat),
    taps := t.taps.filter (fun e => t.items.any (fun v => v.q.stream == e.1 && v.seq == e.2)) } }

/-- The close of cycle `n` in a judge: an item with digests no two of which are equal, or state digests so, are the safe state; otherwise cycle verdicts, one type 4 record, LATE runs and R206 (09 R201, R203, R205, R211, R214). -/
def closeCycle (n : Nat) (l : LaneState) : LaneState :=
  if !votes l || l.tri.latch || isSafe l || l.exe.abandoned == some n then l
  else
    let two := (voters l).length == 2
    if (itemsOf l n).any (fun it => 2 ≤ (digsFor l it.1 it.2).length && (twoEqual (digsFor l it.1 it.2)).isNone) then enterSafe l (if two then 2 else 3)
    else
      match digestOdd l n with
      | none => enterSafe l (if two then 2 else 9)
      | some (odd, missing) =>
        let subj := othersOf l l.id
        let l := if n = 0 then l else subj.foldl (lateAlone (n - 1)) l
        let p := subj.foldl (fun (p : LaneState × List (Lane × Nat × Nat)) x =>
          let r := settleSubject n p.1 x
          let v := if odd.contains x then 2 else if missing.contains x then worseV r.2 3 else r.2
          let cause := if r.2 = 2 then 1 else if odd.contains x then 5 else if v = 3 then (if r.1.tri.linksDown.contains x then 7 else 2) else 0
          let l := if odd.contains x then event r.1 0x0120 (laneNo x) else r.1
          (l, p.2 ++ [(x, v, cause)])) (l, [])
        let vs := p.2
        let l := vs.foldl (fun l e => addAcc l ⟨l.id, e.1, n, e.2.1, e.2.2⟩) { p.1 with tri := { p.1.tri with accs := p.1.tri.accs.filter (fun a => !(a.judge == p.1.id && a.cycle == n && a.verdict < 2)) } }
        let cause := (vs.map (fun e => e.2.2)).foldl (fun a b => if a = 0 then b else if b = 0 then a else min a b) 0
        let aux := (vs.map (fun e => e.2.1 * 4 ^ laneNo e.1)).foldl (· + ·) 0 + 256 * cause
        let l := sendRec l 4 0xFFFF 0 n 0 aux
        if two && vs.any (fun e => 2 ≤ e.2.1) then enterSafe l 2
        else
          let l := subj.foldl (fun l x => lateRun l x n) l
          dropOld (n - 1) (evaluate l)

/-- CYCLE_CLOSE: the close of cycle n − 1 at the commit point of cycle n (09 R203). -/
def execCycleClose (l : Lane) (s : State) : Res :=
  .next (s.onVote l (fun x => if 0 < x.exe.n then closeCycle (x.exe.n - 1) x else x))

/-! Links, assertions, takeover, expiries (09 R204, R207, R210, R213, R218; 01 R19). -/

/-- LINK_FAILURE: a link detects its failure; the judge gives ABSENT at once (09 R204 case 3). -/
def execLinkFailure (l peer : Lane) (s : State) : Res :=
  let r := Rg.TRI_REINT_STATUS
  let joins (p q : Lane) : Bool := bget (s.lane p) r 5 && bget (s.lane q) r 4
  let s := if joins l peer || joins peer l then s.mapLanes dropReint else s
  .next (s.onVote l (fun x =>
    if peer = x.id || x.tri.linksDown.contains peer then x
    else accuse { x with tri := { x.tri with linksDown := peer :: x.tri.linksDown } } peer x.exe.n 3 7))

/-- CROSS_LANE_LINK_RESTORED: the link works again (09 R204, R223). -/
def execCrossLaneLinkRestored (l peer : Lane) (s : State) : Res :=
  .next (s.onLane l (fun x => { x with tri := { x.tri with linksDown := x.tri.linksDown.filter (· != peer) } }))

/-- EXCLUSION_ASSERTION: an assertion reaches a lane. A lane that announces its own exclusion sets its latch alone, and the others take its cause; otherwise the latch sets when both other voting lanes have asserted (09 R204, R207). -/
def execExclusionAssertion (l src subject : Lane) (s : State) : Res :=
  let cause := fget (s.lane subject) (Rg.TRI_LANEL_EXCL (laneNo subject)) 3 0
  .next (s.onVote l (fun x =>
    if src = subject then
      if x.id = subject then setLatch x
      else
        let x := { x with tri := { x.tri with announced := subject :: x.tri.announced.filter (· != subject) } }
        let x := if 3 ≤ (voters x).length then sendRec x 5 0xFFFF 0 x.exe.n 0 (3 * 4 ^ laneNo subject + 256 * cause) else x
        excluded x subject cause true
    else if !sees x src || !sees x subject || x.tri.asserts.contains (src, subject) then x
    else checkAsserts { x with tri := { x.tri with asserts := x.tri.asserts ++ [(src, subject)] } } subject))

/-- Reads sent and not completed when the backplane changes owner: repeated in a PREFETCH region, otherwise ended in BUS_ERROR (09 R218; 18 R406). -/
def takeReads (l : LaneState) : LaneState :=
  let os := l.brg.opens
  let l := { l with brg := { l.brg with opens := [], prefetch := [] } }
  os.foldl (fun l o => if regAttr l o.1 8 8 = 1 then brgRead l true o.1 o.2.2.1 o.2.1 o.2.2.2 else ownCpl l ⟨o.1, o.2.1, false, []⟩) l

/-- OWNER_TAKEOVER: at the boundary after an exclusion the fallback lane takes the port, sends again the backplane writes its taps have not seen leave, and settles the waiting reads (01 R19; 09 R200, R218; 18 R416). -/
def execOwnerTakeover (l : Lane) (s : State) : Res :=
  .next (s.onVote l (fun x =>
    let had := x.tri.owns.contains 7
    let x := takePorts x
    if x.tri.owns.contains 7 && !had then
      let due := x.tri.items.filter (fun v => v.applied && !x.tri.taps.contains (v.q.stream, v.seq))
      takeReads (due.foldl (fun x v => match v.q.pay with
        | .brgWrite a d =>
          let r := v.q.stream % 16
          let x := sendWrite x (linkOf x r) (pcieAddr x r a) d
          { x with tri := { x.tri with taps := x.tri.taps ++ [(v.q.stream, v.seq)] } }
        | _ => x) x)
    else x))

/-- DEG_LIMIT_EXPIRY: the timer of degraded operation runs out in a voting lane (09 R210). -/
def execDegLimitExpiry (l : Lane) (s : State) : Res :=
  .next (s.onLane l (fun x =>
    if x.tri.degAt.isSome && votes x && !isSafe x then enterSafe (event x 0x0105 0) 4 else x))

/-- A lane's field, GSS and SAFE_OK drivers turn off; a PAIRED channel that is not safety-assigned passes to its hold latch, with a group that holds such a channel and no safety-assigned one (09 R213; 19 R426). -/
def driversOff (x : LaneState) : LaneState :=
  let cmd := cmdBits x
  let hold := (List.range 96).foldl (fun (h : BitVec 96) i =>
    putBit h i (cmd.getLsbD i && chCfg x i 8 8 == 1 && !safetyAssigned x i && !isSafe x)) 0
  let gs := (List.range 6).filter (fun g => x.fio.gss.getLsbD g && !isSafe x
    && (List.range 16).any (fun j => chCfg x (16 * g + j) 8 8 == 1) && (List.range 16).all (fun j => !safetyAssigned x (16 * g + j)))
  let x := fioOff { x with tri := { x.tri with drivers := false } }
  let x := gs.foldl (fun x g => bset { x with fio := { x.fio with gss := putBit x.fio.gss g true } } (Rg.FIO_GRPg_STAT g) 0 true) x
  { x with fio := { x.fio with hold := x.fio.hold ||| hold } }

/-- DRIVER_REFRESH_TIMEOUT: without a refresh for 2 × B + 50 µs the lane's field, GSS and SAFE_OK drivers turn off (09 R213; 19 R426). -/
def execDriverRefreshTimeout (l : Lane) (s : State) : Res := .next (s.onLane l driversOff)

/-- OUT_HOLD_EXPIRY: the hold latch of a channel lets go (19 R426). -/
def execOutHoldExpiry (l : Lane) (ch : Chan) (s : State) : Res :=
  .next (s.onLane l (fun x => { x with fio := { x.fio with hold := putBit x.fio.hold ch false } }))

/-- The drivers are refreshed at a base-cycle boundary: they take their commands again, and the hold latches let go (09 R213; 19 R426). -/
def refreshDrivers (l : LaneState) : LaneState :=
  if l.tri.drivers || l.tri.latch || !votes l || isSafe l then l
  else fioDrive (fioOn { l with tri := { l.tri with drivers := true }, fio := { l.fio with hold := 0 } })

end Sys2Proof.Machine
end

