-- ==== Sys2Proof/Machine/Sched.lean ====
section
/-! DEFINITION. The lane executive's schedule: which task is released at which boundary, deadlines, imports, the first register state of an instance, preemption, completion and slack (02 R34 to R40, R47, R53; 03 R61). -/

namespace Sys2Proof.Machine

/-! Releases under the schedule (02 R35, R47). -/

/-- Base cycles in a Carousel cycle: L / B (02 R47). -/
def cycPerCar (l : LaneState) : Nat := if baseNs l = 0 then 1 else max 1 (cycleLenNs l / baseNs l)

/-- The indices of the VALID cycle points that release a slot. -/
def pointsOf (l : LaneState) (t : Nat) : List Nat :=
  ((List.range 32).filter (fun p => bget l (Rg.CYC_CPp p) 8 && bget l (Rg.CYC_CPp p) (16 + t))).map (fun p => fget l (Rg.CYC_CPp p) 7 0)

/-- PHASE of a task slot. -/
def phaseTask (l : LaneState) (t : Nat) : Nat := fget l (Rg.CYC_TASKt_CFG t) 31 20

/-- Whether the schedule releases a periodic or cycle-point task at T(n) (02 R35, R47). -/
def releasesAt (l : LaneState) (t n : Nat) : Bool :=
  match kindOf l t with
  | 1 => periodOf l t != 0 && n % periodOf l t == phaseTask l t
  | 2 => (pointsOf l t).contains (n % cycPerCar l)
  | _ => false

/-- The first cycle from `n` on whose commit point is a natural deadline of a task: the last cycle before a release, or the cycle itself for the event task (02 R35). -/
def deadlineFrom (l : LaneState) (t n : Nat) : Nat :=
  let gap (p i : Nat) : Nat := (((i : Int) - 1 - n) % (p : Int)).toNat
  match kindOf l t with
  | 1 => if periodOf l t = 0 then n else n + gap (periodOf l t) (phaseTask l t)
  | 2 =>
    let k := cycPerCar l
    match ((pointsOf l t).filter (· < k)).map (gap k) with
    | [] => n
    | g :: gs => n + gs.foldl min g
  | _ => n

/-- How many releases of a task the schedule has strictly between two cycles (02 R54). -/
def releasesBetween (l : LaneState) (t a b : Nat) : Nat :=
  let upTo (p i x : Nat) : Nat := if x < i then 0 else (x - i) / p + 1
  let inside (p i : Nat) : Nat := if b ≤ a + 1 then 0 else upTo p i (b - 1) - upTo p i a
  match kindOf l t with
  | 1 => if periodOf l t = 0 then 0 else inside (periodOf l t) (phaseTask l t)
  | 2 => ((addNew [] ((pointsOf l t).filter (· < cycPerCar l))).map (inside (cycPerCar l))).foldl (· + ·) 0
  | _ => 0

/-- The shortest interval between two firings of a slot's cycle points in a cycle of `k` base cycles. -/
def shortestGap (pts : List Nat) (k : Nat) : Option Nat :=
  let ps := pts.filter (· < k)
  match ps with
  | [] => none
  | _ => some ((ps.flatMap (fun i => ps.map (fun j => if i = j then k else (((j : Int) - i) % (k : Int)).toNat))).foldl min k)

/-- P(t) of R49 in ns, which is also D(t): over every VALID sheet and the fallback length for a cycle-point task. -/
def taskPeriodNs (l : LaneState) (t : Nat) : Nat :=
  let b := baseNs l
  match kindOf l t with
  | 1 => periodOf l t * b
  | 2 =>
    let ks := ((List.range 16).filter (sheetValid l)).map (fun s => if b = 0 then 1 else max 1 (sheetUs l s * 1000 / b))
    let ks := if sheetValid l (csSheet l) then ks else ks ++ [1]
    match ks.filterMap (shortestGap (pointsOf l t)) with
    | [] => b
    | g :: gs => gs.foldl min g * b
  | _ => b

/-- TAIL in ns. -/
def tailNs (l : LaneState) : Nat := fget l Rg.CYC_BUDGET 31 16 * 1000

/-- HEAD in ns. -/
def headNs (l : LaneState) : Nat := fget l Rg.CYC_BUDGET 15 0 * 1000

/-! The core and its instances (02 R34, R39, R40). -/

/-- The executive runs on the lane's vital core: start-up is over, the core is not stopped, and the lane votes. -/
def execUp (l : LaneState) : Bool := phaseOf l == 4 && !l.c0.halted && votes l

/-- Save the running instance's registers and stacks, in both cores of a twin (02 R39; 03 R68). -/
def saveRun (l : LaneState) : LaneState :=
  let l := updRun l (fun i => { i with ctx0 := l.c0.ctx, ctx1 := l.c1.ctx })
  fset { l with exe := { l.exe with running := none } } Rg.CYC_STATUS 15 12 0

/-- The ready instance of highest priority (02 R34). -/
def bestInst (l : LaneState) : Option Instance :=
  (l.exe.insts.filter (fun i => !i.done && !i.ended && !i.frozen)).foldl (fun b i =>
    match b with
    | none => some i
    | some j => if prioOf l i.slot < prioOf l j.slot then some i else b) none

/-- The vital core runs the ready instance of highest priority, if any. -/
def reschedule (l : LaneState) : LaneState :=
  let l := saveRun l
  if l.c0.halted then l
  else
    match bestInst l with
    | none => l
    | some i =>
      let l := { l with c0 := { l.c0 with ctx := i.ctx0 }, c1 := if isSplit l then l.c1 else { l.c1 with ctx := i.ctx1 },
                        exe := { l.exe with running := some i.slot } }
      fset l Rg.CYC_STATUS 15 12 i.slot

/-- The running instance waits for a backplane completion: a preemption that falls due waits with it (18 R407). -/
def waitsBus (l : LaneState) : Bool :=
  match runInst l with
  | some i => i.susp.isSome
  | none => false

/-- A preemption that falls due: at once, or when the backplane access ends or its budget passes (04 R97; 18 R407). -/
def preempt (l : LaneState) : LaneState := if waitsBus l then l else reschedule l

/-! The input image a lane reads (02 R39). -/

/-- Keys of a table within a range. -/
def inRange (a n : Nat) (e : Nat × Byte) : Bool := decide (a ≤ e.1) && decide (e.1 < a + n)

/-- Replace `n` bytes of memory from `a` by those of a table. -/
def setRegion (m : List (Nat × Byte)) (a n : Nat) (t : List (Nat × Byte)) : List (Nat × Byte) :=
  m.filter (fun e => decide (e.1 < a)) ++ t.filter (inRange a n) ++ m.filter (fun e => decide (a + n ≤ e.1))

/-- The executive writes the input image with its system input block. -/
def writeImage (l : LaneState) (img : List (Nat × Byte)) : LaneState :=
  markDirty { l with mem := setRegion l.mem inBase 65536 img, exe := { l.exe with nextImg := none } } inBase 65536

/-- An instance of an earlier cycle still reads the live image, or a COMMIT of an earlier cycle is outstanding: the image keeps its content; but RESUME writes the image of its own cycle (02 R39, R50; 06 R141; log 30). -/
def keepsInput (l : LaneState) : Bool :=
  l.exe.resumedAt != some l.exe.n && (l.exe.waiting != [] || l.exe.owed.any (fun c => c < l.exe.n) ||
  l.exe.insts.any (fun i => !i.done && !i.ended && i.rel < l.exe.n && readsLive l i.slot))

/-- Write the image kept back, once nothing reads the old one. -/
def flushInput (l : LaneState) : LaneState :=
  match l.exe.nextImg with
  | some img => if keepsInput l then l else writeImage l img
  | none => l

/-! Completion and slack (02 Voltage steering, R53). -/

/-- Slack of an instance that completes now, per mille (02, Voltage steering). -/
def slackOf (l : LaneState) (i : Instance) : Nat :=
  let dl := tOf l (i.due + 1) - tailNs l
  let den : Int := (taskPeriodNs l i.slot : Int) - tailNs l
  if den ≤ 0 then 0 else min ((dl - wNow l) * 1000 / den).toNat 1000

/-- Record the slack and response of an instance that completes now (02 Table CYC-6). -/
def noteDone (l : LaneState) (i : Instance) : LaneState :=
  let s := slackOf l i
  let st := Rg.CYC_TASKt_STAT i.slot
  let l := fset l st 25 16 (min s (fget l st 25 16))
  let resp := min ((wNow l - tOf l i.rel) / 1000).toNat (2 ^ 24 - 1)
  let l := fset l (Rg.CYC_TASKt_RESP i.slot) 23 0 (max resp (fget l (Rg.CYC_TASKt_RESP i.slot) 23 0))
  { l with exe := { l.exe with cycleSlack := min s l.exe.cycleSlack } }

/-- The running instance completes, or a trap ends it: the core goes on with the next (03 R67, R86, R88). -/
def finishInst (l : LaneState) (byTrap : Bool) : LaneState :=
  match runInst l with
  | none => l
  | some i =>
    let l := noteDone l i
    let l := updRun l (fun i => { i with done := !byTrap, ended := byTrap })
    flushInput (reschedule { l with exe := { l.exe with running := none } })

/-- At the end of a cycle its slack enters the history, which an abandoned cycle leaves empty (02 R53, Table CYC-6). -/
def closeSlack (l : LaneState) : LaneState :=
  let s := l.exe.cycleSlack
  let h := if l.exe.abandoned == some l.exe.n then [] else (s :: l.exe.slacks).take 64
  let l := { l with exe := { l.exe with slacks := h, cycleSlack := 1000 } }
  let l := fset (fset l Rg.CYC_SLACK 9 0 s) Rg.CYC_SLACK 25 16 ((h.take 16).foldl min 1000)
  fset l Rg.CYC_SLACK_MIN 9 0 (min s (fget l Rg.CYC_SLACK_MIN 9 0))

/-! Releasing an instance (02 R36, R37, R39, R51, R58; 03 R61). -/

/-- A release of a slot is skipped: counted, and pending in SKIPPED (02 R51, R54, R58). -/
def skipRelease (l : LaneState) (t k : Nat) : LaneState :=
  if k = 0 then l
  else finc { l with exe := { l.exe with skipped := addNew l.exe.skipped [t] } } (Rg.CYC_TASKt_STAT t) 15 8 k

/-- The imports of a slot: the latest published value of each variable (02 R37). -/
def importVars (l : LaneState) (t : Nat) : LaneState :=
  ((l.app.getD {}).xchg.filter (fun x => x.importer == t)).foldl (fun l x => mwr l x.dst (mrd l x.pub x.len)) l

/-- cs of a release of slot `t` at T(n) (02 Table CYC-5). -/
def csOf (l : LaneState) (t n : Nat) (stn : Bool) : Word :=
  let e := l.exe
  BitVec.ofNat 32 (t % 16 + 16 * b2n (e.firstRun.contains t) + 32 * b2n (0 < n && e.abandoned == some (n - 1)) + 64 * b2n (e.skipped.contains t)
    + 128 * b2n (e.tstep.contains t) + 256 * b2n e.degraded + 512 * b2n (l.forces != []) + 1024 * b2n stn)

/-- ii of a slot: the live image for a periodic task with PERIOD 1, otherwise such that image offsets fall into its own copy (02 R39; log 29). -/
def iiOf (l : LaneState) (t : Nat) : Word :=
  if readsLive l t then BitVec.ofNat 32 inBase
  else BitVec.ofInt 32 (((Config.privAddr t).val : Int) - (taskEnt l t).inStart)

/-- The register state of a release (03 R61, Table JFM-1). -/
def ctxOf (l : LaneState) (t n : Nat) (cs : Word) : CoreCtx :=
  let e := taskEnt l t
  let w : Vector Word 32 := Vector.replicate 32 0
  { w := (((w.setIfInBounds 28 (BitVec.ofNat 32 e.gp)).setIfInBounds 29 (iiOf l t)).setIfInBounds 30 (BitVec.ofNat 32 outBase)).setIfInBounds 31 (BitVec.ofNat 32 e.frame),
    ip := (rget l (Rg.CYC_TASKt_ENTRY t)).setWidth 40, tn := BitVec.ofInt 64 (tOf l n), cs := cs }

/-- Release slot `t` for cycle `n` with a cs, its input copy taken from the agreed image given. A release that waited past the abandoned cycle of its deadline has the moved deadline (02 R50, R51). -/
def releaseSlot (l : LaneState) (t n : Nat) (cs : Word) (img : List (Nat × Byte)) : LaneState :=
  let l := importVars l t
  let e := taskEnt l t
  let c := ctxOf l t n cs
  let d := deadlineFrom l t n
  let moved := l.exe.abandoned == some d
  let i : Instance := { slot := t, rel := n, due := if moved then d + 1 else d, moved := b2n moved, ctx0 := c, ctx1 := c,
                        input := if readsLive l t then [] else sbytes img (inBase + e.inStart) (e.inLast + 1 - e.inStart) }
  { l with exe := { l.exe with insts := l.exe.insts ++ [i], firstRun := l.exe.firstRun.filter (· != t),
                               skipped := l.exe.skipped.filter (· != t), tstep := l.exe.tstep.filter (· != t) } }

/-- Whether the event task is released: ERR_EN, and the block holds station events (02 R57). -/
def errDue (l : LaneState) (t : Nat) (stn : Bool) : Bool :=
  stn && bget l Rg.CYC_OVR 12 && fget l Rg.CYC_OVR 11 8 == t && kindOf l t == 3

/-- One slot at T(n): released, skipped while an instance of it is due at or after n, or waiting behind an outstanding COMMIT (02 R50, R51; 03 R88). -/
def boundarySlot (n : Nat) (stn : Bool) (img : List (Nat × Byte)) (l : LaneState) (t : Nat) : LaneState :=
  let known := (l.app.getD {}).tasks.any (fun e => e.slot == t)
  if !(releasesAt l t n || errDue l t stn) || !known || l.exe.stopped.contains t then l
  else if modeOf l = .hold then skipRelease l t 1
  else if l.exe.insts.any (fun i => i.slot == t && n ≤ i.due) then skipRelease l t 1
  else if l.exe.owed.any (fun c => c < n) then
    let cs := csOf l t n stn
    { l with exe := { l.exe with waiting := l.exe.waiting ++ [(t, n, cs)], firstRun := l.exe.firstRun.filter (· != t),
                                 skipped := l.exe.skipped.filter (· != t), tstep := l.exe.tstep.filter (· != t) } }
  else releaseSlot l t n (csOf l t n stn) img

/-- CORES is the entry participant at work, and its QUIESCE waits for a quiet boundary (20 Table PWR-3). -/
def coresWait (l : LaneState) : Bool := fget l Rg.PWR_STATUS 2 0 == 1 && fget l Rg.PWR_STATUS 15 12 == 1 && l.exe.parked.isNone

/-- T(n) is quiet: nothing released before it is still to complete or to retire, and cycle n − 1 was not abandoned (06 R147). -/
def quietAt (l : LaneState) (n : Nat) : Bool :=
  modeOf l == .stop || (l.exe.insts == [] && l.exe.waiting == [] && !(0 < n && l.exe.abandoned == some (n - 1)))

/-- At the first quiet boundary of an entry CORES releases no task any more (20 Table PWR-3). -/
def parkAt (l : LaneState) (n : Nat) : LaneState :=
  if coresWait l && modeOf l != .hold && l.exe.mig.isNone && quietAt l n then { l with exe := { l.exe with parked := some n, stopN := true } } else l

/-- The releases of T(n) (02 R35; 06 R137, R138, R141, R150; 09 R212; 19 Table PRT-1; 20 Table PWR-3). In the cycles of a reload or a migration no task is released. -/
def releaseAll (l : LaneState) (n : Nat) (stn : Bool) (img : List (Nat × Byte)) : LaneState :=
  let l := parkAt l n
  if modeOf l = .stop || isSafe l || isStandby l || 0 < l.exe.cold || l.exe.mig.isSome || l.exe.parked.isSome then l
  else (List.range 16).foldl (boundarySlot n stn img) l

/-- The releases that waited for a late COMMIT take place with the tn, imports and cs they would have had (02 R50). -/
def releaseWaiting (l : LaneState) : LaneState :=
  if l.exe.owed.any (fun c => c < l.exe.n) then l
  else
    let ws := l.exe.waiting
    let img := match l.exe.nextImg with
      | some i => i
      | none => l.mem
    let l := ws.foldl (fun l w => releaseSlot l w.1 w.2.1 w.2.2 img) { l with exe := { l.exe with waiting := [] } }
    flushInput l

/-- Base cycles that were not run between two snapshots, after a time step or a pause, skip their releases (02 R54). -/
def skipMissed (l : LaneState) (n : Nat) : LaneState :=
  if modeOf l = .run && l.exe.snapped then (List.range 16).foldl (fun l t => skipRelease l t (releasesBetween l t l.exe.n n)) l else l

end Sys2Proof.Machine
end

