-- ==== Sys2Proof/Machine/Agree.lean ====
section
/-! DEFINITION. SNAPSHOT and AGREE: the sets, the matching of message items, the closing of AGREE, stations, the records of the input image, and input forces (02 R41 to R43, R55 to R57; 06 R144). -/

namespace Sys2Proof.Machine

/-! Items (02 R42). -/

/-- The port of an item, as a number; items of one snapshot with equal agreed stamps are ordered by it. -/
def itemPort : ItemBody → Nat
  | .consistTel _ => 0
  | .canRx k q _ _ => 1 + 2 * k + b2n q
  | .soe ch _ => 16 + ch
  | .tcap k _ => 128 + k
  | .tlp w _ _ => 160 + w
  | .rm _ => 176
  | .brgFail r => 192 + r
  | .inaug _ => 208
  | .pairRole _ _ _ => 209
  | .power _ => 210
  | .carRx b _ _ _ _ _ => 256 + b

/-- The content of an item, as bytes. -/
def itemBytes : ItemBody → Bytes
  | .consistTel b => b
  | .canRx _ _ f c => leBytes 1 f ++ leBytes 4 c.id.toNat ++ leBytes 1 c.dlc ++ leBytes 1 (b2n c.brs + 2 * b2n c.esi) ++ c.data
  | .soe _ r => leBytes 1 (b2n r)
  | .tcap _ r => leBytes 1 (b2n r)
  | .tlp _ o b => leBytes 4 o ++ b
  | .rm m => leBytes 2 m.code.toNat ++ leBytes 4 m.seq.toNat ++ m.data
  | .brgFail _ => []
  | .inaug b => b
  | .pairRole r p c => leBytes 1 r.toNat ++ leBytes 1 p.toNat ++ leBytes 4 c.toNat
  | .power b => b
  | .carRx _ _ f p c b => leBytes 1 f.toNat ++ leBytes 1 p.toNat ++ leBytes 4 c.toNat ++ b

/-- Items match by port and content; the line a receive-buffer copy came from is no content (02 R42; 13 R308). -/
def sameItem (a b : ItemBody) : Bool := itemPort a == itemPort b && itemBytes a == itemBytes b

/-- How far the stamps of matching items may lie apart, in ns: 5 µs for edges and captures, otherwise 1 µs (02 R42; 12 R289). -/
def itemTol : ItemBody → Int
  | .soe _ _ => 5000
  | .tcap _ _ => 5000
  | _ => 1000

/-- Whether two stamps lie within a distance. -/
def near (tol a b : Int) : Bool := decide (a - b ≤ tol) && decide (b - a ≤ tol)

/-- Whether one item comes before another in a snapshot: by stamp, then port, then content CRC. -/
def itemBefore (a b : MsgItem) : Bool :=
  decide (a.stamp < b.stamp) ||
  (a.stamp == b.stamp && (decide (itemPort a.body < itemPort b.body) ||
    (itemPort a.body == itemPort b.body && decide ((crc64 (itemBytes a.body)).toNat < (crc64 (itemBytes b.body)).toNat))))

/-- Insert before the first element that comes later. -/
def insertBy {α : Type} (lt : α → α → Bool) (a : α) : List α → List α
  | [] => [a]
  | b :: r => if lt a b then a :: b :: r else b :: insertBy lt a r

/-- Sort, keeping the order of equals. -/
def sortBy {α : Type} (lt : α → α → Bool) (xs : List α) : List α := xs.foldl (fun o a => insertBy lt a o) []

/-- Remove the first element that fits. -/
def eraseFirst {α : Type} (p : α → Bool) : List α → List α
  | [] => []
  | a :: r => if p a then r else a :: eraseFirst p r

/-- Matching items of several lanes: the body, the stamps by lane, and how many lanes selected it. -/
structure ItemGrp where
  body : ItemBody
  stamps : List (Lane × Int)
  sel : Nat

/-- Whether a lane's item matches a group: equal port and content, not yet held by that lane, stamps within the tolerance. -/
def ItemGrp.fits (g : ItemGrp) (x : Lane) (i : MsgItem) : Bool :=
  sameItem g.body i.body && !g.stamps.any (fun s => s.1 == x) && g.stamps.all (fun s => near (itemTol i.body) s.2 i.stamp)

/-- Add a lane's item to the first group it matches; an item a lane selected otherwise opens a group. -/
def joinGrp (sel : Bool) (x : Lane) (i : MsgItem) : List ItemGrp → List ItemGrp
  | [] => if sel then [⟨i.body, [(x, i.stamp)], 1⟩] else []
  | g :: gs =>
    if g.fits x i then { g with stamps := g.stamps ++ [(x, i.stamp)], sel := g.sel + b2n sel } :: gs
    else g :: joinGrp sel x i gs

/-- The groups of the sets a lane closed on: selected items in stamp order, then the items held under later stamps. -/
def groupsOf (sets : List (Lane × AgreeSet)) : List ItemGrp :=
  let tag (f : AgreeSet → List MsgItem) : List (Lane × MsgItem) := sets.flatMap (fun s => (f s.2).map (fun i => (s.1, i)))
  let lt (a b : Lane × MsgItem) : Bool := itemBefore a.2 b.2
  let gs := (sortBy lt (tag AgreeSet.items)).foldl (fun gs p => joinGrp true p.1 p.2 gs) []
  (sortBy lt (tag AgreeSet.held)).foldl (fun gs p => joinGrp false p.1 p.2 gs) gs

/-- The agreed stamp: the median of three, the earlier of two (02 R42). -/
def agreedStamp (ss : List Int) : Int :=
  match sortBy (fun a b => decide (a < b)) ss with
  | [_, b, _] => b
  | a :: _ => a
  | [] => 0

/-- Resolve the message items of a snapshot: what two lanes selected enters and is consumed; what one lane alone selected is deferred, and discarded the second time. Answers the lane and the items that enter, with the number of lanes that hold each (02 R42). -/
def resolveItems (l : LaneState) (sets : List (Lane × AgreeSet)) : LaneState × List (MsgItem × Nat) :=
  let gs := groupsOf sets
  let inn := gs.filter (fun g => 2 ≤ g.sel)
  let one := gs.filter (fun g => g.sel = 1)
  let item (g : ItemGrp) : MsgItem := ⟨g.body, agreedStamp (g.stamps.map (·.2))⟩
  let mine (g : ItemGrp) (i : MsgItem) : Bool := sameItem g.body i.body && g.stamps.any (fun s => near (itemTol i.body) s.2 i.stamp)
  let take (l : LaneState) (g : ItemGrp) : LaneState :=
    if l.agree.inbox.any (mine g) then { l with agree := { l.agree with inbox := eraseFirst (mine g) l.agree.inbox } }
    else finc { l with exe := { l.exe with consumed := l.exe.consumed ++ [item g] } } Rg.CYC_AGREE_ITEMS 15 0 1
  let l := inn.foldl take l
  let again (g : ItemGrp) : Bool := g.stamps.length = 1 && l.exe.deferred.any (fun d => sameItem d.body g.body && g.stamps.any (fun s => s.2 == d.stamp))
  let drop (l : LaneState) (g : ItemGrp) : LaneState :=
    finc { l with agree := { l.agree with inbox := if g.stamps.any (fun s => s.1 == l.id) then eraseFirst (mine g) l.agree.inbox else l.agree.inbox } }
      Rg.CYC_AGREE_ITEMS 31 16 1
  let l := { (one.filter again).foldl drop l with exe := { ((one.filter again).foldl drop l).exe with
    deferred := (one.filter (fun g => !again g)).flatMap (fun g => g.stamps.map (fun s => ⟨g.body, s.2⟩)) } }
  (l, sortBy (fun a b => itemBefore a.1 b.1) (inn.map (fun g => (item g, g.stamps.length))))

/-! SNAPSHOT in one lane (02 R41). -/

/-- An item that arrived after an agreed copy was consumed in its place is discarded (02 R42). -/
def dropConsumed (l : LaneState) : LaneState :=
  l.agree.inbox.foldl (fun l i =>
    let hit (c : MsgItem) : Bool := sameItem c.body i.body && near (itemTol i.body) c.stamp i.stamp
    if l.exe.consumed.any hit then
      { l with exe := { l.exe with consumed := eraseFirst hit l.exe.consumed }, agree := { l.agree with inbox := eraseFirst (· == i) l.agree.inbox } }
    else l) l

/-- Show whether forces are in place at a snapshot (06 R146). -/
def showForced (l : LaneState) : LaneState := bset l Rg.SYS_STATUS 3 (l.forces != [])

/-- At T(m + k) a migration is over: the releases it let pass under the new schedule are skipped (06 R150). -/
def endMigration (n : Nat) (l : LaneState) : LaneState :=
  match l.exe.mig with
  | none => l
  | some (m, k) =>
    if n < m + k then l
    else
      let l := { l with exe := { l.exe with mig := none, migDone := false, scratch := [] } }
      if modeOf l ≠ .run then l
      else (List.range 16).foldl (fun l t => skipRelease l t (b2n (releasesAt l t m) + releasesBetween l t m (m + k))) l

/-- SNAPSHOT of cycle `n` in one lane: the cycle number, the boundary's checks, the selected items and field bits, and the set sent to the other lanes (02 R41, R42; 09 R213, R215; 18 R406). -/
def snapshotLane (n : Nat) (l : LaneState) : LaneState :=
  let l := endMigration n (saveRun l)
  let l := if l.exe.snapped then closeSlack l else l
  let l := skipMissed l n
  let l := pairBoundary (dropConsumed (refreshDrivers (delayCheck l)))
  let l := rset64 (fset l Rg.CYC_STATUS 2 0 2) Rg.CYC_CYCLE_LO Rg.CYC_CYCLE_HI (BitVec.ofNat 64 n)
  let p := fieldBits l
  let l := p.2
  let t := tOf l n
  let set : AgreeSet := { n := n, fb := p.1, items := sortBy itemBefore (l.agree.inbox.filter (fun i => decide (i.stamp ≤ t))),
                          held := sortBy itemBefore (l.agree.inbox.filter (fun i => decide (t < i.stamp))) }
  let a := l.agree
  let l := { l with
    agree := { a with own := some set, sets := a.sets.filter (fun s => s.2.n == n), notices := a.notices.filter (fun s => s.2.n == n),
                      waitOver := false, closed := none, applied := false },
    exe := { l.exe with n := n, snapped := true, cold := l.exe.cold - 1, degraded := (voters l).length == 2, ovr := l.exe.ovr.filter (fun o => o.2.1 == n) },
    brg := { l.brg with prefetch := [] } }
  emit (showForced l) (.set set)

/-- AGREE_SET_RECEIVE: another lane's set arrives over its link (02 R42). -/
def execAgreeSetReceive (l src : Lane) (st : AgreeSet) (s : State) : Res :=
  .next (s.onLane l (fun x =>
    if src = x.id || !sees x src || x.tri.linksDown.contains src then x
    else { x with agree := { x.agree with sets := x.agree.sets.filter (fun e => !(e.1 == src && e.2.n == st.n)) ++ [(src, st)] } }))

/-! Closing (02 R43). -/

/-- Whether two sets are identical: the same field bits and the same selected items. -/
def sameSet (a b : AgreeSet) : Bool := decide (a.fb = b.fb) && decide (a.items = b.items)

/-- The sets of voting lanes that a lane holds for its cycle, its own first. -/
def heldSets (l : LaneState) : List (Lane × AgreeSet) :=
  match l.agree.own with
  | none => []
  | some o => (l.id, o) :: l.agree.sets.filter (fun e => e.2.n == o.n && sees l e.1)

/-- How a lane that holds these sets may close: 1 with all three, 2 with one identical to its own, 3 with two that differ once AGREE_WAIT has passed (02 R43). -/
def closeCase (l : LaneState) : Option Notice :=
  match heldSets l with
  | o :: hs =>
    let n := o.2.n
    if hs.length = 2 then some ⟨n, none, 1, o.1 :: hs.map (·.1)⟩
    else
      match hs.find? (fun e => sameSet e.2 o.2) with
      | some e => some ⟨n, none, 2, [o.1, e.1]⟩
      | none =>
        match hs with
        | [e] => if l.agree.waitOver then some ⟨n, (voters l).find? (fun x => x != o.1 && x != e.1), 3, [o.1, e.1]⟩ else none
        | _ => none
  | [] => none

/-- Close AGREE when one of the cases of R43 applies, and send the closing notice. -/
def closeAgree (l : LaneState) : LaneState :=
  if l.agree.closed.isSome || !execUp l then l
  else
    match closeCase l with
    | none => l
    | some nt => emit { bset l Rg.CYC_STATUS 10 (nt.caseNo == 3) with agree := { l.agree with closed := some nt } } (.notice nt)

/-- AGREE_CLOSE: a lane closes AGREE on three sets, on two identical ones, or on two after AGREE_WAIT (02 R43). -/
def execAgreeClose (l : Lane) (s : State) : Res := .next (s.onLane l closeAgree)

/-- AGREE_WAIT_EXPIRY: AGREE_WAIT passes, and a lane with two differing sets closes under case 3 (02 R43). -/
def execAgreeWaitExpiry (l : Lane) (s : State) : Res :=
  .next (s.onLane l (fun x => closeAgree { x with agree := { x.agree with waitOver := true } }))

/-- CLOSING_NOTICE: another lane's closing notice arrives; after the lane has applied its result it changes nothing (02 R43). -/
def execClosingNotice (l src : Lane) (nt : Notice) (s : State) : Res :=
  .next (s.onLane l (fun x =>
    if src = x.id || !sees x src || x.tri.linksDown.contains src then x
    else { x with agree := { x.agree with notices := x.agree.notices.filter (fun e => !(e.1 == src && e.2.n == nt.n)) ++ [(src, nt)] } }))

/-- The sets of the lanes a notice names, when all are held. -/
def setsOf (l : LaneState) (ls : List Lane) : Option (List (Lane × AgreeSet)) :=
  let r := ls.filterMap (fun x => (heldSets l).find? (fun e => e.1 == x))
  if r.length = ls.length then some r else none

/-- The sets whose result a lane applies, with the lane missing from a two-set result: the first rule of R43 that fits. -/
def resultSets (l : LaneState) (own : Notice) : List (Lane × AgreeSet) × Option Notice :=
  let nts := l.agree.notices.filter (fun e => e.2.n == own.n && sees l e.1)
  let naming := nts.filter (fun e => e.2.caseNo == 3 && e.2.missing == some l.id)
  let need := if (voters l).length = 2 then 1 else 2
  let mine : List (Lane × AgreeSet) × Option Notice := ((setsOf l own.lanes).getD [], if own.caseNo = 3 then some own else none)
  match naming with
  | (_, nt) :: _ =>
    if need ≤ naming.length then
      match setsOf l nt.lanes with
      | some r => (r, some nt)
      | none => mine
    else mine
  | [] =>
    match nts.find? (fun e => e.2.caseNo == 2 && own.caseNo == 3 && (setsOf l (e.2.lanes.take 1)).isSome) with
    | some e => (((setsOf l (e.2.lanes.take 1)).getD []).flatMap (fun p => [p, p]), none)
    | none => mine

/-- How many field bits of a lane differ from the agreed ones (02 Table CYC-6). -/
def bitsDiffer (a b : FieldBits) : Nat :=
  let pop {n : Nat} (x : BitVec n) : Nat := ((List.range n).filter (fun i => x.getLsbD i)).length
  pop (a.value ^^^ b.value) + pop (a.wbol ^^^ b.wbol) + pop (a.ext ^^^ b.ext) + pop (a.oc ^^^ b.oc) + pop (a.pfail ^^^ b.pfail)
    + pop (a.railHigh ^^^ b.railHigh) + pop (a.supplyOk ^^^ b.supplyOk) + pop (a.overload ^^^ b.overload) + pop (a.gssFail ^^^ b.gssFail)
    + pop (a.canBus ^^^ b.canBus) + (a.cross.filter (fun c => !b.cross.contains c)).length + (b.cross.filter (fun c => !a.cross.contains c)).length

/-! Stations (02 R55, R57). -/

/-- Whether an agreed item belongs to a station (02 R55; kind 0 receive buffer, 1 CAN queue, 2 safety connection). -/
def stnItem (l : LaneState) (s : Nat) (i : MsgItem) : Bool :=
  l.cfg.stnPorts.any (fun p => p.1 == s &&
    (match i.body with
     | .carRx b _ _ _ _ _ => (p.2.1 == 0 && p.2.2 == b) || (p.2.1 == 2 && (safArrivals l i).1.any (fun a => a.conn == p.2.2))
     | .canRx k q _ _ => (p.2.1 == 1 && p.2.2 == 2 * k + b2n q) || (p.2.1 == 2 && (safArrivals l i).1.any (fun a => a.conn == p.2.2))
     | .consistTel _ => p.2.1 == 2 && (safArrivals l i).1.any (fun a => a.conn == p.2.2)
     | _ => false))

/-- What the executive keeps of a station. -/
def stnOf (l : LaneState) (s : Nat) : StnState := (l.exe.stns.find? (fun e => e.stn == s)).getD { stn := s }

/-- One enabled station at AGREE of the snapshot at `t`: freshness, loss or restoration (02 R55, R57). Answers the lane and the kind of event, if any. -/
def stnStep (l : LaneState) (s : Nat) (t : Int) (items : List MsgItem) : LaneState × Option Nat :=
  let c := Rg.CYC_STNs_CFG s
  let st := Rg.CYC_STNs_STAT s
  let e := stnOf l s
  let newest := (items.filter (stnItem l s)).foldl (fun (m : Option Int) i => some (match m with | none => i.stamp | some v => max v i.stamp)) e.newest
  let fresh := match newest with
    | some v => decide (t - (fget l c 15 0 * 1000000 : Nat) ≤ v)
    | none => false
  let put (l : LaneState) (k : Nat) : LaneState :=
    { l with exe := { l.exe with stns := l.exe.stns.filter (fun x => x.stn != s) ++ [{ stn := s, newest := newest, fresh := k }] } }
  if bget l st 0 then
    if fresh then (put l 0, none) else (finc (bset (put l 0) st 0 false) st 31 16 1, some 1)
  else
    let k := if fresh then e.fresh + 1 else 0
    if fget l c 23 20 + 1 ≤ k then (bset (put l 0) st 0 true, some 2) else (put l k, none)

/-- All enabled stations, in ascending number: their events raised, with the list of them (02 R55, R57, R44). -/
def stationsAgree (l : LaneState) (t : Int) (items : List MsgItem) : LaneState × List (Nat × Nat) :=
  ((List.range 256).filter (fun s => bget l (Rg.CYC_STNs_CFG s) 31)).foldl (fun (p : LaneState × List (Nat × Nat)) s =>
    let r := stnStep p.1 s t items
    match r.2 with
    | none => (r.1, p.2)
    | some k => (raiseV r.1 (if k = 1 then 0x0230 else 0x0231) s, p.2 ++ [(s, k)])) (l, [])

/-- The bytes of lost stations take their substitute: hold last, the configured value, or zero (02 R55). `old` is the agreed image of the snapshot before. -/
def substitutes (l : LaneState) (old img : List (Nat × Byte)) : List (Nat × Byte) :=
  (l.cfg.stnBytes.filter (fun r => bget l (Rg.CYC_STNs_CFG r.1) 31 && !bget l (Rg.CYC_STNs_STAT r.1) 0)).foldl (fun img r =>
    let b := match fget l (Rg.CYC_STNs_CFG r.1) 17 16 with
      | 0 => sbytes old (inBase + r.2.1) r.2.2
      | 1 => sbytes l.cfg.stnFixed r.2.1 r.2.2
      | _ => List.replicate r.2.2 0
    sput img (inBase + r.2.1) b) img

/-- The system input block, from the events delivered at this snapshot (02 Table CYC-4). -/
def systemBlock (l : LaneState) (n : Nat) (evs : List (Nat × Nat × Nat)) : Bytes :=
  let q := (List.range 32).map (fun i => BitVec.ofNat 8 (((List.range 8).map (fun j => b2n (bget l (Rg.CYC_STNs_STAT (8 * i + j)) 0) * 2 ^ j)).foldl (· + ·) 0))
  leBytes 8 n ++ leBytes 4 evs.length ++ leBytes 4 (min l.exe.stnDrop (2 ^ 32 - 1)) ++ q
    ++ padTo 64 (evs.flatMap (fun e => leBytes 2 e.1 ++ leBytes 1 e.2.1 ++ [0] ++ leBytes 4 e.2.2)) ++ List.replicate 144 0

/-- The station event queue at AGREE of `n`: in RUN up to eight of the oldest are delivered, then the new ones join, those that find it full being counted (02 R57). Answers the lane and what is delivered. -/
def stnQueue (l : LaneState) (n : Nat) (new : List (Nat × Nat)) : LaneState × List (Nat × Nat × Nat) :=
  let out := if modeOf l = .run then l.exe.stnQ.take 8 else []
  let q := if modeOf l = .run then l.exe.stnQ.drop 8 else l.exe.stnQ
  let room := 1024 - q.length
  ({ l with exe := { l.exe with stnQ := q ++ (new.take room).map (fun e => (e.1, e.2, n % 2 ^ 32)),
                                stnDrop := min (l.exe.stnDrop + (new.length - room)) (2 ^ 32 - 1) } }, out)

/-! Records of the input image. -/

/-- CAN items into their queues and edges into the SOE ring, in agreed stamp order; a queue or the ring that overran in this cycle records one event (16 R355, R358; 17 R381). -/
def ringsAgree (l : LaneState) (items : List (MsgItem × Nat)) (fb : FieldBits) (img : List (Nat × Byte)) : LaneState × List (Nat × Byte) :=
  let r := items.foldl (fun (p : LaneState × List (Nat × Byte) × List Nat) it =>
    match it.1.body with
    | .canRx k q f c =>
      let a := canAppend p.1 p.2.1 k (b2n q) f it.1.stamp c
      (a.1, a.2.1, if a.2.2 then addNew p.2.2 [2 * k.val + b2n q] else p.2.2)
    | .soe ch up =>
      let a := soeAppend p.1 p.2.1 ch up (it.2 == 2) it.1.stamp
      (a.1, a.2.1, if a.2.2 then addNew p.2.2 [8] else p.2.2)
    | _ => p) (l, img, [])
  let l := ((List.range 8).filter r.2.2.contains).foldl (fun l k => raiseV l 0x0503 (k / 2 + 256 * (k % 2))) r.1
  let l := if r.2.2.contains 8 then raiseV l 0x0605 0xFFFF else l
  (l, soeHeader l (canHeaders l r.2.1 fb.canBus))

/-- Receive-buffer records: the newest item of each enabled receive buffer with FRESH, or FRESH cleared (13 R309, Table CAR-7). -/
def carRecords (l : LaneState) (items : List MsgItem) (img : List (Nat × Byte)) : List (Nat × Byte) :=
  ((List.range 256).filter (fun b => bget l (Rg.CAR_BUFb_CFG b) 0 && bget l (Rg.CAR_BUFb_CFG b) 1)).foldl (fun img b =>
    let a := inBase + fget l (Rg.CAR_BUFb_ADDR b) 15 0
    let mine := items.filter (fun i => match i.body with | .carRx c _ _ _ _ _ => c == b | _ => false)
    match mine.getLast? with
    | some i =>
      (match i.body with
       | .carRx _ y f p c d => sput img a ([BitVec.ofNat 8 (1 + if y then 4 else 2), f, p, 0] ++ leBytes 4 c.toNat ++ padTo (fget l (Rg.CAR_BUFb_CFG b) 26 16) d)
       | _ => img)
    | none => sput img a [sget zByte img a &&& 0xFE#8]) img

/-- A record that a message item replaces, with a CHANGED bit that stands for one snapshot: `reg` gives its offset and enable, `fl` the byte and `bit` the bit of CHANGED. -/
def changedRecord (l : LaneState) (reg fl bit : Nat) (rec : Option Bytes) (img : List (Nat × Byte)) : List (Nat × Byte) :=
  if !bget l reg 16 then img
  else
    let a := inBase + fget l reg 15 0
    match rec with
    | some b => sput img a b
    | none => sput img (a + fl) [sget zByte img (a + fl) &&& ~~~(1#8 <<< bit)]

/-- The last item of a kind in a snapshot. -/
def lastOf (items : List MsgItem) (f : ItemBody → Option Bytes) : Option Bytes := (items.filterMap (fun i => f i.body)).getLast?

/-- The inauguration, pair, power and operator message records (14 R335; 19 R431; 20 R451; 22 R479). -/
def smallRecords (l : LaneState) (items : List MsgItem) (img : List (Nat × Byte)) : List (Nat × Byte) :=
  let img := changedRecord l Rg.INA_CFG 6 4 (lastOf items (fun b => match b with | .inaug d => some d | _ => none)) img
  let img := changedRecord l Rg.PRT_REC 2 0 (lastOf items (fun b => match b with
    | .pairRole r p c => some ([r, p, 1, 0] ++ leBytes 4 c.toNat) | _ => none)) img
  let img := changedRecord l Rg.PWR_REC 3 0 (lastOf items (fun b => match b with | .power d => some d | _ => none)) img
  changedRecord l Rg.MBX_REC 0 0 (lastOf items (fun b => match b with
    | .rm m => some ([1, 0] ++ leBytes 2 m.code.toNat ++ leBytes 4 m.seq.toNat ++ padTo 56 m.data) | _ => none)) img

/-! Forces on an image (06 R144, Table MOD-4). -/

/-- Bytes of a force's WIDTH; a bit lies in one. -/
def forceLen (w : Nat) : Nat := match w with | 2 => 2 | 3 => 4 | 4 => 8 | _ => 1

/-- First byte of a force's location. -/
def forceByte (f : ForceFields) : Nat := if f.width = 0 then f.loc.toNat / 8 else f.loc.toNat

/-- A force applied to a byte table whose image starts at `base`; `keep` names bytes it does not reach. -/
def forceOn (base : Nat) (keep : Nat → Bool) (img : List (Nat × Byte)) (f : ForceFields) : List (Nat × Byte) :=
  if f.width = 0 then
    let a := forceByte f
    let m : Byte := 1#8 <<< (f.loc.toNat % 8)
    if keep a then img
    else
      let old := sget zByte img (base + a)
      sset zByte img (base + a) (if f.value.getLsbD 0 then old ||| m else old &&& ~~~m)
  else
    (List.range (forceLen f.width.toNat)).foldl (fun img i =>
      if keep (forceByte f + i) then img else sset zByte img (base + forceByte f + i) ((f.value >>> (8 * i)).setWidth 8)) img

/-- The forces of an area on an image, in entry order (06 R144). -/
def forcesOn (l : LaneState) (area base : Nat) (keep : Nat → Bool) (img : List (Nat × Byte)) : List (Nat × Byte) :=
  (l.forces.filter (fun e => e.2.f.area.toNat == area)).foldl (fun img e => forceOn base keep img e.2.f) img

/-- Forces that reach EXPIRY_N at cycle `n` are cleared, in entry order, each with EV_FORCE_CLEARED (06 R145, R143). -/
def expireForces (l : LaneState) (n : Nat) : LaneState :=
  let gone := l.forces.filter (fun e => e.2.expiry != 0 && e.2.expiry ≤ n)
  let l := { l with forces := l.forces.filter (fun e => !(e.2.expiry != 0 && e.2.expiry ≤ n)) }
  showForced (gone.foldl (fun l e => raiseV l 0x0202 (e.2.f.sym.toNat % 2 ^ 32)) l)

/-! Applying the agreed result (02 R43, R44, R56, R57). -/

/-- The class of an event the executive raises, as R44 orders them, and its channel within the field I/O class. -/
def evOrder (q : QItem) : Nat × Nat :=
  match q.pay with
  | .event c d _ _ =>
    if c = 0x0230 || c = 0x0231 then (2, 0)
    else if 0x060A ≤ c && c < 0x0700 then (4, 0)
    else if 0x0600 ≤ c && c < 0x060A then (3, if d.toNat = 0xFFFF then 0xFFFF else d.toNat % 256)
    else if 0x0700 ≤ c && c < 0x0800 then (5, 0)
    else if c = 0x0503 then (6, 0)
    else if c = 0x0210 then (7, 0)
    else (1, 0)
  | _ => (0, 0)

/-- Whether an item comes before another by class and channel. -/
def evBefore (a b : QItem) : Bool :=
  let x := evOrder a
  let y := evOrder b
  decide (x.1 < y.1) || (x.1 == y.1 && decide (x.2 < y.2))

/-- At the takeover snapshot each PAIRED output takes its agreed readback as its command, until the first COMMIT (17 R396). -/
def takeReadback (fb : FieldBits) (l : LaneState) : LaneState :=
  let o := fioOut l
  let put (m : List (Nat × Byte)) (i : Nat) : List (Nat × Byte) :=
    let b := sget zByte m (o + i / 8)
    sput m (o + i / 8) [if fb.value.getLsbD i then b ||| (1#8 <<< (i % 8)) else b &&& ~~~(1#8 <<< (i % 8))]
  let hold := (fget l Rg.PRT_CFG 25 16 : Int) * 1000000 + 2 * (baseNs l : Int)
  fioDrive { l with exe := { l.exe with outApplied := ((List.range 96).filter (pairedOut l)).foldl put l.exe.outApplied },
                    prt := { l.prt with takeover := false }, fio := { l.fio with pairUntil := some (wNow l + hold) } }

/-- Apply an agreed result: `sets` are the sets closed on, `two` the notice of a two-set result (02 R43, R44 step 2). -/
def applyAgreed (l : LaneState) (sets : List (Lane × AgreeSet)) (two : Option Notice) : LaneState :=
  let n := l.exe.n
  let t := tOf l n
  let fbs := sets.map (fun s => s.2.fb)
  let fb := agreedBits fbs
  let diff := valueDiff fbs
  let own := (l.agree.own.getD {}).fb
  let l := expireForces l n
  let l := finc l Rg.CYC_AGREE_BITS 31 0 (bitsDiffer own fb)
  let before := l.exe.pendEv
  let l := { l with exe := { l.exe with pendEv := [] } }
  let l := match two with
    | some nt =>
      let l := raiseV l 0x0605 (((List.range 96).find? (fun i => diff.getLsbD i)).getD 0)
      (match nt.missing with
       | some x => if x = l.id then l else { l with tri := { l.tri with accs := l.tri.accs ++ [⟨l.id, x, n, 1, 0⟩] } }
       | none => l)
    | none => l
  let r := resolveItems l sets
  let l := r.1
  let its := r.2.map (·.1)
  let old := l.exe.side
  let p := fioAgree fb diff n l old
  let p := ringsAgree p.1 r.2 fb p.2
  let p := safAgree n its p.1 p.2
  let l := brgAgree its p.1
  let img := smallRecords l its (brgRecord l (carRecords l its p.2))
  let q := stationsAgree l t its
  let l := q.1
  let img := substitutes l old img
  let d := stnQueue l n q.2
  let l := d.1
  let l := { l with exe := { l.exe with side := img, pendEv := before ++ sortBy evBefore l.exe.pendEv } }
  let full := sput (forcesOn l 0 inBase (fun _ => false) img) (inBase + 0xFF00) (systemBlock l n d.2)
  let l := if modeOf l = .hold && l.exe.holdFrom ≤ n then l
    else
      let l := { l with exe := { l.exe with nextImg := some full } }
      if keepsInput l then l else writeImage l full
  let l := releaseAll (if l.prt.takeover then takeReadback fb l else l) n (d.2 != []) full
  let l := { l with agree := { l.agree with applied := true }, exe := { l.exe with owed := l.exe.owed ++ [n] } }
  preempt (fset l Rg.CYC_STATUS 2 0 3)

/-- AGREE_APPLY: the lane holds every notice, or AGREE_WAIT + 2 µs have passed since it closed: it applies the agreed result, imports, and releases what is due (02 R43; log 19). -/
def execAgreeApply (l : Lane) (s : State) : Res :=
  .next (s.onVote l (fun x =>
    match x.agree.closed with
    | some nt =>
      if x.agree.applied || !execUp x then x
      else
        let r := resultSets x nt
        applyAgreed x r.1 r.2
    | none => x))

end Sys2Proof.Machine
end

