-- ==== Sys2Proof/Machine/Ecc.lean ====
section
/-! DEFINITION. The memory codes: error patterns and their decoding, corrected and uncorrectable errors, scrubbing, and error injection (07 R161 to R173). -/

namespace Sys2Proof.Machine

/-! The fields GF(16) and GF(256) (07 R161 to R163). -/

/-- A code: symbol width, field polynomial, and number of symbols. -/
structure RsCode where
  bits : Nat
  poly : Nat
  n : Nat
deriving DecidableEq, Repr

/-- RS(11,8) of SRAM and AOM. -/
def codeSram : RsCode := ⟨4, 0x13, 11⟩
/-- RS(19,16) of DRAM. -/
def codeDram : RsCode := ⟨8, 0x11D, 19⟩

/-- The code of the codeword at an address. -/
def codeAt (cw : Nat) : RsCode := if 0x100000000 ≤ cw then codeDram else codeSram

/-- Multiply by α. -/
def gfDouble (c : RsCode) (a : Nat) : Nat := if 2 ^ c.bits ≤ 2 * a then (2 * a) ^^^ c.poly else 2 * a

/-- Product in the field: `k` bits of `b` still to take. -/
def gfMulFrom (c : RsCode) : Nat → Nat → Nat → Nat
  | 0, _, _ => 0
  | k + 1, a, b => (if b % 2 = 1 then a else 0) ^^^ gfMulFrom c k (gfDouble c a) (b / 2)

/-- Product in the field. -/
def gfMul (c : RsCode) (a b : Nat) : Nat := gfMulFrom c c.bits a b

/-- α to a power. -/
def gfPow (c : RsCode) : Nat → Nat
  | 0 => 1
  | k + 1 => gfDouble c (gfPow c k)

/-- An error pattern: (symbol position, XOR value) pairs. -/
abbrev ErrPat := List (Nat × Nat)

/-- The syndrome of a received codeword, which only its error pattern sets. -/
def syndrome (c : RsCode) (p : ErrPat) (i : Nat) : Nat := p.foldl (fun s e => s ^^^ gfMul c e.2 (gfPow c (i * e.1))) 0

/-- What a decode finds (07 R162). -/
inductive EccRes where
  | good
  | corrected (j v : Nat)
  | bad
deriving DecidableEq, Repr

/-- Decode a pattern (07 R162). -/
def eccDecode (c : RsCode) (p : ErrPat) : EccRes :=
  let s0 := syndrome c p 0
  let s1 := syndrome c p 1
  let s2 := syndrome c p 2
  if s0 = 0 ∧ s1 = 0 ∧ s2 = 0 then .good
  else if s0 ≠ 0 ∧ s1 ≠ 0 ∧ s2 ≠ 0 ∧ gfMul c s1 s1 = gfMul c s0 s2 then
    match (List.range c.n).find? (fun j => gfMul c s0 (gfPow c j) == s1) with
    | some j => .corrected j s0
    | none => .bad
  else .bad

/-- The encoder (07 R161, R163): the check symbols c₀, c₁ and c₂ of data symbols, lowest first. -/
def eccCheck (c : RsCode) (data : List Nat) : Nat × Nat × Nat :=
  data.reverse.foldl (fun (r : Nat × Nat × Nat) d =>
    let t := d ^^^ r.2.2
    (gfMul c t 8, r.1 ^^^ gfMul c t 14, r.2.1 ^^^ gfMul c t 7)) (0, 0, 0)

/-! Errors in a lane's memories (07 R164 to R167). -/

/-- The codeword an address lies in, where the memory has a code. -/
def cwOf (a : Nat) : Option Nat :=
  if a < 0x400000 || (0x1000000 ≤ a && a < 0x1040000) then some (a / 4 * 4)
  else if 0x100000000 ≤ a && a < 0x300000000 then some (a / 16 * 16)
  else none

/-- What remains of a pattern after the decoder, which the stored data takes: nothing after a right correction. -/
def absorb (l : LaneState) (cw : Nat) (p : ErrPat) : LaneState :=
  p.foldl (fun l e =>
    if e.1 < 3 then l
    else
      let a := if cwLen cw = 16 then cw + (e.1 - 3) else cw + (e.1 - 3) / 2
      let v : Byte := BitVec.ofNat 8 (if cwLen cw = 16 then e.2 else e.2 * 16 ^ ((e.1 - 3) % 2))
      { l with mem := sset zByte l.mem a (sget zByte l.mem a ^^^ v) }) l

/-- The location word of Table MEM-9. -/
def eccWhere (cw sym src : Nat) : Nat := cw / 2 ^ 32 % 256 + sym * 256 + src * 8192 + b2n (cwLen cw == 16) * 65536

/-- The data of an ECC event (22 Table EVR-2). -/
def eccData (cw sym src : Nat) : Nat := sym + 32 * src + 256 * b2n (cwLen cw == 16)

/-- A corrected error is counted and reported (07 R165, R171, Table MEM-7). -/
def noteCE (l : LaneState) (cw sym src : Nat) : LaneState :=
  let dram := cwLen cw == 16
  let l := finc l (if dram then Rg.MEM_CE_DRAM else Rg.MEM_CE_SRAM) 31 0 1
  let l := if dram then finc l (Rg.MEM_DEVCE_k (if sym < 3 then 16 + sym else sym - 3)) 31 0 1 else l
  let l := rset (rset l Rg.MEM_CE_ADDR_LO (BitVec.ofNat 32 cw)) Rg.MEM_CE_ADDR_HI (BitVec.ofNat 32 (eccWhere cw sym src))
  event l 0x0C01 (eccData cw sym src) cw

/-- An uncorrectable error is counted and reported (07 R166, R171, Table MEM-7). -/
def noteUE (l : LaneState) (cw src : Nat) : LaneState :=
  let l := if cwLen cw = 16 then finc l Rg.MEM_UE_CNT 31 16 1 else finc l Rg.MEM_UE_CNT 15 0 1
  let l := rset (rset l Rg.MEM_UE_ADDR_LO (BitVec.ofNat 32 cw)) Rg.MEM_UE_ADDR_HI (BitVec.ofNat 32 (eccWhere cw 0 src))
  event (bset l Rg.MEM_STATUS 2 true) 0x0C02 (eccData cw 0 src) cw

/-- Whether split mode assigns the SRAM bank of an address to the auxiliary core (08 Table TRP-4). -/
def auxBank (l : LaneState) (a : Nat) : Bool := isSplit l && decide (a < 0x400000) && bget l Rg.TRP_AUX_BANKS (a / 0x40000)

/-- VDR_BASE and VDR_LEN of the lane (07 Table MEM-7). -/
def vdrBase (l : LaneState) : Nat := (rget64 l Rg.MEM_VDR_BASE_LO Rg.MEM_VDR_BASE_HI).toNat
/-- VDR_LEN. -/
def vdrLen (l : LaneState) : Nat := fget l Rg.MEM_VDR_LEN 26 0

/-- Whether an uncorrectable error at an address touches vital state: the lane must stop (07 R169). Elsewhere the codeword is poisoned (07 R167). -/
def vitalAddr (l : LaneState) (a : Nat) : Bool :=
  (decide (a < 0x400000) && !auxBank l a) || (0x1000000 ≤ a && a < 0x1040000) || (0x100000000 ≤ a && a < 0x110000000)
    || (vdrBase l ≤ a && a < vdrBase l + vdrLen l)

/-- Mark a codeword poisoned (07 R167). -/
def poisonCw (l : LaneState) (cw : Nat) : LaneState :=
  let p := addNew l.ecc.poison [cw]
  rset { l with ecc := { l.ecc with poison := p } } Rg.MEM_POISON_CNT (BitVec.ofNat 32 p.length)

/-- A read of one codeword: a correctable error is corrected and written back. An uncorrectable codeword outside the vital memory is marked poisoned. Answers the lane, whether the codeword is uncorrectable, and whether it was corrected (07 R162, R165, R167). -/
def eccTouch (l : LaneState) (cw src : Nat) : LaneState × Bool × Bool :=
  if l.ecc.poison.contains cw then (noteUE l cw src, true, false)
  else
    match l.ecc.errs.find? (fun e => e.1 == cw) with
    | none => (l, false, false)
    | some e =>
      let clean (l : LaneState) : LaneState := { l with ecc := { l.ecc with errs := l.ecc.errs.filter (fun x => x.1 != cw) } }
      match eccDecode (codeAt cw) e.2 with
      | .good => (absorb (clean l) cw e.2, false, false)
      | .corrected j v => (noteCE (absorb (clean l) cw (e.2 ++ [(j, v)])) cw j src, false, true)
      | .bad =>
        let l := noteUE l cw src
        (if vitalAddr l cw then l else poisonCw l cw, true, false)

/-- A read of a range: every codeword it touches that holds an error is decoded. Answers whether one is uncorrectable. -/
def eccRange (l : LaneState) (a n src : Nat) : LaneState × Bool :=
  let cws := addNew (l.ecc.poison) (l.ecc.errs.map (·.1))
  (cws.filter (fun cw => decide (cw < a + n) && decide (a < cw + cwLen cw))).foldl (fun (p : LaneState × Bool) cw =>
    let r := eccTouch p.1 cw src
    (r.1, p.2 || r.2.1)) (l, false)

/-- One end of a store to a range: its codeword is decoded when it is not written whole. -/
def eccEdge (a n : Nat) (p : LaneState × Bool) (x : Nat) : LaneState × Bool :=
  match cwOf x with
  | none => p
  | some cw =>
    if p.2 || (a ≤ cw && cw + cwLen cw ≤ a + n) then p
    else ((eccTouch p.1 cw 4).1, (eccTouch p.1 cw 4).2.1)

/-- The read half of a store that covers only part of a codeword: its first and last codeword are decoded when they are not written whole (07 R164). -/
def eccPartial (l : LaneState) (a n : Nat) : LaneState × Bool := eccEdge a n (eccEdge a n (l, false) a) (a + n - 1)

/-- The executive meets an uncorrectable error in memory it reads: the lane stops its vital core at once (07 R166; 03 R89). -/
def execReads (l : LaneState) (areas : List (Nat × Nat)) : LaneState × Bool :=
  let r := areas.foldl (fun (p : LaneState × Bool) e => let q := eccRange p.1 e.1 e.2 5; (q.1, p.2 || q.2)) (l, false)
  if r.2 then (coreStop r.1, true) else (r.1, false)

/-! Scrubbing (07 R168, R169). -/

/-- The scrubber reads, decodes and writes back one codeword (07 R168, R169). -/
def scrubCw (l : LaneState) (cw : Nat) : LaneState :=
  if l.ecc.poison.contains cw then l
  else
    let r := eccTouch l cw 2
    let l := r.1
    if r.2.1 then (if vitalAddr l cw then { l with ecc := { l.ecc with uePending := true } } else l)
    else if r.2.2 then
      let l := if l.ecc.fixedLast.contains cw then finc l Rg.MEM_STUCK_CNT 31 0 1 else l
      { l with ecc := { l.ecc with fixedNow := addNew l.ecc.fixedNow [cw] } }
    else l

/-- A pass ends: its position returns to 0, it is counted, and the words it corrected are those of the last pass. -/
def passEnd (l : LaneState) (dram : Bool) : LaneState :=
  let mine (cw : Nat) : Bool := (cwLen cw == 16) == dram
  let l := if dram then fset (rset l Rg.MEM_SCRUB_POS_DRAM 0) Rg.MEM_SCRUB_PASSES 31 16 (fget l Rg.MEM_SCRUB_PASSES 31 16 + 1)
    else fset (rset l Rg.MEM_SCRUB_POS_SRAM 0) Rg.MEM_SCRUB_PASSES 15 0 (fget l Rg.MEM_SCRUB_PASSES 15 0 + 1)
  { l with ecc := { l.ecc with fixedLast := l.ecc.fixedLast.filter (fun c => !mine c) ++ l.ecc.fixedNow.filter mine,
                               fixedNow := l.ecc.fixedNow.filter (fun c => !mine c) } }

/-- The address of word `i` of the SRAM pass, which covers SRAM and then AOM. -/
def sramPos (i : Nat) : Nat := if i < 0x100000 then 4 * i else 0x1000000 + 4 * (i - 0x100000)

/-- One scrubbing step at the position of a pass: one word, or the four codewords of one DRAM line (log 32). -/
def scrubStep (l : LaneState) (dram : Bool) : LaneState :=
  if dram then
    let i := fget l Rg.MEM_SCRUB_POS_DRAM 26 0
    let l := bset ((List.range 4).foldl (fun l m => scrubCw l (0x100000000 + 64 * i + 16 * m)) l) Rg.MEM_STATUS 1 true
    if i + 1 = 2 ^ 27 then passEnd l true else fset l Rg.MEM_SCRUB_POS_DRAM 26 0 (i + 1)
  else
    let i := fget l Rg.MEM_SCRUB_POS_SRAM 20 0
    let l := bset (scrubCw l (sramPos i)) Rg.MEM_STATUS 0 true
    if i + 1 = 1114112 then passEnd l false else fset l Rg.MEM_SCRUB_POS_SRAM 20 0 (i + 1)

/-- SCRUB_CODEWORD: the scrubber's next codeword, in every mode; not in STANDBY or DORMANT, nor in DRAM in self-refresh (07 R168, R169). -/
def execScrubCodeword (l : Lane) (dram : Bool) (s : State) : Res :=
  .next (s.onLane l (fun x => if !x.pwr.supply || phaseOf x < 4 || x.pwr.gated.contains 0xB || (dram && bget x Rg.MEM_STATUS 3) then x else scrubStep x dram))

/-- SCRUB_UE_STOP: at the base-cycle boundary after an uncorrectable error in vital memory the lane stops its vital core (07 R169). -/
def execScrubUeStop (l : Lane) (s : State) : Res :=
  .next (s.onLane l (fun x => if x.ecc.uePending then coreStop { x with ecc := { x.ecc with uePending := false } } else x))

/-! Error injection (07 R172, Table MEM-10). -/

/-- Whether a write of MEM_ECC_INJ arms an injection the memory can take (07 Table MEM-10). -/
def injOk (l : LaneState) (v : Word) : Bool :=
  match cwOf (rget64 l Rg.MEM_ECC_INJ_ADDR_LO Rg.MEM_ECC_INJ_ADDR_HI).toNat with
  | none => false
  | some cw =>
    let n := (codeAt cw).n
    decide (getBits v 4 0 < n) && (!v.getLsbD 24 || (decide (getBits v 12 8 < n) && getBits v 4 0 != getBits v 12 8))

/-- A write of MEM_ECC_INJ: one that would arm an impossible injection changes nothing and leaves ARM at 0. -/
def injWrite (l : LaneState) (v : Word) : LaneState :=
  if v.getLsbD 31 && !injOk l v then (if modeOf l = .stop then bset l Rg.MEM_ECC_INJ 31 false else l) else plainWrite l Rg.MEM_ECC_INJ v

/-- MEM_ECC_INJ: arms an error for the next write of a codeword (07 R172). -/
def execMemEccInj (l : Lane) (ag : Agent) (v : Word) (s : State) : Res :=
  .next (s.onLane l (fun x => guardWrite x ag Rg.MEM_ECC_INJ (fun x => injWrite x v)))

end Sys2Proof.Machine
end

