-- ==== Sys2Proof/Machine/Commit.lean ====
section
/-! DEFINITION. The commit point, abandoned cycles, COMMIT and DIGEST (02 R44, R50 to R53, R59; 03 R87, R88; 06 R137, R140, R141; 08 R182; 09 R197). -/

namespace Sys2Proof.Machine

/-! The committed image (02 R44 step 1). -/

/-- Output-image bytes `a` to `a + n - 1` take what the table `t` has at `base` and up. -/
def copyRange (img t : List (Nat × Byte)) (base a n : Nat) : List (Nat × Byte) :=
  setRegion img a n ((t.filter (inRange (base + a) n)).map (fun e => (e.1 - base, e.2)))

/-- The write-set ranges of a task: first offset and length (03 Table JFM-11). -/
def wsetOf (l : LaneState) (t : Nat) : List (Nat × Nat) :=
  ((l.app.getD {}).wsets.filter (fun w => w.1 == t)).map (fun w => (w.2.1, w.2.2 + 1 - w.2.1))

/-- Whether an instance ended by a trap and its task stops (03 R88, FAULT_ACTION 0). -/
def stopsTask (l : LaneState) (i : Instance) : Bool := i.ended && !(taskEnt l i.slot).faultSafe

/-- The write sets of the due instances: working values, or stop values for a task that stops (02 R44; 03 R88). -/
def takeWrites (l : LaneState) (due : List Instance) (img : List (Nat × Byte)) : List (Nat × Byte) :=
  due.foldl (fun img i => (wsetOf l i.slot).foldl (fun img w =>
    if stopsTask l i then copyRange img l.cfg.stopImg 0 w.1 w.2 else copyRange img l.mem outBase w.1 w.2) img) img

/-- Whether an output byte holds a safety-assigned bit. -/
def safetyByte (l : LaneState) (a : Nat) : Bool := l.cfg.safeOut.any (fun b => b / 8 == a)

/-- Bytes that hold safety-assigned bits take their stop values (06 R141). -/
def stopSafety (l : LaneState) (img : List (Nat × Byte)) : List (Nat × Byte) :=
  (l.cfg.safeOut.map (· / 8)).foldl (fun img a => sset zByte img a (sget zByte l.cfg.stopImg a)) img

/-- The program values of the image a COMMIT offers (02 R44; 06 R137, R141, R150; 20 Table PWR-3): the stop image once CORES has parked, and during a migration those committed before it. -/
def progImage (l : LaneState) (due : List Instance) : List (Nat × Byte) :=
  if l.exe.parked.isSome then l.cfg.stopImg.filter (inRange 0 outLen)
  else if l.exe.mig.isSome then l.exe.outProg
  else
    match modeOf l with
    | .run => takeWrites l due l.exe.outProg
    | .hold => stopSafety l l.exe.outProg
    | .stop => l.cfg.stopImg.filter (inRange 0 outLen)

/-- The image a COMMIT offers: output forces on the program values, in HOLD outside safety-assigned bytes, nowhere in STOP and once CORES has parked (06 R137, R144; 20 Table PWR-3). -/
def commitImage (l : LaneState) (prog : List (Nat × Byte)) : List (Nat × Byte) :=
  if l.exe.parked.isSome then prog
  else
    match modeOf l with
    | .run => forcesOn l 1 0 (fun _ => false) prog
    | .hold => forcesOn l 1 0 (safetyByte l) prog
    | .stop => prog

/-! The items a COMMIT offers (02 R44 steps 2 and 3, R51). -/

/-- Due instances in the order of their items: those whose deadline abandoned cycles moved first, then by priority (02 R44, R51). -/
def dueBefore (l : LaneState) (a b : Instance) : Bool :=
  decide (b.moved < a.moved) || (a.moved == b.moved && decide (prioOf l a.slot < prioOf l b.slot))

/-- An item as its COMMIT offers it: the FLAGS of a telegram and of a slot buffer are those of the COMMIT (10 R238; 13 R297). -/
def finishItem (l : LaneState) (q : QItem) : QItem :=
  match q.pay with
  | .telegram c b => { q with pay := .telegram c (safFinish l c b) }
  | .slotBuf b _ d => { q with pay := .slotBuf b (safFlags l) d }
  | _ => q

/-- Steps 3 to 6 of R137 are in force: STOP, or CORES parked for a power-state entry (06 R137; 20 Table PWR-3). -/
def stopping (l : LaneState) : Bool := modeOf l == .stop || l.exe.parked.isSome

/-- The stop content of every vital slot buffer, at the first COMMIT of STOP, of a parked CORES and of HOLD (06 R137 step 4, R141). -/
def stopItems (l : LaneState) : List QItem :=
  if (stopping l && l.exe.stopN) || (modeOf l = .hold && !l.exe.holdStop) then
    (sortBy (fun a b : Nat × Bytes => decide (a.1 < b.1)) l.cfg.stopBufs).map (fun e => ⟨0x300 + e.1, .slotBuf e.1 (safFlags l) e.2⟩)
  else []

/-! The state digest (02 R59). -/

/-- A force table entry as bytes (06 Table MOD-4). -/
def forceBytes (e : ForceEnt) : Bytes :=
  leBytes 8 e.f.sym.toNat ++ leBytes 8 e.f.typeHash.toNat ++ [e.f.area, e.f.width] ++ leBytes 2 (b2n e.safety)
    ++ leBytes 4 e.f.loc.toNat ++ leBytes 8 e.f.value.toNat ++ leBytes 8 e.expiry ++ leBytes 8 0

/-- The force table as bytes, 512 entries in order. -/
def forceTable (l : LaneState) : Bytes :=
  (List.range 512).flatMap (fun i =>
    match l.forces.find? (fun e => e.1 == i) with
    | some e => forceBytes e.2
    | none => List.replicate 48 0)

/-- Every address of a register row. -/
def rowAddrs (r : RegRow) : List Nat :=
  r.dims.foldl (fun as d => as.flatMap (fun a => (List.range d.2).map (fun i => a + d.1 * i))) [r.base]

/-- The addresses of the RWS registers, ascending. -/
def rwsAddrs : List Nat :=
  (List.range 20).flatMap (fun b => sortBy (fun x y : Nat => decide (x < y)) ((((blockRows b).filter (fun r => r.acc == .rws)).map rowAddrs).flatten))

/-- The instance data of a task: the nested frame of its root block (03 Tables JFM-5, JFM-10). -/
def frameData (l : LaneState) (t : Nat) : Bytes :=
  match (l.app.getD {}).blocks[(taskEnt l t).rootBt]? with
  | some b => mrd l (taskEnt l t).frame (8 * b.2)
  | none => []

/-- The published export copies, ascending: address and length. -/
def pubAreas (l : LaneState) : List (Nat × Nat) :=
  addNew [] (sortBy (fun a b : Nat × Nat => decide (a.1 < b.1)) ((l.app.getD {}).xchg.map (fun x => (x.pub, x.len))))

/-- The bytes the state digest runs over (02 R59). -/
def digestBytes (l : LaneState) (due : List Instance) : Bytes :=
  sbytes l.exe.outComm 0 outLen ++ mrd l inBase 65536 ++ ((pubAreas l).map (fun p => mrd l p.1 p.2)).flatten ++ forceTable l
    ++ rwsAddrs.flatMap (fun a => leBytes 4 (rget l a).toNat)
    ++ ((sortBy (fun a b : Nat × Bytes => decide (a.1 < b.1)) (due.map (fun i => ((taskEnt l i.slot).frame, frameData l i.slot)))).map (·.2)).flatten

/-- DIGEST of a cycle: computed, kept for comparison, and sent in a type 3 record. -/
def digestStep (l : LaneState) (due : List Instance) (n : Nat) : LaneState :=
  let d := crc64 (digestBytes l due)
  sendRec { l with exe := { l.exe with digest := d }, tri := { l.tri with sdigs := l.tri.sdigs ++ [(l.id, n, d)] } } 3 0xFFFF 0 n d 0

/-- The rotating Tightrope test after DIGEST: in a twin that compares it passes, is counted, and the index advances (08 R182). -/
def rotatingTest (l : LaneState) : LaneState :=
  if fget l Rg.TRP_STATUS 1 0 != 0 then l
  else
    let l := rset l Rg.TRP_TEST_CNT (rget l Rg.TRP_TEST_CNT + 1)
    fset l Rg.TRP_STATUS 13 8 ((fget l Rg.TRP_STATUS 13 8 + 1) % 48)

/-! COMMIT (02 R44). -/

/-- The instances due at the COMMIT of cycle `n`. -/
def dueInsts (l : LaneState) (n : Nat) : List Instance :=
  if modeOf l = .run then sortBy (dueBefore l) (l.exe.insts.filter (fun i => decide (i.due ≤ n))) else []

/-- Export copies of the instances that completed are published (02 R37). -/
def publish (l : LaneState) (due : List Instance) : LaneState :=
  ((l.app.getD {}).xchg.filter (fun x => due.any (fun i => i.done && i.slot == x.exporter))).foldl (fun l x => mwr l x.pub (mrd l x.src x.len)) l

/-- What a COMMIT changes besides what it offers: acknowledged ring records are freed, the instances retire, tasks that stop stop, and a trap may ask for the safe state (03 R88; 16 R357). -/
def retire (l : LaneState) (due : List Instance) (n : Nat) : LaneState :=
  let acks := due.flatMap (fun i => i.acks)
  let l := acks.foldl (fun l a => setRing l a.1 ((ringOf l a.1).1, a.2, (ringOf l a.1).2.2)) l
  let e := l.exe
  { l with exe := { e with
      insts := e.insts.filter (fun i => !(due.any (fun j => j.slot == i.slot && j.rel == i.rel))),
      stopped := addNew e.stopped ((due.filter (stopsTask l)).map (·.slot)),
      safeReq := if due.any (fun i => i.ended && (taskEnt l i.slot).faultSafe) then e.safeReq ++ [n] else e.safeReq } }

/-- COMMIT and DIGEST of cycle `n` in one lane. -/
def commitLane (n : Nat) (l : LaneState) : LaneState :=
  let l := if l.exe.parked = some n then canCancelVital l else l
  let due := dueInsts l n
  let undo : Undo := { n := n, seqs := l.tri.seqs, due := due, outProg := l.exe.outProg, outComm := l.exe.outComm,
                       pubs := (pubAreas l).map (fun p => (p.1, mrd l p.1 p.2)), events := l.exe.pendEv, rings := l.exe.rings, stopped := l.exe.stopped }
  let prog := progImage l due
  let img := commitImage l prog
  let stop := stopItems l
  let l := { l with exe := { l.exe with outProg := prog, outComm := img, undo := some undo } }
  let l := publish l due
  let items := [⟨0, .outImage img⟩] ++ stop ++ l.exe.pendEv ++ (due.flatMap (fun i => i.items)).map (finishItem l)
  let l := { l with exe := { l.exe with pendEv := [], stopN := l.exe.stopN && !stopping l, holdStop := l.exe.holdStop || modeOf l == .hold } }
  let l := retire (items.foldl (fun l q => offer l q n) l) due n
  let k := (l.tri.items.filter (fun v => v.cycle == n)).length
  let l := sendRec { l with tri := { l.tri with counts := l.tri.counts ++ [(l.id, n, k)] } } 2 0xFFFF 0 n 0 k
  let l := rotatingTest (fioCommit (digestStep (compareCounts l n) due n))
  let l := { l with exe := { l.exe with owed := l.exe.owed.filter (· != n) } }
  preempt (fset (releaseWaiting l) Rg.CYC_STATUS 2 0 0)

/-- The work of a migration cycle is still to do: the new image is not loaded, or in the last cycle the copies are not written (06 R150, R151). -/
def migBehind (l : LaneState) : Bool :=
  match l.exe.mig with
  | some (m, k) => decide (m ≤ l.exe.n) && (l.exe.migNew.isSome || (l.exe.n + 1 == m + k && !l.exe.migDone))
  | none => false

/-- Whether the COMMIT of cycle `n` can run: every instance due there has completed or ended (02 R44, Table CYC-2). -/
def commitReady (l : LaneState) (n : Nat) : Bool := execUp l && !isSafe l && !migBehind l && (dueInsts l n).all (fun i => i.done || i.ended)

/-- A trap that at least two voting lanes saw, of a task whose FAULT_ACTION is the safe state, puts the module there at its COMMIT (03 R87, R88). -/
def State.trapSafe (s : State) : State :=
  let vs := s.voting
  let hit (n : Nat) : Bool := min 2 vs.length ≤ (vs.filter (fun x => (s.lane x).exe.safeReq.contains n)).length
  if vs.any (fun x => (s.lane x).exe.safeReq.any hit) then s.onLanes (fun x => if votes x then enterSafe x 6 else x) else s

/-- The memory a COMMIT and its DIGEST read (02 R44, R59). -/
def commitReads (l : LaneState) (n : Nat) : List (Nat × Nat) :=
  [(outBase, outLen), (inBase, 65536)] ++ pubAreas l ++ (dueInsts l n).map (fun i => ((taskEnt l i.slot).frame, (frameData l i.slot).length))

/-- COMMIT: once the instances due have completed, the lane offers the output image and its vote items in the fixed order and sends its state digest (02 R44, R59). In a standby role it offers nothing (19 R420); an uncorrectable memory error stops the vital core instead (07 R166). The lanes compare the partner-link frames (19 R421). -/
def execCommit (l : Lane) (s : State) : Res :=
  let own := s.sends l 8
  let t := s.onVote l (fun x =>
    match x.exe.owed with
    | [] => x
    | n :: _ =>
      if !commitReady x n then x
      else if isStandby x then pairSend own n { x with exe := { x.exe with owed := x.exe.owed.drop 1 } }
      else
        let r := execReads x (commitReads x n)
        if r.2 then r.1 else pairSend own n (commitLane n r.1))
  let t := if (t.lane l).prt.frames != (s.lane l).prt.frames then t.linkTaps l else t
  .next t.trapSafe

/-! The commit point (02 R50 to R52; 06 R140). -/

/-- The instances due at the commit point of `n` that have not completed, and the releases due there that still wait. -/
def lateSlots (l : LaneState) (n : Nat) : List Nat :=
  (l.exe.insts.filter (fun i => decide (i.due ≤ n) && !i.done && !i.ended)).map (·.slot)
    ++ (l.exe.waiting.filter (fun w => decide (deadlineFrom l w.1 w.2.1 ≤ n))).map (·.1)

/-- What a lane reports at the commit point of `n`: a breakpoint hit takes the place of the overrun (06 R140). -/
def pointResult (l : LaneState) (n : Nat) : OvrKind :=
  if migBehind l then .overrun
  else if modeOf l ≠ .run || lateSlots l n = [] then .onTime
  else if l.exe.insts.any (fun i => decide (i.due ≤ n) && i.bpHit && !i.done && !i.ended) then .bpHit
  else .overrun

/-- Undo what the COMMIT of an abandoned cycle changed: the items of cycle `n` other than backplane accesses are withdrawn, with everything published or retired (02 R50, R51). -/
def undoCommit (l : LaneState) (n : Nat) : LaneState :=
  let t := l.tri
  let far (st : Nat) : Bool := 0x400 ≤ st && st < 0x500
  let l := { l with
    tri := { t with items := t.items.filter (fun v => v.cycle != n || far v.q.stream), digs := t.digs.filter (fun d => d.cycle != n || far d.stream),
                    counts := t.counts.filter (fun c => c.2.1 != n), sdigs := t.sdigs.filter (fun c => c.2.1 != n) },
    exe := { l.exe with owed := l.exe.owed.filter (· != n), safeReq := l.exe.safeReq.filter (· != n) } }
  match l.exe.undo with
  | some u =>
    if u.n ≠ n then l
    else
      let seqs := u.seqs.filter (fun e => e.1 < 0x400) ++ l.tri.seqs.filter (fun e => far e.1) ++ u.seqs.filter (fun e => 0x500 ≤ e.1)
      let l := u.pubs.foldl (fun l p => mwr l p.1 p.2) { l with tri := { l.tri with seqs := seqs } }
      { l with exe := { l.exe with insts := u.due ++ l.exe.insts, outProg := u.outProg, outComm := u.outComm, pendEv := u.events ++ l.exe.pendEv,
                                   rings := u.rings, stopped := u.stopped, undo := none } }
  | none => l

/-- Cycle `n` is abandoned in the lane (02 R50 to R53); a migration cycle is the safe state instead (06 R151). -/
def abandonCycle (l : LaneState) (n : Nat) : LaneState :=
  let mask := ((addNew [] (lateSlots l n)).map (fun t => 2 ^ t)).foldl (· + ·) 0
  let l := bset (finc (event l 0x0220 mask) Rg.CYC_ABANDON_CNT 31 0 1) Rg.CYC_STATUS 9 true
  if l.exe.mig.isSome then enterSafe l 7
  else
    let l := undoCommit l n
    let runs := if 0 < n && l.exe.abandoned == some (n - 1) then l.exe.abandonRun + 1 else 1
    let l := { l with exe := { l.exe with
      insts := l.exe.insts.map (fun i => if i.due = n then { i with due := n + 1, moved := i.moved + 1 } else i),
      abandoned := some n, abandonRun := runs, slacks := [] } }
    if fget l Rg.CYC_OVR 3 0 ≤ runs then enterSafe l 5 else l

/-- HOLD takes effect: every instance freezes, pending vital mailboxes are cancelled, and the agreed images from cycle `from_` on go to the side buffer (06 R140, R141; 16 R363). -/
def enterHold (l : LaneState) (from_ : Nat) : LaneState :=
  let l := canCancelVital (setMode l .hold)
  saveRun { l with exe := { l.exe with insts := l.exe.insts.map (fun i => { i with frozen := true }), holdFrom := from_, holdStop := false } }

/-- The decision on cycle `n`, once two matching results are held: a breakpoint hit by one lane alone counts as its overrun (02 R50; 06 R140). -/
def decidePoint (l : LaneState) (n : Nat) : LaneState :=
  let rs := l.exe.ovr.filter (fun o => o.2.1 == n && sees l o.1)
  let cnt (k : OvrKind) : Nat := (rs.filter (fun o => o.2.2 == k)).length
  if l.exe.abandoned == some n || (modeOf l ≠ .run && l.exe.mig.isNone) || isSafe l then l
  else if 2 ≤ cnt .bpHit then
    if l.exe.mig.isSome then l else enterHold (undoCommit l n) (n + 1)
  else if 2 ≤ cnt .overrun + cnt .bpHit then abandonCycle l n
  else if 2 ≤ cnt .onTime then bset { l with exe := { l.exe with abandonRun := 0 } } Rg.CYC_STATUS 9 false
  else l

/-- COMMIT_POINT: at T(n + 1) − TAIL the lane decides whether every instance due has completed, counts an overrun, and sends the result (02 R50). -/
def execCommitPoint (l : Lane) (s : State) : Res :=
  .next (s.onLane l (fun x =>
    let n := x.exe.n
    if !execUp x || isSafe x || x.exe.ovr.any (fun o => o.1 == x.id && o.2.1 == n) then x
    else
      let k := pointResult x n
      let x := if k = .overrun then
          (addNew [] (lateSlots x n)).foldl (fun x t => finc x (Rg.CYC_TASKt_STAT t) 7 0 1) (finc x Rg.CYC_OVR_CNT 31 0 1)
        else x
      decidePoint (emit { x with exe := { x.exe with ovr := x.exe.ovr ++ [(x.id, n, k)] } } (.overrun n k)) n))

/-- OVERRUN_REPORT: another lane's result arrives (02 R50). -/
def execOverrunReport (l src : Lane) (n : Nat) (r : OvrKind) (s : State) : Res :=
  .next (s.onLane l (fun x =>
    if src = x.id || !sees x src || !votes x || n ≠ x.exe.n || x.exe.ovr.any (fun o => o.1 == src && o.2.1 == n) then x
    else decidePoint { x with exe := { x.exe with ovr := x.exe.ovr ++ [(src, n, r)] } } n))

end Sys2Proof.Machine
end

