-- ==== Sys2Proof/Machine/Operands.lean ====
section
/-! DEFINITION. A Jexgiord core's operands: working registers and pairs, effective addresses, and what one instruction asks of the core (03 Tables JFM-1, JFM-2, R61 to R66; 04 R95, R98, R99, R109; 05 R117, R118). -/

namespace Sys2Proof.Machine

/-! What an instruction asks. -/

/-- What an instruction may depend on beside the core's registers: the kind of core, its image, the lane, working time, and whether DIAG words execute here. -/
structure Env where
  vital : Bool
  app : AppImage
  lane : Nat
  now : Int
  diag : Bool
  swBrk : Bool

/-- What an instruction asks of its core: a trap with its cause and faulting address, the next register state (with the event that sets E, if any), or one access with what follows from it. -/
inductive Op where
  | trap (cause addr : Nat)
  | fin (c : CoreCtx) (e : Bool)
  | mts (c : CoreCtx)
  | halt
  | complete (c : CoreCtx)
  | evt (code : Nat) (data : Word) (c : CoreCtx)
  | load (ea size : Nat) (k : Nat → CoreCtx)
  | store (ea size v : Nat) (c : CoreCtx)
  | swap (ea : Nat) (v : Word) (k : Word → CoreCtx)
  | bit (ea : Nat) (write : Bool) (k : Byte → CoreCtx × Byte)
  | block (ea len : Nat) (k : Bytes → CoreCtx × Bytes × Bool)
  | cache (kind ea : Nat) (c : CoreCtx)

/-- The meaning of an instruction on a core. -/
abbrev Sem := Env → CoreCtx → Op

/-! Trap causes (03 Table JFM-8). -/

/-- ILLEGAL_INSTRUCTION. -/
def illegal : Op := .trap 1 0
/-- BASE_REG_WRITE. -/
def baseWrite : Op := .trap 2 0
/-- LOOP_BOUND. -/
def loopBound : Op := .trap 7 0
/-- RSTACK_OVERFLOW. -/
def rstackOver : Op := .trap 6 0
/-- SOFTWARE. -/
def software : Op := .trap 0xA 0

/-! Working registers (03 R61 to R63). -/

/-- A word register: w0 reads 0. -/
def wget (c : CoreCtx) (r : Nat) : Word := if r = 0 then 0 else c.w[r]?.getD 0

/-- Write a word register: a write of w0 is discarded. -/
def wset (c : CoreCtx) (r : Nat) (v : Word) : CoreCtx := if r = 0 then c else { c with w := c.w.setIfInBounds r v }

/-- A pair, named by its even register. -/
def dget (c : CoreCtx) (r : Nat) : DWord := (wget c (r + 1) ++ wget c r : BitVec 64)

/-- Write a pair. -/
def dset (c : CoreCtx) (r : Nat) (v : DWord) : CoreCtx := wset (wset c r (v.setWidth 32)) (r + 1) ((v >>> 32).setWidth 32)

/-- A pair field that is odd or 0 (03 R63). -/
def badPair (r : Nat) : Bool := r % 2 == 1 || r == 0

/-- A destination among w28 to w31, which only the executive, CALLFB, RET and trap entry change (03 R62). -/
def isBase (r : Nat) : Bool := 28 ≤ r

/-- Continue at the next instruction. -/
def advance (c : CoreCtx) : CoreCtx := { c with ip := c.ip + 4 }

/-- Check that every pair field names a pair (03 R63). -/
def withPairs (rs : List Nat) (k : Op) : Op := if rs.any badPair then illegal else k

/-- Check that no destination is a base register (03 R62). -/
def withDest (r : Nat) (k : Op) : Op := if isBase r then baseWrite else k

/-! Effective addresses (04 R98, R99, R109; 05 R118). -/

/-- A near address: the 32-bit sum of a register and an offset. -/
def nearEa (base : Word) (off : Half) : Nat := (base + off.signExtend 32).toNat

/-- A far address: a pair plus a word offset, computed exactly. -/
def farEa (base : DWord) (off : Word) : Nat := (base.toNat + off.toNat) % 2 ^ 64

/-- The base register a BOP form names (04 Table JFI-10). -/
def bitBase (c : CoreCtx) : BitBase → Word
  | .ii => wget c 29
  | .oi => wget c 30
  | .gp => wget c 28
  | .fp => wget c 31

/-- Whether a BOP location can be encoded: the direct form has no fp base (04 Table JFI-10). -/
def bitRefOk : BitRef → Bool
  | .direct .fp _ => false
  | _ => true

/-- The byte address and bit number of a BOP location (04 R109). -/
def bitAt (c : CoreCtx) : BitRef → Nat × Nat
  | .direct b a => ((bitBase c b + BitVec.ofNat 32 (a.toNat / 8)).toNat, a.toNat % 8)
  | .indexed rx b k =>
    let n := (wget c rx.val + BitVec.ofNat 32 k.toNat).toNat
    ((bitBase c b + BitVec.ofNat 32 (n / 8)).toNat, n % 8)

/-- The address of a function-block instance: fp + 8u (05 R118). -/
def instEa (c : CoreCtx) (u : Half) : Nat := (wget c 31 + BitVec.ofNat 32 (8 * u.toNat)).toNat

end Sys2Proof.Machine
end

