-- ==== Sys2Proof/Machine/Flags.lean ====
section
/-! DEFINITION. The flags of sf, the results of integer operations with their flags, and the conditions (03 Table JFM-3, R65, R77 to R79; 04 R103, Table JFI-11). -/

namespace Sys2Proof.Machine

/-- Replace one bit of a word. -/
def putFlag (w : Word) (i : Nat) (b : Bool) : Word := if b then w ||| (1#32 <<< i) else w &&& ~~~(1#32 <<< i)

/-- Flag Z. -/
def flagZ (c : CoreCtx) : Bool := c.sf.getLsbD 0
/-- Flag N. -/
def flagN (c : CoreCtx) : Bool := c.sf.getLsbD 1
/-- Flag C. -/
def flagC (c : CoreCtx) : Bool := c.sf.getLsbD 2
/-- Flag V. -/
def flagV (c : CoreCtx) : Bool := c.sf.getLsbD 3
/-- Flag E. -/
def flagE (c : CoreCtx) : Bool := c.sf.getLsbD 4

/-- Set the flag of a number. -/
def setFlag (c : CoreCtx) (i : Nat) (b : Bool) : CoreCtx := { c with sf := putFlag c.sf i b }

/-- Set the flags an operation lists; one it does not list keeps its value (03 R65). -/
def setFlags (c : CoreCtx) (z n cy v : Option Bool) : CoreCtx :=
  let one (c : CoreCtx) (i : Nat) (b : Option Bool) : CoreCtx :=
    match b with
    | some b => setFlag c i b
    | none => c
  one (one (one (one c 0 z) 1 n) 2 cy) 3 v

/-- The result of an integer operation with the flags it sets beside Z and N. -/
structure AluRes where
  val : Nat
  cy : Option Bool := none
  v : Option Bool := none
  e : Bool := false

/-- The signed value of `w` bits. -/
def sxI (w x : Nat) : Int := if x < 2 ^ (w - 1) then (x : Int) else (x : Int) - 2 ^ w

/-- The low `w` bits of an integer. -/
def wrapI (w : Nat) (x : Int) : Nat := (x % 2 ^ w).toNat

/-- Limit to the signed range. -/
def clampS (w : Nat) (x : Int) : Int := max (-(2 ^ (w - 1))) (min x (2 ^ (w - 1) - 1))

/-- Limit to the unsigned range. -/
def clampU (w : Nat) (x : Int) : Int := max 0 (min x (2 ^ w - 1))

/-- The result and flags of ADD, SUB and MUL from the exact signed and unsigned results (04 R103). -/
def arith (o : Ovf) (w : Nat) (exS exU : Int) : AluRes :=
  match o with
  | .w =>
    let r := wrapI w exU
    { val := r, cy := some (exU != (r : Int)), v := some (exS != sxI w r) }
  | .ss =>
    let r := clampS w exS
    { val := wrapI w r, v := some (r != exS) }
  | .us =>
    let r := clampU w exU
    { val := wrapI w r, cy := some (r != exU) }

/-- ADD (04 Table JFI-6). -/
def aluAdd (o : Ovf) (w x y : Nat) : AluRes := arith o w (sxI w x + sxI w y) (x + y)
/-- SUB. -/
def aluSub (o : Ovf) (w x y : Nat) : AluRes := arith o w (sxI w x - sxI w y) ((x : Int) - y)
/-- MUL. -/
def aluMul (o : Ovf) (w x y : Nat) : AluRes := arith o w (sxI w x * sxI w y) (x * y)

/-- The signed quotient (03 R78; 04 R103). -/
def aluDiv (o : Ovf) (w x y : Nat) : AluRes :=
  if y = 0 then { val := 0, v := some false, e := true }
  else
    let q := (sxI w x).tdiv (sxI w y)
    if q = 2 ^ (w - 1) then { val := if o = .ss then 2 ^ (w - 1) - 1 else 2 ^ (w - 1), v := some true }
    else { val := wrapI w q, v := some false }

/-- The unsigned quotient. -/
def aluDivu (x y : Nat) : AluRes := if y = 0 then { val := 0, e := true } else { val := x / y }

/-- The signed remainder, with the sign of the dividend (03 R78). -/
def aluRem (w x y : Nat) : AluRes := if y = 0 then { val := 0, e := true } else { val := wrapI w ((sxI w x).tmod (sxI w y)) }

/-- The unsigned remainder. -/
def aluRemu (x y : Nat) : AluRes := if y = 0 then { val := 0, e := true } else { val := x % y }

/-- Logical shift left by the low word of `y` (03 R79). -/
def aluSll (w x y : Nat) : AluRes := { val := if w ≤ y % 2 ^ 32 then 0 else (x * 2 ^ (y % 2 ^ 32)) % 2 ^ w }

/-- Logical shift right. -/
def aluSrl (w x y : Nat) : AluRes := { val := if w ≤ y % 2 ^ 32 then 0 else x / 2 ^ (y % 2 ^ 32) }

/-- Arithmetic shift right: an amount at or above the width fills with the sign. -/
def aluSra (w x y : Nat) : AluRes := { val := wrapI w (sxI w x / 2 ^ (min (y % 2 ^ 32) w)) }

/-- Rotate left. -/
def aluRol (w x y : Nat) : AluRes :=
  let k := (y % 2 ^ 32) % w
  { val := (x * 2 ^ k) % 2 ^ w + x / 2 ^ (w - k) }

/-- Rotate right. -/
def aluRor (w x y : Nat) : AluRes :=
  let k := (y % 2 ^ 32) % w
  { val := x / 2 ^ k + (x * 2 ^ (w - k)) % 2 ^ w }

/-- ABS of the minimum value overflows (04 R103). -/
def aluAbs (o : Ovf) (w x : Nat) : AluRes :=
  if x = 2 ^ (w - 1) then { val := if o = .ss then 2 ^ (w - 1) - 1 else x, v := some true }
  else { val := (sxI w x).natAbs, v := some false }

/-- The flags of CMP and CMPI (04 R103). -/
def cmpFlags (c : CoreCtx) (w x y : Nat) : CoreCtx :=
  setFlags c (some (x == y)) (some (decide (sxI w x < sxI w y))) (some (decide (x < y))) (some false)

/-- Z and N of a result of `w` bits. -/
def setZN (c : CoreCtx) (w r : Nat) : CoreCtx := setFlags c (some (r == 0)) (some (decide (2 ^ (w - 1) ≤ r))) none none

/-- Write an integer result with its flags to a word (`d` false) or pair, and go on (04 R103). -/
def finAlu (c : CoreCtx) (d : Bool) (rd : Nat) (r : AluRes) : Op :=
  let w := if d then 64 else 32
  let c := setFlags (setZN c w r.val) none none r.cy r.v
  .fin (advance (if d then dset c rd (BitVec.ofNat 64 r.val) else wset c rd (BitVec.ofNat 32 r.val))) r.e

/-- A two-operand integer operation on words, or with `d` on pairs (04 Tables JFI-5, JFI-6). -/
def alu2 (d : Bool) (rd ra rb : Nat) (f : Nat → Nat → Nat → AluRes) : Sem := fun _ c =>
  withPairs (if d then [rd, ra, rb] else []) <| withDest rd <|
    if d then finAlu c true rd (f 64 (dget c ra).toNat (dget c rb).toNat)
    else finAlu c false rd (f 32 (wget c ra).toNat (wget c rb).toNat)

/-- A condition on sf of codes 0x00 to 0x0F (04 Table JFI-11). -/
def condHolds (c : CoreCtx) : Nat → Bool
  | 0x0 => flagZ c
  | 0x1 => !flagZ c
  | 0x2 => flagN c
  | 0x3 => !flagN c
  | 0x4 => flagN c || flagZ c
  | 0x5 => !flagN c && !flagZ c
  | 0x6 => flagC c
  | 0x7 => !flagC c
  | 0x8 => flagC c || flagZ c
  | 0x9 => !flagC c && !flagZ c
  | 0xA => flagV c
  | 0xB => !flagV c
  | 0xC => flagE c
  | 0xD => !flagE c
  | 0xE => !flagN c && !flagV c
  | _ => !flagN c && !flagZ c && !flagV c

/-- A condition on a register of codes 0x10 to 0x13. -/
def regCond (v : Word) : Nat → Bool
  | 0x10 => v == 0
  | 0x11 => v != 0
  | 0x12 => v.getLsbD 31
  | _ => !v.getLsbD 31

end Sys2Proof.Machine
end

