-- ==== Sys2Proof/Machine/SemCtl.lean ====
section
/-! DEFINITION. What the bit, load, store and control-transfer instructions do on a core (04 R109 to R114; 03 R67 to R76). -/

namespace Sys2Proof.Machine

/-! BOP (04 R109). -/

/-- A bit operation at a location: `k` gives the next registers and the new bit from the old one. -/
def bitOp (loc : BitRef) (write : Bool) (k : CoreCtx → Bool → CoreCtx × Bool) : Sem := fun _ c =>
  if !bitRefOk loc then illegal
  else
    let a := bitAt c loc
    .bit a.1 write (fun b =>
      let old := b.getLsbD a.2
      let r := k c old
      (advance r.1, if r.2 then b ||| (1#8 <<< a.2) else b &&& ~~~(1#8 <<< a.2)))

/-- BLD: W[rd] := bit; Z := (bit = 0). -/
def semBld (rd : Reg) (loc : BitRef) : Sem := fun e c =>
  if !bitRefOk loc then illegal
  else withDest rd (bitOp loc false (fun c b => (setFlag (wset c rd (BitVec.ofNat 32 (b2n b))) 0 (!b), b)) e c)
/-- BLDN: W[rd] := 1 − bit; Z := (bit = 1). -/
def semBldn (rd : Reg) (loc : BitRef) : Sem := fun e c =>
  if !bitRefOk loc then illegal
  else withDest rd (bitOp loc false (fun c b => (setFlag (wset c rd (BitVec.ofNat 32 (b2n !b))) 0 b, b)) e c)
/-- BTST: Z := (bit = 0). -/
def semBtst (loc : BitRef) : Sem := bitOp loc false (fun c b => (setFlag c 0 (!b), b))
/-- BSTR: bit := W[rs][0]. -/
def semBstr (rs : Reg) (loc : BitRef) : Sem := bitOp loc true (fun c _ => (c, (wget c rs).getLsbD 0))
/-- BSET: bit := 1. -/
def semBset (loc : BitRef) : Sem := bitOp loc true (fun c _ => (c, true))
/-- BCLR: bit := 0. -/
def semBclr (loc : BitRef) : Sem := bitOp loc true (fun c _ => (c, false))
/-- BTGL: bit := 1 − bit. -/
def semBtgl (loc : BitRef) : Sem := bitOp loc true (fun c b => (c, !b))

/-! Loads and stores (04 R99, R110, R111). -/

/-- A load of a word, half or byte, zero-extended. -/
def loadW (rd : Reg) (size : Nat) (ea : CoreCtx → Nat) : Sem := fun _ c =>
  withDest rd (.load (ea c) size (fun v => advance (wset c rd (BitVec.ofNat 32 v))))
/-- A load of a pair. -/
def loadD (rd : Reg) (ea : CoreCtx → Nat) : Sem := fun _ c =>
  withPairs [rd.val] (withDest rd (.load (ea c) 8 (fun v => advance (dset c rd (BitVec.ofNat 64 v)))))
/-- A store of the low bytes of a word. -/
def storeW (rs : Reg) (size : Nat) (ea : CoreCtx → Nat) : Sem := fun _ c => .store (ea c) size ((wget c rs).toNat % 256 ^ size) (advance c)
/-- A store of a pair. -/
def storeD (rs : Reg) (ea : CoreCtx → Nat) : Sem := fun _ c => withPairs [rs.val] (.store (ea c) 8 (dget c rs).toNat (advance c))

/-- The near address of a load or store. -/
def nearAt (base : Reg) (off : Half) (c : CoreCtx) : Nat := nearEa (wget c base) off
/-- The far address of a far access. -/
def farAt (ra rb : Reg) (c : CoreCtx) : Nat := farEa (dget c ra) (wget c rb)
/-- A far access names a pair in ra (04 R102). -/
def far (ra : Reg) (k : Sem) : Sem := fun e c => withPairs [ra.val] (k e c)

/-- LDXB. -/
def semLdxb (rd ra rb : Reg) : Sem := far ra (loadW rd 1 (farAt ra rb))
/-- LDXH. -/
def semLdxh (rd ra rb : Reg) : Sem := far ra (loadW rd 2 (farAt ra rb))
/-- LDXW. -/
def semLdxw (rd ra rb : Reg) : Sem := far ra (loadW rd 4 (farAt ra rb))
/-- LDXD. -/
def semLdxd (rd ra rb : Reg) : Sem := far ra (loadD rd (farAt ra rb))
/-- STXB. -/
def semStxb (rs ra rb : Reg) : Sem := far ra (storeW rs 1 (farAt ra rb))
/-- STXH. -/
def semStxh (rs ra rb : Reg) : Sem := far ra (storeW rs 2 (farAt ra rb))
/-- STXW. -/
def semStxw (rs ra rb : Reg) : Sem := far ra (storeW rs 4 (farAt ra rb))
/-- STXD. -/
def semStxd (rs ra rb : Reg) : Sem := far ra (storeD rs (farAt ra rb))
/-- LDW. -/
def semLdw (rd base : Reg) (off : Half) : Sem := loadW rd 4 (nearAt base off)
/-- LDH. -/
def semLdh (rd base : Reg) (off : Half) : Sem := loadW rd 2 (nearAt base off)
/-- LDB. -/
def semLdb (rd base : Reg) (off : Half) : Sem := loadW rd 1 (nearAt base off)
/-- LDD. -/
def semLdd (rd base : Reg) (off : Half) : Sem := loadD rd (nearAt base off)
/-- STW. -/
def semStw (rs base : Reg) (off : Half) : Sem := storeW rs 4 (nearAt base off)
/-- STH. -/
def semSth (rs base : Reg) (off : Half) : Sem := storeW rs 2 (nearAt base off)
/-- STB. -/
def semStb (rs base : Reg) (off : Half) : Sem := storeW rs 1 (nearAt base off)
/-- STD. -/
def semStd (rs base : Reg) (off : Half) : Sem := storeD rs (nearAt base off)
/-- SWAPW. -/
def semSwapw (rd base : Reg) (off : Half) : Sem := fun _ c =>
  withDest rd (.swap (nearAt base off c) (wget c rd) (fun v => advance (wset c rd v)))

/-! Control transfer (03 R67 to R70, R75; 04 R112 to R114). -/

/-- The target of a branch: ip plus a number of instructions. -/
def target (c : CoreCtx) (off : Int) : Addr40 := BitVec.ofInt 40 ((c.ip.toNat : Int) + 4 * off)

/-- A taken branch; a forward one pops the loop-nest entries of this depth below its target (03 R68). -/
def jump (c : CoreCtx) (off : Int) : CoreCtx :=
  let t := target c off
  let d := c.rstack.length
  { c with ip := t, lnest := if 0 < off then c.lnest.dropWhile (fun e => e.depth == d && decide (e.addr.toNat < t.toNat)) else c.lnest }

/-- BR: on a vital core only forward (04 R112). -/
def semBr (off : BitVec 26) : Sem := fun e c => if e.vital && off.toInt ≤ 0 then illegal else .fin (jump c off.toInt) false

/-- BC: codes 0x00 to 0x0F on sf with ra 0, 0x10 to 0x13 on W[ra]. -/
def semBc (cond ra : Reg) (off : Half) : Sem := fun e c =>
  if 0x13 < cond.val || (cond.val ≤ 0xF && ra.val != 0) || (e.vital && off.toInt ≤ 0) then illegal
  else
    let holds := if cond.val ≤ 0xF then condHolds c cond else regCond (wget c ra) cond
    .fin (if holds then jump c off.toInt else advance c) false

/-- LOOP (03 R68, R70; 04 R113): the bound is BOUND + 1, the distance DIST + 1. -/
def semLoop (rc : Reg) (bound : BitVec 11) (dist : BitVec 10) : Sem := fun _ c =>
  if rc.val = 0 then illegal
  else withDest rc <|
    let v := wget c rc - 1
    let d := c.rstack.length
    let top := match c.lnest with
      | t :: _ => t.addr == c.ip && t.depth == d
      | [] => false
    let c' := wset c rc v
    if v = 0 then .fin (advance { c' with lnest := if top then c.lnest.drop 1 else c.lnest }) false
    else
      let n := if top then (c.lnest.head?.map (·.count)).getD 0 + 1 else 1
      if bound.toNat + 1 ≤ n || (!top && 16 ≤ c.lnest.length) then loopBound
      else
        .fin { c' with ip := target c (-((dist.toNat : Int) + 1)),
                       lnest := { addr := c.ip, depth := d, count := n } :: (if top then c.lnest.drop 1 else c.lnest) } false

/-- CALL (03 R67). -/
def semCall (off : BitVec 26) : Sem := fun _ c =>
  if 64 ≤ c.rstack.length then rstackOver
  else .fin { c with ip := target c off.toInt, rstack := { ret := c.ip + 4 } :: c.rstack } false

/-- CALLFB: the block type's entry, with fp moved to the block's frame (03 R75). -/
def semCallfb (bt : BitVec 10) (fo : Half) : Sem := fun e c =>
  match e.app.blocks[bt.toNat]? with
  | none => illegal
  | some b =>
    if 64 ≤ c.rstack.length then rstackOver
    else
      let c' := { c with ip := BitVec.ofNat 40 (e.app.loadAddr + b.1), rstack := { ret := c.ip + 4, fp := some (wget c 31) } :: c.rstack }
      .fin (wset c' 31 (BitVec.ofNat 32 (instEa c fo))) false

/-- RET: pops the loop-nest entries of this depth, then the return stack; on an empty one the instance completes (03 R67, R68). -/
def semRet : Sem := fun _ c =>
  let d := c.rstack.length
  let c := { c with lnest := c.lnest.dropWhile (fun e => e.depth == d) }
  match c.rstack with
  | [] => .complete c
  | r :: rs =>
    let c := { c with ip := r.ret, rstack := rs }
    .fin (match r.fp with | some f => wset c 31 f | none => c) false

end Sys2Proof.Machine
end

