-- ==== Sys2Proof/Machine/Float.lean ====
section
/-! DEFINITION. IEEE 754 binary32 and binary64 as the cores implement them (03 R80 to R83; 04 R106 to R108). -/

namespace Sys2Proof.Machine

/-- A binary format: precision, exponent width, and the exponent of the smallest quantum. -/
structure Fmt where
  p : Nat
  eb : Nat
  q : Int
deriving DecidableEq, Repr

/-- binary32. -/
def f32 : Fmt := ⟨24, 8, -149⟩
/-- binary64. -/
def f64 : Fmt := ⟨53, 11, -1074⟩

/-- Width of a format in bits. -/
def Fmt.width (f : Fmt) : Nat := f.p + f.eb

/-- A value: a NaN with whether it signals, an infinity, or sign, integer significand and exponent. -/
inductive FVal where
  | nan (signalling : Bool)
  | inf (neg : Bool)
  | num (neg : Bool) (m : Nat) (e : Int)
deriving DecidableEq, Repr

/-- The largest biased exponent. -/
def Fmt.emax (f : Fmt) : Nat := 2 ^ f.eb - 1

/-- Unpack the bits of a value. -/
def unpackF (f : Fmt) (b : Nat) : FVal :=
  let frac := b % 2 ^ (f.p - 1)
  let be := b / 2 ^ (f.p - 1) % 2 ^ f.eb
  let neg := b / 2 ^ (f.width - 1) % 2 == 1
  if be = f.emax then
    if frac = 0 then .inf neg else .nan (frac < 2 ^ (f.p - 2))
  else if be = 0 then .num neg frac f.q
  else .num neg (frac + 2 ^ (f.p - 1)) (f.q + be - 1)

/-- The sign bit. -/
def signBit (f : Fmt) (neg : Bool) : Nat := if neg then 2 ^ (f.width - 1) else 0

/-- The canonical quiet NaN (03 R81). -/
def qnan (f : Fmt) : Nat := f.emax * 2 ^ (f.p - 1) + 2 ^ (f.p - 2)

/-- An infinity. -/
def infBits (f : Fmt) (neg : Bool) : Nat := signBit f neg + f.emax * 2 ^ (f.p - 1)

/-- A significand shifted right by `k`, rounded to nearest, ties to even. -/
def roundShift (m k : Nat) : Nat :=
  if k = 0 then m
  else
    let q := m / 2 ^ k
    let r := m % 2 ^ k
    if 2 ^ (k - 1) < r || (r == 2 ^ (k - 1) && q % 2 == 1) then q + 1 else q

/-- Round m × 2^e to the format and pack it: overflow gives an infinity (03 R80). -/
def roundPack (f : Fmt) (neg : Bool) (m : Nat) (e : Int) : Nat :=
  if m = 0 then signBit f neg
  else
    let t := max (e + (Nat.log2 m + 1 : Nat) - f.p) f.q
    let m' := if t ≤ e then m * 2 ^ (e - t).toNat else roundShift m (t - e).toNat
    let p := if m' = 2 ^ f.p then (2 ^ (f.p - 1), t + 1) else (m', t)
    if p.1 < 2 ^ (f.p - 1) then signBit f neg + p.1
    else
      let be := (p.2 - f.q + 1).toNat
      if f.emax ≤ be then infBits f neg else signBit f neg + be * 2 ^ (f.p - 1) + (p.1 - 2 ^ (f.p - 1))

/-- Whether a value is a NaN, and whether it signals. -/
def FVal.isNan : FVal → Bool
  | .nan _ => true
  | _ => false
/-- A signalling NaN. -/
def FVal.isSnan : FVal → Bool
  | .nan s => s
  | _ => false

/-- The sign of a value that is no NaN. -/
def FVal.neg : FVal → Bool
  | .nan _ => false
  | .inf n => n
  | .num n _ _ => n

/-- A result with the event that sets E. -/
abbrev FRes := Nat × Bool

/-- With a NaN operand the result is the canonical quiet NaN, and a signalling one sets E (03 R81). -/
def nanOr (f : Fmt) (x y : FVal) (k : FRes) : FRes :=
  if x.isNan || y.isNan then (qnan f, x.isSnan || y.isSnan) else k

/-- An invalid operation (03 R81). -/
def invalid (f : Fmt) : FRes := (qnan f, true)

/-- A finite value as a signed multiple of 2^e, for an e not above its own. -/
def scaled (neg : Bool) (m : Nat) (e t : Int) : Int :=
  let v : Int := (m * 2 ^ (e - t).toNat : Nat)
  if neg then -v else v

/-- Sum of two unpacked values. -/
def addV (f : Fmt) (x y : FVal) : FRes :=
  nanOr f x y <|
    match x, y with
    | .inf a, .inf b => if a = b then (infBits f a, false) else invalid f
    | .inf a, _ => (infBits f a, false)
    | _, .inf b => (infBits f b, false)
    | .num a m e, .num b n g =>
      let t := min e g
      let s := scaled a m e t + scaled b n g t
      if s = 0 then (signBit f (a && b && m = 0 && n = 0), false) else (roundPack f (decide (s < 0)) s.natAbs t, false)
    | _, _ => invalid f

/-- The value with its sign inverted. -/
def FVal.negate : FVal → FVal
  | .nan s => .nan s
  | .inf n => .inf !n
  | .num n m e => .num (!n) m e

/-- FADD (03 R80; 04 Table JFI-8). -/
def faddB (f : Fmt) (x y : Nat) : FRes := addV f (unpackF f x) (unpackF f y)

/-- FSUB. -/
def fsubB (f : Fmt) (x y : Nat) : FRes := addV f (unpackF f x) (unpackF f y).negate

/-- FMUL. -/
def fmulB (f : Fmt) (x y : Nat) : FRes :=
  let a := unpackF f x
  let b := unpackF f y
  let s := a.neg != b.neg
  nanOr f a b <|
    match a, b with
    | .inf _, .inf _ => (infBits f s, false)
    | .inf _, .num _ n _ => if n = 0 then invalid f else (infBits f s, false)
    | .num _ m _, .inf _ => if m = 0 then invalid f else (infBits f s, false)
    | .num _ m e, .num _ n g => (roundPack f s (m * n) (e + g), false)
    | _, _ => invalid f

/-- FDIV: a finite nonzero value divided by zero gives an infinity without E. -/
def fdivB (f : Fmt) (x y : Nat) : FRes :=
  let a := unpackF f x
  let b := unpackF f y
  let s := a.neg != b.neg
  nanOr f a b <|
    match a, b with
    | .inf _, .inf _ => invalid f
    | .inf _, _ => (infBits f s, false)
    | .num _ _ _, .inf _ => (signBit f s, false)
    | .num _ m e, .num _ n g =>
      if n = 0 then (if m = 0 then invalid f else (infBits f s, false))
      else if m = 0 then (signBit f s, false)
      else
        let k := f.p + 3 + Nat.log2 n
        let num := m * 2 ^ k
        (roundPack f s (2 * (num / n) + (if num % n = 0 then 0 else 1)) (e - g - k - 1), false)
    | _, _ => invalid f

/-- The integer square root of `n`, from bit `b − 1` of the root down. -/
def isqrtFrom : Nat → Nat → Nat → Nat
  | 0, _, r => r
  | b + 1, n, r => isqrtFrom b n (if (r + 2 ^ b) * (r + 2 ^ b) ≤ n then r + 2 ^ b else r)

/-- FSQRT: the root of a value below −0 is invalid. -/
def fsqrtB (f : Fmt) (x : Nat) : FRes :=
  let a := unpackF f x
  nanOr f a a <|
    match a with
    | .inf neg => if neg then invalid f else (infBits f false, false)
    | .num neg m e =>
      if m = 0 then (signBit f neg, false)
      else if neg then invalid f
      else
        let odd := (e % 2).toNat
        let k := f.p + 3
        let v := m * 2 ^ (odd + 2 * k)
        let r := isqrtFrom (Nat.log2 v / 2 + 1) v 0
        (roundPack f false (2 * r + (if r * r = v then 0 else 1)) ((e - odd) / 2 - k - 1), false)
    | .nan _ => invalid f

/-- Order of two values that are no NaN, −0 and +0 equal. -/
def ltV : FVal → FVal → Bool
  | .inf a, .inf b => a && !b
  | .inf a, _ => a
  | _, .inf b => !b
  | .num a m e, .num b n g => decide (scaled a m e (min e g) < scaled b n g (min e g))
  | _, _ => false

/-- Order with −0 below +0 (04 R107). -/
def ltZ (x y : FVal) : Bool :=
  match x, y with
  | .num a 0 _, .num b 0 _ => a && !b
  | _, _ => ltV x y

/-- FMIN and FMAX (04 R107). -/
def fminmaxB (f : Fmt) (mx : Bool) (x y : Nat) : FRes :=
  let a := unpackF f x
  let b := unpackF f y
  nanOr f a b (if (if mx then ltZ a b else ltZ b a) then y else x, false)

/-- FCMP: Z, N, V of a compare and the event that sets E (03 R82). -/
def fcmpB (f : Fmt) (x y : Nat) : Bool × Bool × Bool × Bool :=
  let a := unpackF f x
  let b := unpackF f y
  if a.isNan || b.isNan then (false, false, true, a.isSnan || b.isSnan)
  else (!ltV a b && !ltV b a, ltV a b, false, false)

/-- The bits of a format with its sign bit replaced. -/
def withSign (f : Fmt) (x : Nat) (neg : Bool) : Nat := x % 2 ^ (f.width - 1) + signBit f neg

/-- The sign bit of a value's bits. -/
def signOf (f : Fmt) (x : Nat) : Bool := x / 2 ^ (f.width - 1) % 2 == 1

/-- Floating point to an integer of `w` bits: round or truncate, then check the range (03 R83; 04 R108). -/
def f2int (f : Fmt) (w : Nat) (signed trunc : Bool) (x : Nat) : FRes :=
  let lo : Int := if signed then -(2 ^ (w - 1)) else 0
  let hi : Int := if signed then 2 ^ (w - 1) - 1 else 2 ^ w - 1
  match unpackF f x with
  | .nan _ => (0, true)
  | .inf neg => (wrapI w (if neg then lo else hi), true)
  | .num neg m e =>
    let a : Nat := if 0 ≤ e then m * 2 ^ e.toNat else if trunc then m / 2 ^ (-e).toNat else roundShift m (-e).toNat
    let v : Int := if neg then -(a : Int) else a
    if v < lo then (wrapI w lo, true) else if hi < v then (wrapI w hi, true) else (wrapI w v, false)

/-- An integer of `w` bits to floating point. -/
def int2f (f : Fmt) (w : Nat) (signed : Bool) (x : Nat) : Nat :=
  let v : Int := if signed then sxI w x else x
  if v = 0 then 0 else roundPack f (decide (v < 0)) v.natAbs 0

/-- One floating-point format to another (04 Table JFI-9: F2D, D2F). -/
def f2f (f g : Fmt) (x : Nat) : FRes :=
  match unpackF f x with
  | .nan s => (qnan g, s)
  | .inf neg => (infBits g neg, false)
  | .num neg m e => (roundPack g neg m e, false)

end Sys2Proof.Machine
end

