-- ==== Sys2Proof/Machine/SemFb.lean ====
section
/-! DEFINITION. What the function-block instructions do on a core (05 R116 to R133). -/

namespace Sys2Proof.Machine

/-! The register window and the instance (05 R117, R118, R122). -/

/-- The rules of a window of `len` registers from `r`: it ends at w31, its pairs are pairs, and no register it writes is a base register (05 R117). -/
def window (r len : Nat) (pairs writes : List Nat) (k : Op) : Op :=
  if 32 < r + len then illegal
  else withPairs pairs (if writes.any isBase then baseWrite else k)

/-- A BOOL input: the register is not zero. -/
def boolIn (c : CoreCtx) (r : Nat) : Bool := wget c r != 0

/-- Write a BOOL output. -/
def boolOut (c : CoreCtx) (r : Nat) (b : Bool) : CoreCtx := wset c r (BitVec.ofNat 32 (b2n b))

/-- The word at an offset of an instance. -/
def fbWord (b : Bytes) (o : Nat) : Nat := leNat ((b.drop o).take 4)

/-- The TIME value at an offset of an instance. -/
def fbTime (b : Bytes) (o : Nat) : Int := sxI 64 (leNat ((b.drop o).take 8))

/-- An instance with `n` bytes at an offset replaced. -/
def fbPut (b : Bytes) (o n v : Nat) : Bytes := b.take o ++ leBytes n v ++ b.drop (o + n)

/-- A word of flags with the low `k` bits replaced by a list of bits. -/
def fbFlags (old k : Nat) (bits : List Bool) : Nat := old / 2 ^ k * 2 ^ k + bits.foldr (fun b n => b2n b + 2 * n) 0

/-- A difference of two TIME values in 64 bits with saturation; a negative one counts as 0 (05 R122). -/
def fbElapsed (tn start : Int) : Int := max 0 (clampS 64 (tn - start))

/-- A preset time: a negative one counts as 0 and sets E (05 R122). -/
def fbPreset (d : DWord) : Int × Bool := (max 0 d.toInt, decide (d.toInt < 0))

/-! Timers (05 R123). -/

/-- The three timers. -/
inductive TimerKind where
  | on | off | pulse
deriving DecidableEq, Repr

/-- The state a timer keeps. -/
structure TimerSt where
  start : Int
  prev : Bool
  q : Bool
  run : Bool
  et : Int
deriving DecidableEq, Repr

/-- Let a running timer count, and end it at its preset time with the output given. -/
def timerRun (x : TimerSt) (tn pt : Int) (q : Bool) : TimerSt :=
  if x.run then
    let et := min (fbElapsed tn x.start) pt
    if pt ≤ et then { x with et := et, q := q, run := false } else { x with et := et }
  else x

/-- One execution of a timer (05 R123). -/
def timerStep (kind : TimerKind) (x : TimerSt) (tn pt : Int) (inp : Bool) : TimerSt :=
  let rise := inp && !x.prev
  let fall := x.prev && !inp
  let y := match kind with
    | .on =>
      if !inp then { x with run := false, q := false, et := 0 }
      else timerRun (if rise then { x with start := tn, run := true } else x) tn pt true
    | .off =>
      if inp then { x with run := false, q := true, et := 0 }
      else timerRun (if fall then { x with start := tn, run := true } else x) tn pt false
    | .pulse =>
      let x := if rise && !x.run then { x with start := tn, run := true, q := true } else x
      if x.run then timerRun x tn pt false else if !inp then { x with et := 0 } else x
  { y with prev := inp }

/-- A timer instruction: D[r] is PT, W[r+2] is IN and takes Q; 24 bytes. -/
def timerFb (kind : TimerKind) (r : Reg) (fo : Half) : Sem := fun _ c =>
  window r 3 [r.val] [r.val + 2] <| .block (instEa c fo) 24 (fun b =>
    let pt := fbPreset (dget c r)
    let fl := fbWord b 8
    let x : TimerSt :=
      if fl.testBit 3 then { start := fbTime b 0, prev := false, q := false, run := false, et := 0 }
      else { start := fbTime b 0, prev := fl.testBit 0, q := fl.testBit 1, run := fl.testBit 2, et := fbTime b 0x10 }
    let y := timerStep kind x c.tn.toInt pt.1 (boolIn c (r + 2))
    let b := fbPut b 0 8 (wrapI 64 y.start)
    let b := fbPut b 8 4 (fbFlags fl 4 [y.prev, y.q, y.run, false])
    (advance (boolOut c (r + 2) y.q), fbPut b 0x10 8 (wrapI 64 y.et), pt.2))

/-- TON. -/
def semTon (r : Reg) (fo : Half) : Sem := timerFb .on r fo
/-- TOF. -/
def semTof (r : Reg) (fo : Half) : Sem := timerFb .off r fo
/-- TP. -/
def semTp (r : Reg) (fo : Half) : Sem := timerFb .pulse r fo

/-! Edge detectors (05 R124). -/

/-- An edge detector, rising or falling; 4 bytes. -/
def edgeFb (falling e1 : Bool) (r : Reg) (fo : Half) : Sem := fun _ c =>
  window r 1 [] [r.val] <| .block (instEa c fo) 4 (fun b =>
    let clk := boolIn c r
    let fl := fbWord b 0
    let prev := if fl.testBit 1 then (if e1 then falling else clk) else fl.testBit 0
    (advance (boolOut c r (if falling then prev && !clk else clk && !prev)), fbPut b 0 4 (fbFlags fl 2 [clk, false]), false))

/-- RTRIG. -/
def semRtrig (e1 : Bool) (r : Reg) (fo : Half) : Sem := edgeFb false e1 r fo
/-- FTRIG. -/
def semFtrig (e1 : Bool) (r : Reg) (fo : Half) : Sem := edgeFb true e1 r fo

/-! Counters (05 R125). -/

/-- The three counters. -/
inductive CounterKind where
  | up | down | both
deriving DecidableEq, Repr

/-- The new count of a counter: `up` and `dn` are the edges (05 R125). -/
def counterNext (kind : CounterKind) (cv pv : Int) (up dn rs ld : Bool) : Int :=
  let inc := min (cv + 1) (2 ^ 31 - 1)
  let dec := max (cv - 1) (-(2 ^ 31))
  match kind with
  | .up => if rs then 0 else if up then inc else cv
  | .down => if ld then pv else if dn then dec else cv
  | .both => if rs then 0 else if ld then pv else if up && !dn then inc else if dn && !up then dec else cv

/-- A counter instruction: W[r] is control and takes status, W[r+1] is PV, W[r+2] takes CV; 8 bytes. -/
def counterFb (kind : CounterKind) (e1 : Bool) (r : Reg) (fo : Half) : Sem := fun _ c =>
  window r 3 [] [r.val, r.val + 2] <| .block (instEa c fo) 8 (fun b =>
    let ctl := wget c r
    let pv := (wget c (r + 1)).toInt
    let fl := fbWord b 4
    let cu := ctl.getLsbD 0
    let cd := ctl.getLsbD 1
    let first := fl.testBit 2
    let cuPrev := if first then !e1 && cu else fl.testBit 0
    let cdPrev := if first then !e1 && cd else fl.testBit 1
    let cv := counterNext kind (sxI 32 (fbWord b 0)) pv (cu && !cuPrev) (cd && !cdPrev) (ctl.getLsbD 2) (ctl.getLsbD 3)
    let c' := wset c r (BitVec.ofNat 32 (b2n (decide (pv ≤ cv)) + 2 * b2n (decide (cv ≤ 0))))
    (advance (wset c' (r + 2) (BitVec.ofInt 32 cv)), fbPut (fbPut b 0 4 (wrapI 32 cv)) 4 4 (fbFlags fl 3 [cu, cd, false]), false))

/-- CTU. -/
def semCtu (e1 : Bool) (r : Reg) (fo : Half) : Sem := counterFb .up e1 r fo
/-- CTD. -/
def semCtd (e1 : Bool) (r : Reg) (fo : Half) : Sem := counterFb .down e1 r fo
/-- CTUD. -/
def semCtud (e1 : Bool) (r : Reg) (fo : Half) : Sem := counterFb .both e1 r fo

/-! Bistables (05 R126). -/

/-- A bistable: W[r] holds S and R and takes Q1; 8 bytes. -/
def bistableFb (f : Bool → Bool → Bool → Bool) (r : Reg) (fo : Half) : Sem := fun _ c =>
  window r 1 [] [r.val] <| .block (instEa c fo) 8 (fun b =>
    let w := wget c r
    let q := f (w.getLsbD 0) (w.getLsbD 1) ((fbWord b 0).testBit 0)
    (advance (boolOut c r q), fbPut b 0 4 (fbFlags (fbWord b 0) 1 [q]), false))

/-- SR: set-dominant. -/
def semSr (r : Reg) (fo : Half) : Sem := bistableFb (fun s x q => s || (q && !x)) r fo
/-- RS: reset-dominant. -/
def semRs (r : Reg) (fo : Half) : Sem := bistableFb (fun s x q => !x && (s || q)) r fo

/-! Selection (05 R127). -/

/-- SEL. -/
def semSel (r : Reg) : Sem := fun _ c =>
  window r 3 [] [r.val] (.fin (advance (wset c r (if boolIn c r then wget c (r + 2) else wget c (r + 1)))) false)

/-- SELD. -/
def semSeld (r : Reg) : Sem := fun _ c =>
  window r 5 [r.val, r.val + 2] [r.val, r.val + 1]
    (.fin (advance (if boolIn c (r + 4) then dset c r (dget c (r + 2)) else c)) false)

/-- MUX among OPT + 2 words. -/
def semMux (opt : BitVec 2) (r : Reg) : Sem := fun _ c =>
  let n := opt.toNat + 2
  let k := (wget c r).toNat
  window r (n + 1) [] [r.val] (.fin (advance (wset c r (wget c (r + 1 + min k (n - 1))))) (decide (n ≤ k)))

/-- MUXD among OPT + 2 pairs. -/
def semMuxd (opt : BitVec 2) (r : Reg) : Sem := fun _ c =>
  let n := opt.toNat + 2
  let k := (wget c (r + 2 * n)).toNat
  window r (2 * n + 1) [r.val] [r.val, r.val + 1]
    (.fin (advance (dset c r (dget c (r + 2 * min k (n - 1))))) (decide (n ≤ k)))

/-! Limiter (05 R128): the result, V and the event that sets E. -/

/-- LIMIT of integers. -/
def limitInt (inp mn mx : Int) : Int × Bool × Bool :=
  if mx < mn then (mx, true, true)
  else if inp < mn then (mn, true, false)
  else if mx < inp then (mx, true, false)
  else (inp, false, false)

/-- LIMIT of floating-point values, in the order of R107. -/
def limitFp (f : Fmt) (inp mn mx : Nat) : Nat × Bool × Bool :=
  let x := unpackF f inp
  let lo := unpackF f mn
  let hi := unpackF f mx
  if lo.isNan || hi.isNan then (qnan f, true, true)
  else if x.isNan then (mn, true, true)
  else if ltZ hi lo then (mx, true, true)
  else if ltZ x lo then (mn, true, false)
  else if ltZ hi x then (mx, true, false)
  else (inp, false, false)

/-- A limiter on three words. -/
def limitW (r : Reg) (f : Word → Word → Word → Word × Bool × Bool) : Sem := fun _ c =>
  window r 3 [] [r.val] <|
    let y := f (wget c r) (wget c (r + 1)) (wget c (r + 2))
    .fin (advance (setFlag (wset c r y.1) 3 y.2.1)) y.2.2

/-- LIMIT on DINT. -/
def semLimitDint (r : Reg) : Sem := limitW r (fun a b d => let y := limitInt a.toInt b.toInt d.toInt; (BitVec.ofInt 32 y.1, y.2))
/-- LIMIT on UDINT. -/
def semLimitUdint (r : Reg) : Sem := limitW r (fun a b d => let y := limitInt a.toNat b.toNat d.toNat; (BitVec.ofInt 32 y.1, y.2))
/-- LIMIT on REAL. -/
def semLimitReal (r : Reg) : Sem := limitW r (fun a b d => let y := limitFp f32 a.toNat b.toNat d.toNat; (BitVec.ofNat 32 y.1, y.2))
/-- LIMIT on LREAL. -/
def semLimitLreal (r : Reg) : Sem := fun _ c =>
  window r 6 [r.val] [r.val, r.val + 1] <|
    let y := limitFp f64 (dget c r).toNat (dget c (r + 2)).toNat (dget c (r + 4)).toNat
    .fin (advance (setFlag (dset c r (BitVec.ofNat 64 y.1)) 3 y.2.1)) y.2.2

/-! Hysteresis (05 R129): the new Q and the event that sets E. -/

/-- HYST of integers: the sums are exact. -/
def hystInt (x y eps : Int) (q : Bool) : Bool × Bool :=
  let d : Int := eps.natAbs
  (if y + d < x then true else if x < y - d then false else q, decide (eps < 0))

/-- HYST of binary32 values: each sum is one operation under R80 and R81. -/
def hystFp (x y eps : Nat) (q : Bool) : Bool × Bool :=
  let vx := unpackF f32 x
  let ve := unpackF f32 eps
  if vx.isNan || (unpackF f32 y).isNan || ve.isNan then (q, true)
  else
    let d := withSign f32 eps false
    let hi := faddB f32 y d
    let lo := fsubB f32 y d
    (if ltV (unpackF f32 hi.1) vx then true else if ltV vx (unpackF f32 lo.1) then false else q,
     ltV ve (unpackF f32 0) || hi.2 || lo.2)

/-- A hysteresis instruction: W[r] takes Q; 8 bytes. -/
def hystFb (r : Reg) (fo : Half) (f : Word → Word → Word → Bool → Bool × Bool) : Sem := fun _ c =>
  window r 3 [] [r.val] <| .block (instEa c fo) 8 (fun b =>
    let y := f (wget c r) (wget c (r + 1)) (wget c (r + 2)) ((fbWord b 0).testBit 0)
    (advance (boolOut c r y.1), fbPut b 0 4 (fbFlags (fbWord b 0) 1 [y.1]), y.2))

/-- HYST on DINT. -/
def semHystDint (r : Reg) (fo : Half) : Sem := hystFb r fo (fun a b d => hystInt a.toInt b.toInt d.toInt)
/-- HYST on REAL. -/
def semHystReal (r : Reg) (fo : Half) : Sem := hystFb r fo (fun a b d => hystFp a.toNat b.toNat d.toNat)

/-! Debounce (05 R130). -/

/-- Which directions a debouncer delays. -/
inductive DebounceKind where
  | both | rising | falling
deriving DecidableEq, Repr

/-- One execution of a debouncer from START, Q and RUN (05 R130). -/
def debounceStep (kind : DebounceKind) (start : Int) (q run : Bool) (tn t : Int) (inp : Bool) : Int × Bool × Bool :=
  if inp == q then (start, q, false)
  else if (kind = .rising && !inp) || (kind = .falling && inp) then (start, inp, false)
  else
    let start := if run then start else tn
    if t ≤ fbElapsed tn start then (start, inp, false) else (start, q, true)

/-- A debounce instruction: D[r] is T, W[r+2] is IN and takes Q; 16 bytes. -/
def debounceFb (kind : DebounceKind) (q0 : Bool) (r : Reg) (fo : Half) : Sem := fun _ c =>
  window r 3 [r.val] [r.val + 2] <| .block (instEa c fo) 16 (fun b =>
    let t := fbPreset (dget c r)
    let inp := boolIn c (r + 2)
    let fl := fbWord b 8
    let first := fl.testBit 3
    let y := debounceStep kind (fbTime b 0) (if first then !q0 && inp else fl.testBit 1) (!first && fl.testBit 2) c.tn.toInt t.1 inp
    (advance (boolOut c (r + 2) y.2.1),
     fbPut (fbPut b 0 8 (wrapI 64 y.1)) 8 4 (fbFlags fl 4 [inp, y.2.1, y.2.2, false]), t.2))

/-- DBNC. -/
def semDbnc (q0 : Bool) (r : Reg) (fo : Half) : Sem := debounceFb .both q0 r fo
/-- DBNC_RISING. -/
def semDbncRising (q0 : Bool) (r : Reg) (fo : Half) : Sem := debounceFb .rising q0 r fo
/-- DBNC_FALLING. -/
def semDbncFalling (q0 : Bool) (r : Reg) (fo : Half) : Sem := debounceFb .falling q0 r fo

/-! PID and ramp (05 R131 to R133). -/

/-- `x < y` of two binary32 values. -/
def flt32 (x y : Nat) : Bool := ltV (unpackF f32 x) (unpackF f32 y)

/-- A binary32 NaN. -/
def nan32 (x : Nat) : Bool := (unpackF f32 x).isNan

/-- The time since the last execution in seconds: l2f(dn) × 1.0E-9, or +0 (05 R131). -/
def fbDts (tn prev : Int) : FRes :=
  let dn := clampS 64 (tn - prev)
  if dn ≤ 0 then (0, false) else fmulB f32 (int2f f32 64 true (wrapI 64 dn)) 0x3089705F

/-- A PID's intermediate result: a NaN or an infinity makes the execution invalid (05 R132). -/
def pidStepOk (x : FRes) : Option Nat := if x.1 / 2 ^ 23 % 2 ^ 8 = 255 then none else some x.1

/-- The values one PID execution starts from. -/
structure PidIn where
  kp : Nat
  ti : Nat
  td : Nat
  tf : Nat
  ymin : Nat
  ymax : Nat
  i : Nat
  d : Nat
  pvPrev : Nat
  satHi : Bool
  satLo : Bool
  first : Bool
  tPrev : Int
  man : Bool
  reset : Bool
  sp : Nat
  pv : Nat
  yman : Nat
deriving DecidableEq, Repr

/-- What a valid PID execution leaves. -/
structure PidOut where
  y : Nat
  i : Nat
  d : Nat
  satHi : Bool
  satLo : Bool
deriving DecidableEq, Repr

/-- lim(x) = FMIN(FMAX(x, YMIN), YMAX) (05 R131). -/
def PidIn.lim (p : PidIn) (x : Nat) : Option Nat := do
  let a ← pidStepOk (fminmaxB f32 true x p.ymin)
  pidStepOk (fminmaxB f32 false a p.ymax)

/-- The integral term, in automatic (05 R131). -/
def PidIn.integral (p : PidIn) (dts e pp : Nat) : Option Nat := do
  let i := if p.reset then 0 else p.i
  if flt32 0 p.ti && flt32 0 dts && !(p.satHi && flt32 0 e) && !(p.satLo && flt32 e 0) then
    let a ← pidStepOk (fmulB f32 pp dts)
    let b ← pidStepOk (fdivB f32 a p.ti)
    let s ← pidStepOk (faddB f32 i b)
    p.lim s
  else some i

/-- The derivative term, in automatic (05 R131). -/
def PidIn.derivative (p : PidIn) (dts : Nat) : Option Nat :=
  let d := if p.first then 0 else p.d
  if !flt32 0 p.td then some 0
  else if flt32 0 dts then do
    let a ← pidStepOk (fmulB f32 p.tf d)
    let k ← pidStepOk (fmulB f32 p.kp p.td)
    let m ← pidStepOk (fsubB f32 p.pv (if p.first then p.pv else p.pvPrev))
    let b ← pidStepOk (fmulB f32 k m)
    let n ← pidStepOk (fsubB f32 a b)
    let q ← pidStepOk (faddB f32 p.tf dts)
    pidStepOk (fdivB f32 n q)
  else some d

/-- One PID execution, every operator one binary32 operation in the order of R131; none when it is invalid (05 R131, R132). -/
def PidIn.run (p : PidIn) (tn : Int) : Option PidOut :=
  if [p.sp, p.pv, p.kp, p.ti, p.td, p.tf, p.ymin, p.ymax].any nan32 || (p.man && nan32 p.yman) || flt32 p.ymax p.ymin then none
  else do
    let dts ← if p.first then some 0 else pidStepOk (fbDts tn p.tPrev)
    let e ← pidStepOk (fsubB f32 p.sp p.pv)
    if p.man then
      let y ← p.lim p.yman
      let k ← pidStepOk (fmulB f32 p.kp e)
      let g ← pidStepOk (fsubB f32 y k)
      let i ← p.lim g
      some { y := y, i := i, d := 0, satHi := false, satLo := false }
    else
      let pp ← pidStepOk (fmulB f32 p.kp e)
      let i ← p.integral dts e pp
      let d ← p.derivative dts
      let a ← pidStepOk (faddB f32 pp i)
      let s ← pidStepOk (faddB f32 a d)
      let y ← p.lim s
      some { y := y, i := i, d := d, satHi := flt32 p.ymax s, satLo := flt32 s p.ymin }

/-- PID: W[r] is control and takes status, W[r+1] SP, W[r+2] PV, W[r+3] is YMAN and takes Y; 56 bytes. -/
def semPid (r : Reg) (fo : Half) : Sem := fun _ c =>
  window r 4 [] [r.val, r.val + 3] <| .block (instEa c fo) 56 (fun b =>
    let f := fbWord b
    let fl := f 0x30
    let ctl := wget c r
    let p : PidIn :=
      { kp := f 0, ti := f 4, td := f 8, tf := f 0xC, ymin := f 0x10, ymax := f 0x14, i := f 0x18, d := f 0x1C, pvPrev := f 0x20
        satHi := fl.testBit 1, satLo := fl.testBit 2, first := fl.testBit 0, tPrev := fbTime b 0x28
        man := ctl.getLsbD 0, reset := ctl.getLsbD 1
        sp := (wget c (r + 1)).toNat, pv := (wget c (r + 2)).toNat, yman := (wget c (r + 3)).toNat }
    let out (status y : Nat) := advance (wset (wset c r (BitVec.ofNat 32 status)) (r + 3) (BitVec.ofNat 32 y))
    match p.run c.tn.toInt with
    | none => (out 4 (f 0x24), b, true)
    | some o =>
      let b := fbPut (fbPut (fbPut (fbPut b 0x18 4 o.i) 0x1C 4 o.d) 0x20 4 p.pv) 0x24 4 o.y
      let b := fbPut b 0x28 8 c.tn.toNat
      (out (b2n o.satHi + 2 * b2n o.satLo) o.y, fbPut b 0x30 4 (fbFlags fl 3 [false, o.satHi, o.satLo]), false))

/-- The ramp's new output and the event that sets E (05 R133; 03 R81). -/
def rampNext (x y rup rdn dts : Nat) : FRes :=
  if flt32 y x then
    if flt32 rup 0 then (x, false)
    else
      let k := fmulB f32 rup dts
      let s := faddB f32 y k.1
      let z := fminmaxB f32 false x s.1
      (z.1, k.2 || s.2 || z.2)
  else if flt32 x y then
    if flt32 rdn 0 then (x, false)
    else
      let k := fmulB f32 rdn dts
      let s := fsubB f32 y k.1
      let z := fminmaxB f32 true x s.1
      (z.1, k.2 || s.2 || z.2)
  else (y, false)

/-- RAMP: W[r] is X and takes Y; 24 bytes. -/
def semRamp (r : Reg) (fo : Half) : Sem := fun _ c =>
  window r 1 [] [r.val] <| .block (instEa c fo) 24 (fun b =>
    let x := (wget c r).toNat
    let rup := fbWord b 0
    let rdn := fbWord b 4
    let y := fbWord b 8
    let fl := fbWord b 0xC
    if nan32 x || nan32 rup || nan32 rdn then (advance (wset c r (BitVec.ofNat 32 y)), b, true)
    else
      let dts := fbDts c.tn.toInt (fbTime b 0x10)
      let z := if fl.testBit 0 then (x, false) else rampNext x y rup rdn dts.1
      let b := fbPut (fbPut b 8 4 z.1) 0xC 4 (fbFlags fl 1 [false])
      let q := fcmpB f32 z.1 x
      (advance (setFlag (wset c r (BitVec.ofNat 32 z.1)) 3 (!q.1)), fbPut b 0x10 8 c.tn.toNat, z.2))

end Sys2Proof.Machine
end

