-- ==== Sys2Proof/Machine/SemFloat.lean ====
section
/-! DEFINITION. What the FOP, DOP and CVT instructions do on a core (04 R106 to R108). -/

namespace Sys2Proof.Machine

/-- The bits of a floating-point operand: a word in binary32, a pair in binary64. -/
def fget' (dbl : Bool) (c : CoreCtx) (r : Nat) : Nat := if dbl then (dget c r).toNat else (wget c r).toNat

/-- Write a result of either size. -/
def fput (dbl : Bool) (c : CoreCtx) (r v : Nat) : CoreCtx := if dbl then dset c r (BitVec.ofNat 64 v) else wset c r (BitVec.ofNat 32 v)

/-- The format of either size. -/
def fmtOf (dbl : Bool) : Fmt := if dbl then f64 else f32

/-- An operation on the operands of either size. -/
def fop (dbl : Bool) (rd : Reg) (rs : List Reg) (f : Fmt → (Nat → Nat) → FRes) : Sem := fun _ c =>
  withPairs (if dbl then rd.val :: rs.map Fin.val else []) <| withDest rd <|
    let r := f (fmtOf dbl) (fun i => fget' dbl c ((rs.map Fin.val).getD i 0))
    .fin (advance (fput dbl c rd r.1)) r.2

/-- A two-operand operation. -/
def fop2 (dbl : Bool) (rd ra rb : Reg) (f : Fmt → Nat → Nat → FRes) : Sem := fop dbl rd [ra, rb] (fun m x => f m (x 0) (x 1))

/-- A compare (03 R82): Z, N, V, and C = 0. -/
def fcmpS (dbl : Bool) (ra rb : Reg) : Sem := fun _ c =>
  withPairs (if dbl then [ra.val, rb.val] else []) <|
    let r := fcmpB (fmtOf dbl) (fget' dbl c ra) (fget' dbl c rb)
    .fin (advance (setFlags c (some r.1) (some r.2.1) (some false) (some r.2.2.1))) r.2.2.2

/-- FADD. -/
def semFadd (rd ra rb : Reg) : Sem := fop2 false rd ra rb faddB
/-- DADD. -/
def semDadd (rd ra rb : Reg) : Sem := fop2 true rd ra rb faddB
/-- FSUB. -/
def semFsub (rd ra rb : Reg) : Sem := fop2 false rd ra rb fsubB
/-- DSUB. -/
def semDsub (rd ra rb : Reg) : Sem := fop2 true rd ra rb fsubB
/-- FMUL. -/
def semFmul (rd ra rb : Reg) : Sem := fop2 false rd ra rb fmulB
/-- DMUL. -/
def semDmul (rd ra rb : Reg) : Sem := fop2 true rd ra rb fmulB
/-- FDIV. -/
def semFdiv (rd ra rb : Reg) : Sem := fop2 false rd ra rb fdivB
/-- DDIV. -/
def semDdiv (rd ra rb : Reg) : Sem := fop2 true rd ra rb fdivB
/-- FSQRT. -/
def semFsqrt (rd ra : Reg) : Sem := fop false rd [ra] (fun f x => fsqrtB f (x 0))
/-- DSQRT. -/
def semDsqrt (rd ra : Reg) : Sem := fop true rd [ra] (fun f x => fsqrtB f (x 0))
/-- FMIN. -/
def semFmin (rd ra rb : Reg) : Sem := fop2 false rd ra rb (fun f => fminmaxB f false)
/-- DMIN. -/
def semDmin (rd ra rb : Reg) : Sem := fop2 true rd ra rb (fun f => fminmaxB f false)
/-- FMAX. -/
def semFmax (rd ra rb : Reg) : Sem := fop2 false rd ra rb (fun f => fminmaxB f true)
/-- DMAX. -/
def semDmax (rd ra rb : Reg) : Sem := fop2 true rd ra rb (fun f => fminmaxB f true)
/-- FCMP. -/
def semFcmp (ra rb : Reg) : Sem := fcmpS false ra rb
/-- DCMP. -/
def semDcmp (ra rb : Reg) : Sem := fcmpS true ra rb
/-- FNEG. -/
def semFneg (rd ra : Reg) : Sem := fop false rd [ra] (fun f x => (withSign f (x 0) (!signOf f (x 0)), false))
/-- DNEG. -/
def semDneg (rd ra : Reg) : Sem := fop true rd [ra] (fun f x => (withSign f (x 0) (!signOf f (x 0)), false))
/-- FABS. -/
def semFabs (rd ra : Reg) : Sem := fop false rd [ra] (fun f x => (withSign f (x 0) false, false))
/-- DABS. -/
def semDabs (rd ra : Reg) : Sem := fop true rd [ra] (fun f x => (withSign f (x 0) false, false))
/-- FCPYS. -/
def semFcpys (rd ra rb : Reg) : Sem := fop2 false rd ra rb (fun f x y => (withSign f x (signOf f y), false))
/-- DCPYS. -/
def semDcpys (rd ra rb : Reg) : Sem := fop2 true rd ra rb (fun f x y => (withSign f x (signOf f y), false))

/-! CVT (04 Table JFI-9). -/

/-- A conversion: source and result are words or pairs. -/
def cvt (src dst : Bool) (rd ra : Reg) (f : Nat → FRes) : Sem := fun _ c =>
  withPairs ((if dst then [rd.val] else []) ++ (if src then [ra.val] else [])) <| withDest rd <|
    let r := f (fget' src c ra)
    .fin (advance (fput dst c rd r.1)) r.2

/-- F2I. -/
def semF2i (t : Bool) (rd ra : Reg) : Sem := cvt false false rd ra (f2int f32 32 true t)
/-- F2U. -/
def semF2u (t : Bool) (rd ra : Reg) : Sem := cvt false false rd ra (f2int f32 32 false t)
/-- F2L. -/
def semF2l (t : Bool) (rd ra : Reg) : Sem := cvt false true rd ra (f2int f32 64 true t)
/-- F2UL. -/
def semF2ul (t : Bool) (rd ra : Reg) : Sem := cvt false true rd ra (f2int f32 64 false t)
/-- D2I. -/
def semD2i (t : Bool) (rd ra : Reg) : Sem := cvt true false rd ra (f2int f64 32 true t)
/-- D2U. -/
def semD2u (t : Bool) (rd ra : Reg) : Sem := cvt true false rd ra (f2int f64 32 false t)
/-- D2L. -/
def semD2l (t : Bool) (rd ra : Reg) : Sem := cvt true true rd ra (f2int f64 64 true t)
/-- D2UL. -/
def semD2ul (t : Bool) (rd ra : Reg) : Sem := cvt true true rd ra (f2int f64 64 false t)
/-- I2F. -/
def semI2f (rd ra : Reg) : Sem := cvt false false rd ra (fun x => (int2f f32 32 true x, false))
/-- U2F. -/
def semU2f (rd ra : Reg) : Sem := cvt false false rd ra (fun x => (int2f f32 32 false x, false))
/-- L2F. -/
def semL2f (rd ra : Reg) : Sem := cvt true false rd ra (fun x => (int2f f32 64 true x, false))
/-- UL2F. -/
def semUl2f (rd ra : Reg) : Sem := cvt true false rd ra (fun x => (int2f f32 64 false x, false))
/-- I2D. -/
def semI2d (rd ra : Reg) : Sem := cvt false true rd ra (fun x => (int2f f64 32 true x, false))
/-- U2D. -/
def semU2d (rd ra : Reg) : Sem := cvt false true rd ra (fun x => (int2f f64 32 false x, false))
/-- L2D. -/
def semL2d (rd ra : Reg) : Sem := cvt true true rd ra (fun x => (int2f f64 64 true x, false))
/-- UL2D. -/
def semUl2d (rd ra : Reg) : Sem := cvt true true rd ra (fun x => (int2f f64 64 false x, false))
/-- F2D. -/
def semF2d (rd ra : Reg) : Sem := cvt false true rd ra (f2f f32 f64)
/-- D2F. -/
def semD2f (rd ra : Reg) : Sem := cvt true false rd ra (f2f f64 f32)

end Sys2Proof.Machine
end

