-- ==== Sys2Proof/Machine/SemInt.lean ====
section
/-! DEFINITION. What the SYS, IOP, immediate and DIAG instructions do on a core (04 R100 to R105, R115; 03 R77 to R79). -/

namespace Sys2Proof.Machine

/-! SYS (04 Table JFI-4). -/

/-- NOP: nothing. -/
def semNop : Sem := fun _ c => .fin (advance c) false
/-- TRAP: raises SOFTWARE. -/
def semTrap : Sem := fun _ _ => software
/-- FENCE: every access of the model completes at its target with its instruction, and a posted write is accepted when it is offered, so there is nothing to wait for. -/
def semFence : Sem := fun _ c => .fin (advance c) false
/-- EVT: posts code 0x8000 OR W[ra][14:0] with data W[rb] (04 R101). -/
def semEvt (ra rb : Reg) : Sem := fun _ c => .evt (0x8000 + (wget c ra).toNat % 0x8000) (wget c rb) (advance c)

/-! IOP arithmetic and logic (04 Table JFI-6). -/

/-- ADD. -/
def semAdd (o : Ovf) (d : Bool) (rd ra rb : Reg) : Sem := alu2 d rd ra rb (aluAdd o)
/-- SUB. -/
def semSub (o : Ovf) (d : Bool) (rd ra rb : Reg) : Sem := alu2 d rd ra rb (aluSub o)
/-- MUL. -/
def semMul (o : Ovf) (d : Bool) (rd ra rb : Reg) : Sem := alu2 d rd ra rb (aluMul o)
/-- MULHS: bits [63:32] of the signed product. -/
def semMulhs (rd ra rb : Reg) : Sem := alu2 false rd ra rb (fun w x y => { val := wrapI w (sxI w x * sxI w y / 2 ^ w) })
/-- MULHU: bits [63:32] of the unsigned product. -/
def semMulhu (rd ra rb : Reg) : Sem := alu2 false rd ra rb (fun w x y => { val := x * y / 2 ^ w })
/-- DIV: W and SS forms only. -/
def semDiv (o : Ovf) (d : Bool) (rd ra rb : Reg) : Sem := fun e c => if o = .us then illegal else alu2 d rd ra rb (aluDiv o) e c
/-- DIVU. -/
def semDivu (d : Bool) (rd ra rb : Reg) : Sem := alu2 d rd ra rb (fun _ => aluDivu)
/-- REM. -/
def semRem (d : Bool) (rd ra rb : Reg) : Sem := alu2 d rd ra rb aluRem
/-- REMU. -/
def semRemu (d : Bool) (rd ra rb : Reg) : Sem := alu2 d rd ra rb (fun _ => aluRemu)
/-- AND. -/
def semAnd (d : Bool) (rd ra rb : Reg) : Sem := alu2 d rd ra rb (fun _ x y => { val := x &&& y })
/-- OR. -/
def semOr (d : Bool) (rd ra rb : Reg) : Sem := alu2 d rd ra rb (fun _ x y => { val := x ||| y })
/-- XOR. -/
def semXor (d : Bool) (rd ra rb : Reg) : Sem := alu2 d rd ra rb (fun _ x y => { val := x ^^^ y })
/-- ANDN: ra AND NOT rb. -/
def semAndn (d : Bool) (rd ra rb : Reg) : Sem := alu2 d rd ra rb (fun w x y => { val := x &&& (2 ^ w - 1 - y) })
/-- SLL. -/
def semSll (d : Bool) (rd ra rb : Reg) : Sem := alu2 d rd ra rb aluSll
/-- SRL. -/
def semSrl (d : Bool) (rd ra rb : Reg) : Sem := alu2 d rd ra rb aluSrl
/-- SRA. -/
def semSra (d : Bool) (rd ra rb : Reg) : Sem := alu2 d rd ra rb aluSra
/-- ROL. -/
def semRol (d : Bool) (rd ra rb : Reg) : Sem := alu2 d rd ra rb aluRol
/-- ROR. -/
def semRor (d : Bool) (rd ra rb : Reg) : Sem := alu2 d rd ra rb aluRor

/-- CMP: sets the flags and writes no register. -/
def semCmp (d : Bool) (ra rb : Reg) : Sem := fun _ c =>
  withPairs (if d then [ra, rb] else []) <|
    .fin (advance (if d then cmpFlags c 64 (dget c ra).toNat (dget c rb).toNat else cmpFlags c 32 (wget c ra).toNat (wget c rb).toNat)) false

/-- SETC: 1 when a condition of codes 0x00 to 0x0F holds. -/
def semSetc (rd cond : Reg) : Sem := fun _ c =>
  if 0xF < cond.val then illegal
  else withDest rd (.fin (advance (wset c rd (BitVec.ofNat 32 (b2n (condHolds c cond))))) false)

/-- MIN. -/
def semMin (d : Bool) (rd ra rb : Reg) : Sem := alu2 d rd ra rb (fun w x y => { val := if sxI w x < sxI w y then x else y })
/-- MAX. -/
def semMax (d : Bool) (rd ra rb : Reg) : Sem := alu2 d rd ra rb (fun w x y => { val := if sxI w x < sxI w y then y else x })
/-- MINU. -/
def semMinu (d : Bool) (rd ra rb : Reg) : Sem := alu2 d rd ra rb (fun _ x y => { val := Nat.min x y })
/-- MAXU. -/
def semMaxu (d : Bool) (rd ra rb : Reg) : Sem := alu2 d rd ra rb (fun _ x y => { val := Nat.max x y })

/-- ABS: W and SS forms only. -/
def semAbs (o : Ovf) (d : Bool) (rd ra : Reg) : Sem := fun _ c =>
  if o = .us then illegal
  else withPairs (if d then [rd.val, ra.val] else []) <| withDest rd <|
    if d then finAlu c true rd (aluAbs o 64 (dget c ra).toNat) else finAlu c false rd (aluAbs o 32 (wget c ra).toNat)

/-- A move that changes no flag, to a word. -/
def moveW (rd : Reg) (f : CoreCtx → Word) : Sem := fun _ c => withDest rd (.fin (advance (wset c rd (f c))) false)
/-- A move that changes no flag, to a pair; `rs` are further pair fields. -/
def moveD (rd : Reg) (rs : List Nat) (f : CoreCtx → DWord) : Sem := fun _ c => withPairs (rd.val :: rs) (withDest rd (.fin (advance (dset c rd (f c))) false))

/-- SEXTB. -/
def semSextb (rd ra : Reg) : Sem := moveW rd (fun c => ((wget c ra).setWidth 8).signExtend 32)
/-- SEXTH. -/
def semSexth (rd ra : Reg) : Sem := moveW rd (fun c => ((wget c ra).setWidth 16).signExtend 32)
/-- SEXTW. -/
def semSextw (rd ra : Reg) : Sem := moveD rd [] (fun c => (wget c ra).signExtend 64)
/-- ZEXTW. -/
def semZextw (rd ra : Reg) : Sem := moveD rd [] (fun c => (wget c ra).setWidth 64)
/-- MOVD. -/
def semMovd (rd ra : Reg) : Sem := moveD rd [ra.val] (fun c => dget c ra)

/-- MFS: ip and tn into a pair, sf and cs into a word (04 R104). -/
def semMfs (d : Bool) (rd sr : Reg) : Sem :=
  match sr.val, d with
  | 0, true => moveD rd [] (fun c => c.ip.setWidth 64)
  | 2, true => moveD rd [] (fun c => c.tn)
  | 1, false => moveW rd (fun c => c.sf)
  | 3, false => moveW rd (fun c => c.cs)
  | _, _ => fun _ _ => illegal

/-- MTS: only sf can be written, and only its bits [4:0] (04 R104). -/
def semMts (sr ra : Reg) : Sem := fun _ c => if sr.val = 1 then .mts (advance { c with sf := wget c ra &&& 0x1F }) else illegal

/-! Immediates (04 Table JFI-7). -/

/-- ADDI: always wraps. -/
def semAddi (rd ra : Reg) (imm : Half) : Sem := fun _ c =>
  withDest rd (finAlu c false rd (aluAdd .w 32 (wget c ra).toNat (imm.signExtend 32).toNat))
/-- ANDI. -/
def semAndi (rd ra : Reg) (imm : Half) : Sem := fun _ c => withDest rd (finAlu c false rd { val := (wget c ra).toNat &&& imm.toNat })
/-- ORI. -/
def semOri (rd ra : Reg) (imm : Half) : Sem := fun _ c => withDest rd (finAlu c false rd { val := (wget c ra).toNat ||| imm.toNat })
/-- XORI. -/
def semXori (rd ra : Reg) (imm : Half) : Sem := fun _ c => withDest rd (finAlu c false rd { val := (wget c ra).toNat ^^^ imm.toNat })
/-- LUI. -/
def semLui (rd : Reg) (imm : Half) : Sem := moveW rd (fun _ => imm.setWidth 32 <<< 16)
/-- CMPI. -/
def semCmpi (ra : Reg) (imm : Half) : Sem := fun _ c => .fin (advance (cmpFlags c 32 (wget c ra).toNat (imm.signExtend 32).toNat)) false

/-! DIAG (04 Table JFI-12): only where DIAG words execute. -/

/-- Guard of R115. -/
def diagOnly (k : Sem) : Sem := fun e c => if e.diag then k e c else illegal

/-- RDTIME: live working time. -/
def semRdtime (rd : Reg) : Sem := diagOnly (fun e c => moveD rd [] (fun _ => BitVec.ofInt 64 e.now) e c)
/-- RDLANE: the lane's number. -/
def semRdlane (rd : Reg) : Sem := diagOnly (fun e c => moveW rd (fun _ => BitVec.ofNat 32 e.lane) e c)
/-- A cache maintenance operation on the line holding D[ra]. -/
def cacheOp (kind : Nat) (ra : Reg) : Sem := diagOnly (fun _ c => withPairs [ra.val] (.cache kind (dget c ra).toNat (advance c)))
/-- DCWB: write the D-cache line back. -/
def semDcwb (ra : Reg) : Sem := cacheOp 0 ra
/-- DCINV: write back, then invalidate. -/
def semDcinv (ra : Reg) : Sem := cacheOp 1 ra
/-- ICINV: invalidate the I-cache line. -/
def semIcinv (ra : Reg) : Sem := cacheOp 2 ra
/-- BRK: halts the core for debug when software breakpoints are armed on it, otherwise SOFTWARE. -/
def semBrk : Sem := diagOnly (fun e _ => if e.swBrk then .halt else software)

end Sys2Proof.Machine
end

