-- ==== Sys2Proof/Machine/JfiDecode.lean ====
section
/-! DEFINITION. The words of Jexgiord instructions: what a 32-bit word stands for, and which meaning an instruction has (04 R95, Tables JFI-1 to JFI-12; 05 R116). -/

namespace Sys2Proof.Machine

/-! Fields of a word (04 Table JFI-1). -/

/-- MOP, bits [31:26]. -/
def jMop (w : Word) : Nat := w.toNat / 2 ^ 26
/-- rd, bits [25:21]. -/
def jRd (w : Word) : Reg := Fin.ofNat 32 (w.toNat / 2 ^ 21)
/-- ra, bits [20:16]. -/
def jRa (w : Word) : Reg := Fin.ofNat 32 (w.toNat / 2 ^ 16)
/-- rb, bits [15:11]. -/
def jRb (w : Word) : Reg := Fin.ofNat 32 (w.toNat / 2 ^ 11)
/-- fn, bits [10:0]. -/
def jFn (w : Word) : Nat := w.toNat % 2 ^ 11
/-- imm16, off16 or the instance offset, bits [15:0]. -/
def jImm (w : Word) : Half := w.setWidth 16
/-- off26. -/
def jOff26 (w : Word) : BitVec 26 := w.setWidth 26

/-- An instruction, when every field marked 0 is 0. -/
def zeros (fs : List Reg) (i : Instr) : Option Instr := if fs.all (fun r => r.val == 0) then some i else none

/-- SYS (04 Table JFI-4). -/
def decodeSys (u : CoreId) (w : Word) : Option Instr :=
  match jFn w with
  | 0 => zeros [jRd w, jRa w, jRb w] (.nop u)
  | 1 => zeros [jRd w, jRa w] (.trap u (jRb w))
  | 2 => zeros [jRd w, jRa w, jRb w] (.fence u)
  | 3 => zeros [jRd w] (.evt u (jRa w) (jRb w))
  | _ => none

/-- OVF of an IOP word (04 Table JFI-5). -/
def jOvf (w : Word) : Option Ovf :=
  match jFn w / 512 with
  | 0 => some .w
  | 1 => some .ss
  | 2 => some .us
  | _ => none

/-- IOP operations that take no saturating form, by OP, with D as given (04 Table JFI-6). -/
def decodeIopPlain (u : CoreId) (w : Word) (d : Bool) : Nat → Option Instr
  | 6 => some (.divu u d (jRd w) (jRa w) (jRb w))
  | 7 => some (.rem u d (jRd w) (jRa w) (jRb w))
  | 8 => some (.remu u d (jRd w) (jRa w) (jRb w))
  | 16 => some (.and u d (jRd w) (jRa w) (jRb w))
  | 17 => some (.or u d (jRd w) (jRa w) (jRb w))
  | 18 => some (.xor u d (jRd w) (jRa w) (jRb w))
  | 19 => some (.andn u d (jRd w) (jRa w) (jRb w))
  | 24 => some (.sll u d (jRd w) (jRa w) (jRb w))
  | 25 => some (.srl u d (jRd w) (jRa w) (jRb w))
  | 26 => some (.sra u d (jRd w) (jRa w) (jRb w))
  | 27 => some (.rol u d (jRd w) (jRa w) (jRb w))
  | 28 => some (.ror u d (jRd w) (jRa w) (jRb w))
  | 36 => some (.min u d (jRd w) (jRa w) (jRb w))
  | 37 => some (.max u d (jRd w) (jRa w) (jRb w))
  | 38 => some (.minu u d (jRd w) (jRa w) (jRb w))
  | 39 => some (.maxu u d (jRd w) (jRa w) (jRb w))
  | 0x20 => zeros [jRd w] (.cmp u d (jRa w) (jRb w))
  | 0x3C => zeros [jRa w] (.mfs u d (jRd w) (jRb w))
  | op =>
    if d then
      match op with
      | 46 => zeros [jRb w] (.sextw u (jRd w) (jRa w))
      | 47 => zeros [jRb w] (.zextw u (jRd w) (jRa w))
      | 48 => zeros [jRb w] (.movd u (jRd w) (jRa w))
      | _ => none
    else
      match op with
      | 3 => some (.mulhs u (jRd w) (jRa w) (jRb w))
      | 4 => some (.mulhu u (jRd w) (jRa w) (jRb w))
      | 0x22 => zeros [jRa w] (.setc u (jRd w) (jRb w))
      | 44 => zeros [jRb w] (.sextb u (jRd w) (jRa w))
      | 45 => zeros [jRb w] (.sexth u (jRd w) (jRa w))
      | 0x3D => zeros [jRd w] (.mts u (jRb w) (jRa w))
      | 64 => some (.ldxb u (jRd w) (jRa w) (jRb w))
      | 65 => some (.ldxh u (jRd w) (jRa w) (jRb w))
      | 66 => some (.ldxw u (jRd w) (jRa w) (jRb w))
      | 67 => some (.ldxd u (jRd w) (jRa w) (jRb w))
      | 68 => some (.stxb u (jRd w) (jRa w) (jRb w))
      | 69 => some (.stxh u (jRd w) (jRa w) (jRb w))
      | 70 => some (.stxw u (jRd w) (jRa w) (jRb w))
      | 71 => some (.stxd u (jRd w) (jRa w) (jRb w))
      | _ => none

/-- IOP (04 Tables JFI-5, JFI-6). -/
def decodeIop (u : CoreId) (w : Word) : Option Instr :=
  match jOvf w with
  | none => none
  | some o =>
    let d := (jFn w).testBit 8
    match jFn w % 256 with
    | 0 => some (.add u o d (jRd w) (jRa w) (jRb w))
    | 1 => some (.sub u o d (jRd w) (jRa w) (jRb w))
    | 2 => some (.mul u o d (jRd w) (jRa w) (jRb w))
    | 5 => if o = .us then none else some (.div u o d (jRd w) (jRa w) (jRb w))
    | 0x28 => if o = .us then none else zeros [jRb w] (.abs u o d (jRd w) (jRa w))
    | op => if o = .w then decodeIopPlain u w d op else none

/-- FOP (04 Table JFI-8). -/
def decodeFop (u : CoreId) (w : Word) : Option Instr :=
  match jFn w with
  | 0 => some (.fadd u (jRd w) (jRa w) (jRb w))
  | 1 => some (.fsub u (jRd w) (jRa w) (jRb w))
  | 2 => some (.fmul u (jRd w) (jRa w) (jRb w))
  | 3 => some (.fdiv u (jRd w) (jRa w) (jRb w))
  | 4 => zeros [jRb w] (.fsqrt u (jRd w) (jRa w))
  | 5 => some (.fmin u (jRd w) (jRa w) (jRb w))
  | 6 => some (.fmax u (jRd w) (jRa w) (jRb w))
  | 8 => zeros [jRd w] (.fcmp u (jRa w) (jRb w))
  | 16 => zeros [jRb w] (.fneg u (jRd w) (jRa w))
  | 17 => zeros [jRb w] (.fabs u (jRd w) (jRa w))
  | 18 => some (.fcpys u (jRd w) (jRa w) (jRb w))
  | _ => none

/-- DOP (04 Table JFI-8). -/
def decodeDop (u : CoreId) (w : Word) : Option Instr :=
  match jFn w with
  | 0 => some (.dadd u (jRd w) (jRa w) (jRb w))
  | 1 => some (.dsub u (jRd w) (jRa w) (jRb w))
  | 2 => some (.dmul u (jRd w) (jRa w) (jRb w))
  | 3 => some (.ddiv u (jRd w) (jRa w) (jRb w))
  | 4 => zeros [jRb w] (.dsqrt u (jRd w) (jRa w))
  | 5 => some (.dmin u (jRd w) (jRa w) (jRb w))
  | 6 => some (.dmax u (jRd w) (jRa w) (jRb w))
  | 8 => zeros [jRd w] (.dcmp u (jRa w) (jRb w))
  | 16 => zeros [jRb w] (.dneg u (jRd w) (jRa w))
  | 17 => zeros [jRb w] (.dabs u (jRd w) (jRa w))
  | 18 => some (.dcpys u (jRd w) (jRa w) (jRb w))
  | _ => none

/-- CVT (04 Table JFI-9). -/
def decodeCvt (u : CoreId) (w : Word) : Option Instr :=
  let t := (jFn w).testBit 8
  let x := fun i => zeros [jRb w] i
  match jFn w with
  | 0 | 256 => x (.f2i u t (jRd w) (jRa w))
  | 1 | 257 => x (.f2u u t (jRd w) (jRa w))
  | 2 | 258 => x (.f2l u t (jRd w) (jRa w))
  | 3 | 259 => x (.f2ul u t (jRd w) (jRa w))
  | 4 | 260 => x (.d2i u t (jRd w) (jRa w))
  | 5 | 261 => x (.d2u u t (jRd w) (jRa w))
  | 6 | 262 => x (.d2l u t (jRd w) (jRa w))
  | 7 | 263 => x (.d2ul u t (jRd w) (jRa w))
  | 16 => x (.i2f u (jRd w) (jRa w))
  | 17 => x (.u2f u (jRd w) (jRa w))
  | 18 => x (.l2f u (jRd w) (jRa w))
  | 19 => x (.ul2f u (jRd w) (jRa w))
  | 20 => x (.i2d u (jRd w) (jRa w))
  | 21 => x (.u2d u (jRd w) (jRa w))
  | 22 => x (.l2d u (jRd w) (jRa w))
  | 23 => x (.ul2d u (jRd w) (jRa w))
  | 32 => x (.f2d u (jRd w) (jRa w))
  | 33 => x (.d2f u (jRd w) (jRa w))
  | _ => none

/-- The bases of Table JFI-10. -/
def bitBaseOf : Nat → BitBase
  | 0 => .ii
  | 1 => .oi
  | 2 => .gp
  | _ => .fp

/-- BOP (04 Table JFI-10). -/
def decodeBop (u : CoreId) (w : Word) : Option Instr :=
  let b := w.toNat / 2 ^ 19 % 4
  let loc : BitRef := if b = 3 then .indexed (jRb w) (bitBaseOf (w.toNat / 2 ^ 9 % 4)) (w.setWidth 9) else .direct (bitBaseOf b) (jImm w)
  match w.toNat / 2 ^ 16 % 8 with
  | 0 => some (.bld u (jRd w) loc)
  | 1 => some (.bldn u (jRd w) loc)
  | 2 => some (.bstr u (jRd w) loc)
  | 3 => zeros [jRd w] (.bset u loc)
  | 4 => zeros [jRd w] (.bclr u loc)
  | 5 => zeros [jRd w] (.btgl u loc)
  | 6 => zeros [jRd w] (.btst u loc)
  | _ => none

/-- DIAG (04 Table JFI-12). -/
def decodeDiag (u : CoreId) (w : Word) : Option Instr :=
  match jFn w with
  | 0 => zeros [jRa w, jRb w] (.rdtime u (jRd w))
  | 1 => zeros [jRa w, jRb w] (.rdlane u (jRd w))
  | 2 => zeros [jRd w, jRb w] (.dcwb u (jRa w))
  | 3 => zeros [jRd w, jRb w] (.dcinv u (jRa w))
  | 4 => zeros [jRd w, jRb w] (.icinv u (jRa w))
  | 5 => zeros [jRd w, jRa w, jRb w] (.brk u)
  | _ => none

/-- The function blocks, by MOP, VAR and OPT (05 R116, Table FBI-1). -/
def decodeFb (u : CoreId) (w : Word) : Option Instr :=
  let r := jRd w
  let fo := jImm w
  let opt : BitVec 2 := BitVec.ofNat 2 (w.toNat / 2 ^ 16)
  let e := opt.getLsbD 1
  let plain (i : Instr) : Option Instr := if opt = 0 then some i else none
  let edge (i : Instr) : Option Instr := if opt.getLsbD 0 then none else some i
  let noInst (i : Option Instr) : Option Instr := if fo = 0 then i else none
  match jMop w, w.toNat / 2 ^ 18 % 8 with
  | 32, 0 => plain (.ton u r fo)
  | 32, 1 => plain (.tof u r fo)
  | 32, 2 => plain (.tp u r fo)
  | 33, 0 => edge (.rtrig u e r fo)
  | 33, 1 => edge (.ftrig u e r fo)
  | 34, 0 => edge (.ctu u e r fo)
  | 34, 1 => edge (.ctd u e r fo)
  | 34, 2 => edge (.ctud u e r fo)
  | 35, 0 => plain (.sr u r fo)
  | 35, 1 => plain (.rs u r fo)
  | 36, 0 => noInst (plain (.sel u r))
  | 36, 1 => noInst (plain (.seld u r))
  | 36, 2 => noInst (some (.mux u opt r))
  | 36, 3 => noInst (some (.muxd u opt r))
  | 37, 0 => noInst (plain (.limitDint u r))
  | 37, 1 => noInst (plain (.limitUdint u r))
  | 37, 2 => noInst (plain (.limitReal u r))
  | 37, 3 => noInst (plain (.limitLreal u r))
  | 38, 0 => plain (.hystDint u r fo)
  | 38, 1 => plain (.hystReal u r fo)
  | 39, 0 => edge (.dbnc u e r fo)
  | 39, 1 => edge (.dbncRising u e r fo)
  | 39, 2 => edge (.dbncFalling u e r fo)
  | 40, 0 => plain (.pid u r fo)
  | 41, 0 => plain (.ramp u r fo)
  | _, _ => none

/-- What a word decodes as; none is ILLEGAL_INSTRUCTION by its MOP, fn, OP, cond or a field marked 0 (04 R95, Table JFI-2). -/
def decodeJfi (u : CoreId) (w : Word) : Option Instr :=
  match jMop w with
  | 0x00 => decodeSys u w
  | 0x01 => decodeIop u w
  | 2 => some (.addi u (jRd w) (jRa w) (jImm w))
  | 3 => some (.andi u (jRd w) (jRa w) (jImm w))
  | 4 => some (.ori u (jRd w) (jRa w) (jImm w))
  | 5 => some (.xori u (jRd w) (jRa w) (jImm w))
  | 6 => zeros [jRa w] (.lui u (jRd w) (jImm w))
  | 7 => zeros [jRd w] (.cmpi u (jRa w) (jImm w))
  | 8 => decodeFop u w
  | 9 => decodeDop u w
  | 10 => decodeCvt u w
  | 11 => decodeBop u w
  | 16 => some (.ldw u (jRd w) (jRa w) (jImm w))
  | 17 => some (.ldh u (jRd w) (jRa w) (jImm w))
  | 18 => some (.ldb u (jRd w) (jRa w) (jImm w))
  | 19 => some (.ldd u (jRd w) (jRa w) (jImm w))
  | 20 => some (.stw u (jRd w) (jRa w) (jImm w))
  | 21 => some (.sth u (jRd w) (jRa w) (jImm w))
  | 22 => some (.stb u (jRd w) (jRa w) (jImm w))
  | 23 => some (.std u (jRd w) (jRa w) (jImm w))
  | 24 => some (.br u (jOff26 w))
  | 25 => if 0x13 < (jRa w).val then none else if (jRa w).val ≤ 0xF then zeros [jRd w] (.bc u (jRa w) (jRd w) (jImm w)) else some (.bc u (jRa w) (jRd w) (jImm w))
  | 26 => if (jRd w).val = 0 then none else some (.loop u (jRd w) (BitVec.ofNat 11 (w.toNat / 2 ^ 10)) (w.setWidth 10))
  | 27 => some (.call u (jOff26 w))
  | 28 => some (.callfb u (BitVec.ofNat 10 (w.toNat / 2 ^ 16)) (jImm w))
  | 29 => if w.toNat % 2 ^ 26 = 0 then some (.ret u) else none
  | 30 => some (.swapw u (jRd w) (jRa w) (jImm w))
  | 56 => decodeDiag u w
  | _ => decodeFb u w

/-- The core an instruction runs on and what it does there; none for a command that is no instruction. -/
def semOf : Instr → Option (CoreId × Sem)
  | .nop u => some (u, semNop)
  | .trap u _ => some (u, semTrap)
  | .fence u => some (u, semFence)
  | .evt u ra rb => some (u, semEvt ra rb)
  | .add u ovf d rd ra rb => some (u, semAdd ovf d rd ra rb)
  | .sub u ovf d rd ra rb => some (u, semSub ovf d rd ra rb)
  | .mul u ovf d rd ra rb => some (u, semMul ovf d rd ra rb)
  | .mulhs u rd ra rb => some (u, semMulhs rd ra rb)
  | .mulhu u rd ra rb => some (u, semMulhu rd ra rb)
  | .div u ovf d rd ra rb => some (u, semDiv ovf d rd ra rb)
  | .divu u d rd ra rb => some (u, semDivu d rd ra rb)
  | .rem u d rd ra rb => some (u, semRem d rd ra rb)
  | .remu u d rd ra rb => some (u, semRemu d rd ra rb)
  | .and u d rd ra rb => some (u, semAnd d rd ra rb)
  | .or u d rd ra rb => some (u, semOr d rd ra rb)
  | .xor u d rd ra rb => some (u, semXor d rd ra rb)
  | .andn u d rd ra rb => some (u, semAndn d rd ra rb)
  | .sll u d rd ra rb => some (u, semSll d rd ra rb)
  | .srl u d rd ra rb => some (u, semSrl d rd ra rb)
  | .sra u d rd ra rb => some (u, semSra d rd ra rb)
  | .rol u d rd ra rb => some (u, semRol d rd ra rb)
  | .ror u d rd ra rb => some (u, semRor d rd ra rb)
  | .cmp u d ra rb => some (u, semCmp d ra rb)
  | .setc u rd cond => some (u, semSetc rd cond)
  | .min u d rd ra rb => some (u, semMin d rd ra rb)
  | .max u d rd ra rb => some (u, semMax d rd ra rb)
  | .minu u d rd ra rb => some (u, semMinu d rd ra rb)
  | .maxu u d rd ra rb => some (u, semMaxu d rd ra rb)
  | .abs u ovf d rd ra => some (u, semAbs ovf d rd ra)
  | .sextb u rd ra => some (u, semSextb rd ra)
  | .sexth u rd ra => some (u, semSexth rd ra)
  | .sextw u rd ra => some (u, semSextw rd ra)
  | .zextw u rd ra => some (u, semZextw rd ra)
  | .movd u rd ra => some (u, semMovd rd ra)
  | .mfs u d rd sr => some (u, semMfs d rd sr)
  | .mts u sr ra => some (u, semMts sr ra)
  | .ldxb u rd ra rb => some (u, semLdxb rd ra rb)
  | .ldxh u rd ra rb => some (u, semLdxh rd ra rb)
  | .ldxw u rd ra rb => some (u, semLdxw rd ra rb)
  | .ldxd u rd ra rb => some (u, semLdxd rd ra rb)
  | .stxb u rs ra rb => some (u, semStxb rs ra rb)
  | .stxh u rs ra rb => some (u, semStxh rs ra rb)
  | .stxw u rs ra rb => some (u, semStxw rs ra rb)
  | .stxd u rs ra rb => some (u, semStxd rs ra rb)
  | .addi u rd ra imm => some (u, semAddi rd ra imm)
  | .andi u rd ra imm => some (u, semAndi rd ra imm)
  | .ori u rd ra imm => some (u, semOri rd ra imm)
  | .xori u rd ra imm => some (u, semXori rd ra imm)
  | .lui u rd imm => some (u, semLui rd imm)
  | .cmpi u ra imm => some (u, semCmpi ra imm)
  | .fadd u rd ra rb => some (u, semFadd rd ra rb)
  | .dadd u rd ra rb => some (u, semDadd rd ra rb)
  | .fsub u rd ra rb => some (u, semFsub rd ra rb)
  | .dsub u rd ra rb => some (u, semDsub rd ra rb)
  | .fmul u rd ra rb => some (u, semFmul rd ra rb)
  | .dmul u rd ra rb => some (u, semDmul rd ra rb)
  | .fdiv u rd ra rb => some (u, semFdiv rd ra rb)
  | .ddiv u rd ra rb => some (u, semDdiv rd ra rb)
  | .fsqrt u rd ra => some (u, semFsqrt rd ra)
  | .dsqrt u rd ra => some (u, semDsqrt rd ra)
  | .fmin u rd ra rb => some (u, semFmin rd ra rb)
  | .dmin u rd ra rb => some (u, semDmin rd ra rb)
  | .fmax u rd ra rb => some (u, semFmax rd ra rb)
  | .dmax u rd ra rb => some (u, semDmax rd ra rb)
  | .fcmp u ra rb => some (u, semFcmp ra rb)
  | .dcmp u ra rb => some (u, semDcmp ra rb)
  | .fneg u rd ra => some (u, semFneg rd ra)
  | .dneg u rd ra => some (u, semDneg rd ra)
  | .fabs u rd ra => some (u, semFabs rd ra)
  | .dabs u rd ra => some (u, semDabs rd ra)
  | .fcpys u rd ra rb => some (u, semFcpys rd ra rb)
  | .dcpys u rd ra rb => some (u, semDcpys rd ra rb)
  | .f2i u t rd ra => some (u, semF2i t rd ra)
  | .f2u u t rd ra => some (u, semF2u t rd ra)
  | .f2l u t rd ra => some (u, semF2l t rd ra)
  | .f2ul u t rd ra => some (u, semF2ul t rd ra)
  | .d2i u t rd ra => some (u, semD2i t rd ra)
  | .d2u u t rd ra => some (u, semD2u t rd ra)
  | .d2l u t rd ra => some (u, semD2l t rd ra)
  | .d2ul u t rd ra => some (u, semD2ul t rd ra)
  | .i2f u rd ra => some (u, semI2f rd ra)
  | .u2f u rd ra => some (u, semU2f rd ra)
  | .l2f u rd ra => some (u, semL2f rd ra)
  | .ul2f u rd ra => some (u, semUl2f rd ra)
  | .i2d u rd ra => some (u, semI2d rd ra)
  | .u2d u rd ra => some (u, semU2d rd ra)
  | .l2d u rd ra => some (u, semL2d rd ra)
  | .ul2d u rd ra => some (u, semUl2d rd ra)
  | .f2d u rd ra => some (u, semF2d rd ra)
  | .d2f u rd ra => some (u, semD2f rd ra)
  | .bld u rd loc => some (u, semBld rd loc)
  | .bldn u rd loc => some (u, semBldn rd loc)
  | .btst u loc => some (u, semBtst loc)
  | .bstr u rs loc => some (u, semBstr rs loc)
  | .bset u loc => some (u, semBset loc)
  | .bclr u loc => some (u, semBclr loc)
  | .btgl u loc => some (u, semBtgl loc)
  | .ldw u rd base off => some (u, semLdw rd base off)
  | .ldh u rd base off => some (u, semLdh rd base off)
  | .ldb u rd base off => some (u, semLdb rd base off)
  | .ldd u rd base off => some (u, semLdd rd base off)
  | .stw u rs base off => some (u, semStw rs base off)
  | .sth u rs base off => some (u, semSth rs base off)
  | .stb u rs base off => some (u, semStb rs base off)
  | .std u rs base off => some (u, semStd rs base off)
  | .swapw u rd base off => some (u, semSwapw rd base off)
  | .br u off => some (u, semBr off)
  | .bc u cond ra off => some (u, semBc cond ra off)
  | .loop u rc bound dist => some (u, semLoop rc bound dist)
  | .call u off => some (u, semCall off)
  | .callfb u bt fo => some (u, semCallfb bt fo)
  | .ret u => some (u, semRet)
  | .rdtime u rd => some (u, semRdtime rd)
  | .rdlane u rd => some (u, semRdlane rd)
  | .dcwb u ra => some (u, semDcwb ra)
  | .dcinv u ra => some (u, semDcinv ra)
  | .icinv u ra => some (u, semIcinv ra)
  | .brk u => some (u, semBrk)
  | .ton u r fo => some (u, semTon r fo)
  | .tof u r fo => some (u, semTof r fo)
  | .tp u r fo => some (u, semTp r fo)
  | .rtrig u e1 r fo => some (u, semRtrig e1 r fo)
  | .ftrig u e1 r fo => some (u, semFtrig e1 r fo)
  | .ctu u e1 r fo => some (u, semCtu e1 r fo)
  | .ctd u e1 r fo => some (u, semCtd e1 r fo)
  | .ctud u e1 r fo => some (u, semCtud e1 r fo)
  | .sr u r fo => some (u, semSr r fo)
  | .rs u r fo => some (u, semRs r fo)
  | .sel u r => some (u, semSel r)
  | .seld u r => some (u, semSeld r)
  | .mux u opt r => some (u, semMux opt r)
  | .muxd u opt r => some (u, semMuxd opt r)
  | .limitDint u r => some (u, semLimitDint r)
  | .limitUdint u r => some (u, semLimitUdint r)
  | .limitReal u r => some (u, semLimitReal r)
  | .limitLreal u r => some (u, semLimitLreal r)
  | .hystDint u r fo => some (u, semHystDint r fo)
  | .hystReal u r fo => some (u, semHystReal r fo)
  | .dbnc u q0 r fo => some (u, semDbnc q0 r fo)
  | .dbncRising u q0 r fo => some (u, semDbncRising q0 r fo)
  | .dbncFalling u q0 r fo => some (u, semDbncFalling q0 r fo)
  | .pid u r fo => some (u, semPid r fo)
  | .ramp u r fo => some (u, semRamp r fo)
  | _ => none

/-- The step weight of an instruction in Tables JFI-4 to JFI-12 and FBI-1; 0 for one whose weight is the charge of its access, for DIAG, and for a command that is no instruction (04 R96). -/
def baseWeight : Instr → Nat
  | .nop _ | .trap _ _ | .setc _ _ _ | .sextb _ _ _ | .sexth _ _ _ | .sextw _ _ _ | .zextw _ _ _ | .movd _ _ _ | .mts _ _ _ | .addi _ _ _ _
  | .andi _ _ _ _ | .ori _ _ _ _ | .xori _ _ _ _ | .lui _ _ _ | .cmpi _ _ _ | .fneg _ _ _ | .fabs _ _ _ | .fcpys _ _ _ _ | .br _ _ => 1
  | .fence _ | .fmin _ _ _ _ | .fmax _ _ _ _ | .fcmp _ _ _ | .dneg _ _ _ | .dabs _ _ _ | .dcpys _ _ _ _ | .bld _ _ _ | .bldn _ _ _ | .btst _ _
  | .bc _ _ _ _ | .loop _ _ _ _ | .sr _ _ _ | .rs _ _ _ | .sel _ _ | .limitDint _ _ | .limitUdint _ _ => 2
  | .mulhs _ _ _ _ | .mulhu _ _ _ _ | .fadd _ _ _ _ | .fsub _ _ _ _ | .f2i _ _ _ _ | .f2u _ _ _ _ | .i2f _ _ _ | .u2f _ _ _ | .bstr _ _ _ | .bset _ _
  | .bclr _ _ | .btgl _ _ | .call _ _ | .ret _ | .rtrig _ _ _ _ | .ftrig _ _ _ _ | .seld _ _ | .mux _ _ _ | .limitReal _ _ | .hystDint _ _ _ => 3
  | .evt _ _ _ | .fmul _ _ _ _ | .dmin _ _ _ _ | .dmax _ _ _ _ | .dcmp _ _ _ | .f2l _ _ _ _ | .f2ul _ _ _ _ | .d2i _ _ _ _ | .d2u _ _ _ _ | .d2l _ _ _ _
  | .d2ul _ _ _ _ | .l2f _ _ _ | .ul2f _ _ _ | .i2d _ _ _ | .u2d _ _ _ | .l2d _ _ _ | .ul2d _ _ _ | .f2d _ _ _ | .d2f _ _ _ | .swapw _ _ _ _
  | .callfb _ _ _ | .ctu _ _ _ _ | .ctd _ _ _ _ | .ctud _ _ _ _ | .muxd _ _ _ => 4
  | .limitLreal _ _ | .hystReal _ _ _ => 5
  | .dadd _ _ _ _ | .dsub _ _ _ _ | .ton _ _ _ | .tof _ _ _ | .tp _ _ _ | .dbnc _ _ _ _ | .dbncRising _ _ _ _ | .dbncFalling _ _ _ _ => 6
  | .dmul _ _ _ _ => 8
  | .ramp _ _ _ => 14
  | .fdiv _ _ _ _ => 16
  | .fsqrt _ _ _ => 20
  | .ddiv _ _ _ _ => 32
  | .dsqrt _ _ _ | .pid _ _ _ => 40
  | .add _ _ d _ _ _ | .sub _ _ d _ _ _ | .and _ d _ _ _ | .or _ d _ _ _ | .xor _ d _ _ _ | .andn _ d _ _ _ | .sll _ d _ _ _ | .srl _ d _ _ _
  | .sra _ d _ _ _ | .rol _ d _ _ _ | .ror _ d _ _ _ | .cmp _ d _ _ | .min _ d _ _ _ | .max _ d _ _ _ | .minu _ d _ _ _ | .maxu _ d _ _ _
  | .abs _ _ d _ _ | .mfs _ d _ _ => if d then 2 else 1
  | .mul _ _ d _ _ _ => if d then 6 else 3
  | .div _ _ d _ _ _ | .divu _ d _ _ _ | .rem _ d _ _ _ | .remu _ d _ _ _ => if d then 24 else 12
  | _ => 0

/-- What an instruction does to memory, for the charges of Table JFI-3 and the counters of Table PMC-1. -/
inductive AccessKind where
  | none | load | store | swap | bitStore
deriving DecidableEq, Repr

/-- The access of an instruction. -/
def accessKind : Instr → AccessKind
  | .ldxb _ _ _ _ | .ldxh _ _ _ _ | .ldxw _ _ _ _ | .ldxd _ _ _ _ | .bld _ _ _ | .bldn _ _ _ | .btst _ _ | .ldw _ _ _ _ | .ldh _ _ _ _ | .ldb _ _ _ _ | .ldd _ _ _ _ => .load
  | .stxb _ _ _ _ | .stxh _ _ _ _ | .stxw _ _ _ _ | .stxd _ _ _ _ | .stw _ _ _ _ | .sth _ _ _ _ | .stb _ _ _ _ | .std _ _ _ _ => .store
  | .swapw _ _ _ _ => .swap
  | .bstr _ _ _ | .bset _ _ | .bclr _ _ | .btgl _ _ => .bitStore
  | _ => .none

/-- An instruction of MOP 0x20 to 0x29. -/
def isFb : Instr → Bool
  | .ton _ _ _ | .tof _ _ _ | .tp _ _ _ | .rtrig _ _ _ _ | .ftrig _ _ _ _ | .ctu _ _ _ _ | .ctd _ _ _ _ | .ctud _ _ _ _ | .sr _ _ _ | .rs _ _ _
  | .sel _ _ | .seld _ _ | .mux _ _ _ | .muxd _ _ _ | .limitDint _ _ | .limitUdint _ _ | .limitReal _ _ | .limitLreal _ _ | .hystDint _ _ _
  | .hystReal _ _ _ | .dbnc _ _ _ _ | .dbncRising _ _ _ _ | .dbncFalling _ _ _ _ | .pid _ _ _ | .ramp _ _ _ => true
  | _ => false

/-- An FOP, DOP or CVT instruction. -/
def isFloat : Instr → Bool
  | .fadd _ _ _ _ | .dadd _ _ _ _ | .fsub _ _ _ _ | .dsub _ _ _ _ | .fmul _ _ _ _ | .dmul _ _ _ _ | .fdiv _ _ _ _ | .ddiv _ _ _ _ | .fsqrt _ _ _
  | .dsqrt _ _ _ | .fmin _ _ _ _ | .dmin _ _ _ _ | .fmax _ _ _ _ | .dmax _ _ _ _ | .fcmp _ _ _ | .dcmp _ _ _ | .fneg _ _ _ | .dneg _ _ _ | .fabs _ _ _
  | .dabs _ _ _ | .fcpys _ _ _ _ | .dcpys _ _ _ _ | .f2i _ _ _ _ | .f2u _ _ _ _ | .f2l _ _ _ _ | .f2ul _ _ _ _ | .d2i _ _ _ _ | .d2u _ _ _ _
  | .d2l _ _ _ _ | .d2ul _ _ _ _ | .i2f _ _ _ | .u2f _ _ _ | .l2f _ _ _ | .ul2f _ _ _ | .i2d _ _ _ | .u2d _ _ _ | .l2d _ _ _ | .ul2d _ _ _ | .f2d _ _ _
  | .d2f _ _ _ => true
  | _ => false

end Sys2Proof.Machine
end

