-- ==== Sys2Proof/Machine/Modes.lean ====
section
/-! DEFINITION. Operating modes, module breakpoints and forcing, and the snapshot at which Ringmaster's messages take effect (06 R134 to R146; 21 R461; 02 R41). -/

namespace Sys2Proof.Machine

/-! Forces (06 R143 to R145). -/

/-- The first `n` and following bytes of an enabled record: `reg` holds its address in [15:0] and its enable in bit 16. -/
def recArea (l : LaneState) (reg n : Nat) : List (Nat × Nat) := if bget l reg 16 then [(fget l reg 15 0, n)] else []

/-- The input-image ranges that cannot be forced (06 R144). -/
def unforceable (l : LaneState) : List (Nat × Nat) :=
  [(0xFF00, 256), (fioIn l + 0xC, 6), (fioIn l + 0x14, 96)]
    ++ (rxConns l).map (fun c => (fget l (Rg.SAF_CONNc_BUF c) 15 0, 8))
    ++ ((List.range 256).filter (fun b => bget l (Rg.CAR_BUFb_CFG b) 0 && bget l (Rg.CAR_BUFb_CFG b) 1)).map (fun b => (fget l (Rg.CAR_BUFb_ADDR b) 15 0, 8))
    ++ ((List.range 8).filter (fun r => bget l (Rg.CAN_QqCFG (r / 2) (r % 2)) 0)).map
         (fun r => (fget l (Rg.CAN_QqADDR (r / 2) (r % 2)) 15 0, 16 + 64 * qEsize l (r / 2) (r % 2)))
    ++ (if bget l Rg.FIO_SOE_CFG 0 then [(fget l Rg.FIO_SOE_ADDR 15 0, 16 + 16 * 2 ^ (4 + fget l Rg.FIO_SOE_CFG 4 2))] else [])
    ++ recArea l Rg.INA_CFG 16 ++ recArea l Rg.PRT_REC 8 ++ recArea l Rg.PWR_REC 8 ++ recArea l Rg.MBX_REC 64 ++ recArea l Rg.BRG_REC 64

/-- Whether two byte ranges meet. -/
def meets (a n b m : Nat) : Bool := decide (a < b + m) && decide (b < a + n)

/-- Whether a SET's location is out of range, misaligned, or cannot be forced (06 Table MOD-5, code 3). -/
def forceRange (l : LaneState) (f : ForceFields) : Bool :=
  let a := forceByte f
  let n := forceLen f.width.toNat
  decide (1 < f.area.toNat) || decide (4 < f.width.toNat) || decide (outLen < a + n) || (f.width != 0 && a % n != 0)
    || (f.area == 0 && (unforceable l).any (fun r => meets a n r.1 r.2))

/-- Whether a location touches a safety-assigned bit (06 R145). -/
def forceSafety (l : LaneState) (f : ForceFields) : Bool :=
  let bits := if f.area = 0 then l.cfg.safeIn else l.cfg.safeOut
  if f.width = 0 then bits.contains f.loc.toNat else bits.any (fun b => decide (forceByte f ≤ b / 8) && decide (b / 8 < forceByte f + forceLen f.width.toNat))

/-- Whether two locations overlap. -/
def forceMeets (a b : ForceFields) : Bool :=
  a.area == b.area && (if a.width = 0 && b.width = 0 then a.loc == b.loc
    else meets (forceByte a) (forceLen a.width.toNat) (forceByte b) (forceLen b.width.toNat))

/-- Whether two entries have the same key: symbol and location. -/
def sameKey (a b : ForceFields) : Bool := a.sym == b.sym && a.area == b.area && a.width == b.width && a.loc == b.loc

/-- What a force operation asks. -/
inductive ForceOp where
  | set (e : ForceFields)
  | clear (sym : DWord)
  | clearAll
deriving DecidableEq, Repr

/-- The status of a force operation in a lane: the first cause of Table MOD-5 that applies in the order of R143; 0 when it is applied. -/
def forceStatusOf (l : LaneState) (src : CmdSrc) (symtab : DWord) (op : ForceOp) : Nat :=
  let low := !isMaintainer src
  if isSafe l || l.exe.mig.isSome then 6
  else if src.backbone then 5
  else
    match op with
    | .set e =>
      if modeOf l = .hold then 6
      else if symtab != (l.app.getD {}).symtab then 4
      else if forceRange l e then 3
      else if low && forceSafety l e then 5
      else if l.forces.any (fun x => sameKey x.2.f e) then 0
      else if l.forces.any (fun x => x.2.f.sym == e.sym || forceMeets x.2.f e) then 2
      else if 512 ≤ l.forces.length then 1
      else 0
    | .clear sym =>
      if symtab != (l.app.getD {}).symtab then 4
      else if low && l.forces.any (fun x => x.2.f.sym == sym && x.2.safety) then 5
      else if !l.forces.any (fun x => x.2.f.sym == sym) then 7
      else 0
    | .clearAll => if symtab != (l.app.getD {}).symtab then 4 else if low then 5 else 0

/-- The lowest free index of the force table. -/
def freeForce (l : LaneState) : Nat := ((List.range 512).find? (fun i => !l.forces.any (fun e => e.1 == i))).getD 0

/-- EXPIRY_N of an entry set at cycle `n` (06 R145). -/
def expiryAt (l : LaneState) (safety : Bool) (n : Nat) : Nat :=
  if safety && baseNs l != 0 then n + (l.cfg.forceExpiryMin * 60000000000 + baseNs l - 1) / baseNs l else 0

/-- A force operation in one lane: its effect when its status is 0, and its status with the force events it caused as items of the next COMMIT (06 R143; 02 R44). -/
def applyForce (src : CmdSrc) (symtab : DWord) (op : ForceOp) (l : LaneState) : LaneState :=
  let st := forceStatusOf l src symtab op
  let code := match op with
    | .set _ => 1
    | .clear _ => 2
    | .clearAll => 3
  let l := { l with exe := { l.exe with pendEv := l.exe.pendEv ++ [⟨0x600, .forceStatus code st⟩] } }
  if st ≠ 0 then l
  else
    match op with
    | .set e =>
      let saf := forceSafety l e
      let x := expiryAt l saf l.exe.n
      let l := if l.forces.any (fun y => sameKey y.2.f e) then
          { l with forces := l.forces.map (fun y => if sameKey y.2.f e then (y.1, { y.2 with f := { y.2.f with value := e.value }, expiry := x }) else y) }
        else { l with forces := sins (freeForce l) { f := e, safety := saf, expiry := x } l.forces }
      showForced (raiseV l 0x0201 (e.sym.toNat % 2 ^ 32))
    | .clear sym =>
      showForced (raiseV { l with forces := l.forces.filter (fun y => y.2.f.sym != sym) } 0x0202 (sym.toNat % 2 ^ 32))
    | .clearAll =>
      showForced (l.forces.foldl (fun l y => raiseV l 0x0202 (y.2.f.sym.toNat % 2 ^ 32)) { l with forces := [] })

/-! Mode changes in one lane (06 R137 to R141). -/

/-- STOP takes effect (06 R137): instances are discarded with their items, pending marks dropped, vital mailboxes cancelled, and the stop contents due at the next COMMIT. -/
def enterStop (l : LaneState) : LaneState :=
  let l := canCancelVital (setMode l .stop)
  let l := saveRun { l with exe := { l.exe with insts := [] } }
  { l with exe := { l.exe with insts := [], running := none, waiting := [], owed := [], skipped := [], firstRun := [],
                               stopN := true, nextImg := none, cold := 0, abandonRun := 0, abandoned := none, undo := none } }

/-- RUN takes effect: every first release carries FIRST_RUN, stopped tasks run again, and the counts of the rings start from 0 (06 R138; 03 R88; 16 Table CAN-1). -/
def enterRun (l : LaneState) : LaneState :=
  let l := bset (setMode l .run) Rg.SYS_STATUS 7 false
  { l with exe := { l.exe with firstRun := List.range 16, stopped := [], rings := [], abandonRun := 0, abandoned := none } }

/-- Base cycles that a migration of a cost in weight units takes (06 R149). -/
def migCycles (l : LaneState) (cost : Nat) : Nat :=
  let room := baseNs l - headNs l - tailNs l
  if room = 0 then 1 else max 1 ((cost * 165 + 100 * room - 1) / (100 * room))

/-- A cold entry: the initial data, published copies among it, is reloaded, over as many cycles as a migration without copied entries (06 R138, R149). -/
def enterCold (l : LaneState) : LaneState :=
  let a := l.app.getD {}
  let l := mwr (enterRun l) a.dataAddr a.data
  { l with exe := { l.exe with cold := migCycles l (40000 + 2 * ((a.code.length + a.data.length + 7) / 8)) } }

/-- RESUME takes effect: frozen instances go on and are due at the first natural deadline from this cycle on; the agreed image of the cycle is written (06 R141). -/
def leaveHold (l : LaneState) : LaneState :=
  let n := l.exe.n
  let l := setMode l .run
  reschedule { l with exe := { l.exe with
    insts := l.exe.insts.map (fun i => { i with frozen := false, bpHit := false, resumed := i.bpHit, due := deadlineFrom l i.slot n, moved := 0 }),
    resumedAt := some n } }

/-! Commands and the snapshot at which they take effect (06 R135, R136). -/

/-- The lanes that vote all have their snapshot of the cycle and none has applied AGREE: what reaches them now is visible at this snapshot. -/
def State.atSnapshot (s : State) : Bool :=
  s.voting != [] && s.voting.all (fun x => (s.lane x).exe.snapped && !(s.lane x).agree.applied && (s.lane x).exe.n == (s.lane (s.voting.headD .a)).exe.n
    && (s.lane x).agree.own.isSome)

/-- A migration is in progress. -/
def State.migrating (s : State) : Bool := s.voting.any (fun x => (s.lane x).exe.mig.isSome)

/-- A mode change in every voting lane. -/
def State.inVoting (s : State) (f : LaneState → LaneState) : State := s.onLanes (fun x => if votes x then f x else x)

/-- A failed configuration validation keeps the module in STOP (21 Table SYS-3 code 0x20). -/
def State.heldInStop (s : State) : Bool := fget (s.lane (s.voting.headD .a)) Rg.SYS_STATUS 15 8 == 0x20

/-- A mode command takes effect, or returns why it does not (06 R135, R136, R142, Table MOD-2; 21 Table SYS-3). -/
def State.modeCmd (s : State) (need : Bool) (src : CmdSrc) (goal : Mode) (from_ : List Mode) (f : LaneState → LaneState) : State :=
  if s.safe then s.answer .mode
  else if need && !isMaintainer src then s.answer .auth
  else if s.mode = goal then s.answer .ok
  else if goal = .run && s.heldInStop then s.answer .mode
  else if from_.contains s.mode then (s.inVoting f).answer .ok
  else s.answer .mode

/-- A waiting mode command or force operation takes effect at a snapshot. -/
def State.applyOp (s : State) : RmOp → State
  | .runWarm _ src => s.modeCmd false src .run [.stop] enterRun
  | .runCold src => s.modeCmd false src .run [.stop] enterCold
  | .stop _ src => s.modeCmd false src .stop [.run, .hold] enterStop
  | .hold src => s.modeCmd true src .hold [.run] (fun l => enterHold l (l.exe.n + 1))
  | .resume src => s.modeCmd true src .run [.hold] leaveHold
  | .forceSet src t e => s.inVoting (applyForce src t (.set e))
  | .forceClear src t y => s.inVoting (applyForce src t (.clear y))
  | .clearAll src t => s.inVoting (applyForce src t .clearAll)

/-- Whether an operation waits out a migration: every mode command but HOLD (06 R151). -/
def waitsMigration : RmOp → Bool
  | .runWarm _ _ => true
  | .runCold _ => true
  | .stop _ _ => true
  | .resume _ => true
  | _ => false

/-- Whether the lanes answer MODE at once: HOLD and force operations during migration, and every operation in the safe state (06 R142, R151). -/
def State.turnsAway (s : State) (o : RmOp) : Bool := s.safe || (s.migrating && !waitsMigration o)

/-- A mode command or force operation sent to the lanes: it takes effect at this snapshot while the window is open, otherwise at the next (06 R135; log 31). -/
def State.sendOp (s : State) (o : RmOp) : State :=
  if s.turnsAway o then s.answer .mode
  else if s.atSnapshot && !(s.migrating && waitsMigration o) then s.applyOp o
  else { s with rm := { s.rm with ops := s.rm.ops ++ [o] } }

/-- The operations that wait take effect in order; during a migration the mode commands go on waiting (06 R135, R151). -/
def State.runOps (s : State) : State :=
  if !s.atSnapshot then s
  else
    let os := s.rm.ops
    let stay := os.filter (fun o => s.migrating && waitsMigration o)
    (os.filter (fun o => !(s.migrating && waitsMigration o))).foldl
      (fun s o => if s.turnsAway o then s.answer .mode else s.applyOp o) { s with rm := { s.rm with ops := stay } }

/-- SNAPSHOT: compare unit 0 fires at T(n); the lane selects its inputs and sends its set. Ringmaster messages visible at T(n) take effect once every voting lane has its snapshot (02 R32, R41; 06 R135; log 31). -/
def execSnapshot (l : Lane) (n : Nat) (s : State) : Res :=
  let x := s.lane l
  if !execUp x || (x.exe.snapped && n = x.exe.n) then .next s
  else .next (s.onLane l (snapshotLane n)).runOps

/-- A backbone command is accepted only for RUN and STOP (06 R135). -/
def State.serviceOnly (s : State) (src : CmdSrc) (o : RmOp) : State :=
  if src.backbone then s.answer .auth else s.sendOp o

/-- RUN_WARM (06 R138). -/
def execRunWarm (src : CmdSrc) (s : State) : Res := s.rmGate (fun s => s.sendOp (.runWarm false src))

/-- RUN_COLD (06 R138). -/
def execRunCold (src : CmdSrc) (s : State) : Res := s.rmGate (fun s => s.sendOp (.runCold src))

/-- STOP (06 R137). -/
def execStop (src : CmdSrc) (s : State) : Res := s.rmGate (fun s => s.sendOp (.stop false src))

/-- HOLD (06 R140). -/
def execHold (src : CmdSrc) (s : State) : Res := s.rmGate (fun s => s.serviceOnly src (.hold src))

/-- RESUME (06 R141). -/
def execResume (src : CmdSrc) (s : State) : Res := s.rmGate (fun s => s.serviceOnly src (.resume src))

/-- HOLD_LIMIT_EXPIRY: the module has been in HOLD for HOLD_LIMIT and enters STOP (06 R137, Table MOD-3; log 19). -/
def execHoldLimitExpiry (s : State) : Res :=
  .next (if s.mode = .hold then s.sendOp (.stop true { level := .maintainer }) else s)

/-- Whether AUTO_RUN may put the module into RUN now (21 R461; 19 R419). -/
def State.autoReady (s : State) (waited : Bool) : Bool :=
  let x := s.lane (s.voting.headD .a)
  s.voting != [] && !s.heldInStop && x.cfg.autoRun && bget x Rg.SYS_STATUS 7 && phaseOf x == 4 && s.mode == .stop && !s.safe && !isStandby x &&
    (waited || !bget x Rg.CAR_CFG 0 || (fget x Rg.CAR_STATUS 2 0 == 3 && fget x Rg.CAR_STATUS 13 8 != 0))

/-- AUTO_RUN_ENTRY: with AUTO_RUN = 1 the module in STOP enters RUN, as a warm entry, once positioned, with the Carousel disabled, or when RUN_WAIT has passed (21 R461). -/
def execAutoRunEntry (waited : Bool) (s : State) : Res :=
  .next (if s.autoReady waited then s.sendOp (.runWarm true {}) else s)

/-- MODULE_BREAKPOINT_ARM: Ringmaster arms an instruction address in every voting lane (06 R140). -/
def execModuleBreakpointArm (addr : Addr40) (s : State) : Res :=
  s.rmGate (fun s => s.inVoting (fun l => { l with exe := { l.exe with breaks := addNew l.exe.breaks [addr] } }))

/-- The running instance stands at an armed address it has not been let past (06 R140, R141). -/
def atBreak (l : LaneState) : Bool :=
  match runInst l with
  | some i => l.exe.breaks.contains l.c0.ctx.ip && !i.resumed
  | none => false

/-- The running instance freezes before the instruction at an armed address executes (06 R140). -/
def hitBreak (l : LaneState) : LaneState :=
  if atBreak l then reschedule (updRun l (fun i => { i with frozen := true, bpHit := true })) else l

/-- MODULE_BREAKPOINT_HIT: an instance that reaches an armed address is frozen; its lane reports the hit at the commit point at which it is due (06 R140). -/
def execModuleBreakpointHit (l : Lane) (s : State) : Res := .next (s.onLane l hitBreak)

/-- A force operation: from a backbone command it is refused, since the lanes take force operations only from the service port (06 R135, R143). -/
def State.forceCmd (s : State) (src : CmdSrc) (o : RmOp) : State :=
  if s.turnsAway o then s.answer .mode else if src.backbone then s.answer .auth else s.sendOp o

/-- FORCE_SET (06 R143). -/
def execForceSet (src : CmdSrc) (symtab : DWord) (e : ForceFields) (s : State) : Res := s.rmGate (fun s => s.forceCmd src (.forceSet src symtab e))

/-- FORCE_CLEAR (06 R143). -/
def execForceClear (src : CmdSrc) (symtab sym : DWord) (s : State) : Res := s.rmGate (fun s => s.forceCmd src (.forceClear src symtab sym))

/-- CLEAR_ALL (06 R143). -/
def execClearAll (src : CmdSrc) (symtab : DWord) (s : State) : Res := s.rmGate (fun s => s.forceCmd src (.clearAll src symtab))

/-- FORCE_EXPIRY: entries whose EXPIRY_N the snapshot's cycle has reached are cleared (06 R145). -/
def execForceExpiry (l : Lane) (s : State) : Res :=
  .next (s.onLane l (fun x => if x.exe.snapped then expireForces x x.exe.n else x))

end Sys2Proof.Machine
end

