-- ==== Sys2Proof/Machine/Cvu.lean ====
section
/-! DEFINITION. The eight check-value contexts of a lane (11): parameters, feeding, restart, value and result, and who owns a context. The commands that reach them are register accesses (Machine/RegAccess.lean). -/

namespace Sys2Proof.Machine

/-- WIDTH of a context (11 Table CVU-3). -/
def cvuWidth (l : LaneState) (k : Nat) : Nat := fget l (Rg.CVU_CTXk_CFG k) 6 0

/-- The bits of a 64-bit parameter below WIDTH (11 R254). -/
def cvuPar (l : LaneState) (k lo hi : Nat) : Nat := (rget64 l lo hi).toNat % 2 ^ cvuWidth l k

/-- The parameters of a context (11 R254). -/
def cvuPars (l : LaneState) (k : Nat) : CrcPar :=
  { width := cvuWidth l k, poly := cvuPar l k (Rg.CVU_CTXk_POLY_LO k) (Rg.CVU_CTXk_POLY_HI k),
    init := cvuPar l k (Rg.CVU_CTXk_INIT_LO k) (Rg.CVU_CTXk_INIT_HI k),
    xorOut := cvuPar l k (Rg.CVU_CTXk_XOROUT_LO k) (Rg.CVU_CTXk_XOROUT_HI k),
    refIn := bget l (Rg.CVU_CTXk_CFG k) 8, refOut := bget l (Rg.CVU_CTXk_CFG k) 9 }

/-- VALUE of a context: bits at or above WIDTH read 0 (11 R254). -/
def cvuValue (l : LaneState) (k : Nat) : Nat := cvuPar l k (Rg.CVU_CTXk_VALUE_LO k) (Rg.CVU_CTXk_VALUE_HI k)

/-- Set VALUE; bits at or above WIDTH are ignored (11 R254). -/
def cvuSet (l : LaneState) (k v : Nat) : LaneState :=
  rset64 l (Rg.CVU_CTXk_VALUE_LO k) (Rg.CVU_CTXk_VALUE_HI k) (BitVec.ofNat 64 (v % 2 ^ cvuWidth l k))

/-- Feed bytes to a context (11 R255). -/
def cvuFeed (l : LaneState) (k : Nat) (bs : Bytes) : LaneState :=
  cvuSet l k (bs.foldl (crcByte (cvuPars l k)) (cvuValue l k))

/-- A write of FEED8, FEED16 or FEED32 feeds 1, 2 or 4 bytes of the word, lowest first (11 R256). -/
def cvuFeedWord (l : LaneState) (k n : Nat) (v : Word) : LaneState := cvuFeed l k (leBytes n v.toNat)

/-- RESTART, and the release of the owner task: VALUE := INIT (11 R258, R260). -/
def cvuRestart (l : LaneState) (k : Nat) : LaneState := cvuSet l k (cvuPars l k).init

/-- A write of one half of VALUE (11 R258). -/
def cvuWriteHalf (l : LaneState) (k : Nat) (hi : Bool) (v : Word) : LaneState :=
  let old := cvuValue l k
  cvuSet l k (if hi then old % 2 ^ 32 + v.toNat * 2 ^ 32 else old / 2 ^ 32 * 2 ^ 32 + v.toNat)

/-- RESULT, computed at every read (11 R255). -/
def cvuResult (l : LaneState) (k : Nat) : Nat := crcResult (cvuPars l k) (cvuValue l k)

/-- One half of RESULT. -/
def cvuResultHalf (l : LaneState) (k : Nat) (hi : Bool) : Word :=
  BitVec.ofNat 32 (if hi then cvuResult l k / 2 ^ 32 else cvuResult l k)

/-- Whether an agent's access to a context passes its ownership: V only from the owner task, X only to a context of the auxiliary core (11 R259). -/
def cvuOwned (l : LaneState) (k : Nat) : Agent → Bool
  | .v => fget l (Rg.CVU_CTXk_CFG k) 17 16 == 1 && l.exe.running == some (fget l (Rg.CVU_CTXk_CFG k) 23 20)
  | .x => fget l (Rg.CVU_CTXk_CFG k) 17 16 == 2
  | _ => true

/-- At a release, the vital contexts of the task restart (11 R260). -/
def cvuRelease (l : LaneState) (t : Nat) : LaneState :=
  (List.range 8).foldl (fun l k =>
    if fget l (Rg.CVU_CTXk_CFG k) 17 16 == 1 && fget l (Rg.CVU_CTXk_CFG k) 23 20 == t then cvuRestart l k else l) l

/-- The bits below WIDTH that a parameter or VALUE register of a context holds: its low half at an offset 4 below its high half (11 R254). -/
def cvuMask (l : LaneState) (a : Nat) : Word :=
  let w := cvuWidth l ((a - 0x0C0000) / 64)
  let o := a % 64
  let all := 2 ^ w - 1
  BitVec.ofNat 32 (if o == 0x04 || o == 0x0C || o == 0x14 || o == 0x20 then all else if o == 0x08 || o == 0x10 || o == 0x18 || o == 0x24 then all / 2 ^ 32 else 2 ^ 32 - 1)

end Sys2Proof.Machine
end

