-- ==== Sys2Proof/Machine/Pmc.lean ====
section
/-! DEFINITION. The performance unit of each core (24): counters, overflow and chaining, the sampler and its buffer. Events that are elapsed time or depend on timing alone are not counted (log 17); stage times of a sample are free values. -/

namespace Sys2Proof.Machine

/-- The performance unit of core `c`. -/
def pmcOf (l : LaneState) (c : Nat) : PmcCore := if c = 0 then l.pmc0 else l.pmc1

/-- Replace the performance unit of core `c`. -/
def setPmc (l : LaneState) (c : Nat) (p : PmcCore) : LaneState := if c = 0 then { l with pmc0 := p } else { l with pmc1 := p }

/-- The 48-bit count of counter `n` of core `c` (24 R513). -/
def pmcCount (l : LaneState) (c n : Nat) : Nat := (rget l (Rg.PMC_CNTc_n_LO c n)).toNat + sget zNat (pmcOf l c).cntHi n * 2 ^ 32

/-- Load a counter. -/
def pmcLoad (l : LaneState) (c n v : Nat) : LaneState :=
  let p := pmcOf l c
  rset (setPmc l c { p with cntHi := sset zNat p.cntHi n (v / 2 ^ 32 % 65536) }) (Rg.PMC_CNTc_n_LO c n) (BitVec.ofNat 32 v)

/-- The enable of counter `n` (24 R513). -/
def pmcEnabled (l : LaneState) (c n : Nat) : Bool := bget l (Rg.PMC_CTRLc c) n

/-- Whether counter `n` is fed by the wraps of the one before it (24 R514). -/
def pmcChained (l : LaneState) (c n : Nat) : Bool := 0 < n && bget l (Rg.PMC_EVTc_n c (n - 1)) 8

/-- Add to a counter: a wrap sets its overflow flag, may freeze the core's counters, and feeds a chained counter (24 R514). -/
def pmcAdd : Nat → LaneState → Nat → Nat → Nat → LaneState
  | 0, l, _, _, _ => l
  | fuel + 1, l, c, n, k =>
    if pmcEnabled l c n then
      let v := pmcCount l c n + k
      let l := pmcLoad l c n (v % 2 ^ 48)
      if v < 2 ^ 48 then l
      else
        let l := bset l (Rg.PMC_OVFc c) n true
        let l1 := if bget l (Rg.PMC_EVTc_n c n) 8 then pmcAdd fuel l c (n + 1) (v / 2 ^ 48) else l
        if bget l (Rg.PMC_EVTc_n c n) 9 then bset l1 (Rg.PMC_CTRLc c) 8 true else l1
    else l

/-- Count an event in every counter that selects it (24 R513). -/
def pmcEvent (l : LaneState) (c ev k : Nat) : LaneState :=
  (List.range 8).foldl (fun l n =>
    if !pmcChained l c n && fget l (Rg.PMC_EVTc_n c n) 7 0 == ev && k != 0 then pmcAdd 8 l c n k else l) l

/-- Whether the filter admits task code of a slot, or its error handler; an auxiliary core counts as task code of any slot (24 R513). -/
def pmcAdmits (l : LaneState) (c : Nat) (aux : Bool) (slot : Nat) (handler : Bool) : Bool :=
  let f := Rg.PMC_FILTc c
  (aux || bget l f slot) && bget l f (if handler then 17 else 16)

/-- Count the events of one retired instruction, a list of (event, amount), unless FREEZE is 1; a freeze that a wrap sets stops every counter after that instruction (24 Table PMC-1, R513, R514). -/
def pmcEvents (l : LaneState) (c : Nat) (evs : List (Nat × Nat)) : LaneState :=
  if bget l (Rg.PMC_CTRLc c) 8 then l else evs.foldl (fun l e => pmcEvent l c e.1 e.2) l

/-- One step of the Galois register of polynomial x³² + x²² + x² + x + 1, shifted toward bit 0 (24 R516; log 18). -/
def lfsrStep (r : Word) : Word := if r.getLsbD 0 then (r >>> 1) ^^^ 0x80200003#32 else r >>> 1

/-- `n` steps of the register. -/
def lfsrSteps : Nat → Word → Word
  | 0, r => r
  | n + 1, r => lfsrSteps n (lfsrStep r)

/-- K of the sampler: 0 reads as 1, above 24 as 24 (24 Table PMC-3). -/
def sampK (v : Nat) : Nat := if v = 0 then 1 else min v 24

/-- Begin a sampling interval: 32 steps, then d = 2^(K−1) + (r mod 2^K) (24 R516). -/
def newInterval (l : LaneState) (c : Nat) : LaneState :=
  let r := lfsrSteps 32 (rget l (Rg.PMC_SEEDc c))
  let k := sampK (fget l (Rg.PMC_SCFGc c) 12 8)
  let l := rset l (Rg.PMC_SEEDc c) r
  setPmc l c { pmcOf l c with left := 2 ^ (k - 1) + r.toNat % 2 ^ k }

/-- Write one sample entry at the write index (24 R517). -/
def putSample (l : LaneState) (c : Nat) (e : List Word) : LaneState :=
  let a := Rg.PMC_SSTATc c
  let i := fget l a 7 0
  let p := pmcOf l c
  let l := setPmc l c { p with samples := sset (fun _ => []) p.samples i e }
  let l := fset l a 16 8 (min (fget l a 16 8 + 1) 256)
  fset l a 7 0 ((i + 1) % 256)

/-- The sampler at a retired or trapped instruction in an admitted context: it counts down the interval and, at its end, records the instruction, or counts a skipped tag when the buffer is full under STOP_FULL. `region` is the region code of the access; stage times are free values (24 R516, R517; log 4). -/
def pmcSample (l : LaneState) (c : Nat) (ip word : Word) (task : Nat) (retired : Bool) (region : Nat) : LaneState :=
  if !bget l (Rg.PMC_SCFGc c) 0 then l
  else
    let l := if (pmcOf l c).left = 0 then newInterval l c else l
    let p := pmcOf l c
    if 1 < p.left then setPmc l c { p with left := p.left - 1 }
    else
      let l := newInterval l c
      if bget l (Rg.PMC_SCFGc c) 13 && fget l (Rg.PMC_SSTATc c) 16 8 == 256 then finc l (Rg.PMC_SSKIPc c) 31 0 1
      else
        let flags := b2n retired + 2 * b2n (!retired) + 16 * region
        let st (i : Nat) : Word := Config.stageTime (laneNo l.id) c (rget l (Rg.PMC_SEEDc c)) i
        putSample l c ([ip, word, BitVec.ofNat 32 (task + 256 * flags), st 0, st 1, st 2, st 3, BitVec.ofNat 32 l.mer.ltime])

/-- A write of a performance register by an agent the table lists (24 R514 to R518). -/
def pmcWrite (l : LaneState) (a : Nat) (v : Word) : LaneState :=
  let c := if a < 0x0D1000 then 0 else 1
  let o := (a - 0x0D0000) % 0x1000
  if o = 0x10 then rset l a (if v = 0 then 1 else v)
  else if o = 0x0C then fset (plainWrite l a v) a 12 8 (sampK (getBits v 12 8))
  else if o = 0x1C then
    if v.getLsbD 0 then
      let p := pmcOf l c
      fset (fset (setPmc l c { p with samples := [] }) (Rg.PMC_SSTATc c) 16 8 0) (Rg.PMC_SSTATc c) 7 0 0
    else l
  else if 0x100 ≤ o ∧ o < 0x180 then
    let n := (o - 0x100) / 16
    if o % 16 = 0 then
      let ev := getBits v 7 0
      let l := plainWrite l a v
      let l := if 0x19 < ev then fset l a 7 0 0 else l
      if n = 7 then bset l a 8 false else l
    else if o % 16 = 4 then pmcLoad l c n (v.toNat + sget zNat (pmcOf l c).bufHi n * 2 ^ 32)
    else setPmc l c { pmcOf l c with bufHi := sset zNat (pmcOf l c).bufHi n (getBits v 15 0) }
  else plainWrite l a v

/-- A read of a counter's low word latches its bits [47:32] (24 R515). -/
def pmcLatch (l : LaneState) (c n : Nat) : LaneState :=
  rset l (Rg.PMC_CNTc_n_HI c n) (BitVec.ofNat 32 (sget zNat (pmcOf l c).cntHi n))

/-- A word of a sample buffer, when the offset lies in one (24 R519). -/
def sampleWord (l : LaneState) (a : Nat) : Option Word :=
  if 0x0D8000 ≤ a ∧ a < 0x0DC000 ∧ a % 4 = 0 then
    let c := (a - 0x0D8000) / 0x2000
    let o := (a - 0x0D8000) % 0x2000
    some ((sget (fun _ => []) (pmcOf l c).samples (o / 32)).getD (o % 32 / 4) 0)
  else none

end Sys2Proof.Machine
end

