-- ==== Sys2Proof/Machine/Load.lean ====
section
/-! DEFINITION. Loading images into a lane, its reset, and starting an auxiliary core (00 R8; 03 R90; 07 R158, R159; 08 R188; 21 R456 to R460). -/

namespace Sys2Proof.Machine

/-- Erase a range of memory: it reads 0. -/
def zeroMem (l : LaneState) (a n : Nat) : LaneState := markDirty { l with mem := l.mem.filter (fun e => !inRange a n e) } a n

/-- The CFG registers take the values of the configuration image (00 R8). -/
def loadRegs (l : LaneState) : LaneState := l.cfg.regs.foldl (fun l e => rset l e.1 e.2) l

/-- The RWS registers among them: what a joiner loads (09 R219). -/
def loadRws (l : LaneState) : LaneState :=
  l.cfg.regs.foldl (fun l e => match regRow e.1 with
    | some r => if r.acc = .rws then rset l e.1 e.2 else l
    | none => l) l

/-- The twin mode and the firewall, sampled from the configuration record (08 Table TRP-3, R183). -/
def loadTwin (l : LaneState) : LaneState :=
  let c := l.cfg
  let l := bset (bset (fset l Rg.TRP_MODE 31 0 0) Rg.TRP_MODE 0 c.split) Rg.TRP_MODE 1 c.debugEn
  let l := rset l Rg.TRP_AUX_BANKS (BitVec.ofNat 32 (2 * (c.auxBanks / 2 % 2 ^ 14)))
  let l := rset (rset l Rg.TRP_AUX_WIN_BASE_LO (BitVec.ofNat 32 c.auxWinBase)) Rg.TRP_AUX_WIN_BASE_HI (BitVec.ofNat 32 (c.auxWinBase / 2 ^ 32))
  let l := fset l Rg.TRP_AUX_WIN_LEN 12 0 c.auxWinMiB
  bset (fset l Rg.TRP_STATUS 1 0 (if c.split then 1 else 0)) Rg.SYS_STATUS 6 c.split

/-- A configuration image comes into force: its registers, Atlas and static addresses, and the twin mode. -/
def loadConfig (c : CfgImage) (l : LaneState) : LaneState :=
  let l := loadTwin (loadRegs { l with cfg := c })
  let l := { l with car := { l.car with atlas := c.atlas.filter (fun e => e.2 != (0, 0, 0)) } }
  let st (e : Nat × Nat × Mac48 × Nat) : Nat × Word × Word × Nat :=
    (e.1, e.2.2.1.setWidth 32, BitVec.ofNat 32 (e.2.2.1.toNat / 2 ^ 32 + 65536 * e.2.1 + 2 ^ 31), e.2.2.2)
  let l := { l with ecn := { l.ecn with statics := c.statics.map st } }
  rset64 l (Rg.SYS_BUILDt_LO 5) (Rg.SYS_BUILDt_HI 5) c.build

/-- The code and the initial data of the vital application come into memory, with its declared DRAM region (03 Table JFM-9; 07 R158). -/
def loadApp (a : AppImage) (l : LaneState) : LaneState :=
  let l := mwr (mwr { l with app := some a } a.loadAddr a.code) a.dataAddr a.data
  let l := rset64 l Rg.MEM_VDR_BASE_LO Rg.MEM_VDR_BASE_HI (BitVec.ofNat 64 a.vdrBase)
  rset64 (fset l Rg.MEM_VDR_LEN 26 0 a.vdrLen) (Rg.SYS_BUILDt_LO 3) (Rg.SYS_BUILDt_HI 3) a.build

/-- The code and the initial data of the auxiliary application come into memory. -/
def loadAux (a : AppImage) (l : LaneState) : LaneState :=
  let l := mwr (mwr { l with aux := some a } a.loadAddr a.code) a.dataAddr a.data
  rset64 l (Rg.SYS_BUILDt_LO 4) (Rg.SYS_BUILDt_HI 4) a.build

/-- The auxiliary core starts from AUX_ENTRY with its registers 0 (08 R188). -/
def auxBoot (l : LaneState) : LaneState :=
  match l.aux with
  | some a =>
    if isSplit l then
      fset { l with c1 := { l.c1 with ctx := { ip := BitVec.ofNat 40 (a.loadAddr + a.auxEntry) }, halted := false, dbgHalted := false } } Rg.TRP_AUX_STATUS 1 0 1
    else l
  | none => l

/-- AUX_START: after image verification, and when its lane votes again, the auxiliary core starts; it runs in STOP, RUN and HOLD (08 R188). -/
def execAuxStart (l : Lane) (s : State) : Res :=
  .next (s.onLane l (fun x => if phaseOf x = 4 && votes x && fget x Rg.TRP_AUX_STATUS 1 0 != 1 then auxBoot x else x))

/-- AUX_RESTART: Ringmaster restarts a stopped auxiliary program from its entry point and counts it; the core of an excluded lane stays stopped (03 R90; 08 R188). -/
def execAuxRestart (l : Lane) (s : State) : Res :=
  .next (s.onLane l (fun x =>
    if s.rm.alive && phaseOf x = 4 && votes x && isSplit x && fget x Rg.TRP_AUX_STATUS 1 0 == 2 then finc (auxBoot x) Rg.TRP_AUX_STATUS 15 8 1 else x))

/-- The lane reset of reintegration: its cores and caches start afresh, the mismatch marks fall, the RWS registers are loaded again, and every codeword of the copy set is rewritten (08 Table TRP-6; 09 Table TRI-6, R219, R223; 21 Table SYS-4). -/
def resetLane (l : LaneState) : LaneState :=
  let l := loadRws { l with c0 := {}, c1 := {}, exe := {}, agree := { l.agree with own := none, sets := [], notices := [], closed := none, applied := false } }
  let l := bset (bset l Rg.TRP_STATUS 4 false) Rg.TRP_STATUS 5 false
  let l := if fget l Rg.TRP_STATUS 1 0 = 3 then fset l Rg.TRP_STATUS 1 0 (if isSplit l then 1 else 0) else l
  let l := fset (fset l Rg.TRP_AUX_STATUS 1 0 (if isSplit l then 2 else 0)) Rg.SYS_RESET_CAUSE 12 8 11
  let clean (cw : Nat) : Bool := !inCopySet l (cw / 256)
  { l with ecc := { l.ecc with errs := l.ecc.errs.filter (fun e => clean e.1), poison := l.ecc.poison.filter clean, uePending := false } }

end Sys2Proof.Machine
end

