-- ==== Sys2Proof/Machine/Reint.lean ====
section
/-! DEFINITION. Reintegration of an excluded lane: self-test, join, block copies, catch-up and the first voting cycle (09 R209, R218 to R224; 07 R170; 12 R291). -/

namespace Sys2Proof.Machine

/-- A hard exclusion is counted against a lane that no longer votes: a failed self-test or a failed catch-up (09 R209, R221, Table TRI-4). -/
def countHard (l : LaneState) (x : Lane) : LaneState :=
  let l := { l with tri := { l.tri with hardT := l.tri.hardT ++ [(x, l.mer.ltime)] } }
  let l := fset l (Rg.TRI_LANEL_STAT (laneNo x)) 11 8 (min ((l.tri.hardT.filter (fun h => h.1 == x)).length) 15)
  setLaneState l x (if failLimit l ≤ fget l (Rg.TRI_LANEL_STAT (laneNo x)) 11 8 then 5 else 1)

/-- The self-test failed: cause 9 (09 Table TRI-4). -/
def testFailed (l : LaneState) (x : Lane) : LaneState :=
  let e := Rg.TRI_LANEL_EXCL (laneNo x)
  countHard (event (finc (fset l e 3 0 9) e 31 16 1) 0x0103 (laneNo x + 256 * 9)) x

/-- PHASE of the attempt a lane takes part in. -/
def reintPhase (l : LaneState) : Nat := fget l Rg.TRI_REINT_STATUS 2 0

/-- The lane is the joiner. -/
def isJoiner (l : LaneState) : Bool := bget l Rg.TRI_REINT_STATUS 5

/-- The lane is a source. -/
def isSource (l : LaneState) : Bool := bget l Rg.TRI_REINT_STATUS 4

/-- The two sources of a joiner. -/
def State.sources (s : State) (j : Lane) : List Lane := s.voting.filter (fun x => x != j)

/-- Whether nothing keeps an attempt of lane `j` from starting: two lanes vote, no safe state, links up, no migration, and the module is in RUN or STOP power (09 R223). -/
def State.mayJoin (s : State) (j : Lane) : Bool :=
  let x := s.lane j
  !votes x && !s.safe && (s.sources j).length == 2 && !s.migrating && fget x Rg.PWR_STATUS 2 0 == 0 && phaseOf x == 4
    && (s.sources j).all (fun y => !x.tri.linksDown.contains y && !(s.lane y).tri.linksDown.contains j)

/-- Whether the attempt of an excluded lane is to start of itself or was commanded (09 R208, R224). -/
def toStart (l : LaneState) : Bool := fget l Rg.TRI_STATUS 2 0 == 2 || (fget l Rg.TRI_STATUS 2 0 == 1 && bget l Rg.TRI_CFG 0)

/-- REINT_SELFTEST_COMPLETE: phase 1 ends. It waits for three check epochs within TOL; a lane that passes sends JOIN, one that fails is excluded with cause 9 (09 Table TRI-6, Table TRI-4; 12 R291). -/
def execReintSelftestComplete (l : Lane) (pass : Bool) (s : State) : Res :=
  let x := s.lane l
  if !toStart x || !s.mayJoin l then .next s
  else if !pass then .next (s.onLanes (fun y => testFailed y l))
  else if x.mer.joinOk < 3 then .next s
  else
    let first := (s.sources l).headD .a
    .next ((s.onLane l (fun x =>
      let x := rset (resetLane { x with reint := {} }) Rg.TRI_REINT_STATUS 0
      fset (bset (fset x Rg.TRI_REINT_STATUS 2 0 2) Rg.TRI_REINT_STATUS 5 true) Rg.TRI_REINT_STATUS 7 6 (laneNo first))).mapLanes
        (fun y => setLaneState y l 3))

/-- A source begins the bulk copy to lane `j` (09 R220). -/
def startBulk (j : Lane) (l : LaneState) : LaneState :=
  let l := rset { l with reint := {} } Rg.TRI_REINT_KIB 0
  fset (bset (fset l Rg.TRI_REINT_STATUS 15 0 3) Rg.TRI_REINT_STATUS 4 true) Rg.TRI_REINT_STATUS 7 6 (laneNo j)

/-- The joiner begins phase 3. -/
def startCopy (l : LaneState) : LaneState :=
  rset (fset (fset { l with reint := {} } Rg.TRI_REINT_STATUS 2 0 3) Rg.TRI_REINT_STATUS 15 8 0) Rg.TRI_REINT_KIB 0

/-- JOIN: the sources accept the joiner at the next boundary that is not a migration cycle, and the bulk copy starts (09 Table TRI-6). -/
def execJoin (l : Lane) (s : State) : Res :=
  if isJoiner (s.lane l) && reintPhase (s.lane l) == 2 && s.mayJoin l then
    .next ((s.mapLanes (fun y => if votes y then startBulk l y else y)).setLane l (startCopy (s.lane l)))
  else .next s

/-- What is left: dirty blocks and the rest of the bulk copy in a source, unsettled blocks in a joiner (09 Table TRI-10). -/
def reintLeft (l : LaneState) : Nat :=
  if isJoiner l then copyCount l - l.reint.settled.length else if isSource l then l.reint.dirty.length + (copyCount l - l.reint.next) else 0

/-- Whether a source may send a block now: the next one of the bulk copy, or a dirty one. -/
def maySend (l : LaneState) (b : Nat) : Bool :=
  isSource l && 3 ≤ reintPhase l && reintPhase l ≤ 5 && ((reintPhase l == 3 && nthBlock (copyRanges l) l.reint.next == some b) || l.reint.dirty.contains b)

/-- A source has sent a block: its bit clears; at the end of the bulk copy the dirty passes start, and each one that empties is counted (09 R218, R220). -/
def noteSent (l : LaneState) (b : Nat) : LaneState :=
  let r := l.reint
  let bulk := reintPhase l == 3 && nthBlock (copyRanges l) r.next == some b
  let next := if bulk then r.next + 1 else r.next
  let dirty := r.dirty.filter (· != b)
  let pass := r.pass.filter (· != b)
  let l := rset { l with reint := { r with next := next, dirty := dirty, pass := pass, blocks := r.blocks + 1 } } Rg.TRI_REINT_KIB (BitVec.ofNat 32 ((r.blocks + 1) / 4))
  if reintPhase l = 3 then
    if copyCount l ≤ next then fset { l with reint := { l.reint with pass := dirty } } Rg.TRI_REINT_STATUS 2 0 4 else l
  else if pass = [] && r.pass != [] then finc { l with reint := { l.reint with pass := dirty } } Rg.TRI_REINT_STATUS 15 8 1
  else if pass = [] then { l with reint := { l.reint with pass := dirty } }
  else l

/-- The joiner receives a block copy, which takes the place of an older one of that source; the block is no longer settled (09 R220). -/
def takeBlock (src : Lane) (b : Nat) (d : Bytes) (done : Bool) (l : LaneState) : LaneState :=
  let r := l.reint
  let l := { l with reint := { r with inbox := r.inbox.filter (fun e => !(e.1 == src && e.2.1 == b)) ++ [(src, b, d)] } }
  if done then fset l Rg.TRI_REINT_STATUS 2 0 4 else l

/-- REINT_BLOCK_SEND: a source sends a block over its link, reading it through the decoder; an uncorrectable error abandons the attempt and stops the source at the next boundary (09 R220, R223; 07 R170). -/
def execReintBlockSend (l joiner : Lane) (blk : Nat) (s : State) : Res :=
  let x := s.lane l
  if !maySend x blk || fget x Rg.TRI_REINT_STATUS 7 6 != laneNo joiner then .next s
  else
    let r := eccRange x (256 * blk) 256 3
    if r.2 then
      .next ((s.onLane l (fun _ => { r.1 with ecc := { r.1.ecc with uePending := true } })).mapLanes dropReint)
    else
      let d := mrd r.1 (256 * blk) 256
      let s := s.onLane l (fun _ => noteSent (emit r.1 (.block joiner blk d)) blk)
      let done := (s.sources joiner).all (fun y => reintPhase (s.lane y) == 4)
      .next (s.setLane joiner (takeBlock l blk d (done && reintPhase (s.lane joiner) == 3) (s.lane joiner)))

/-- The copies of a block a joiner holds. -/
def copiesOf (l : LaneState) (b : Nat) : List Bytes := (l.reint.inbox.filter (fun e => e.2.1 == b)).map (·.2.2)

/-- Forget the copies of a block. -/
def dropCopies (l : LaneState) (b : Nat) : LaneState := { l with reint := { l.reint with inbox := l.reint.inbox.filter (fun e => e.2.1 != b) } }

/-- A block is settled: written to the joiner's memory (09 R220). -/
def settleBlock (l : LaneState) (b : Nat) (d : Bytes) : LaneState :=
  let l := mwr (dropCopies l b) (256 * b) d
  let l := { l with reint := { l.reint with settled := addNew l.reint.settled [b] } }
  rset l Rg.TRI_REINT_KIB (BitVec.ofNat 32 (l.reint.settled.length / 4))

/-- Both sources are asked to send a block again. -/
def State.askAgain (s : State) (j : Lane) (b : Nat) : State :=
  (s.sources j).foldl (fun s y => s.setLane y (let l := s.lane y; { l with reint := { l.reint with dirty := addNew l.reint.dirty [b] } })) s

/-- REINT_BLOCK_RECEIVE: the joiner settles the oldest block of which it holds a copy from both sources that neither has marked dirty since, or asks for it again; a single copy that brings nothing new is dropped (09 R220). -/
def execReintBlockReceive (l : Lane) (s : State) : Res :=
  let x := s.lane l
  if !isJoiner x || reintPhase x < 3 || 5 < reintPhase x then .next s
  else
    let stale (b : Nat) : Bool := (s.sources l).any (fun y => (s.lane y).reint.dirty.contains b)
    let bs := (addNew [] (x.reint.inbox.map (·.2.1))).filter (fun b => !stale b)
    match bs.find? (fun b => (copiesOf x b).length == 2) with
    | some b =>
      match copiesOf x b with
      | [c, d] => if c = d then .next (s.setLane l (settleBlock x b c)) else .next ((s.setLane l (dropCopies x b)).askAgain l b)
      | _ => .next s
    | none =>
      match bs.find? (fun b => x.reint.settled.contains b && copiesOf x b == [mrd x (256 * b) 256]) with
      | some b => .next (s.setLane l (dropCopies x b))
      | none => .next s

/-- What the executive of a source sends at catch-up: the executive state beside the memory blocks (09 R219, R221). What the joiner's own circuits measure or drive stays its own. -/
def copyExec (src l : LaneState) : LaneState :=
  let f := l.fio
  let l := { l with
    forces := src.forces, exe := src.exe, saf := src.saf,
    tri := { l.tri with seqs := src.tri.seqs, rels := src.tri.rels, released := src.tri.released, items := [], digs := [], counts := src.tri.counts, sdigs := src.tri.sdigs,
                        accs := [], asserts := [], uncounted := [], toOffer := src.tri.toOffer, latch := false, announced := [], hardT := src.tri.hardT },
    fio := { src.fio with cls := f.cls, wb := f.wb, gap := f.gap, rb := f.rb, ol := f.ol, olRun := f.olRun, ext := f.ext, oc := f.oc, gss := f.gss, pulse := none,
                          gssPulse := none, okRelay := f.okRelay, railHigh := f.railHigh, ovl := f.ovl, hold := f.hold },
    car := { l.car with txb := src.car.txb }, agree := { l.agree with inbox := src.agree.inbox } }
  let regs := (List.range 96).map (fun i => Rg.FIO_CHi_DIAG i) ++ (List.range 3).flatMap (fun x => [Rg.TRI_LANEL_STAT x, Rg.TRI_LANEL_EXCL x])
    ++ [Rg.CYC_STATUS, Rg.CYC_CYCLE_LO, Rg.CYC_CYCLE_HI]
  let l := regs.foldl (fun l a => rset l a (rget src a)) l
  (List.range 6).foldl (fun l g => fset l (Rg.FIO_GRPg_STAT g) 4 3 (fget src (Rg.FIO_GRPg_STAT g) 4 3)) l

/-- The last blocks of catch-up: the dirty ones of both sources and the unsettled ones the joiner has heard of. -/
def State.lastBlocks (s : State) (j : Lane) : List Nat :=
  addNew [] ((s.sources j).flatMap (fun y => (s.lane y).reint.dirty) ++ (s.lane j).reint.inbox.map (·.2.1))

/-- Whether T(n + 1) is quiet after the COMMIT and DIGEST of cycle n, in a source (06 R147; 09 R221). -/
def quietNext (l : LaneState) : Bool :=
  modeOf l == .stop || (l.exe.insts == [] && l.exe.waiting == [] && l.exe.abandoned != some l.exe.n)

/-- DIGEST of the cycle has run. -/
def digested (l : LaneState) : Bool := l.exe.undo.map (·.n) == some l.exe.n

/-- REINT_CATCHUP: at a quiet boundary the sources send their last dirty blocks and the executive state, and the joiner compares its digest with theirs. Copies that differ are the safe state, cause 8; a digest that differs is a hard exclusion of the joiner; a source that is late leaves the attempt in its dirty passes (09 R221). -/
def execReintCatchup (l : Lane) (inTime : Bool) (s : State) : Res :=
  let x := s.lane l
  let src := s.sources l
  let lim := fget x Rg.TRI_CFG 29 16
  if !isJoiner x || reintPhase x != 4 || x.reint.passed || !s.mayJoin l
      || !src.all (fun y => let z := s.lane y; reintPhase z == 4 && quietNext z && digested z && decide (z.reint.dirty.length ≤ lim)) then .next s
  else
    let s := s.mapLanes (fun y => if y.id = l then { y with reint := { y.reint with firstTry := true } } else y)
    if !inTime then .next s
    else
      let bs := s.lastBlocks l
      let a := s.lane (src.headD .a)
      let b := s.lane (src.getLastD .a)
      let ra := bs.foldl (fun (p : LaneState × Bool) k => let r := eccRange p.1 (256 * k) 256 3; (r.1, p.2 || r.2)) (a, false)
      let rb := bs.foldl (fun (p : LaneState × Bool) k => let r := eccRange p.1 (256 * k) 256 3; (r.1, p.2 || r.2)) (b, false)
      let s := (s.onLane a.id (fun _ => { ra.1 with ecc := { ra.1.ecc with uePending := ra.1.ecc.uePending || ra.2 } })).onLane b.id
        (fun _ => { rb.1 with ecc := { rb.1.ecc with uePending := rb.1.ecc.uePending || rb.2 } })
      if ra.2 || rb.2 then .next (s.mapLanes dropReint)
      else if bs.any (fun k => mrd a (256 * k) 256 != mrd b (256 * k) 256) then .next (s.onLanes (fun y => enterSafe y 8))
      else
        let x := bs.foldl (fun x k => settleBlock x k (mrd a (256 * k) 256)) (s.lane l)
        if x.reint.settled.length < copyCount x then .next s
        else
          let x := copyExec (s.lane a.id) x
          let due := (x.exe.undo.map (·.due)).getD []
          if crc64 (digestBytes x due) = a.exe.digest then
            let s := s.setLane l (fset { x with reint := { x.reint with passed := true }, exe := { x.exe with digest := a.exe.digest } } Rg.TRI_REINT_STATUS 2 0 5)
            .next (s.mapLanes (fun y => if isSource y then fset { y with reint := { y.reint with dirty := [], pass := [] } } Rg.TRI_REINT_STATUS 2 0 5 else y))
          else .next (s.mapLanes (fun y => countHard (dropReint y) l))

/-- In every lane the joiner votes: degraded operation and its timer end (09 R210, R222). -/
def votesAgain (j : Lane) (l : LaneState) : LaneState :=
  let l := setLaneState (setVoter l j true) j 0
  let three := (voters l).length == 3
  let l := { l with tri := { l.tri with degAt := if three then none else l.tri.degAt, announced := l.tri.announced.filter (· != j),
                                        asserts := l.tri.asserts.filter (fun a => a.2 != j) } }
  let l := if isSource l || isJoiner l then rset { l with reint := {} } Rg.TRI_REINT_STATUS 6 else l
  let l := { l with exe := { l.exe with degraded := !three } }
  if votes l && !l.tri.latch then event l 0x0104 (laneNo j) else l

/-- The joiner's first voting cycle: its executive and core run, its drivers are refreshed, and Tightrope compares again (08 R193; 09 R222). -/
def joinerRuns (l : LaneState) : LaneState :=
  let l := { l with tri := { l.tri with latch := false }, c0 := { l.c0 with halted := false },
                    c1 := if isSplit l then l.c1 else { l.c1 with halted := false } }
  fset l Rg.TRP_STATUS 1 0 (if isSplit l then 1 else 0)

/-- REINT_VOTE_START: from T(n + 1) the joiner votes, its ports return to it, DEG_LIMIT stops, and its auxiliary core starts again (09 R222; 01 R19; 08 R188). -/
def execReintVoteStart (l : Lane) (s : State) : Res :=
  if (s.lane l).reint.passed && isJoiner (s.lane l) then
    let s := s.setLane l (joinerRuns (s.lane l))
    let s := s.onLanes (fun y => takePorts (votesAgain l y))
    .next (s.onLane l (fun x => auxBoot (refreshDrivers x)))
  else .next s

/-- CATCHUP_WAIT_EXPIRY: no catch-up within CATCHUP_WAIT of the first: the attempt starts again at phase 3 (09 R221). -/
def execCatchupWaitExpiry (l : Lane) (s : State) : Res :=
  let x := s.lane l
  if isJoiner x && x.reint.firstTry && !x.reint.passed && reintPhase x == 4 then
    .next ((s.mapLanes (fun y => if isSource y then startBulk l y else y)).setLane l (startCopy x))
  else .next s

/-- REINT_START: a write of TRI_REINT_CTRL.START begins reintegration of a lane when REINT_EN is 0 (09 Table TRI-10). -/
def execReintStart (ag : Agent) (l : Lane) (s : State) : Res :=
  let x := s.lane l
  if !mayWrite x ag Rg.TRI_REINT_CTRL then .next (s.setLane l { x with berr := true })
  else
    let s := s.setLane l { x with berr := false }
    if fget x Rg.TRI_STATUS 2 0 == 1 && !bget x Rg.TRI_CFG 0 then .next (s.mapLanes (fun y => setLaneState y l 2)) else .next s

/-- CLEAR_FAILED: a maintainer clears the FAILED mark of a lane; its exclusions no longer count (09 R209). -/
def execClearFailed (src : CmdSrc) (l : Lane) (s : State) : Res :=
  s.rmGate (fun s =>
    if !isMaintainer src then s.answer .auth
    else
      let s := s.mapLanes (fun y =>
        if fget y (Rg.TRI_LANEL_STAT (laneNo l)) 2 0 == 5 then
          fset (setLaneState { y with tri := { y.tri with hardT := y.tri.hardT.filter (fun h => h.1 != l) } } l 1) (Rg.TRI_LANEL_STAT (laneNo l)) 11 8 0
        else y)
      s.answer .ok)

/-- HARD_EXCLUSION_AGE_OUT: the oldest hard exclusion of a lane is 24 h of operating time old and no longer counts (09 R209). -/
def execHardExclusionAgeOut (l subject : Lane) (s : State) : Res :=
  .next (s.onLane l (fun x =>
    let mine := x.tri.hardT.filter (fun h => h.1 == subject)
    let x := { x with tri := { x.tri with hardT := x.tri.hardT.filter (fun h => h.1 != subject) ++ mine.drop 1 } }
    fset x (Rg.TRI_LANEL_STAT (laneNo subject)) 11 8 (min (mine.length - 1) 15)))

end Sys2Proof.Machine
end

