-- ==== Sys2Proof/Machine/RegAccess.lean ====
section
/-! DEFINITION. One register access by any agent: the value a read returns and what it changes, the effect of a write, the stores of a vital task to registers that act, and the commands that are such accesses (00 R4 to R8; 03 R91; 07 R154; 11; 12; 20 R434; 24). -/

namespace Sys2Proof.Machine

/-! Reads. -/

/-- Seconds left before DEG_LIMIT expires (09 Table TRI-10, TRI_DEG_REMAIN). -/
def degRemain (l : LaneState) : Nat :=
  match l.tri.degAt with
  | none => 0
  | some t => degLimitS l - (localNs l - t) / 1000000000

/-- The value a read of a register returns, for every register: computed ones, sample buffers, indexed tables, and otherwise the content. -/
def regVal (l : LaneState) (a : Nat) : Word :=
  match sampleWord l a with
  | some w => w
  | none =>
    if 0x0C0000 ≤ a && a < 0x0C0200 && a % 64 == 0x28 then cvuResultHalf l ((a - 0x0C0000) / 64) false
    else if 0x0C0000 ≤ a && a < 0x0C0200 && a % 64 == 0x2C then cvuResultHalf l ((a - 0x0C0000) / 64) true
    else if 0x0C0000 ≤ a && a < 0x0C0200 then readVal l a &&& cvuMask l a
    else if a = Rg.CAR_ATLAS_W0 then atlasRead l 0
    else if a = Rg.CAR_ATLAS_W1 then atlasRead l 1
    else if a = Rg.CAR_ATLAS_W2 then atlasRead l 2
    else if a = Rg.ECN_STATIC_MAC_LO then staticRead l 0
    else if a = Rg.ECN_STATIC_MAC_HI then staticRead l 1
    else if a = Rg.ECN_STATIC_PORT then staticRead l 2
    else if a = Rg.BRG_PWLOG_ADDR_LO || a = Rg.BRG_PWLOG_ADDR_HI || a = Rg.BRG_PWLOG_INFO then pwlogWord l a
    else if a = Rg.EVR_RATE_VAL then rateWord l.cfg (fget l Rg.EVR_RATE_IDX 9 0)
    else if a = Rg.MER_WT_NS then BitVec.ofNat 32 l.mer.w.ns
    else if a = Rg.TRI_DEG_REMAIN then BitVec.ofNat 32 (degRemain l)
    else if a = Rg.TRI_REINT_DIRTY then BitVec.ofNat 32 (min (reintLeft l) 524287)
    else readVal l a

/-- The counter a low-word offset belongs to: core and number (24 Table PMC-3). -/
def pmcLoCounter (a : Nat) : Option (Nat × Nat) :=
  let o := (a - 0x0D0000) % 0x1000
  if 0x0D0000 ≤ a && a < 0x0D2000 && 0x100 ≤ o && o < 0x180 && o % 16 == 4 then some ((a - 0x0D0000) / 0x1000, (o - 0x100) / 16) else none

/-- What a read changes: an RC register clears, and reads that latch or advance an index do so. -/
def regReadEff (l : LaneState) (a : Nat) : LaneState :=
  match pmcLoCounter a with
  | some p => pmcLatch l p.1 p.2
  | none =>
    if a = Rg.CAR_ATLAS_W2 then atlasNext l
    else if a = Rg.ECN_STATIC_PORT then staticNext l
    else if a = Rg.MER_WT_NS then wtLatch l
    else if a = Rg.BRG_PWLOG_INFO then fset l Rg.BRG_PWLOG_IDX 5 0 ((fget l Rg.BRG_PWLOG_IDX 5 0 + 1) % 64)
    else if a = Rg.EVR_RATE_VAL then fset l Rg.EVR_RATE_IDX 9 0 ((fget l Rg.EVR_RATE_IDX 9 0 + 1) % 1024)
    else plainRead l a

/-- Whether an agent's read of an offset succeeds: a register it may read, a check-value context it may use, or a sample buffer (00 R7; 11 R259; 24 R519). -/
def readOk (l : LaneState) (ag : Agent) (a : Nat) : Bool :=
  if (sampleWord l a).isSome then ag != .v && agentHere l ag && phaseOf l != 0
  else mayRead l ag a && (!(0x0C0000 ≤ a && a < 0x0C0200 && 0x1C ≤ a % 64) || cvuOwned l ((a - 0x0C0000) / 64) ag)

/-- Whether an agent's write of an offset succeeds. -/
def writeOk (l : LaneState) (ag : Agent) (a : Nat) : Bool :=
  mayWrite l ag a && (!(0x0C0000 ≤ a && a < 0x0C0200 && 0x1C ≤ a % 64) || cvuOwned l ((a - 0x0C0000) / 64) ag)

/-! Writes. -/

/-- A write to a check-value context's registers other than its parameters (11 R256, R258). -/
def cvuPut (l : LaneState) (a : Nat) (v : Word) : LaneState :=
  let k := (a - 0x0C0000) / 64
  match a % 64 with
  | 0x1C => cvuRestart l k
  | 0x20 => cvuWriteHalf l k false v
  | 0x24 => cvuWriteHalf l k true v
  | 0x30 => cvuFeedWord l k 1 v
  | 0x34 => cvuFeedWord l k 2 v
  | 0x38 => cvuFeedWord l k 4 v
  | _ => plainWrite l a (maskWord (cvuMask l a).toNat (rget l a) v)

/-- A nanoseconds value of 10⁹ or more is never held: the write is ignored and sets ERR (12 R264). -/
def nsPut (l : LaneState) (n : Nat) (k : LaneState → LaneState) : LaneState :=
  if 1000000000 ≤ n then bset l Rg.MER_STATUS 7 true else k l

/-- A write to a Meridian register (12 R264, R273, R284, R290). -/
def merPut (l : LaneState) (a : Nat) (v : Word) : LaneState :=
  match cmpUnit a with
  | some u =>
    if a % 16 = 0 then cmpCtrlWrite l u v
    else if a % 16 = 8 then nsPut l (getBits v 29 0) (fun l => plainWrite l a v)
    else plainWrite l a v
  | none =>
    if a = Rg.MER_ADJ_SEC then rset l a v
    else if a = Rg.MER_ADJ_NS then nsPut l (sgn 32 v.toNat).natAbs (fun l => rset l a v)
    else if a = Rg.MER_ADJ_CTRL then adjCtrlWrite l v
    else plainWrite l a v

/-- The effect of a permitted write by an agent other than a vital task, for every register whose write acts on the lane alone. -/
def regPut (l : LaneState) (a : Nat) (v : Word) : LaneState :=
  if 0x0C0000 ≤ a && a < 0x0C0200 then cvuPut l a v
  else if 0x0D0000 ≤ a && a < 0x0D2000 then pmcWrite l a v
  else if 0x050000 ≤ a && a < 0x051000 then merPut l a v
  else if a = Rg.CAR_CAB then cabWrite l v
  else if a = Rg.CAR_SHEET_CTRL then sheetCtrl l v
  else if a = Rg.CAR_ATLAS_W0 then atlasWrite l 0 v
  else if a = Rg.CAR_ATLAS_W1 then atlasWrite l 1 v
  else if a = Rg.CAR_ATLAS_W2 then atlasNext (atlasWrite l 2 v)
  else if a = Rg.ECN_STATIC_MAC_LO then staticWrite l 0 v
  else if a = Rg.ECN_STATIC_MAC_HI then staticWrite l 1 v
  else if a = Rg.ECN_STATIC_PORT then staticNext (staticWrite l 2 v)
  else if a = Rg.INA_CTRL then (if v.getLsbD 0 then setTrigger l else l)
  else if a = Rg.MEM_ECC_INJ then injWrite l v
  else if a = Rg.BRG_PWLOG_CLR then { l with brg := { l.brg with pwlog := [] } }
  else if 0x0B1014 ≤ a && a < 0x0B3000 && a % 32 == 0x14 then rset l a v
  else plainWrite l a v

/-! Stores of a vital task to registers that act (02 R44; 10 R236; 13 R297, R310; 16 R357 to R362; 17 R381; 20 R434). -/

/-- A store to PWR_REQ offers a request as a vote item of stream 0x0500; it is possible only in RUN, and only for a target of 1 to 3 (20 R434). -/
def pwrReqStore (l : LaneState) (v : Word) : WrRes :=
  let t := getBits v 1 0
  match runInst l with
  | none => .bus
  | some _ => if modeOf l = .run && t != 0 then .ok (queueItem l 0x500 (.power t)) else .ok l

/-- A vital store to a register it may write; BRG_XFER starts a block transfer and is not among these. -/
def vitalPut (l : LaneState) (a : Nat) (v : Word) : WrRes :=
  if 0x0C0000 ≤ a && a < 0x0C0200 then .ok (cvuPut l a v)
  else if 0x050000 ≤ a && a < 0x051000 then .ok (merPut l a v)
  else if a = Rg.SAF_SEND then safSendStore l v
  else if a = Rg.CAR_CAB then cabStore l v
  else if a = Rg.CAR_COMMIT then commitStore l v
  else if a = Rg.FIO_SOE_ACK then fioSoeAckStore l v
  else if a = Rg.PWR_REQ then pwrReqStore l v
  else if 0x090000 ≤ a && a < 0x0A0000 then
    let k := (a - 0x090000) / 16384
    let o := (a - 0x090000) % 16384
    if o = 0x40 then canQqackStore l k 0 v
    else if o = 0x44 then canQqackStore l k 1 v
    else if o = 0x60 then canTxreqStore l k v
    else if o = 0x64 then canTxcancelStore l k v
    else .ok (plainWrite l a v)
  else .ok (plainWrite l a v)

/-! The commands that are one access. -/

/-- A read command: the value and the effect of the read, or a bus error (00 R7; log 5). -/
def readCmd (l : LaneState) (ag : Agent) (a : Nat) : LaneState :=
  if readOk l ag a then regReadEff { l with berr := false, rdval := regVal l a } a else { l with berr := true }

/-- A write command: the effect of the write, or a bus error. A vital task's store of an acting register has the outcome that register gives it; E itself belongs to the store instruction. -/
def writeCmd (l : LaneState) (ag : Agent) (a : Nat) (v : Word) : LaneState :=
  if !writeOk l ag a then { l with berr := true }
  else if ag = .v then
    match vitalPut l a v with
    | .ok l => { l with berr := false }
    | .bus => { l with berr := true }
    | .setE => { l with berr := false }
  else regPut { l with berr := false } a v

/-- REGISTER_WRITE: a write to a register without its own row, by its access code and Who column (00 R4 to R8). -/
def execRegisterWrite (l : Lane) (ag : Agent) (a : Nat) (v : Word) (s : State) : Res := .next (s.onLane l (fun x => writeCmd x ag a v))

/-- RC_REGISTER_READ: the value, and the register at its clear value (00 R6). -/
def execRcRegisterRead (l : Lane) (ag : Agent) (a : Nat) (s : State) : Res := .next (s.onLane l (fun x => readCmd x ag a))

/-- PMC_CTRL_WRITE (24 R515). -/
def execPmcCtrlWrite (l : Lane) (ag : Agent) (c : Bool) (v : Word) (s : State) : Res :=
  .next (s.onLane l (fun x => writeCmd x ag (Rg.PMC_CTRLc (b2n c)) v))
/-- PMC_CNT_LO_READ: latches bits [47:32] (24 R515). -/
def execPmcCntLoRead (l : Lane) (ag : Agent) (c : Bool) (n : Ctr) (s : State) : Res :=
  .next (s.onLane l (fun x => readCmd x ag (Rg.PMC_CNTc_n_LO (b2n c) n)))
/-- PMC_CNT_HI_WRITE: buffers the high bits (24 R515). -/
def execPmcCntHiWrite (l : Lane) (ag : Agent) (c : Bool) (n : Ctr) (v : Word) (s : State) : Res :=
  .next (s.onLane l (fun x => writeCmd x ag (Rg.PMC_CNTc_n_HI (b2n c) n) v))
/-- PMC_CNT_LO_WRITE: loads the whole counter (24 R515). -/
def execPmcCntLoWrite (l : Lane) (ag : Agent) (c : Bool) (n : Ctr) (v : Word) (s : State) : Res :=
  .next (s.onLane l (fun x => writeCmd x ag (Rg.PMC_CNTc_n_LO (b2n c) n) v))
/-- PMC_SEED_WRITE: loads the sampler's register; 0 loads 1 (24 R516). -/
def execPmcSeedWrite (l : Lane) (ag : Agent) (c : Bool) (v : Word) (s : State) : Res :=
  .next (s.onLane l (fun x => writeCmd x ag (Rg.PMC_SEEDc (b2n c)) v))
/-- CLEAR: empties the sample buffer (24 R518). -/
def execClear (l : Lane) (ag : Agent) (c : Bool) (s : State) : Res :=
  .next (s.onLane l (fun x => writeCmd x ag (Rg.PMC_SCTRLc (b2n c)) 1))

/-- FEED8 (11 R256). -/
def execFeed8 (l : Lane) (ag : Agent) (k : Ctr) (v : Word) (s : State) : Res := .next (s.onLane l (fun x => writeCmd x ag (Rg.CVU_CTXk_FEED8 k) v))
/-- FEED16 (11 R256). -/
def execFeed16 (l : Lane) (ag : Agent) (k : Ctr) (v : Word) (s : State) : Res := .next (s.onLane l (fun x => writeCmd x ag (Rg.CVU_CTXk_FEED16 k) v))
/-- FEED32 (11 R256). -/
def execFeed32 (l : Lane) (ag : Agent) (k : Ctr) (v : Word) (s : State) : Res := .next (s.onLane l (fun x => writeCmd x ag (Rg.CVU_CTXk_FEED32 k) v))
/-- CVU_RESTART: VALUE := INIT (11 R258). -/
def execCvuRestart (l : Lane) (ag : Agent) (k : Ctr) (s : State) : Res := .next (s.onLane l (fun x => writeCmd x ag (Rg.CVU_CTXk_RESTART k) 0))
/-- CVU_VALUE_WRITE: one half of VALUE (11 R258). -/
def execCvuValueWrite (l : Lane) (ag : Agent) (k : Ctr) (hi : Bool) (v : Word) (s : State) : Res :=
  .next (s.onLane l (fun x => writeCmd x ag (if hi then Rg.CVU_CTXk_VALUE_HI k else Rg.CVU_CTXk_VALUE_LO k) v))
/-- CVU_RESULT_READ: RESULT from VALUE at the read (11 R255). -/
def execCvuResultRead (l : Lane) (ag : Agent) (k : Ctr) (hi : Bool) (s : State) : Res :=
  .next (s.onLane l (fun x => readCmd x ag (if hi then Rg.CVU_CTXk_RESULT_HI k else Rg.CVU_CTXk_RESULT_LO k)))

/-- CMP_ARM: a write of MER_CMPu_CTRL (12 R284); there are 16 units. -/
def execCmpArm (l : Lane) (ag : Agent) (un : Nat) (v : Word) (s : State) : Res :=
  .next (s.onLane l (fun x => if un < 16 then writeCmd x ag (Rg.MER_CMPu_CTRL un) v else { x with berr := true }))

/-- CAR_CAB_WRITE: voted when a vital task stores it, otherwise from the next cycle (13 R297). -/
def execCarCabWrite (l : Lane) (ag : Agent) (v : Word) (s : State) : Res := .next (s.onLane l (fun x => writeCmd x ag Rg.CAR_CAB v))

end Sys2Proof.Machine
end

