-- ==== Sys2Proof/Machine/Jex.lean ====
section
/-! DEFINITION. How a core of a lane executes one instruction: what each agent may reach, the comparison of the twin, traps, backplane accesses, and the performance counters (03 R61 to R91; 04 R96 to R101; 07 Table MEM-6; 08 R174 to R189; 18 R401 to R411; 24 R513). -/

namespace Sys2Proof.Machine

/-! Addresses (07 Tables MEM-1, MEM-4). -/

/-- The register blocks. -/
def inRegs (a : Nat) : Bool := 0x10000000 ≤ a && a < 0x10140000
/-- Offset of a register. -/
def regOff (a : Nat) : Nat := a - 0x10000000
/-- `n` bytes of the AOM configuration record. -/
def inAomRec (a n : Nat) : Bool := 0x1000000 ≤ a && a + n ≤ 0x1001000
/-- `n` bytes of the boot ROM. -/
def inRom (a n : Nat) : Bool := 0x2000000 ≤ a && a + n ≤ 0x2010000

/-- The region code of Table PMC-2. -/
def regionCode (a : Nat) : Nat :=
  if a < 0x400000 then 0
  else if 0x1000000 ≤ a && a < 0x1040000 then 1
  else if 0x2000000 ≤ a && a < 0x2010000 then 2
  else if inRegs a then 3
  else if 0x100000000 ≤ a && a < 0x300000000 then 4
  else if (regionOf a).isSome then 5
  else 15

/-! What a vital task may reach (02 R38, R39; 07 Table MEM-6). -/

/-- The bytes of a task's root frame. -/
def frameLen (l : LaneState) (e : TaskEnt) : Nat := 8 * (((l.app.getD {}).blocks[e.rootBt]?).map (·.2)).getD 0

/-- Whether a range meets another task's instance data or import area (02 R38). -/
def meetsOther (l : LaneState) (t a n : Nat) : Bool :=
  (l.app.getD {}).tasks.any (fun e => e.slot != t && meets a n e.frame (frameLen l e))
    || (l.app.getD {}).xchg.any (fun x => x.importer != t && meets a n x.dst x.len)

/-- Whether every byte of an output-image range lies in a task's write set (02 R38). -/
def inWset (l : LaneState) (t a n : Nat) : Bool :=
  (List.range n).all (fun j => (wsetOf l t).any (fun w => decide (w.1 ≤ a + j) && decide (a + j < w.1 + w.2)))

/-- Whether an instance may read (or with `wr` write) an SRAM range: its own input copy, the vital area, the live input image and its write set (02 R38, R39; 07 Table MEM-6). -/
def vitalSram (l : LaneState) (i : Instance) (a n : Nat) (wr : Bool) : Bool :=
  let e := taskEnt l i.slot
  if a < 0x10000 then
    let p := (Config.privAddr i.slot).val
    !wr && !readsLive l i.slot && decide (p ≤ a) && decide (a + n ≤ p + (e.inLast + 1 - e.inStart)) && decide (a + n ≤ p + i.input.length)
  else if a < inBase then
    decide (a + n ≤ inBase) && !auxBank l a && !auxBank l (a + n - 1) && (!wr || !meetsOther l i.slot a n)
  else if a < outBase then
    !wr && readsLive l i.slot && decide (inBase + e.inStart ≤ a) && decide (a + n ≤ inBase + e.inLast + 1)
  else decide (a + n ≤ outBase + outLen) && inWset l i.slot (a - outBase) n

/-- Whether a vital access to a mapped address outside the backplane window succeeds: 0, or the cause TIMING_ACCESS or BUS_ERROR (03 R91; 07 R153, R154). -/
def vitalAcc (l : LaneState) (i : Instance) (a n : Nat) (wr : Bool) : Nat :=
  if a < 0x400000 then (if vitalSram l i a n wr then 0 else 4)
  else if inRegs a then
    let o := regOff a
    if (sampleWord l o).isSome || ((regRow o).map (·.timing)).getD false then 9
    else if n = 4 && (if wr then writeOk l .v o else readOk l .v o) then 0 else 4
  else if 0 < vdrLen l && vdrBase l ≤ a && a + n ≤ vdrBase l + vdrLen l then 0
  else if !wr && (inAomRec a n || inRom a n || (0x108000000 ≤ a && a + n ≤ 0x108800000)) then 0
  else 4

/-! The comparison of the twin (08 R174 to R179, Table TRP-1). -/

/-- What a core sends out for one instruction, by kind of compare group; a group it does not use is 0 (08 R177). -/
structure Sig where
  addr : Nat := 0
  ctl : Nat := 0
  wd : Nat := 0
  be : Nat := 0
  ev : Nat := 0
  mts : Nat := 0
deriving DecidableEq, Repr

/-- Control bits of a request: size in [1:0], valid 2, write 3, far 4, SWAPW 5, BOP 6. -/
def ctlOf (a n extra : Nat) : Nat := Nat.log2 n + 4 + (if a < 2 ^ 32 then 0 else 16) + extra

/-- The outputs of an instruction (08 Table TRP-1; the order of bits within a group is the model's). -/
def Op.sig : Op → Sig
  | .trap c _ => { ev := 1 + 2 * c }
  | .fin _ _ => {}
  | .mts c => { mts := 1 + 2 * (c.sf.toNat % 32) }
  | .halt => { ev := 128 }
  | .complete _ => { ev := 32 }
  | .evt code d _ => { ev := 64, wd := code + d.toNat * 2 ^ 32 }
  | .load ea n _ => { addr := ea, ctl := ctlOf ea n 0 }
  | .store ea n v _ => { addr := ea, ctl := ctlOf ea n 8, wd := v, be := 2 ^ n - 1 }
  | .swap ea v _ => { addr := ea, ctl := ctlOf ea 4 32, wd := v.toNat, be := 15 }
  | .bit ea w _ => { addr := ea, ctl := ctlOf ea 1 (if w then 72 else 64) }
  | .block ea _ _ => { addr := ea, ctl := ctlOf ea 8 8 }
  | .cache _ ea _ => { addr := ea }

/-- `n` groups of eight bits of a value, numbered from `g`. -/
def groupsFrom (g n v0 v1 : Nat) : List (Nat × Nat × Nat) := (List.range n).map (fun j => (g + j, v0 / 256 ^ j % 256, v1 / 256 ^ j % 256))

/-- The first group in which two cores differ: group, request address, and the two values (08 Table TRP-1). -/
def opDiff (ip0 ip1 : Addr40) (a b : Sig) : Option (Nat × Nat × Nat × Nat) :=
  let gs := groupsFrom 0 5 (ip0.toNat / 4) (ip1.toNat / 4) ++ groupsFrom 5 5 a.addr b.addr ++ [(10, a.ctl, b.ctl)]
    ++ groupsFrom 11 8 a.wd b.wd ++ [(19, a.be, b.be), (20, a.ev, b.ev), (21, a.mts, b.mts)]
  (gs.find? (fun g => g.2.1 != g.2.2)).map (fun g => (g.1, if g.1 < 5 then ip0.toNat else a.addr, g.2.1, g.2.2))

/-- Tightrope stops the twin: the mismatch registers latch, both cores halt, the lane announces its own exclusion, and the event is passed on (08 R178, R180). `bits` are bits [6:5] of TRP_MM_GROUP. -/
def twinStop (l : LaneState) (g addr v0 v1 bits code data : Nat) : LaneState :=
  let l := fset (fset l Rg.TRP_STATUS 1 0 3) Rg.TRP_MM_GROUP 6 0 (g + 32 * bits)
  let l := bset l Rg.TRP_STATUS (if code = 0x0110 then 4 else 5) true
  let l := rset (rset l Rg.TRP_MM_ADDR_LO (BitVec.ofNat 32 addr)) Rg.TRP_MM_ADDR_HI (BitVec.ofNat 32 (addr / 2 ^ 32 % 256))
  let l := rset (rset l Rg.TRP_MM_CORE0 (BitVec.ofNat 32 v0)) Rg.TRP_MM_CORE1 (BitVec.ofNat 32 v1)
  event (selfExclude (coreStop l) 4) code data

/-! Traps on a vital core (03 R84 to R89). -/

/-- The contexts of the cores; the shadow follows only in twin mode (08 R174, R183). -/
def setCtx (l : LaneState) (a b : CoreCtx) : LaneState :=
  { l with c0 := { l.c0 with ctx := a }, c1 := if isSplit l then l.c1 else { l.c1 with ctx := b } }

/-- The registers at entry to an error handler (03 R86). -/
def handlerCtx (e : TaskEnt) (cause addr : Nat) (c : CoreCtx) : CoreCtx :=
  let d : CoreCtx := { c with rstack := [], lnest := [], sf := 0, ip := BitVec.ofNat 40 e.handler, inHandler := true }
  wset (wset (wset (wset d 31 (BitVec.ofNat 32 e.frame)) 1 (BitVec.ofNat 32 cause)) 2 (c.ip.setWidth 32)) 3 (BitVec.ofNat 32 addr)

/-- The task's handler is entered, or without one, and for a trap inside it, the instance ends (03 R86). -/
def enterHandler (e : TaskEnt) (cause addr : Nat) (l : LaneState) : LaneState :=
  if e.handler = 0 || l.c0.ctx.inHandler then finishInst l true
  else setCtx l (handlerCtx e cause addr l.c0.ctx) (handlerCtx e cause addr (if outOfComparison l then l.c0.ctx else l.c1.ctx))

/-- A vital trap other than ECC_UNCORRECTABLE: its record is queued, and the handler is entered, or the instance ends (03 R86, R87). -/
def vitalTrap (l : LaneState) (cause addr : Nat) : LaneState :=
  match runInst l with
  | none => l
  | some i =>
    let item := Payload.event 0x0240 (BitVec.ofNat 32 cause) i.slot l.c0.ctx.ip.toNat
    enterHandler (taskEnt l i.slot) cause addr (updRun (queueItem l 0x600 item) (fun i => { i with susp := none }))

/-- An event that sets E, or with ARITH_TRAP raises ARITH in place of the instruction; `l` is the lane before it (03 R85). -/
def arithTrap (l : LaneState) : Bool :=
  match runInst l with
  | some i => (taskEnt l i.slot).arith
  | none => false

/-- Set E. -/
def withE (e : Bool) (c : CoreCtx) : CoreCtx := if e then setFlag c 4 true else c

/-! One access of a vital core. -/

/-- What executing an instruction comes to: it retires with both contexts (and whether E is to be set), traps, meets an uncorrectable error, waits without effect, completes its instance, or differs between the cores. -/
inductive JOut where
  | done (l : LaneState) (a b : CoreCtx) (e : Bool)
  | trap (l : LaneState) (cause addr : Nat)
  | stop (l : LaneState)
  | wait (l : LaneState)
  | complete (l : LaneState)
  | halt (l : LaneState)
  | diff (g addr v0 v1 : Nat)

/-- Whether a vital instance may use a backplane region (18 R401). -/
def brgMay (l : LaneState) (i : Instance) (r : Nat) : Bool := regAttr l r 0 0 == 1 && regAttr l r 2 1 == 1 && regAttr l r 7 4 == i.slot

/-- A backplane access that completes with its completion: its item is offered once, and the instruction waits until the lane holds the completion of its sequence number (18 R402, R407; 09 R217). -/
def brgWait (l : LaneState) (i : Instance) (ea r : Nat) (p : Payload) (fin : LaneState → Bytes → JOut) : JOut :=
  let stream := 0x400 + r
  let seq := match i.susp with
    | some sp => sp.seq
    | none => sget (fun _ => (0 : Word)) l.tri.seqs stream
  let l := match i.susp with
    | some _ => l
    | none => updRun (offer l ⟨stream, p⟩ i.due) (fun i => { i with susp := some { region := r, seq := seq } })
  match l.brg.held.find? (fun c => c.region == r && c.seq == seq) with
  | none => .wait l
  | some c =>
    let l := { updRun l (fun i => { i with susp := none }) with brg := { l.brg with held := l.brg.held.filter (fun c => !(c.region == r && c.seq == seq)) } }
    if c.ok then fin l c.data else .trap l 4 ea

/-- A vital load (04 R99, R110). -/
def vitalLoad (l : LaneState) (i : Instance) (ea n : Nat) (k0 k1 : Nat → CoreCtx) : JOut :=
  let fin (l : LaneState) (v : Nat) : JOut := .done l (k0 v) (k1 v) false
  if ea % n ≠ 0 then .trap l 3 ea
  else
    match regionOf ea with
    | some r => if brgMay l i r then brgWait l i ea r (.brgRead ea n) (fun l d => fin l (leNat d)) else .trap l 4 ea
    | none =>
      let c := vitalAcc l i ea n false
      if c ≠ 0 then .trap l c ea
      else if ea < 0x10000 then fin l (leNat ((i.input.drop (ea - (Config.privAddr i.slot).val)).take n))
      else if inRegs ea then fin (regReadEff l (regOff ea)) (regVal l (regOff ea)).toNat
      else if inRom ea n then fin l (leNat ((List.range n).map (fun j => Config.bootRom (ea - 0x2000000 + j))))
      else
        let q := eccRange l ea n 0
        if q.2 then .stop (coreStop q.1) else fin q.1 (leNat (mrd q.1 ea n))

/-- A block transfer descriptor in memory: lane address, SRAM address, length and direction (18 Table BRG-3). -/
def xferDesc (l : LaneState) (a : Nat) : Nat × Nat × Nat × Nat :=
  let b := mrd l a 16
  (leNat (b.take 8), leNat ((b.drop 8).take 4), leNat ((b.drop 12).take 2), leNat (b.drop 14))

/-- A store of a descriptor's address to BRG_XFER by a vital task (18 R404, R405, R409, R410). -/
def vitalXfer (l : LaneState) (i : Instance) (ea d : Nat) (a b : CoreCtx) : JOut :=
  if d % 8 ≠ 0 || !vitalSram l i d 16 false then .trap l 4 ea
  else
    let q := eccRange l d 16 0
    if q.2 then .stop (coreStop q.1)
    else
      let l := q.1
      let x := xferDesc l d
      let adr := x.1
      let mem := x.2.1
      let n := x.2.2.1
      let dir := x.2.2.2
      let rs := (regionCut adr n).map (·.1)
      if 1 < dir || n = 0 || 256 < n || mem % 4 ≠ 0 || adr < winBase || winBase + 16 * regionLen < adr + n
          || mem < 0x10000 || inBase < mem + n || !vitalSram l i mem n true || !rs.all (brgMay l i) then .trap l 4 ea
      else
        let r := (regionOf adr).getD 0
        if dir = 1 then
          brgWait l i ea r (.brgRead adr n) (fun l data =>
            let p := eccPartial l mem n
            if p.2 then .stop (coreStop p.1) else .done (mwr p.1 mem (data.take n)) a b false)
        else
          let p := eccRange l mem n 0
          if p.2 then .stop (coreStop p.1)
          else if regAttr l r 9 9 = 1 then brgWait p.1 i ea r (.brgWrite adr (mrd p.1 mem n)) (fun l _ => .done l a b false)
          else .done (offer p.1 ⟨0x400 + r, .brgWrite adr (mrd p.1 mem n)⟩ i.due) a b false

/-- A vital store (04 R99, R110). -/
def vitalStore (l : LaneState) (i : Instance) (ea n v : Nat) (a b : CoreCtx) : JOut :=
  if ea % n ≠ 0 then .trap l 3 ea
  else
    match regionOf ea with
    | some r =>
      if !brgMay l i r then .trap l 4 ea
      else if regAttr l r 9 9 = 1 then brgWait l i ea r (.brgWrite ea (leBytes n v)) (fun l _ => .done l a b false)
      else .done (offer l ⟨0x400 + r, .brgWrite ea (leBytes n v)⟩ i.due) a b false
    | none =>
      let c := vitalAcc l i ea n true
      if c ≠ 0 then .trap l c ea
      else if inRegs ea then
        if regOff ea = Rg.BRG_XFER then vitalXfer l i ea v a b
        else
          match vitalPut l (regOff ea) (BitVec.ofNat 32 v) with
          | .ok l => .done l a b false
          | .bus => .trap l 4 ea
          | .setE => .done l a b true
      else
        let q := eccPartial l ea n
        if q.2 then .stop (coreStop q.1) else .done (mwr q.1 ea (leBytes n v)) a b false

/-- Both ways over an SRAM range, for SWAPW, BOP and the function blocks. -/
def sramBoth (l : LaneState) (i : Instance) (ea n : Nat) (wr : Bool) : Bool :=
  decide (ea + n ≤ 0x400000) && vitalSram l i ea n false && (!wr || vitalSram l i ea n true)

/-- The bytes at an SRAM address as an instance reads them. -/
def sramBytes (l : LaneState) (i : Instance) (ea n : Nat) : Bytes :=
  if ea < 0x10000 then (i.input.drop (ea - (Config.privAddr i.slot).val)).take n else mrd l ea n

/-- What both cores' outputs come to; with one core out of comparison or in split mode the caller gives the same outputs twice. -/
def vitalOp (l : LaneState) (i : Instance) (o0 o1 : Op) : JOut :=
  match o0, o1 with
  | .trap c a, _ => .trap l c a
  | .fin a e, .fin b _ => .done l a b e
  | .mts a, .mts b => .done l a b false
  | .halt, _ => .halt l
  | .complete _, _ => .complete l
  | .evt code d a, .evt _ _ b =>
    if 32 ≤ i.evts then .done l a b true
    else .done (updRun (queueItem l 0x600 (.event code d i.slot 0)) (fun i => { i with evts := i.evts + 1 })) a b false
  | .load ea n k0, .load _ _ k1 => vitalLoad l i ea n k0 k1
  | .store ea n v a, .store _ _ _ b => vitalStore l i ea n v a b
  | .swap ea v k0, .swap _ _ k1 =>
    if ea % 4 ≠ 0 then .trap l 3 ea
    else if !sramBoth l i ea 4 true then .trap l 4 ea
    else
      let q := eccRange l ea 4 0
      if q.2 then .stop (coreStop q.1)
      else
        let t := BitVec.ofNat 32 (leNat (mrd q.1 ea 4))
        .done (mwr q.1 ea (leBytes 4 v.toNat)) (k0 t) (k1 t) false
  | .bit ea wr k0, .bit _ _ k1 =>
    if !sramBoth l i ea 1 wr then .trap l 4 ea
    else
      let q := if ea < 0x10000 then (l, false) else eccRange l ea 1 0
      if q.2 then .stop (coreStop q.1)
      else
        let old := (sramBytes q.1 i ea 1).headD 0
        let r0 := k0 old
        let r1 := k1 old
        if wr && r0.2 != r1.2 then .diff 11 ea r0.2.toNat r1.2.toNat
        else .done (if wr then mwr q.1 ea [r0.2] else q.1) r0.1 r1.1 false
  | .block ea n k0, .block _ _ k1 =>
    if !sramBoth l i ea n true then .trap l 4 ea
    else
      let q := eccRange l ea n 0
      if q.2 then .stop (coreStop q.1)
      else
        let old := mrd q.1 ea n
        let r0 := k0 old
        let r1 := k1 old
        match (groupsFrom 0 n (leNat r0.2.1) (leNat r1.2.1)).find? (fun g => g.2.1 != g.2.2) with
        | some g => .diff (11 + g.1 % 8) (ea + g.1 / 8 * 8) g.2.1 g.2.2
        | none =>
          if r0.2.2 && arithTrap l then .trap q.1 8 0
          else .done (mwr q.1 ea r0.2.1) r0.1 r1.1 r0.2.2
  | .cache _ _ a, .cache _ _ b => .done l a b false
  | _, _ => .diff 20 0 0 0

/-! Performance counting (24 R513, Table PMC-1). -/

/-- The address an instruction reaches. -/
def Op.ea? : Op → Option Nat
  | .load ea _ _ | .store ea _ _ _ | .swap ea _ _ | .bit ea _ _ | .block ea _ _ => some ea
  | _ => none

/-- The charge of an access at τmax, in weight units (04 Table JFI-3; 18 Table BRG-2). -/
def accessCharge (l : LaneState) (k : AccessKind) (a : Nat) : Nat :=
  match k with
  | .load =>
    match regionCode a with
    | 3 => 64
    | 4 => 400
    | 5 => (fget l (Rg.BRG_REGr_BUDGET ((regionOf a).getD 0)) 9 0 * 100000 + 164) / 165
    | _ => 2
  | .store =>
    match regionCode a with
    | 3 => 64
    | 4 => 200
    | 5 =>
      let r := (regionOf a).getD 0
      if regAttr l r 9 9 = 1 then (fget l (Rg.BRG_REGr_BUDGET r) 9 0 * 100000 + 164) / 165 else 64
    | _ => 2
  | _ => 0

/-- The weight of a retired instruction; a BOP or SWAPW carries its whole weight itself. -/
def retiredWeight (l : LaneState) (i : Instr) (o : Op) : Nat :=
  match accessKind i, o.ea? with
  | .load, some a => if baseWeight i = 0 then accessCharge l .load a else baseWeight i
  | .store, some a => accessCharge l .store a
  | _, _ => baseWeight i

/-- The accesses an instruction makes. -/
def accessCount (i : Instr) : Nat :=
  match accessKind i with
  | .load | .store => 1
  | .swap | .bitStore => 2
  | .none => if isFb i then 2 else 0

/-- The events of one retired instruction at `ip` whose successor is `ip'`. -/
def retiredEvents (l : LaneState) (i : Instr) (o : Op) (ip ip' : Nat) : List (Nat × Nat) :=
  let n := accessCount i
  let reg (c ev : Nat) : List (Nat × Nat) :=
    match o.ea? with
    | some a => if c.testBit (regionCode a) then [(ev, n)] else []
    | none => []
  [(0x01, 1), (0x02, retiredWeight l i o)]
    ++ (match accessKind i with | .load => [(0x04, 1)] | .store => [(0x05, 1)] | .swap => [(0x04, 1), (0x05, 1)] | .bitStore => [(0x05, 1)] | .none => [])
    ++ reg 3 0x06 ++ reg 16 0x07 ++ reg 8 0x08 ++ reg 32 0x09
    ++ (match i with
        | .br _ _ | .bc _ _ _ _ => if ip' = ip + 4 then [] else [(0x0D, 1)]
        | .loop _ _ _ _ => if ip' < ip then [(0x0E, 1)] else []
        | .call _ _ | .callfb _ _ _ => [(0x0F, 1)]
        | _ => [])
    ++ (if isFb i then [(0x10, 1)] else []) ++ (if isFloat i then [(0x11, 1)] else [])

/-- Corrected errors counted so far, to find those of one access. -/
def ceCount (l : LaneState) : Nat := (rget l Rg.MEM_CE_SRAM).toNat + (rget l Rg.MEM_CE_DRAM).toNat

/-- Count the events of an instruction and step the sampler, on core `c`, in the context it ran in. -/
def pmcRetire (l : LaneState) (c : Nat) (aux : Bool) (slot : Nat) (handler retired : Bool) (ip word : Word) (region : Nat) (evs : List (Nat × Nat)) : LaneState :=
  if pmcAdmits l c aux slot handler then
    pmcSample (pmcEvents l c evs) c ip word (if aux then 0xFF else slot) retired region
  else l

/-- The same on the cores of the vital unit: both in twin mode (24 R511). -/
def pmcVital (l : LaneState) (i : Instance) (handler retired : Bool) (ip word : Word) (region : Nat) (evs : List (Nat × Nat)) : LaneState :=
  let l := pmcRetire l 0 false i.slot handler retired ip word region evs
  if isSplit l then l else pmcRetire l 1 false i.slot handler retired ip word region evs

/-! One instruction on the vital core. -/

/-- The vital core executes task code: it is up with an instance, in a voting lane or, while debug is attached to it, in the withdrawn one (02 R34; 08 R191). -/
def vitalRuns (l : LaneState) : Bool :=
  phaseOf l == 4 && !l.c0.halted && (runInst l).isSome && (votes l || (outOfComparison l && bget l Rg.TRP_DBG_STATUS 0))

/-- An instruction retires, traps, or ends its instance. -/
def vitalRetire (l0 : LaneState) (inst : Instance) (i : Instr) (o : Op) (out : JOut) : LaneState :=
  let ip := l0.c0.ctx.ip
  let word := BitVec.ofNat 32 (leNat (mrd l0 ip.toNat 4))
  let h := l0.c0.ctx.inHandler
  let rgn := (o.ea?.map regionCode).getD 15
  let ces (l : LaneState) : List (Nat × Nat) := [(0x14, ceCount l - ceCount l0)]
  let trapped (l : LaneState) (c a : Nat) : LaneState :=
    vitalTrap (pmcVital l inst h false (ip.setWidth 32) word rgn ((0x12, 1) :: ces l)) c a
  match out with
  | .done l a b e =>
    if e && arithTrap l0 then trapped l 8 0
    else
      let l := setCtx l (withE e a) (withE e b)
      let l := pmcVital l inst h true (ip.setWidth 32) word rgn (retiredEvents l0 i o ip.toNat a.ip.toNat ++ ces l)
      if inst.susp.isSome then reschedule l else l
  | .trap l c a => trapped l c a
  | .stop l => pmcVital l inst h false (ip.setWidth 32) word rgn [(0x12, 1)]
  | .wait l => l
  | .complete l =>
    finishInst (pmcVital l inst h true (ip.setWidth 32) word rgn ((0x19, 1) :: retiredEvents l0 i o ip.toNat ip.toNat)) false
  | .halt l => bset { l with c0 := { l.c0 with dbgHalted := true } } Rg.TRP_DBG_STATUS 1 true
  | .diff g a v0 v1 => twinStop l0 g a v0 v1 0 0x0110 g

/-- A vital core fetches only from the SRAM open to it (03 R64; 07 Table MEM-6). -/
def vitalFetch (l : LaneState) (ip : Nat) : Bool := 0x10000 ≤ ip && ip + 4 ≤ inBase && !auxBank l ip

/-- What an instruction on the vital core may depend on beside its registers. -/
def vitalEnv (l : LaneState) (diag : Bool) : Env :=
  { vital := true, app := l.app.getD {}, lane := laneNo l.id, now := wNow l, diag := diag, swBrk := l.c0.swBrk }

/-- One instruction on the vital core: a module breakpoint first, then the fetch, the comparison and the effect. `diag` says that debug injected the word. -/
def vitalStep (i : Instr) (sem : Sem) (diag : Bool) (l : LaneState) : LaneState :=
  match runInst l with
  | none => l
  | some inst =>
    if atBreak l then hitBreak l
    else
      let l := updRun l (fun i => { i with resumed := false })
      let alone := isSplit l || outOfComparison l
      let o0 := sem (vitalEnv l diag) l.c0.ctx
      let o1 := if alone then o0 else sem (vitalEnv l diag) l.c1.ctx
      let ip0 := l.c0.ctx.ip
      match opDiff ip0 (if alone then ip0 else l.c1.ctx.ip) o0.sig o1.sig with
      | some d => twinStop l d.1 d.2.1 d.2.2.1 d.2.2.2 0 0x0110 d.1
      | none =>
        let ip := ip0.toNat
        if !vitalFetch l ip then vitalRetire l inst i o0 (.trap l 4 ip)
        else
          let f := eccRange l ip 4 0
          if f.2 then vitalRetire l inst i o0 (.stop (coreStop f.1)) else vitalRetire l inst i o0 (vitalOp f.1 inst o0 o1)

/-! The auxiliary core (03 R90; 07 R160; 08 R183 to R188; 18 R416). -/

/-- What the firewall lets the auxiliary core reach, outside the backplane window (08 Table TRP-4). -/
def auxMay (l : LaneState) (ea n : Nat) (wr : Bool) : Bool :=
  if ea < 0x400000 then auxBank l ea && decide (ea + n ≤ 0x400000) && auxBank l (ea + n - 1)
  else if inRegs ea then n == 4 && (if wr then writeOk l .x (regOff ea) else readOk l .x (regOff ea))
  else inAuxWindow l ea n || (!wr && (inAomRec ea n || inRom ea n))

/-- A firewall violation: counted, with its address and kind (08 R185, Table TRP-5). -/
def fwViol (l : LaneState) (ea kind : Nat) : LaneState :=
  let l := finc l Rg.TRP_FW_VIOL 31 0 1
  rset (rset l Rg.TRP_FW_VIOL_ADDR_LO (BitVec.ofNat 32 ea)) Rg.TRP_FW_VIOL_ADDR_HI (BitVec.ofNat 32 (ea / 2 ^ 32 % 256 + 256 * kind))

/-- A trap on the auxiliary core: its handler, or the core stops and Ringmaster records the trap (03 R90). -/
def auxTrap (l : LaneState) (cause addr : Nat) : LaneState :=
  let c := l.c1.ctx
  let a := l.aux.getD {}
  if a.auxTrap = 0 || c.inHandler then event (auxStop l) 0x0240 cause c.ip.toNat
  else
    let d : CoreCtx := { c with rstack := [], lnest := [], sf := 0, ip := BitVec.ofNat 40 (a.loadAddr + a.auxTrap), inHandler := true }
    { l with c1 := { l.c1 with ctx := wset (wset (wset d 1 (BitVec.ofNat 32 cause)) 2 (c.ip.setWidth 32)) 3 (BitVec.ofNat 32 addr) } }

/-- The bytes the auxiliary core reads: dirty ones of its D-cache first. -/
def auxBytes (l : LaneState) (ea n : Nat) : Bytes :=
  (List.range n).map (fun j =>
    match l.c1.dcache.find? (fun e => e.1 == ea + j) with
    | some e => e.2
    | none => sget zByte l.mem (ea + j))

/-- The write of an auxiliary core: DRAM through its write-back D-cache, SRAM at once. -/
def auxWrite (l : LaneState) (ea : Nat) (b : Bytes) : LaneState :=
  if ea < 0x100000000 then mwr l ea b
  else
    let old := l.c1.dcache.filter (fun e => !(decide (ea ≤ e.1) && decide (e.1 < ea + b.length)))
    { l with c1 := { l.c1 with dcache := old ++ (b.zipIdx).map (fun e => (ea + e.2, e.1)) } }

/-- Write back the D-cache line of an address (04 Table JFI-12). -/
def lineBack (l : LaneState) (ea : Nat) : LaneState :=
  let b := ea / 64 * 64
  let mine := l.c1.dcache.filter (fun e => decide (b ≤ e.1) && decide (e.1 < b + 64))
  let l := { l with c1 := { l.c1 with dcache := l.c1.dcache.filter (fun e => !(decide (b ≤ e.1) && decide (e.1 < b + 64))) } }
  mine.foldl (fun l e => mwr l e.1 [e.2]) l

/-- Whether the auxiliary core may use a backplane region (18 R401). -/
def brgMayAux (l : LaneState) (r : Nat) : Bool := isSplit l && regAttr l r 0 0 == 1 && regAttr l r 2 1 == 2

/-- An auxiliary backplane access in the lane that drives the port: sent at once under a tag of the auxiliary range, and, but for a posted write, waited for (18 R416). -/
def auxBrg (l : LaneState) (ea r : Nat) (send : LaneState → Word → LaneState) (fin : LaneState → Bytes → JOut) : JOut :=
  let seq := match l.brg.auxSusp with
    | some sp => sp.seq
    | none => l.brg.auxSeq
  let l := match l.brg.auxSusp with
    | some _ => l
    | none => send { l with brg := { l.brg with auxSeq := seq + 1, auxSusp := some { region := r, seq := seq } } } seq
  match l.brg.held.find? (fun c => c.region == r && c.seq == seq) with
  | none => .wait l
  | some c =>
    let l := { l with brg := { l.brg with auxSusp := none, held := l.brg.held.filter (fun c => !(c.region == r && c.seq == seq)) } }
    if c.ok then fin l c.data else .trap l 4 ea

/-- An auxiliary backplane write of some bytes. -/
def auxBrgWrite (l : LaneState) (own : Bool) (ea r adr : Nat) (d : Bytes) (a : CoreCtx) : JOut :=
  if !own then .done (finc l Rg.TRP_AUX_TX_DROP 31 0 1) a a false
  else if regAttr l r 9 9 = 1 then auxBrg l ea r (fun l q => brgWrite l true r adr q d) (fun l _ => .done l a a false)
  else .done (brgWrite l true r adr 0 d) a a false

/-- A block transfer of the auxiliary core, with the data in its own banks or window (18 R404). -/
def auxXfer (l : LaneState) (own : Bool) (ea d : Nat) (a : CoreCtx) : JOut :=
  if d % 8 ≠ 0 || !auxMay l d 16 false || 0x400000 ≤ d then .trap l 4 ea
  else
    let q := eccRange l d 16 1
    if q.2 then .trap q.1 5 ea
    else
      let l := q.1
      let x := xferDesc l d
      let n := x.2.2.1
      let mem := x.2.1
      let rs := (regionCut x.1 n).map (·.1)
      if 1 < x.2.2.2 || n = 0 || 256 < n || mem % 4 ≠ 0 || x.1 < winBase || winBase + 16 * regionLen < x.1 + n
          || inRegs mem || !auxMay l mem n true || !rs.all (brgMayAux l) then .trap l 4 ea
      else
        let r := (regionOf x.1).getD 0
        if x.2.2.2 = 1 then
          if own then auxBrg l ea r (fun l q => brgRead l true r x.1 q n) (fun l data => .done (auxWrite l mem (data.take n)) a a false)
          else .trap l 4 ea
        else auxBrgWrite l own ea r x.1 (auxBytes l mem n) a

/-- What an instruction of the auxiliary core comes to, but for stores to registers that act beyond the lane. `own` says that the lane drives the backplane port. -/
def auxOp (l : LaneState) (own : Bool) (o : Op) : JOut :=
  let viol (ea kind : Nat) : JOut := .trap (fwViol l ea kind) 4 ea
  let touch (ea n : Nat) (k : LaneState → JOut) : JOut :=
    if inRegs ea || inRom ea n then k l
    else
      let q := eccRange l ea n 1
      if q.2 then .trap q.1 5 ea else k q.1
  match o with
  | .trap c a => .trap l c a
  | .fin a e => .done l a a e
  | .mts a => .done l a a false
  | .halt => .halt l
  | .complete _ => .complete l
  | .evt code d a => .done (pushReport l { code := BitVec.ofNat 16 code, data := d, path := 3, lanes := laneBit l.id, cycle := cycleNo l, time := wNow l }) a a false
  | .load ea n k =>
    if ea % n ≠ 0 then .trap l 3 ea
    else
      match regionOf ea with
      | some r =>
        if !brgMayAux l r then viol ea 1
        else if !own then .trap l 4 ea
        else auxBrg l ea r (fun l q => brgRead l true r ea q n) (fun l d => .done l (k (leNat d)) (k (leNat d)) false)
      | none =>
        if !auxMay l ea n false then viol ea 1
        else if inRegs ea then
          let v := (regVal l (regOff ea)).toNat
          .done (regReadEff l (regOff ea)) (k v) (k v) false
        else if inRom ea n then
          let v := leNat ((List.range n).map (fun j => Config.bootRom (ea - 0x2000000 + j)))
          .done l (k v) (k v) false
        else touch ea n (fun l => let v := leNat (auxBytes l ea n); .done l (k v) (k v) false)
  | .store ea n v a =>
    if ea % n ≠ 0 then .trap l 3 ea
    else
      match regionOf ea with
      | some r => if brgMayAux l r then auxBrgWrite l own ea r ea (leBytes n v) a else viol ea 2
      | none =>
        if !auxMay l ea n true then viol ea 2
        else if inRegs ea then
          if regOff ea = Rg.BRG_XFER then auxXfer l own ea v a else .done (regPut l (regOff ea) (BitVec.ofNat 32 v)) a a false
        else if ea < 0x100000000 then
          let q := eccPartial l ea n
          if q.2 then .trap q.1 5 ea else .done (auxWrite q.1 ea (leBytes n v)) a a false
        else .done (auxWrite l ea (leBytes n v)) a a false
  | .swap ea v k =>
    if ea % 4 ≠ 0 then .trap l 3 ea
    else if 0x400000 ≤ ea then .trap l 4 ea
    else if !auxMay l ea 4 true then viol ea 2
    else touch ea 4 (fun l =>
      let t := BitVec.ofNat 32 (leNat (mrd l ea 4))
      .done (mwr l ea (leBytes 4 v.toNat)) (k t) (k t) false)
  | .bit ea wr k =>
    if 0x400000 ≤ ea then .trap l 4 ea
    else if !auxMay l ea 1 wr then viol ea (if wr then 2 else 1)
    else touch ea 1 (fun l =>
      let r := k (sget zByte l.mem ea)
      .done (if wr then mwr l ea [r.2] else l) r.1 r.1 false)
  | .block ea n k =>
    if 0x400000 < ea + n then .trap l 4 ea
    else if !auxMay l ea n true then viol ea 2
    else touch ea n (fun l =>
      let r := k (mrd l ea n)
      .done (mwr l ea r.2.1) r.1 r.1 r.2.2)
  | .cache kind ea a =>
    let b := ea / 64 * 64
    .done (if kind = 2 then { l with c1 := { l.c1 with icache := l.c1.icache.filter (fun e => e.1 != b) } } else lineBack l ea) a a false

/-- An auxiliary core fetches from its own SRAM banks and from its window (03 R64; 08 Table TRP-4). -/
def auxFetch (l : LaneState) (ip : Nat) : Bool := (ip < 0x400000 && auxBank l ip) || inAuxWindow l ip 4

/-- An auxiliary instruction retires, traps or stops the core. -/
def auxRetire (l0 : LaneState) (i : Instr) (o : Op) (out : JOut) : LaneState :=
  let ip := l0.c1.ctx.ip
  let word := BitVec.ofNat 32 (leNat (mrd l0 ip.toNat 4))
  let rgn := (o.ea?.map regionCode).getD 15
  let pm (l : LaneState) (retired : Bool) (evs : List (Nat × Nat)) : LaneState :=
    pmcRetire l 1 true 0 l0.c1.ctx.inHandler retired (ip.setWidth 32) word rgn evs
  match out with
  | .done l a _ e =>
    let l := { l with c1 := { l.c1 with ctx := withE e a } }
    pm l true (retiredEvents l0 i o ip.toNat a.ip.toNat ++ [(0x14, ceCount l - ceCount l0)])
  | .trap l c a => auxTrap (pm l false [(0x12, 1)]) c a
  | .stop l | .wait l => l
  | .complete l => auxStop (pm l true (retiredEvents l0 i o ip.toNat ip.toNat))
  | .halt l => bset { l with c1 := { l.c1 with dbgHalted := true } } Rg.TRP_DBG_STATUS 1 true
  | .diff _ _ _ _ => l0

/-- What an auxiliary instruction asks for, and what its fetch comes to. -/
def auxEnv (l : LaneState) : Env :=
  { vital := false, app := l.aux.getD {}, lane := laneNo l.id, now := wNow l, diag := true, swBrk := l.c1.swBrk }

/-- One instruction on the auxiliary core. -/
def auxStep (i : Instr) (sem : Sem) (own : Bool) (l : LaneState) : LaneState :=
  let o := sem (auxEnv l) l.c1.ctx
  let ip := l.c1.ctx.ip.toNat
  if !auxFetch l ip then auxRetire l i o (.trap (fwViol l ip 0) 4 ip)
  else
    let f := eccRange l ip 4 1
    if f.2 then auxRetire l i o (.trap f.1 5 ip) else auxRetire l i o (auxOp f.1 own o)

/-- The auxiliary core runs (08 R188, Table TRP-5). -/
def auxRuns (l : LaneState) : Bool := isSplit l && !l.c1.halted && fget l Rg.TRP_AUX_STATUS 1 0 == 1

/-- The next state of an outcome. -/
def resOr (s : State) : Res → State
  | .next t => t
  | _ => s

/-- The effect of an auxiliary store to a register that acts beyond its lane, by the command of that register (15 R349; 22 R489, R494, Table MBX-1). -/
def State.auxReg (s : State) (l : Lane) (o : Nat) (v : Word) : Option State :=
  if o = Rg.ECN_AUX_KICK then some (resOr s (execEcnAuxKick l s))
  else if o = Rg.EVR_RD_IDX_HI then some (resOr s (execEvrReadStart l .x v s))
  else if o = Rg.EVR_CTRL then
    let s := if v.getLsbD 0 then resOr s (execFreeze .aux {} s) else s
    some (if v.getLsbD 1 then resOr s (execUnfreeze .aux s) else s)
  else if o = Rg.MBX_AUXOUT_CTRL then some (resOr s (execAuxMessageSend l v s))
  else if o = Rg.MBX_AUXIN_ACK then some (resOr s (execMbxAuxinAck l s))
  else none

/-- The offset of the register an auxiliary store may reach, when the store names one. -/
def auxActing (x : LaneState) (ea n : Nat) : Option Nat :=
  if n == 4 && auxFetch x x.c1.ctx.ip.toNat && ea % 4 == 0 && inRegs ea && writeOk x .x (regOff ea) then some (regOff ea) else none

/-- An auxiliary load reads the last word of the recorder's record window. -/
def auxLastWord (x : LaneState) (ea n : Nat) : Bool :=
  n == 4 && auxFetch x x.c1.ctx.ip.toNat && ea == 0x10000000 + Rg.EVR_RD_DATAk 15 && readOk x .x (Rg.EVR_RD_DATAk 15)

/-- An auxiliary store to a register that acts beyond the lane, after its command: it retires, or traps when the access was refused. -/
def auxStored (i : Instr) (x : LaneState) (o : Op) (ea : Nat) (a : CoreCtx) (b : Bool) (y : LaneState) : LaneState :=
  auxRetire { y with c1 := x.c1 } i o (if b then .trap { y with berr := x.berr } 4 ea else .done { y with berr := x.berr } a a false)

/-- An auxiliary load of the recorder's last word, after its command. -/
def auxLoaded (i : Instr) (x : LaneState) (o : Op) (k : Nat → CoreCtx) (y : LaneState) : LaneState :=
  let v := (rget x (Rg.EVR_RD_DATAk 15)).toNat
  auxRetire y i o (.done { y with berr := x.berr, rdval := x.rdval } (k v) (k v) false)

/-- What an auxiliary instruction comes to: a store to a register that acts beyond the lane and a read of the recorder's last word by their commands, anything else within the lane as `plain`. -/
def State.auxActs (s : State) (l : Lane) (i : Instr) (plain : State) (o : Op) : State :=
  match o with
  | .store ea n v a =>
    match (auxActing (s.lane l) ea n).bind (fun r => s.auxReg l r (BitVec.ofNat 32 v)) with
    | some t => t.onLane l (auxStored i (s.lane l) (.store ea n v a) ea a (t.lane l).berr)
    | none => plain
  | .load ea n k =>
    if auxLastWord (s.lane l) ea n then (resOr s (execEvrReadNext l .x s)).onLane l (auxLoaded i (s.lane l) (.load ea n k) k) else plain
  | _ => plain

/-- One instruction on the auxiliary core of a lane, with the registers that act beyond the lane. -/
def State.auxRun (s : State) (l : Lane) (i : Instr) (sem : Sem) : State :=
  let x := s.lane l
  s.auxActs l i (s.onVote l (auxStep i sem (s.sends l 7))) (sem (auxEnv x) x.c1.ctx)

/-! An instruction command. -/

/-- An instruction on a core: on core 0 the vital unit executes it, in twin mode with its shadow; core 1 executes of its own only in split mode (08 R174, R183). A core that is not running executes nothing. -/
def State.runJfi (s : State) (u : CoreId) (i : Instr) (sem : Sem) : State :=
  let x := s.lane u.lane
  if u.core1 then (if auxRuns x && !x.c1.dbgHalted then s.auxRun u.lane i sem else s)
  else if vitalRuns x && !x.c0.dbgHalted then s.onVote u.lane (vitalStep i sem false) else s

/-- The effect on the running instance's core of a vital store to a register that acts, apart from the instruction that issues it: a bus error traps, and an event that sets E sets it or raises ARITH. -/
def vitalCmd (o : Nat) (v : Word) (l : LaneState) : LaneState :=
  if !vitalRuns l || l.c0.dbgHalted then l
  else if !writeOk l .v o then vitalTrap l 4 (0x10000000 + o)
  else
    match vitalPut l o v with
    | .ok l => l
    | .bus => vitalTrap l 4 (0x10000000 + o)
    | .setE => if arithTrap l then vitalTrap l 8 0 else setCtx l (withE true l.c0.ctx) (withE true l.c1.ctx)

/-- CAR_COMMIT: a transmit buffer's next area as a slot-buffer vote item (13 R310). -/
def execCarCommit (l : Lane) (v : Word) (s : State) : Res := .next (s.onVote l (vitalCmd Rg.CAR_COMMIT v))
/-- CAN_QQACK: a new ACKED value (16 R357). -/
def execCanQqack (l : Lane) (k : CanNo) (q : Bool) (v : Word) (s : State) : Res := .next (s.onVote l (vitalCmd (Rg.CAN_QqACK k (b2n q)) v))
/-- CAN_TXREQ: a transmit descriptor as a CAN vote item (16 R359). -/
def execCanTxreq (l : Lane) (k : CanNo) (v : Word) (s : State) : Res := .next (s.onVote l (vitalCmd (Rg.CAN_TXREQ k) v))
/-- CAN_TXCANCEL: a cancellation as a CAN vote item (16 R362). -/
def execCanTxcancel (l : Lane) (k : CanNo) (v : Word) (s : State) : Res := .next (s.onVote l (vitalCmd (Rg.CAN_TXCANCEL k) v))
/-- FIO_SOE_ACK: a new ACKED value of the SOE ring (17 R381). -/
def execFioSoeAck (l : Lane) (v : Word) (s : State) : Res := .next (s.onVote l (vitalCmd Rg.FIO_SOE_ACK v))
/-- SAF_SEND: a safety telegram as a vote item (10 R236). -/
def execSafSend (l : Lane) (v : Word) (s : State) : Res := .next (s.onVote l (vitalCmd Rg.SAF_SEND v))
/-- PWR_REQ: a power-state request as a vote item (20 R434). -/
def execPwrReq (l : Lane) (v : Word) (s : State) : Res := .next (s.onVote l (vitalCmd Rg.PWR_REQ v))

/-- The direction of the descriptor a store to BRG_XFER names. -/
def xferDir (l : LaneState) (v : Word) : Nat := (xferDesc l v.toNat).2.2.2

/-- A word store to BRG_XFER, as the counters see it. -/
def xferInstr (u : CoreId) : Instr := .stw u 0 0 0

/-- A store of `v` to BRG_XFER by the core given, apart from the instruction that issues it. -/
def xferSem (v : Word) : Sem := fun _ c => .store (0x10000000 + Rg.BRG_XFER) 4 v.toNat c

/-- BLOCK_WRITE: BRG_XFER with a write descriptor (18 R404). -/
def execBlockWrite (u : CoreId) (v : Word) (s : State) : Res :=
  .next (if xferDir (s.lane u.lane) v = 0 then s.runJfi u (xferInstr u) (xferSem v) else s)
/-- BLOCK_READ: BRG_XFER with a read descriptor (18 R404). -/
def execBlockRead (u : CoreId) (v : Word) (s : State) : Res :=
  .next (if xferDir (s.lane u.lane) v = 1 then s.runJfi u (xferInstr u) (xferSem v) else s)

/-- BACKPLANE_BUDGET_EXPIRY: the budget of the access the running instance waits for has passed: the instruction is suspended without effect, and a preemption that is due takes place (18 R407). -/
def execBackplaneBudgetExpiry (l : Lane) (s : State) : Res :=
  .next (s.onLane l (fun x => if waitsBus x then reschedule x else x))

end Sys2Proof.Machine
end

