-- ==== Sys2Proof/Machine/Jfi.lean ====
section
/-! DEFINITION. The instruction commands: each runs its own meaning on the core it names. -/

namespace Sys2Proof.Machine

/-- NOP: nothing. -/
def execNop (u : CoreId) (s : State) : Res := .next (s.runJfi u (.nop u) semNop)
/-- TRAP: raises SOFTWARE. -/
def execTrap (u : CoreId) (code : Reg) (s : State) : Res := .next (s.runJfi u (.trap u code) semTrap)
/-- FENCE: every access of the model completes at its target with its instruction, and a posted write is accepted when it is offered, so there is nothing to wait for. -/
def execFence (u : CoreId) (s : State) : Res := .next (s.runJfi u (.fence u) semFence)
/-- EVT: posts code 0x8000 OR W[ra][14:0] with data W[rb] (04 R101). -/
def execEvt (u : CoreId) (ra : Reg) (rb : Reg) (s : State) : Res := .next (s.runJfi u (.evt u ra rb) (semEvt ra rb))
/-- ADD. -/
def execAdd (u : CoreId) (ovf : Ovf) (d : Bool) (rd : Reg) (ra : Reg) (rb : Reg) (s : State) : Res := .next (s.runJfi u (.add u ovf d rd ra rb) (semAdd ovf d rd ra rb))
/-- SUB. -/
def execSub (u : CoreId) (ovf : Ovf) (d : Bool) (rd : Reg) (ra : Reg) (rb : Reg) (s : State) : Res := .next (s.runJfi u (.sub u ovf d rd ra rb) (semSub ovf d rd ra rb))
/-- MUL. -/
def execMul (u : CoreId) (ovf : Ovf) (d : Bool) (rd : Reg) (ra : Reg) (rb : Reg) (s : State) : Res := .next (s.runJfi u (.mul u ovf d rd ra rb) (semMul ovf d rd ra rb))
/-- MULHS: bits [63:32] of the signed product. -/
def execMulhs (u : CoreId) (rd : Reg) (ra : Reg) (rb : Reg) (s : State) : Res := .next (s.runJfi u (.mulhs u rd ra rb) (semMulhs rd ra rb))
/-- MULHU: bits [63:32] of the unsigned product. -/
def execMulhu (u : CoreId) (rd : Reg) (ra : Reg) (rb : Reg) (s : State) : Res := .next (s.runJfi u (.mulhu u rd ra rb) (semMulhu rd ra rb))
/-- DIV: W and SS forms only. -/
def execDiv (u : CoreId) (ovf : Ovf) (d : Bool) (rd : Reg) (ra : Reg) (rb : Reg) (s : State) : Res := .next (s.runJfi u (.div u ovf d rd ra rb) (semDiv ovf d rd ra rb))
/-- DIVU. -/
def execDivu (u : CoreId) (d : Bool) (rd : Reg) (ra : Reg) (rb : Reg) (s : State) : Res := .next (s.runJfi u (.divu u d rd ra rb) (semDivu d rd ra rb))
/-- REM. -/
def execRem (u : CoreId) (d : Bool) (rd : Reg) (ra : Reg) (rb : Reg) (s : State) : Res := .next (s.runJfi u (.rem u d rd ra rb) (semRem d rd ra rb))
/-- REMU. -/
def execRemu (u : CoreId) (d : Bool) (rd : Reg) (ra : Reg) (rb : Reg) (s : State) : Res := .next (s.runJfi u (.remu u d rd ra rb) (semRemu d rd ra rb))
/-- AND. -/
def execAnd (u : CoreId) (d : Bool) (rd : Reg) (ra : Reg) (rb : Reg) (s : State) : Res := .next (s.runJfi u (.and u d rd ra rb) (semAnd d rd ra rb))
/-- OR. -/
def execOr (u : CoreId) (d : Bool) (rd : Reg) (ra : Reg) (rb : Reg) (s : State) : Res := .next (s.runJfi u (.or u d rd ra rb) (semOr d rd ra rb))
/-- XOR. -/
def execXor (u : CoreId) (d : Bool) (rd : Reg) (ra : Reg) (rb : Reg) (s : State) : Res := .next (s.runJfi u (.xor u d rd ra rb) (semXor d rd ra rb))
/-- ANDN: ra AND NOT rb. -/
def execAndn (u : CoreId) (d : Bool) (rd : Reg) (ra : Reg) (rb : Reg) (s : State) : Res := .next (s.runJfi u (.andn u d rd ra rb) (semAndn d rd ra rb))
/-- SLL. -/
def execSll (u : CoreId) (d : Bool) (rd : Reg) (ra : Reg) (rb : Reg) (s : State) : Res := .next (s.runJfi u (.sll u d rd ra rb) (semSll d rd ra rb))
/-- SRL. -/
def execSrl (u : CoreId) (d : Bool) (rd : Reg) (ra : Reg) (rb : Reg) (s : State) : Res := .next (s.runJfi u (.srl u d rd ra rb) (semSrl d rd ra rb))
/-- SRA. -/
def execSra (u : CoreId) (d : Bool) (rd : Reg) (ra : Reg) (rb : Reg) (s : State) : Res := .next (s.runJfi u (.sra u d rd ra rb) (semSra d rd ra rb))
/-- ROL. -/
def execRol (u : CoreId) (d : Bool) (rd : Reg) (ra : Reg) (rb : Reg) (s : State) : Res := .next (s.runJfi u (.rol u d rd ra rb) (semRol d rd ra rb))
/-- ROR. -/
def execRor (u : CoreId) (d : Bool) (rd : Reg) (ra : Reg) (rb : Reg) (s : State) : Res := .next (s.runJfi u (.ror u d rd ra rb) (semRor d rd ra rb))
/-- CMP: sets the flags and writes no register. -/
def execCmp (u : CoreId) (d : Bool) (ra : Reg) (rb : Reg) (s : State) : Res := .next (s.runJfi u (.cmp u d ra rb) (semCmp d ra rb))
/-- SETC: 1 when a condition of codes 0x00 to 0x0F holds. -/
def execSetc (u : CoreId) (rd : Reg) (cond : Reg) (s : State) : Res := .next (s.runJfi u (.setc u rd cond) (semSetc rd cond))
/-- MIN. -/
def execMin (u : CoreId) (d : Bool) (rd : Reg) (ra : Reg) (rb : Reg) (s : State) : Res := .next (s.runJfi u (.min u d rd ra rb) (semMin d rd ra rb))
/-- MAX. -/
def execMax (u : CoreId) (d : Bool) (rd : Reg) (ra : Reg) (rb : Reg) (s : State) : Res := .next (s.runJfi u (.max u d rd ra rb) (semMax d rd ra rb))
/-- MINU. -/
def execMinu (u : CoreId) (d : Bool) (rd : Reg) (ra : Reg) (rb : Reg) (s : State) : Res := .next (s.runJfi u (.minu u d rd ra rb) (semMinu d rd ra rb))
/-- MAXU. -/
def execMaxu (u : CoreId) (d : Bool) (rd : Reg) (ra : Reg) (rb : Reg) (s : State) : Res := .next (s.runJfi u (.maxu u d rd ra rb) (semMaxu d rd ra rb))
/-- ABS: W and SS forms only. -/
def execAbs (u : CoreId) (ovf : Ovf) (d : Bool) (rd : Reg) (ra : Reg) (s : State) : Res := .next (s.runJfi u (.abs u ovf d rd ra) (semAbs ovf d rd ra))
/-- SEXTB. -/
def execSextb (u : CoreId) (rd : Reg) (ra : Reg) (s : State) : Res := .next (s.runJfi u (.sextb u rd ra) (semSextb rd ra))
/-- SEXTH. -/
def execSexth (u : CoreId) (rd : Reg) (ra : Reg) (s : State) : Res := .next (s.runJfi u (.sexth u rd ra) (semSexth rd ra))
/-- SEXTW. -/
def execSextw (u : CoreId) (rd : Reg) (ra : Reg) (s : State) : Res := .next (s.runJfi u (.sextw u rd ra) (semSextw rd ra))
/-- ZEXTW. -/
def execZextw (u : CoreId) (rd : Reg) (ra : Reg) (s : State) : Res := .next (s.runJfi u (.zextw u rd ra) (semZextw rd ra))
/-- MOVD. -/
def execMovd (u : CoreId) (rd : Reg) (ra : Reg) (s : State) : Res := .next (s.runJfi u (.movd u rd ra) (semMovd rd ra))
/-- MFS: ip and tn into a pair, sf and cs into a word (04 R104). -/
def execMfs (u : CoreId) (d : Bool) (rd : Reg) (sr : Reg) (s : State) : Res := .next (s.runJfi u (.mfs u d rd sr) (semMfs d rd sr))
/-- MTS: only sf can be written, and only its bits [4:0] (04 R104). -/
def execMts (u : CoreId) (sr : Reg) (ra : Reg) (s : State) : Res := .next (s.runJfi u (.mts u sr ra) (semMts sr ra))
/-- LDXB. -/
def execLdxb (u : CoreId) (rd : Reg) (ra : Reg) (rb : Reg) (s : State) : Res := .next (s.runJfi u (.ldxb u rd ra rb) (semLdxb rd ra rb))
/-- LDXH. -/
def execLdxh (u : CoreId) (rd : Reg) (ra : Reg) (rb : Reg) (s : State) : Res := .next (s.runJfi u (.ldxh u rd ra rb) (semLdxh rd ra rb))
/-- LDXW. -/
def execLdxw (u : CoreId) (rd : Reg) (ra : Reg) (rb : Reg) (s : State) : Res := .next (s.runJfi u (.ldxw u rd ra rb) (semLdxw rd ra rb))
/-- LDXD. -/
def execLdxd (u : CoreId) (rd : Reg) (ra : Reg) (rb : Reg) (s : State) : Res := .next (s.runJfi u (.ldxd u rd ra rb) (semLdxd rd ra rb))
/-- STXB. -/
def execStxb (u : CoreId) (rs : Reg) (ra : Reg) (rb : Reg) (s : State) : Res := .next (s.runJfi u (.stxb u rs ra rb) (semStxb rs ra rb))
/-- STXH. -/
def execStxh (u : CoreId) (rs : Reg) (ra : Reg) (rb : Reg) (s : State) : Res := .next (s.runJfi u (.stxh u rs ra rb) (semStxh rs ra rb))
/-- STXW. -/
def execStxw (u : CoreId) (rs : Reg) (ra : Reg) (rb : Reg) (s : State) : Res := .next (s.runJfi u (.stxw u rs ra rb) (semStxw rs ra rb))
/-- STXD. -/
def execStxd (u : CoreId) (rs : Reg) (ra : Reg) (rb : Reg) (s : State) : Res := .next (s.runJfi u (.stxd u rs ra rb) (semStxd rs ra rb))
/-- ADDI: always wraps. -/
def execAddi (u : CoreId) (rd : Reg) (ra : Reg) (imm : Half) (s : State) : Res := .next (s.runJfi u (.addi u rd ra imm) (semAddi rd ra imm))
/-- ANDI. -/
def execAndi (u : CoreId) (rd : Reg) (ra : Reg) (imm : Half) (s : State) : Res := .next (s.runJfi u (.andi u rd ra imm) (semAndi rd ra imm))
/-- ORI. -/
def execOri (u : CoreId) (rd : Reg) (ra : Reg) (imm : Half) (s : State) : Res := .next (s.runJfi u (.ori u rd ra imm) (semOri rd ra imm))
/-- XORI. -/
def execXori (u : CoreId) (rd : Reg) (ra : Reg) (imm : Half) (s : State) : Res := .next (s.runJfi u (.xori u rd ra imm) (semXori rd ra imm))
/-- LUI. -/
def execLui (u : CoreId) (rd : Reg) (imm : Half) (s : State) : Res := .next (s.runJfi u (.lui u rd imm) (semLui rd imm))
/-- CMPI. -/
def execCmpi (u : CoreId) (ra : Reg) (imm : Half) (s : State) : Res := .next (s.runJfi u (.cmpi u ra imm) (semCmpi ra imm))
/-- FADD. -/
def execFadd (u : CoreId) (rd : Reg) (ra : Reg) (rb : Reg) (s : State) : Res := .next (s.runJfi u (.fadd u rd ra rb) (semFadd rd ra rb))
/-- DADD. -/
def execDadd (u : CoreId) (rd : Reg) (ra : Reg) (rb : Reg) (s : State) : Res := .next (s.runJfi u (.dadd u rd ra rb) (semDadd rd ra rb))
/-- FSUB. -/
def execFsub (u : CoreId) (rd : Reg) (ra : Reg) (rb : Reg) (s : State) : Res := .next (s.runJfi u (.fsub u rd ra rb) (semFsub rd ra rb))
/-- DSUB. -/
def execDsub (u : CoreId) (rd : Reg) (ra : Reg) (rb : Reg) (s : State) : Res := .next (s.runJfi u (.dsub u rd ra rb) (semDsub rd ra rb))
/-- FMUL. -/
def execFmul (u : CoreId) (rd : Reg) (ra : Reg) (rb : Reg) (s : State) : Res := .next (s.runJfi u (.fmul u rd ra rb) (semFmul rd ra rb))
/-- DMUL. -/
def execDmul (u : CoreId) (rd : Reg) (ra : Reg) (rb : Reg) (s : State) : Res := .next (s.runJfi u (.dmul u rd ra rb) (semDmul rd ra rb))
/-- FDIV. -/
def execFdiv (u : CoreId) (rd : Reg) (ra : Reg) (rb : Reg) (s : State) : Res := .next (s.runJfi u (.fdiv u rd ra rb) (semFdiv rd ra rb))
/-- DDIV. -/
def execDdiv (u : CoreId) (rd : Reg) (ra : Reg) (rb : Reg) (s : State) : Res := .next (s.runJfi u (.ddiv u rd ra rb) (semDdiv rd ra rb))
/-- FSQRT. -/
def execFsqrt (u : CoreId) (rd : Reg) (ra : Reg) (s : State) : Res := .next (s.runJfi u (.fsqrt u rd ra) (semFsqrt rd ra))
/-- DSQRT. -/
def execDsqrt (u : CoreId) (rd : Reg) (ra : Reg) (s : State) : Res := .next (s.runJfi u (.dsqrt u rd ra) (semDsqrt rd ra))
/-- FMIN. -/
def execFmin (u : CoreId) (rd : Reg) (ra : Reg) (rb : Reg) (s : State) : Res := .next (s.runJfi u (.fmin u rd ra rb) (semFmin rd ra rb))
/-- DMIN. -/
def execDmin (u : CoreId) (rd : Reg) (ra : Reg) (rb : Reg) (s : State) : Res := .next (s.runJfi u (.dmin u rd ra rb) (semDmin rd ra rb))
/-- FMAX. -/
def execFmax (u : CoreId) (rd : Reg) (ra : Reg) (rb : Reg) (s : State) : Res := .next (s.runJfi u (.fmax u rd ra rb) (semFmax rd ra rb))
/-- DMAX. -/
def execDmax (u : CoreId) (rd : Reg) (ra : Reg) (rb : Reg) (s : State) : Res := .next (s.runJfi u (.dmax u rd ra rb) (semDmax rd ra rb))
/-- FCMP. -/
def execFcmp (u : CoreId) (ra : Reg) (rb : Reg) (s : State) : Res := .next (s.runJfi u (.fcmp u ra rb) (semFcmp ra rb))
/-- DCMP. -/
def execDcmp (u : CoreId) (ra : Reg) (rb : Reg) (s : State) : Res := .next (s.runJfi u (.dcmp u ra rb) (semDcmp ra rb))
/-- FNEG. -/
def execFneg (u : CoreId) (rd : Reg) (ra : Reg) (s : State) : Res := .next (s.runJfi u (.fneg u rd ra) (semFneg rd ra))
/-- DNEG. -/
def execDneg (u : CoreId) (rd : Reg) (ra : Reg) (s : State) : Res := .next (s.runJfi u (.dneg u rd ra) (semDneg rd ra))
/-- FABS. -/
def execFabs (u : CoreId) (rd : Reg) (ra : Reg) (s : State) : Res := .next (s.runJfi u (.fabs u rd ra) (semFabs rd ra))
/-- DABS. -/
def execDabs (u : CoreId) (rd : Reg) (ra : Reg) (s : State) : Res := .next (s.runJfi u (.dabs u rd ra) (semDabs rd ra))
/-- FCPYS. -/
def execFcpys (u : CoreId) (rd : Reg) (ra : Reg) (rb : Reg) (s : State) : Res := .next (s.runJfi u (.fcpys u rd ra rb) (semFcpys rd ra rb))
/-- DCPYS. -/
def execDcpys (u : CoreId) (rd : Reg) (ra : Reg) (rb : Reg) (s : State) : Res := .next (s.runJfi u (.dcpys u rd ra rb) (semDcpys rd ra rb))
/-- F2I. -/
def execF2i (u : CoreId) (t : Bool) (rd : Reg) (ra : Reg) (s : State) : Res := .next (s.runJfi u (.f2i u t rd ra) (semF2i t rd ra))
/-- F2U. -/
def execF2u (u : CoreId) (t : Bool) (rd : Reg) (ra : Reg) (s : State) : Res := .next (s.runJfi u (.f2u u t rd ra) (semF2u t rd ra))
/-- F2L. -/
def execF2l (u : CoreId) (t : Bool) (rd : Reg) (ra : Reg) (s : State) : Res := .next (s.runJfi u (.f2l u t rd ra) (semF2l t rd ra))
/-- F2UL. -/
def execF2ul (u : CoreId) (t : Bool) (rd : Reg) (ra : Reg) (s : State) : Res := .next (s.runJfi u (.f2ul u t rd ra) (semF2ul t rd ra))
/-- D2I. -/
def execD2i (u : CoreId) (t : Bool) (rd : Reg) (ra : Reg) (s : State) : Res := .next (s.runJfi u (.d2i u t rd ra) (semD2i t rd ra))
/-- D2U. -/
def execD2u (u : CoreId) (t : Bool) (rd : Reg) (ra : Reg) (s : State) : Res := .next (s.runJfi u (.d2u u t rd ra) (semD2u t rd ra))
/-- D2L. -/
def execD2l (u : CoreId) (t : Bool) (rd : Reg) (ra : Reg) (s : State) : Res := .next (s.runJfi u (.d2l u t rd ra) (semD2l t rd ra))
/-- D2UL. -/
def execD2ul (u : CoreId) (t : Bool) (rd : Reg) (ra : Reg) (s : State) : Res := .next (s.runJfi u (.d2ul u t rd ra) (semD2ul t rd ra))
/-- I2F. -/
def execI2f (u : CoreId) (rd : Reg) (ra : Reg) (s : State) : Res := .next (s.runJfi u (.i2f u rd ra) (semI2f rd ra))
/-- U2F. -/
def execU2f (u : CoreId) (rd : Reg) (ra : Reg) (s : State) : Res := .next (s.runJfi u (.u2f u rd ra) (semU2f rd ra))
/-- L2F. -/
def execL2f (u : CoreId) (rd : Reg) (ra : Reg) (s : State) : Res := .next (s.runJfi u (.l2f u rd ra) (semL2f rd ra))
/-- UL2F. -/
def execUl2f (u : CoreId) (rd : Reg) (ra : Reg) (s : State) : Res := .next (s.runJfi u (.ul2f u rd ra) (semUl2f rd ra))
/-- I2D. -/
def execI2d (u : CoreId) (rd : Reg) (ra : Reg) (s : State) : Res := .next (s.runJfi u (.i2d u rd ra) (semI2d rd ra))
/-- U2D. -/
def execU2d (u : CoreId) (rd : Reg) (ra : Reg) (s : State) : Res := .next (s.runJfi u (.u2d u rd ra) (semU2d rd ra))
/-- L2D. -/
def execL2d (u : CoreId) (rd : Reg) (ra : Reg) (s : State) : Res := .next (s.runJfi u (.l2d u rd ra) (semL2d rd ra))
/-- UL2D. -/
def execUl2d (u : CoreId) (rd : Reg) (ra : Reg) (s : State) : Res := .next (s.runJfi u (.ul2d u rd ra) (semUl2d rd ra))
/-- F2D. -/
def execF2d (u : CoreId) (rd : Reg) (ra : Reg) (s : State) : Res := .next (s.runJfi u (.f2d u rd ra) (semF2d rd ra))
/-- D2F. -/
def execD2f (u : CoreId) (rd : Reg) (ra : Reg) (s : State) : Res := .next (s.runJfi u (.d2f u rd ra) (semD2f rd ra))
/-- BLD: W[rd] := bit; Z := (bit = 0). -/
def execBld (u : CoreId) (rd : Reg) (loc : BitRef) (s : State) : Res := .next (s.runJfi u (.bld u rd loc) (semBld rd loc))
/-- BLDN: W[rd] := 1 − bit; Z := (bit = 1). -/
def execBldn (u : CoreId) (rd : Reg) (loc : BitRef) (s : State) : Res := .next (s.runJfi u (.bldn u rd loc) (semBldn rd loc))
/-- BTST: Z := (bit = 0). -/
def execBtst (u : CoreId) (loc : BitRef) (s : State) : Res := .next (s.runJfi u (.btst u loc) (semBtst loc))
/-- BSTR: bit := W[rs][0]. -/
def execBstr (u : CoreId) (rs : Reg) (loc : BitRef) (s : State) : Res := .next (s.runJfi u (.bstr u rs loc) (semBstr rs loc))
/-- BSET: bit := 1. -/
def execBset (u : CoreId) (loc : BitRef) (s : State) : Res := .next (s.runJfi u (.bset u loc) (semBset loc))
/-- BCLR: bit := 0. -/
def execBclr (u : CoreId) (loc : BitRef) (s : State) : Res := .next (s.runJfi u (.bclr u loc) (semBclr loc))
/-- BTGL: bit := 1 − bit. -/
def execBtgl (u : CoreId) (loc : BitRef) (s : State) : Res := .next (s.runJfi u (.btgl u loc) (semBtgl loc))
/-- LDW. -/
def execLdw (u : CoreId) (rd : Reg) (base : Reg) (off : Half) (s : State) : Res := .next (s.runJfi u (.ldw u rd base off) (semLdw rd base off))
/-- LDH. -/
def execLdh (u : CoreId) (rd : Reg) (base : Reg) (off : Half) (s : State) : Res := .next (s.runJfi u (.ldh u rd base off) (semLdh rd base off))
/-- LDB. -/
def execLdb (u : CoreId) (rd : Reg) (base : Reg) (off : Half) (s : State) : Res := .next (s.runJfi u (.ldb u rd base off) (semLdb rd base off))
/-- LDD. -/
def execLdd (u : CoreId) (rd : Reg) (base : Reg) (off : Half) (s : State) : Res := .next (s.runJfi u (.ldd u rd base off) (semLdd rd base off))
/-- STW. -/
def execStw (u : CoreId) (rs : Reg) (base : Reg) (off : Half) (s : State) : Res := .next (s.runJfi u (.stw u rs base off) (semStw rs base off))
/-- STH. -/
def execSth (u : CoreId) (rs : Reg) (base : Reg) (off : Half) (s : State) : Res := .next (s.runJfi u (.sth u rs base off) (semSth rs base off))
/-- STB. -/
def execStb (u : CoreId) (rs : Reg) (base : Reg) (off : Half) (s : State) : Res := .next (s.runJfi u (.stb u rs base off) (semStb rs base off))
/-- STD. -/
def execStd (u : CoreId) (rs : Reg) (base : Reg) (off : Half) (s : State) : Res := .next (s.runJfi u (.std u rs base off) (semStd rs base off))
/-- SWAPW. -/
def execSwapw (u : CoreId) (rd : Reg) (base : Reg) (off : Half) (s : State) : Res := .next (s.runJfi u (.swapw u rd base off) (semSwapw rd base off))
/-- BR: on a vital core only forward (04 R112). -/
def execBr (u : CoreId) (off : BitVec 26) (s : State) : Res := .next (s.runJfi u (.br u off) (semBr off))
/-- BC: codes 0x00 to 0x0F on sf with ra 0, 0x10 to 0x13 on W[ra]. -/
def execBc (u : CoreId) (cond : Reg) (ra : Reg) (off : Half) (s : State) : Res := .next (s.runJfi u (.bc u cond ra off) (semBc cond ra off))
/-- LOOP (03 R68, R70; 04 R113): the bound is BOUND + 1, the distance DIST + 1. -/
def execLoop (u : CoreId) (rc : Reg) (bound : BitVec 11) (dist : BitVec 10) (s : State) : Res := .next (s.runJfi u (.loop u rc bound dist) (semLoop rc bound dist))
/-- CALL (03 R67). -/
def execCall (u : CoreId) (off : BitVec 26) (s : State) : Res := .next (s.runJfi u (.call u off) (semCall off))
/-- CALLFB: the block type's entry, with fp moved to the block's frame (03 R75). -/
def execCallfb (u : CoreId) (bt : BitVec 10) (fo : Half) (s : State) : Res := .next (s.runJfi u (.callfb u bt fo) (semCallfb bt fo))
/-- RET: pops the loop-nest entries of this depth, then the return stack; on an empty one the instance completes (03 R67, R68). -/
def execRet (u : CoreId) (s : State) : Res := .next (s.runJfi u (.ret u) semRet)
/-- RDTIME: live working time. -/
def execRdtime (u : CoreId) (rd : Reg) (s : State) : Res := .next (s.runJfi u (.rdtime u rd) (semRdtime rd))
/-- RDLANE: the lane's number. -/
def execRdlane (u : CoreId) (rd : Reg) (s : State) : Res := .next (s.runJfi u (.rdlane u rd) (semRdlane rd))
/-- DCWB: write the D-cache line back. -/
def execDcwb (u : CoreId) (ra : Reg) (s : State) : Res := .next (s.runJfi u (.dcwb u ra) (semDcwb ra))
/-- DCINV: write back, then invalidate. -/
def execDcinv (u : CoreId) (ra : Reg) (s : State) : Res := .next (s.runJfi u (.dcinv u ra) (semDcinv ra))
/-- ICINV: invalidate the I-cache line. -/
def execIcinv (u : CoreId) (ra : Reg) (s : State) : Res := .next (s.runJfi u (.icinv u ra) (semIcinv ra))
/-- BRK: halts the core for debug when software breakpoints are armed on it, otherwise SOFTWARE. -/
def execBrk (u : CoreId) (s : State) : Res := .next (s.runJfi u (.brk u) semBrk)
/-- TON. -/
def execTon (u : CoreId) (r : Reg) (fo : Half) (s : State) : Res := .next (s.runJfi u (.ton u r fo) (semTon r fo))
/-- TOF. -/
def execTof (u : CoreId) (r : Reg) (fo : Half) (s : State) : Res := .next (s.runJfi u (.tof u r fo) (semTof r fo))
/-- TP. -/
def execTp (u : CoreId) (r : Reg) (fo : Half) (s : State) : Res := .next (s.runJfi u (.tp u r fo) (semTp r fo))
/-- RTRIG. -/
def execRtrig (u : CoreId) (e1 : Bool) (r : Reg) (fo : Half) (s : State) : Res := .next (s.runJfi u (.rtrig u e1 r fo) (semRtrig e1 r fo))
/-- FTRIG. -/
def execFtrig (u : CoreId) (e1 : Bool) (r : Reg) (fo : Half) (s : State) : Res := .next (s.runJfi u (.ftrig u e1 r fo) (semFtrig e1 r fo))
/-- CTU. -/
def execCtu (u : CoreId) (e1 : Bool) (r : Reg) (fo : Half) (s : State) : Res := .next (s.runJfi u (.ctu u e1 r fo) (semCtu e1 r fo))
/-- CTD. -/
def execCtd (u : CoreId) (e1 : Bool) (r : Reg) (fo : Half) (s : State) : Res := .next (s.runJfi u (.ctd u e1 r fo) (semCtd e1 r fo))
/-- CTUD. -/
def execCtud (u : CoreId) (e1 : Bool) (r : Reg) (fo : Half) (s : State) : Res := .next (s.runJfi u (.ctud u e1 r fo) (semCtud e1 r fo))
/-- SR: set-dominant. -/
def execSr (u : CoreId) (r : Reg) (fo : Half) (s : State) : Res := .next (s.runJfi u (.sr u r fo) (semSr r fo))
/-- RS: reset-dominant. -/
def execRs (u : CoreId) (r : Reg) (fo : Half) (s : State) : Res := .next (s.runJfi u (.rs u r fo) (semRs r fo))
/-- SEL. -/
def execSel (u : CoreId) (r : Reg) (s : State) : Res := .next (s.runJfi u (.sel u r) (semSel r))
/-- SELD. -/
def execSeld (u : CoreId) (r : Reg) (s : State) : Res := .next (s.runJfi u (.seld u r) (semSeld r))
/-- MUX among OPT + 2 words. -/
def execMux (u : CoreId) (opt : BitVec 2) (r : Reg) (s : State) : Res := .next (s.runJfi u (.mux u opt r) (semMux opt r))
/-- MUXD among OPT + 2 pairs. -/
def execMuxd (u : CoreId) (opt : BitVec 2) (r : Reg) (s : State) : Res := .next (s.runJfi u (.muxd u opt r) (semMuxd opt r))
/-- LIMIT_DINT: LIMIT on DINT. -/
def execLimitDint (u : CoreId) (r : Reg) (s : State) : Res := .next (s.runJfi u (.limitDint u r) (semLimitDint r))
/-- LIMIT_UDINT: LIMIT on UDINT. -/
def execLimitUdint (u : CoreId) (r : Reg) (s : State) : Res := .next (s.runJfi u (.limitUdint u r) (semLimitUdint r))
/-- LIMIT_REAL: LIMIT on REAL. -/
def execLimitReal (u : CoreId) (r : Reg) (s : State) : Res := .next (s.runJfi u (.limitReal u r) (semLimitReal r))
/-- LIMIT_LREAL: LIMIT on LREAL. -/
def execLimitLreal (u : CoreId) (r : Reg) (s : State) : Res := .next (s.runJfi u (.limitLreal u r) (semLimitLreal r))
/-- HYST_DINT: HYST on DINT. -/
def execHystDint (u : CoreId) (r : Reg) (fo : Half) (s : State) : Res := .next (s.runJfi u (.hystDint u r fo) (semHystDint r fo))
/-- HYST_REAL: HYST on REAL. -/
def execHystReal (u : CoreId) (r : Reg) (fo : Half) (s : State) : Res := .next (s.runJfi u (.hystReal u r fo) (semHystReal r fo))
/-- DBNC. -/
def execDbnc (u : CoreId) (q0 : Bool) (r : Reg) (fo : Half) (s : State) : Res := .next (s.runJfi u (.dbnc u q0 r fo) (semDbnc q0 r fo))
/-- DBNC_RISING. -/
def execDbncRising (u : CoreId) (q0 : Bool) (r : Reg) (fo : Half) (s : State) : Res := .next (s.runJfi u (.dbncRising u q0 r fo) (semDbncRising q0 r fo))
/-- DBNC_FALLING. -/
def execDbncFalling (u : CoreId) (q0 : Bool) (r : Reg) (fo : Half) (s : State) : Res := .next (s.runJfi u (.dbncFalling u q0 r fo) (semDbncFalling q0 r fo))
/-- PID: W[r] is control and takes status, W[r+1] SP, W[r+2] PV, W[r+3] is YMAN and takes Y; 56 bytes. -/
def execPid (u : CoreId) (r : Reg) (fo : Half) (s : State) : Res := .next (s.runJfi u (.pid u r fo) (semPid r fo))
/-- RAMP: W[r] is X and takes Y; 24 bytes. -/
def execRamp (u : CoreId) (r : Reg) (fo : Half) (s : State) : Res := .next (s.runJfi u (.ramp u r fo) (semRamp r fo))

end Sys2Proof.Machine
end

