-- ==== Sys2Proof/Machine/Loader.lean ====
section
/-! DEFINITION. The loader: what it proves of an image's code, and its checks (02 R45, R49; 03 Table JFM-13, R69 to R76, R93, R94; 04 R96, R546; 06 R149; 07 R155, R158; 10 R236; 13 R310; 16 R359; 18 R401, R403). -/

namespace Sys2Proof.Machine

/-! What one instruction of an image changes and reaches. -/

/-- The registers an instruction of a vital image can change. -/
def dests : Instr → List Nat
  | .add _ _ d r _ _ | .sub _ _ d r _ _ | .mul _ _ d r _ _ | .div _ _ d r _ _ | .divu _ d r _ _ | .rem _ d r _ _ | .remu _ d r _ _
  | .and _ d r _ _ | .or _ d r _ _ | .xor _ d r _ _ | .andn _ d r _ _ | .sll _ d r _ _ | .srl _ d r _ _ | .sra _ d r _ _ | .rol _ d r _ _
  | .ror _ d r _ _ | .min _ d r _ _ | .max _ d r _ _ | .minu _ d r _ _ | .maxu _ d r _ _ | .abs _ _ d r _ | .mfs _ d r _ =>
    if d then [r.val, r.val + 1] else [r.val]
  | .mulhs _ r _ _ | .mulhu _ r _ _ | .setc _ r _ | .sextb _ r _ | .sexth _ r _ | .ldxb _ r _ _ | .ldxh _ r _ _ | .ldxw _ r _ _
  | .addi _ r _ _ | .andi _ r _ _ | .ori _ r _ _ | .xori _ r _ _ | .lui _ r _ | .fadd _ r _ _ | .fsub _ r _ _ | .fmul _ r _ _ | .fdiv _ r _ _
  | .fsqrt _ r _ | .fmin _ r _ _ | .fmax _ r _ _ | .fneg _ r _ | .fabs _ r _ | .fcpys _ r _ _ | .f2i _ _ r _ | .f2u _ _ r _ | .d2i _ _ r _
  | .d2u _ _ r _ | .i2f _ r _ | .u2f _ r _ | .l2f _ r _ | .ul2f _ r _ | .d2f _ r _ | .bld _ r _ | .bldn _ r _ | .ldw _ r _ _ | .ldh _ r _ _
  | .ldb _ r _ _ | .swapw _ r _ _ | .loop _ r _ _ | .rtrig _ _ r _ | .ftrig _ _ r _ | .sr _ r _ | .rs _ r _ | .sel _ r | .mux _ _ r
  | .limitDint _ r | .limitUdint _ r | .limitReal _ r | .hystDint _ r _ | .hystReal _ r _ | .ramp _ r _ => [r.val]
  | .sextw _ r _ | .zextw _ r _ | .movd _ r _ | .ldxd _ r _ _ | .dadd _ r _ _ | .dsub _ r _ _ | .dmul _ r _ _ | .ddiv _ r _ _ | .dsqrt _ r _
  | .dmin _ r _ _ | .dmax _ r _ _ | .dneg _ r _ | .dabs _ r _ | .dcpys _ r _ _ | .f2l _ _ r _ | .f2ul _ _ r _ | .d2l _ _ r _ | .d2ul _ _ r _
  | .i2d _ r _ | .u2d _ r _ | .l2d _ r _ | .ul2d _ r _ | .f2d _ r _ | .ldd _ r _ _ | .seld _ r | .muxd _ _ r | .limitLreal _ r => [r.val, r.val + 1]
  | .ton _ r _ | .tof _ r _ | .tp _ r _ | .dbnc _ _ r _ | .dbncRising _ _ r _ | .dbncFalling _ _ r _ => [r.val + 2]
  | .ctu _ _ r _ | .ctd _ _ r _ | .ctud _ _ r _ => [r.val, r.val + 2]
  | .pid _ r _ => [r.val, r.val + 3]
  | _ => []

/-- A near access: base register, offset, size, whether it stores, and the register whose value it stores. -/
def nearOf : Instr → Option (Nat × Half × Nat × Bool × Nat)
  | .ldw _ _ b o => some (b, o, 4, false, 0)
  | .ldh _ _ b o => some (b, o, 2, false, 0)
  | .ldb _ _ b o => some (b, o, 1, false, 0)
  | .ldd _ _ b o => some (b, o, 8, false, 0)
  | .stw _ r b o => some (b, o, 4, true, r)
  | .sth _ r b o => some (b, o, 2, true, r)
  | .stb _ r b o => some (b, o, 1, true, r)
  | .std _ r b o => some (b, o, 8, true, r)
  | _ => none

/-- A far access: base pair, offset register, size, whether it stores, and the register whose value it stores. -/
def farOf : Instr → Option (Nat × Nat × Nat × Bool × Nat)
  | .ldxb _ _ a b => some (a, b, 1, false, 0)
  | .ldxh _ _ a b => some (a, b, 2, false, 0)
  | .ldxw _ _ a b => some (a, b, 4, false, 0)
  | .ldxd _ _ a b => some (a, b, 8, false, 0)
  | .stxb _ r a b => some (a, b, 1, true, r)
  | .stxh _ r a b => some (a, b, 2, true, r)
  | .stxw _ r a b => some (a, b, 4, true, r)
  | .stxd _ r a b => some (a, b, 8, true, r)
  | _ => none

/-- Whether an instruction can raise a trap that reaches a handler: an access, LOOP, a call, TRAP, or with ARITH_TRAP an event that sets E (03 Table JFM-8, R85, R94). -/
def mayTrap (arith : Bool) : Instr → Bool
  | .trap _ _ | .loop _ _ _ _ | .call _ _ | .callfb _ _ _ => true
  | .div _ _ _ _ _ _ | .divu _ _ _ _ _ | .rem _ _ _ _ _ | .remu _ _ _ _ _ | .evt _ _ _ => arith
  | .fneg _ _ _ | .fabs _ _ _ | .fcpys _ _ _ _ | .dneg _ _ _ | .dabs _ _ _ | .dcpys _ _ _ _ => false
  | .i2f _ _ _ | .u2f _ _ _ | .l2f _ _ _ | .ul2f _ _ _ | .i2d _ _ _ | .u2d _ _ _ | .l2d _ _ _ | .ul2d _ _ _ => false
  | .sel _ _ | .seld _ _ => false
  | .mux _ _ _ | .muxd _ _ _ | .limitDint _ _ | .limitUdint _ _ | .limitReal _ _ | .limitLreal _ _ => arith
  | i => accessKind i != .none || isFb i || (isFloat i && arith)

/-! Intervals (04 R546). -/

/-- What is known of a register: nothing, or a closed interval of values. -/
abbrev Itv := Option (Int × Int)

/-- What is known of the working registers. -/
abbrev Known := List Itv

/-- What is known of a register: w0 holds 0. -/
def kget (s : Known) (r : Nat) : Itv := if r = 0 then some (0, 0) else (s[r]?).getD none

/-- Replace what is known of a register. -/
def kset (s : Known) (r : Nat) (v : Itv) : Known := if r = 0 then s else s.set r v

/-- An interval of sums taken modulo 2³²; one that wraps only in part is unknown. -/
def itvWrap (lo hi : Int) : Itv :=
  let q := lo / 2 ^ 32
  if q = hi / 2 ^ 32 then some (lo - q * 2 ^ 32, hi - q * 2 ^ 32) else none

/-- Where paths join: the smallest interval that covers both. -/
def itvJoin (a b : Itv) : Itv :=
  match a, b with
  | some a, some b => some (min a.1 b.1, max a.2 b.2)
  | _, _ => none

/-- A sum of two known values, the second with a sign. -/
def itvAdd (a b : Itv) : Itv :=
  match a, b with
  | some a, some b => itvWrap (a.1 + b.1) (a.2 + b.2)
  | _, _ => none

/-- A difference of two known values. -/
def itvSub (a b : Itv) : Itv :=
  match a, b with
  | some a, some b => itvWrap (a.1 - b.2) (a.2 - b.1)
  | _, _ => none

/-- Join what is known on two paths. -/
def knownJoin (a b : Known) : Known := (List.range 32).map (fun r => itvJoin (kget a r) (kget b r))

/-- Join with a path that may not exist. -/
def optJoin (a b : Option Known) : Option Known :=
  match a, b with
  | some a, some b => some (knownJoin a b)
  | none, b => b
  | a, none => a

/-- Keep what a later path does not widen. -/
def knownWiden (old new : Known) : Known := (List.range 32).map (fun r => if itvJoin (kget old r) (kget new r) == kget old r then kget old r else none)

/-- What is known after an instruction that is no call: a value becomes known as R546 lists, and every other destination unknown. -/
def knownStep (i : Instr) (s : Known) : Known :=
  match i with
  | .addi _ d a imm => kset s d (itvAdd (kget s a) (some (imm.toInt, imm.toInt)))
  | .add _ .w false d a b => kset s d (itvAdd (kget s a) (kget s b))
  | .sub _ .w false d a b => kset s d (itvSub (kget s a) (kget s b))
  | .lui _ d imm => kset s d (some ((imm.toNat * 65536 : Nat), (imm.toNat * 65536 : Nat)))
  | .ori _ d a imm =>
    kset s d (match kget s a with
      | some (x, y) => if x = y then some ((x.toNat ||| imm.toNat : Nat), (x.toNat ||| imm.toNat : Nat)) else none
      | none => none)
  | .or _ false d a b => kset s d (if b.val = 0 then kget s a else if a.val = 0 then kget s b else none)
  | i => (dests i).foldl (fun s r => kset s r none) s

/-! Code. -/

/-- What the loader works on: a lane whose registers hold the configuration, the image, its code words, the task, and whether E traps. -/
structure LdEnv where
  l : LaneState
  a : AppImage
  code : List (Option Instr)
  t : Nat
  arith : Bool

/-- The instructions of an image's code; none for an illegal word. -/
def codeOf (a : AppImage) : List (Option Instr) :=
  (List.range (a.code.length / 4)).map (fun i => decodeJfi { lane := .a, core1 := false } (BitVec.ofNat 32 (leNat ((a.code.drop (4 * i)).take 4))))

/-- The index of the instruction at an address. -/
def codeIdx (a : AppImage) (x : Nat) : Option Nat :=
  if a.loadAddr ≤ x && x < a.loadAddr + a.code.length && (x - a.loadAddr) % 4 == 0 then some ((x - a.loadAddr) / 4) else none

/-- The instruction at an index. -/
def insAt (env : LdEnv) (i : Nat) : Option Instr := ((env.code[i]?).getD none)

/-- What an instruction does from a fixed register state, which shows its static faults and its offsets. -/
def staticOp (a : AppImage) (i : Instr) : Op :=
  match semOf i with
  | some p => p.2 { vital := true, app := a, lane := 0, now := 0, diag := false, swBrk := false } {}
  | none => illegal

/-- Whether an instruction can never execute: an illegal word, pair field, base register, branch backward, block type or DIAG (03 Table JFM-13, R62, R63, R69, R75). -/
def staticBad (a : AppImage) (i : Instr) : Bool :=
  match staticOp a i with
  | .trap c _ => c == 1 || c == 2
  | _ => false

/-- Index of a target `off` instructions away, within `n` words. -/
def relIdx (n i : Nat) (off : Int) : Option Nat :=
  let t := (i : Int) + off
  if 0 ≤ t && t < (n : Int) then some t.toNat else none

/-- Whether every target of an instruction lies inside the code (03 Table JFM-13 Branches). -/
def targetsIn (a : AppImage) (n i : Nat) : Instr → Bool
  | .br _ off => (relIdx n i off.toInt).isSome
  | .bc _ _ _ off => (relIdx n i off.toInt).isSome
  | .loop _ _ _ dist => dist.toNat + 1 ≤ i
  | .call _ off => (relIdx n i off.toInt).isSome
  | .callfb _ bt _ =>
    match a.blocks[bt.toNat]? with
    | some b => (codeIdx a (a.loadAddr + b.1)).isSome
    | none => false
  | _ => true

/-- Where execution goes on within the function, forward. -/
def succs (n i : Nat) : Instr → List Nat
  | .br _ off => (relIdx n i off.toInt).toList
  | .bc _ _ _ off => (i + 1) :: (relIdx n i off.toInt).toList
  | .ret _ | .trap _ _ => []
  | _ => [i + 1]

/-- The index a call goes to. -/
def calleeOf (env : LdEnv) (i : Nat) : Instr → Option Nat
  | .call _ off => relIdx env.code.length i off.toInt
  | .callfb _ bt _ =>
    match env.a.blocks[bt.toNat]? with
    | some b => codeIdx env.a (env.a.loadAddr + b.1)
    | none => none
  | _ => none

/-- One loop of a function: its first and last instruction, and its bound. -/
structure LoopRange where
  top : Nat
  last : Nat
  bound : Nat

/-- Whether an index lies in a loop. -/
def LoopRange.has (p : LoopRange) (i : Nat) : Bool := decide (p.top ≤ i) && decide (i ≤ p.last)

/-- Instructions reached from a set, back edges included, by steps of fuel. -/
def reachFrom (env : LdEnv) : Nat → List Nat → List Nat → List Nat
  | 0, seen, _ => seen
  | _, seen, [] => seen
  | f + 1, seen, i :: todo =>
    if seen.contains i then reachFrom env f seen todo
    else
      match insAt env i with
      | none => reachFrom env f seen todo
      | some ins =>
        let back := match ins with
          | .loop _ _ _ d => [i - (d.toNat + 1)]
          | _ => []
        reachFrom env f (i :: seen) (succs env.code.length i ins ++ back ++ todo)

/-- The instructions of the function entered at an index, in ascending order. -/
def fnBody (env : LdEnv) (entry : Nat) : List Nat :=
  let r := reachFrom env (4 * env.code.length + 4) [] [entry]
  (List.range env.code.length).filter r.contains

/-- The loops of a function. -/
def loopsIn (env : LdEnv) (body : List Nat) : List LoopRange :=
  body.filterMap (fun i => match insAt env i with
    | some (.loop _ _ b d) => some { top := i - (d.toNat + 1), last := i, bound := b.toNat + 1 }
    | _ => none)

/-- The registers a function and what it calls can change, by levels of calls. -/
def fnDests (env : LdEnv) : Nat → Nat → List Nat
  | 0, _ => List.range 32
  | f + 1, entry =>
    (fnBody env entry).foldl (fun acc i => match insAt env i with
      | some ins => addNew (addNew acc (dests ins)) (match calleeOf env i ins with | some e => fnDests env f e | none => [])
      | none => acc) []

/-- The registers that a loop changes only by one ADDI of a constant, executed once in each pass, with that constant (04 R546): the loop is entered at its top. -/
def pinned (env : LdEnv) (entry : Nat) (body : List Nat) (loops : List LoopRange) (p : LoopRange) : List (Nat × Int) :=
  let inside := body.filter p.has
  let entered := (entry == p.top || !p.has entry) &&
    body.all (fun j => p.has j || (match insAt env j with | some ins => (succs env.code.length j ins).all (fun k => k == p.top || !p.has k) | none => true))
  let changes (r : Nat) : List Nat := inside.filter (fun j => match insAt env j with
    | some ins => (dests ins).contains r || (match calleeOf env j ins with | some e => (fnDests env 64 e).contains r | none => false)
    | none => false)
  if !entered then []
  else (List.range 28).filterMap (fun r => match changes r with
    | [j] => (match insAt env j with
      | some (.addi _ d a imm) =>
        if d.val = r && a.val = r && !loops.any (fun q => (p.top != q.top || p.last != q.last) && p.top ≤ q.top && q.last ≤ p.last && q.has j) then some (r, imm.toInt) else none
      | _ => none)
    | _ => none)

/-! Charges (04 Table JFI-3; 18 Table BRG-2). -/

/-- A budget in weight units (18 R403). -/
def budgetWeight (l : LaneState) (r : Nat) : Nat := (fget l (Rg.BRG_REGr_BUDGET r) 9 0 * 100000 + 164) / 165

/-- The regions a task owns. -/
def regionsOf (l : LaneState) (t : Nat) : List Nat :=
  (List.range 16).filter (fun r => regAttr l r 0 0 == 1 && regAttr l r 2 1 == 1 && regAttr l r 7 4 == t)

/-- The charge of one access to a region. -/
def regionCharge (l : LaneState) (wr : Bool) (r : Nat) : Nat := if wr && regAttr l r 9 9 == 0 then 64 else budgetWeight l r

/-- The costliest charge among some. -/
def costliest (l : List Nat) : Nat := l.foldl max 0

/-- Whether a range lies within one SRAM range the task may reach (02 R38, R39; 04 R546). -/
def sramProved (env : LdEnv) (a n : Nat) (wr : Bool) : Bool :=
  let e := taskEnt env.l env.t
  let i : Instance := { slot := env.t, input := List.replicate (e.inLast + 1 - e.inStart) 0 }
  decide (a + n ≤ 0x400000) && vitalSram env.l i a n wr && (List.range 16).all (fun k => !(auxBank env.l (0x40000 * k) && meets a n (0x40000 * k) 0x40000))

/-- The values a register may hold, as numbers below `n`; all of them when it is unknown. -/
def valuesBelow (s : Known) (r n : Nat) : List Nat :=
  match kget s r with
  | some (lo, hi) => (List.range n).filter (fun v => lo ≤ (v : Int) && (v : Int) ≤ hi)
  | none => List.range n

/-- What a register store adds to its charge (10 R236; 11 R257; 13 R310; 16 R359; 18 R403). -/
def regExtra (env : LdEnv) (s : Known) (o r : Nat) : Nat :=
  let l := env.l
  if o = Rg.SAF_SEND then (costliest ((valuesBelow s r 256).map (connLen l)) + 7) / 8
  else if o = Rg.CAR_COMMIT then (costliest ((valuesBelow s r 256).map (fun b => fget l (Rg.CAR_BUFb_CFG b) 26 16)) + 7) / 8
  else if (List.range 4).any (fun k => o == Rg.CAN_TXREQ k) then 8
  else if (List.range 8).any (fun k => o == Rg.CVU_CTXk_FEED8 k) then 1
  else if (List.range 8).any (fun k => o == Rg.CVU_CTXk_FEED16 k) then 2
  else if (List.range 8).any (fun k => o == Rg.CVU_CTXk_FEED32 k) then 4
  else if o = Rg.BRG_XFER then max 64 (costliest ((regionsOf l env.t).map (budgetWeight l))) + 32 - 64
  else 0

/-- The range of addresses an access can reach, when its base is known: address and length. -/
def reachOf (s : Known) (i : Instr) : Option (Nat × Nat) :=
  match nearOf i with
  | some (b, off, n, _, _) =>
    (match kget s b with
      | some (lo, hi) => (match itvWrap (lo + off.toInt) (hi + off.toInt) with
        | some (x, y) => some (x.toNat, (y - x).toNat + n)
        | none => none)
      | none => none)
  | none =>
    match farOf i with
    | some (a, b, n, _, _) =>
      (match kget s (a + 1), kget s a, kget s b with
        | some (h, h'), some (lo, hi), some (x, y) => if h = h' then some ((h * 2 ^ 32 + lo + x).toNat, (hi + y - lo - x).toNat + n) else none
        | _, _, _ => none)
    | none => none

/-- The single backplane region of a range. -/
def regionProved (a n : Nat) : Option Nat :=
  match regionOf a with
  | some r => if regionOf (a + n - 1) == some r then some r else none
  | none => none

/-- The charge of a load or store of a vital image, and the backplane region it is proved to reach. -/
def accessWeight (env : LdEnv) (s : Known) (i : Instr) : Nat × List Nat :=
  match nearOf i, farOf i with
  | some (_, _, _, wr, r), _ =>
    (match reachOf s i with
      | some (a, n) =>
        if sramProved env a n wr || (!wr && (inAomRec a n || inRom a n)) then 2
        else if wr && n == 4 && inRegs a then 64 + regExtra env s (regOff a) r
        else 64
      | none => 64, [])
  | none, some (_, _, _, wr, r) =>
    let all := if wr then 64 :: (if 0 < vdrLen env.l then [200] else []) ++ (regionsOf env.l env.t).map (regionCharge env.l true)
      else 400 :: (regionsOf env.l env.t).map (regionCharge env.l false)
    (match reachOf s i with
      | some (a, n) =>
        if sramProved env a n wr || (!wr && (inAomRec a n || inRom a n)) then (2, [])
        else if 0x10000000 ≤ a && a + n ≤ 0x10140000 then (64 + (if wr && n == 4 then regExtra env s (regOff a) r else 0), [])
        else if 0x100000000 ≤ a && a + n ≤ 0x300000000 then (if wr then 200 else 400, [])
        else
          match regionProved a n with
          | some g => (regionCharge env.l wr g, [g])
          | none => (costliest all, [])
      | none => (costliest all, []))
  | none, none => (0, [])

/-- Whether a store that is proved to reach a register with an owner names only what the task owns (10 R236; 13 R310; 16 R359). -/
def ownsStored (env : LdEnv) (s : Known) (i : Instr) : Bool :=
  let l := env.l
  let st := match nearOf i, farOf i with
    | some (_, _, _, true, r), _ => some r
    | none, some (_, _, _, true, r) => some r
    | _, _ => none
  match st, reachOf s i with
  | some r, some (a, n) =>
    if n ≠ 4 || !inRegs a then true
    else
      let o := regOff a
      if o = Rg.SAF_SEND then (valuesBelow s r 256).all (fun c => !sendsConn l c || connCfg l c 31 28 == env.t)
      else if o = Rg.CAR_COMMIT then
        (valuesBelow s r 256).all (fun b => !bget l (Rg.CAR_BUFb_CFG b) 0 || bget l (Rg.CAR_BUFb_CFG b) 1 || fget l (Rg.CAR_BUFb_CFG b) 31 28 == env.t)
      else
        (List.range 4).all (fun k => (o != Rg.CAN_TXREQ k && o != Rg.CAN_TXCANCEL k) ||
          (valuesBelow s r 32).all (fun m => !bget l (Rg.CAN_MBmCFG k m) 0 || fget l (Rg.CAN_MBmCFG k m) 7 4 == env.t))
  | _, _ => true

/-- Whether a frame access or a nested call stays inside the frame in force, of `frame` bytes (03 R76; 05 R118). -/
def inFrame (env : LdEnv) (frame : Nat) (i : Instr) : Bool :=
  match i with
  | .callfb _ bt fo => 8 * fo.toNat + 8 * ((env.a.blocks[bt.toNat]?).map (·.2)).getD 0 ≤ frame
  | _ =>
    let viaFp := isFb i || (match nearOf i, i with | some (b, _, _, _, _), _ => b == 31 | none, .swapw _ _ b _ => b.val == 31 | none, _ => false)
    if !viaFp then true
    else
      match staticOp env.a i with
      | .load ea n _ | .store ea n _ _ | .block ea n _ => decide (ea + n ≤ frame)
      | .swap ea _ _ => decide (ea + 4 ≤ frame)
      | _ => true

/-! One function, along every path (03 R71, R94; 04 R546). -/

/-- What the loader learns of a function: whether it keeps the checks, what is known at its returns, the longest path to a return, the longest path up to and with a trapping instruction, what is known at such instructions, the return-stack and loop-nest depth, and the backplane regions it reaches. -/
structure FnRes where
  ok : Bool
  exit : Option Known
  cost : Nat
  trapCost : Nat
  trapIn : Option Known
  depth : Nat
  nest : Nat
  regions : List Nat

/-- A function that breaks a check. -/
def FnRes.bad : FnRes := { ok := false, exit := none, cost := 0, trapCost := 0, trapIn := none, depth := 0, nest := 0, regions := [] }

/-- A table of what is known, by index. -/
abbrev KnownAt := List (Nat × Known)

/-- Look up a table. -/
def kfind (m : KnownAt) (k : Nat) : Option Known := (m.find? (fun e => e.1 == k)).map (·.2)

/-- Join an entry of a table. -/
def kjoin (m : KnownAt) (k : Nat) (v : Known) : KnownAt :=
  match kfind m k with
  | some o => m.map (fun e => if e.1 == k then (k, knownJoin o v) else e)
  | none => (k, v) :: m

/-- What the analysis of a function fixes before its passes. -/
structure FnEnv where
  env : LdEnv
  entry : Nat
  start : Known
  body : List Nat
  loops : List LoopRange
  pins : List (LoopRange × List (Nat × Int))

/-- Enter the loops whose top is here: the registers each pins take their interval over all passes, and the back edge joins. -/
def atTop (fe : FnEnv) (backs : KnownAt) (i : Nat) (fwd : Option Known) : Option Known :=
  fe.pins.foldl (fun s p =>
    if p.1.top ≠ i then s
    else
      let pin (v : Known) (base : Known) : Known :=
        p.2.foldl (fun v rc =>
          kset v rc.1 (itvJoin (kget base rc.1) (match kget base rc.1 with
            | some (lo, hi) => (let k : Int := p.1.bound * rc.2; itvWrap (lo + k) (hi + k))
            | none => none))) v
      match s with
      | none => kfind backs p.1.last
      | some e => some (match kfind backs p.1.last with
        | some b => pin (knownJoin e b) e
        | none => pin e e)) fwd

/-- Whether the instruction at an index is the ADDI of a pinned register of a loop around it. -/
def isPinned (fe : FnEnv) (i : Nat) (ins : Instr) : Bool :=
  fe.pins.any (fun p => p.1.has i && (dests ins).any (fun r => p.2.any (fun rc => rc.1 == r)))

/-- One pass over a function in ascending order: what is known before each instruction, and on the back edges. -/
def fnPass (callee : Nat → Instr → Known → FnRes) (fe : FnEnv) (backs : KnownAt) : KnownAt × KnownAt :=
  let r := fe.body.foldl (fun (acc : KnownAt × KnownAt × KnownAt) i =>
    let fwd := if i = fe.entry then optJoin (some fe.start) (kfind acc.1 i) else kfind acc.1 i
    match insAt fe.env i, atTop fe backs i fwd with
    | some ins, some s =>
      let out := match ins with
        | .call _ _ => (callee i ins s).exit
        | .callfb _ _ _ => ((callee i ins s).exit).map (fun o => kset o 31 (kget s 31))
        | _ => some (if isPinned fe i ins then s else knownStep ins s)
      (match out with
        | some o =>
          ((succs fe.env.code.length i ins).foldl (fun m k => kjoin m k o) acc.1, (i, s) :: acc.2.1,
            match ins with | .loop _ _ _ _ => (i, o) :: acc.2.2 | _ => acc.2.2)
        | none => (acc.1, (i, s) :: acc.2.1, acc.2.2))
    | _, _ => acc) ([], [], [])
  r.2

/-- Passes that join the back edges, then passes after which a register that still widens is unknown. -/
def fnPasses (callee : Nat → Instr → Known → FnRes) (fe : FnEnv) : Nat → Nat → KnownAt → KnownAt
  | 0, 0, backs => backs
  | n + 1, m, backs =>
    fnPasses callee fe n m ((fnPass callee fe backs).2.map (fun e => (e.1, match kfind backs e.1 with | some o => knownJoin o e.2 | none => e.2)))
  | 0, m + 1, backs =>
    fnPasses callee fe 0 m ((fnPass callee fe backs).2.map (fun e => (e.1, match kfind backs e.1 with | some o => knownWiden o e.2 | none => e.2)))

/-- The cost that the passes of some loops add on an edge from `j` to `k` that leaves them, `k` none where the path ends. -/
def edgeExtra (done : List (LoopRange × Nat)) (j : Nat) (k : Option Nat) : Nat :=
  (done.map (fun p => if p.1.has j && !(match k with | some k => p.1.has k | none => false) then (p.1.bound - 1) * p.2 else 0)).foldl (· + ·) 0

/-- The longest path from an index to each later one, before its own weight. -/
def arrivals (env : LdEnv) (body : List Nat) (w : Nat → Nat) (done : List (LoopRange × Nat)) (src : Nat) : List (Nat × Nat) :=
  (body.filter (src ≤ ·)).foldl (fun m j =>
    match m.find? (fun e => e.1 == j), insAt env j with
    | some a, some ins =>
      (succs env.code.length j ins).foldl (fun m k =>
        let c := a.2 + w j + edgeExtra done j (some k)
        match m.find? (fun e => e.1 == k) with
        | some o => if o.2 < c then (k, c) :: m.filter (fun e => e.1 != k) else m
        | none => (k, c) :: m) m
    | _, _ => m) [(src, 0)]

/-- The loops of a function with the longest pass through each, inner ones first. -/
def loopCosts (env : LdEnv) (body : List Nat) (w : Nat → Nat) (loops : List LoopRange) : List (LoopRange × Nat) :=
  loops.foldl (fun done p =>
    match (arrivals env (body.filter p.has) w done p.top).find? (fun e => e.1 == p.last) with
    | some a => done ++ [(p, a.2 + w p.last)]
    | none => done ++ [(p, 0)]) []

/-- Analyse the function entered at an index with what is known there, in a frame of `frame` bytes; the fuel is the return-stack entries left. -/
def analyse (env : LdEnv) : Nat → Nat → Known → Nat → FnRes
  | 0, _, _, _ => .bad
  | fuel + 1, entry, start, frame =>
    let body := fnBody env entry
    let loops := loopsIn env body
    let callee (i : Nat) (ins : Instr) (s : Known) : FnRes :=
      match calleeOf env i ins with
      | none => .bad
      | some e =>
        match ins with
        | .callfb _ bt fo => analyse env fuel e (kset s 31 (itvAdd (kget s 31) (some (8 * fo.toNat, 8 * fo.toNat)))) (8 * ((env.a.blocks[bt.toNat]?).map (·.2)).getD 0)
        | _ => analyse env fuel e s frame
    let fe : FnEnv := { env := env, entry := entry, start := start, body := body, loops := loops, pins := loops.map (fun p => (p, pinned env entry body loops p)) }
    let backs := fnPasses callee fe 34 (32 * loops.length + 1) []
    let known := (fnPass callee fe backs).1
    let sub (i : Nat) : Option FnRes :=
      match insAt env i, kfind known i with
      | some ins, some s => if (calleeOf env i ins).isSome then some (callee i ins s) else none
      | _, _ => none
    let own (i : Nat) : Nat × List Nat :=
      match insAt env i, kfind known i with
      | some ins, some s => if (nearOf ins).isSome || (farOf ins).isSome then accessWeight env s ins else (baseWeight ins, [])
      | _, _ => (0, [])
    let live := body.filter (fun i => (kfind known i).isSome)
    let w (i : Nat) : Nat := (own i).1 + ((sub i).map (·.cost)).getD 0
    let done := loopCosts env live w loops
    let arr := arrivals env live w done entry
    let arrAt (i : Nat) : Nat := ((arr.find? (fun e => e.1 == i)).map (·.2)).getD 0 + edgeExtra done i none
    let isRet (i : Nat) : Bool := match insAt env i with | some (.ret _) => true | _ => false
    let rets := live.filter isRet
    let traps := live.filter (fun i => match insAt env i with | some ins => mayTrap env.arith ins | none => false)
    let falls := arr.filter (fun e => (insAt env e.1).isNone)
    let subs := live.filterMap sub
    { ok := live.all (fun i => match insAt env i, kfind known i with
        | some ins, some s => inFrame env frame ins && ownsStored env s ins
        | _, _ => false) && subs.all (·.ok),
      exit := rets.foldl (fun o i => optJoin o (kfind known i)) none,
      cost := costliest (rets.map (fun i => arrAt i + w i)),
      trapCost := costliest (traps.map (fun i => arrAt i + (own i).1) ++ live.map (fun i => match sub i with | some r => arrAt i + (own i).1 + r.trapCost | none => 0)
        ++ falls.map (·.2)),
      trapIn := subs.foldl (fun o r => optJoin o r.trapIn) (traps.foldl (fun o i => optJoin o (kfind known i)) none),
      depth := costliest (subs.map (fun r => r.depth + 1)),
      nest := costliest (live.map (fun i => (loops.filter (fun p => p.has i)).length + ((sub i).map (·.nest)).getD 0)),
      regions := addNew (live.flatMap (fun i => (own i).2)) (subs.flatMap (·.regions)) }

/-- Whether following calls from a function runs out of fuel: a cycle (03 R71). -/
def callsEnd (env : LdEnv) : Nat → Nat → Bool
  | 0, _ => false
  | f + 1, entry => (fnBody env entry).all (fun i => match insAt env i with
    | some ins => (match calleeOf env i ins with | some e => callsEnd env f e | none => true)
    | none => true)

/-! The checks (03 Table JFM-13). -/

/-- Ranges of addresses, as start and length, do not meet. -/
def apart (x y : Nat × Nat) : Bool := !meets x.1 x.2 y.1 y.2

/-- Every two of a list keep a relation. -/
def pairwise {α : Type} (r : α → α → Bool) : List α → Bool
  | [] => true
  | x :: xs => xs.all (r x) && pairwise r xs

/-- Whether a table or section lies inside the image. -/
def inImage (b : Bytes) (off len : Nat) : Bool := decide (off + len ≤ imageLen b)

/-- Whether a code or data section lies in the vital area and clear of the auxiliary banks (07 R155). -/
def inVital (l : LaneState) (a n : Nat) : Bool :=
  n == 0 || (decide (0x10000 ≤ a) && decide (a + n ≤ 0x3E0000) && (List.range 16).all (fun k => !(auxBank l (0x40000 * k) && meets a n (0x40000 * k) 0x40000)))

/-- Bounds, with the declared DRAM region (07 R158). -/
def boundsOk (l : LaneState) (b : Bytes) (a : AppImage) : Bool :=
  let f (o : Nat) : Nat := imgField b o 4
  let winLen := fget l Rg.TRP_AUX_WIN_LEN 12 0 * 1048576
  let win := (rget64 l Rg.TRP_AUX_WIN_BASE_LO Rg.TRP_AUX_WIN_BASE_HI).toNat
  inImage b (f 0x28) (f 0x2C) && inImage b (f 0x38) (f 0x3C) && inImage b (f 0x40) (32 * f 0x44) && inImage b (f 0x48) (8 * f 0x4C)
    && inImage b (f 0x50) (f 0x54) && inImage b (f 0x58) (f 0x5C) && inImage b (f 0x60) (f 0x64)
    && f 0x44 ≤ 16 && f 0x4C ≤ 1024 && f 0x54 % 8 == 0 && f 0x5C % 16 == 0 && f 0x2C % 4 == 0 && a.loadAddr % 4 == 0 && a.dataAddr % 8 == 0
    && inVital l a.loadAddr a.code.length && inVital l a.dataAddr a.data.length && a.code.length + a.data.length ≤ 3904 * 1024
    && a.vdrBase % 4096 == 0 && a.vdrLen % 4096 == 0 && a.vdrLen ≤ 67108864
    && (a.vdrLen == 0 || (decide (0x110000000 ≤ a.vdrBase) && decide (a.vdrBase + a.vdrLen ≤ 0x300000000) && !(isSplit l && meets a.vdrBase a.vdrLen win winLen)))

/-- Opcodes, pair fields, base registers, branches and loops, over every code word. -/
def codeOk (a : AppImage) (code : List (Option Instr)) : Bool :=
  (List.range code.length).all (fun i => match (code[i]?).getD none with
    | some ins => !staticBad a ins && targetsIn a code.length i ins
    | none => false)

/-- No cycle among the functions of the image, and every block's frame has its size. -/
def callsOk (env : LdEnv) : Bool :=
  let targets := (List.range env.code.length).filterMap (fun i => (insAt env i).bind (calleeOf env i))
  env.a.blocks.all (fun b => b.1 % 4 == 0 && 0 < b.2) && targets.all (callsEnd env (targets.length + 1))

/-- The tasks table against the image and the configuration. -/
def tasksOk (l : LaneState) (a : AppImage) : Bool :=
  let held (x : Nat) : Bool := meets x 1 a.loadAddr a.code.length || meets x 1 a.dataAddr a.data.length
  pairwise (fun (x y : TaskEnt) => x.slot != y.slot) a.tasks
    && a.tasks.all (fun e => e.slot < 16 && (codeIdx a e.entry).isSome && (e.handler == 0 || (codeIdx a e.handler).isSome) && held e.frame && held e.gp
      && e.frame % 8 == 0 && e.rootBt < a.blocks.length && e.entry == (rget l (Rg.CYC_TASKt_ENTRY e.slot)).toNat && e.inStart ≤ e.inLast && kindOf l e.slot != 0)
    && (List.range 16).all (fun t => kindOf l t == 0 || a.tasks.any (fun e => e.slot == t))

/-- The write sets: inside the output image, and apart between tasks (02 R38). -/
def wsetsOk (a : AppImage) : Bool :=
  a.wsets.all (fun w => w.2.1 ≤ w.2.2 && w.2.2 ≤ 0xFEFF)
    && pairwise (fun (x y : Nat × Nat × Nat) => x.1 == y.1 || apart (x.2.1, x.2.2 + 1 - x.2.1) (y.2.1, y.2.2 + 1 - y.2.1)) a.wsets

/-- The exchange table: one exporter for a variable, and no copy over another, a write set or a root frame. -/
def xchgOk (a : AppImage) : Bool :=
  let rootLen (e : TaskEnt) : Nat := 8 * ((a.blocks[e.rootBt]?).map (·.2)).getD 0
  pairwise (fun (x y : Xchg) =>
      (x.src != y.src && x.pub != y.pub || x.exporter == y.exporter)
        && ((x.src == y.src && x.pub == y.pub) || apart (x.pub, x.len) (y.pub, y.len))
        && apart (x.pub, x.len) (y.dst, y.len) && apart (x.dst, x.len) (y.pub, y.len) && apart (x.dst, x.len) (y.dst, y.len)) a.xchg
    && a.xchg.all (fun x => apart (x.pub, x.len) (x.dst, x.len)
      && a.wsets.all (fun w => apart (x.pub, x.len) (outBase + w.2.1, w.2.2 + 1 - w.2.1) && apart (x.dst, x.len) (outBase + w.2.1, w.2.2 + 1 - w.2.1))
      && a.tasks.all (fun e => apart (x.pub, x.len) (e.frame, rootLen e) && apart (x.dst, x.len) (e.frame, rootLen e)))

/-- The environment of the loader for a task. -/
def ldEnv (l : LaneState) (a : AppImage) (code : List (Option Instr)) (e : TaskEnt) : LdEnv :=
  { l := { l with app := some a }, a := a, code := code, t := e.slot, arith := e.arith }

/-- What is known at a release: gp, ii, oi and fp (04 R546). -/
def knownAtEntry (env : LdEnv) (e : TaskEnt) : Known :=
  let one (n : Nat) : Itv := some ((n : Int), (n : Int))
  (List.replicate 28 none) ++ [one e.gp, one (iiOf env.l e.slot).toNat, one outBase, one e.frame]

/-- What is known at entry to the handler: fp again, the trap's registers unknown (03 R86). -/
def knownAtHandler (env : LdEnv) (e : TaskEnt) (s : Known) : Known :=
  let b := knownAtEntry env e
  (List.range 32).map (fun r => if 28 ≤ r then kget b r else if r ≤ 3 then none else kget s r)

/-- The body and the handler of a task. -/
def analyseTask (env : LdEnv) (e : TaskEnt) : FnRes × Option FnRes :=
  let frame := 8 * ((env.a.blocks[e.rootBt]?).map (·.2)).getD 0
  let body := match codeIdx env.a e.entry with
    | some i => analyse env 65 i (knownAtEntry env e) frame
    | none => .bad
  let h := if e.handler = 0 then none
    else match body.trapIn, codeIdx env.a e.handler with
      | some s, some i => some (analyse env 65 i (knownAtHandler env e s) frame)
      | none, _ => none
      | _, none => some .bad
  (body, h)

/-- The loader's WCET bound (03 R94). -/
def wcetBound (r : FnRes × Option FnRes) : Nat :=
  max r.1.cost (r.1.trapCost + (match r.2 with | some h => max h.cost h.trapCost | none => 0))

/-- Calls, frames, owners and WCET of one task: the depths of R71 hold for the body and for the handler. -/
def taskOk (env : LdEnv) (e : TaskEnt) : Bool :=
  let r := analyseTask env e
  let good (f : FnRes) : Bool := f.ok && f.depth ≤ 64 && f.nest ≤ 16
  good r.1 && (match r.2 with | some h => good h | none => true) && wcetBound r ≤ e.wcet

/-- The backplane regions a task is proved to reach. -/
def taskRegions (env : LdEnv) (e : TaskEnt) : List Nat :=
  let r := analyseTask env e
  addNew r.1.regions ((r.2.map (·.regions)).getD [])

/-- Backplane: no region of two tasks, and no region of another task (02 R45; 18 R401). -/
def backplaneOk (l : LaneState) (a : AppImage) (code : List (Option Instr)) : Bool :=
  let rs := a.tasks.map (fun e => (e.slot, taskRegions (ldEnv l a code e) e))
  pairwise (fun (x y : Nat × List Nat) => x.2.all (fun r => !y.2.contains r)) rs
    && rs.all (fun x => x.2.all (fun r => !(regAttr l r 0 0 == 1 && regAttr l r 2 1 == 1) || regAttr l r 7 4 == x.1))

/-- c(t) in hundredths of a nanosecond (02 R49). -/
def taskC (e : TaskEnt) : Nat := (e.wcet + 1200) * 165

/-- The response time of a task, iterated until it repeats or exceeds its limit. -/
def responseOk (l : LaneState) (e : TaskEnt) (higher : List TaskEnt) : Nat → Nat → Bool
  | 0, _ => false
  | f + 1, resp =>
    let b := max 1 (baseNs l * 100)
    let limit : Int := (taskPeriodNs l e.slot * 100 : Nat) - (tailNs l * 100 : Nat)
    let demand := taskC e + (resp + b - 1) / b * ((headNs l + tailNs l) * 100)
      + (higher.map (fun j => (let p := max 1 (taskPeriodNs l j.slot * 100); (resp + p - 1) / p * taskC j))).foldl (· + ·) 0
    if demand = resp then true else if limit < (demand : Int) then false else responseOk l e higher f demand

/-- Schedule (02 R49). -/
def scheduleOk (l : LaneState) (a : AppImage) : Bool :=
  a.tasks.all (fun e => responseOk l e (a.tasks.filter (fun j => prioOf l j.slot < prioOf l e.slot)) (taskPeriodNs l e.slot + 2) (taskC e))

/-- Every check of Table JFM-13 but the Header check, in a lane whose registers hold the configuration of the set. -/
def loaderOk (l : LaneState) (b : Bytes) : Bool :=
  let a := parseApp b
  let l := rset64 (fset { l with app := some a } Rg.MEM_VDR_LEN 26 0 a.vdrLen) Rg.MEM_VDR_BASE_LO Rg.MEM_VDR_BASE_HI (BitVec.ofNat 64 a.vdrBase)
  let code := codeOf a
  boundsOk l b a && codeOk a code && tasksOk l a && wsetsOk a && xchgOk a
    && a.tasks.all (fun e => callsOk (ldEnv l a code e) && taskOk (ldEnv l a code e) e) && backplaneOk l a code && scheduleOk l a

/-- A legal MOP (04 Table JFI-1; 05 R116). -/
def mopLegal (m : Nat) : Bool := m ≤ 0x0B || (0x10 ≤ m && m ≤ 0x1E) || (0x20 ≤ m && m ≤ 0x29) || m == 0x38

/-- The ILLEGAL-MOP check of an auxiliary image, where DIAG is allowed (03 R93). -/
def auxOk (b : Bytes) : Bool :=
  let a := parseApp b
  (List.range (a.code.length / 4)).all (fun i => mopLegal ((a.code.getD (4 * i + 3) 0).toNat / 4))

/-! The migration map (06 Table MOD-8, R147, R149). -/

/-- The migration cost of an image in weight units. -/
def migCost (a : AppImage) : Nat :=
  40000 + 2 * ((a.code.length + a.data.length + 7) / 8) + 4 * (((a.migr.filter (·.matched)).map (fun e => (e.len + 7) / 8)).foldl (· + ·) 0)

/-- The checks of a migration map against the image in force: its magic, its entries, and ranges inside the old and the new data. -/
def mapOk (old : AppImage) (b : Bytes) : Bool :=
  let a := parseApp b
  let objs := a.migr.filter (·.kind != 5)
  imgField b (imgField b 0x60 4) 4 == 0x50414D4D && imgField b (imgField b 0x60 4 + 4) 4 ≤ 65535
    && objs.all (fun e => (!e.matched || (decide (old.dataAddr ≤ e.oldAddr) && decide (e.oldAddr + e.len ≤ old.dataAddr + old.data.length)))
      && decide (a.dataAddr ≤ e.newAddr) && decide (e.newAddr + e.len ≤ a.dataAddr + a.data.length))
    && pairwise (fun (x y : MigEnt) => apart (x.newAddr, x.len) (y.newAddr, y.len)) objs

end Sys2Proof.Machine
end

