-- ==== Sys2Proof/Machine/Pair.lean ====
section
/-! DEFINITION. The active and standby pair: heartbeats, block frames, roles, takeover and handover (19). -/

namespace Sys2Proof.Machine

/-- What the 64 KiB executive reserve says, whose layout the spec does not give (19 R425). -/
opaque Config.execOf : Bytes → ExecCopy

/-- The copy a standby holds after the frames it has staged, in order (19 R421, R422). -/
def applyStage (l : LaneState) : LaneState :=
  l.prt.stage.foldl (fun l f =>
    let p := l.prt
    let p := match f.area with
      | 0 => { p with copy := sput p.copy (256 * f.off) f.data }
      | 1 => { p with inCopy := sput p.inCopy (256 * f.off) f.data }
      | 2 => { p with outCopy := sput p.outCopy (256 * f.off) f.data }
      | _ => { p with txCopy := (f.off, f.data) :: p.txCopy.filter (fun e => e.1 != f.off) }
    { l with prt := p }) l

/-- What the executive reserve of the copy says. -/
def copyExecState (l : LaneState) : ExecCopy := Config.execOf (sbytes l.prt.copy 0 0x10000)

/-- The slots whose natural deadline is the commit point of a cycle: the next release follows (02 R35). -/
def dueSlots (l : LaneState) (n : Nat) : List Nat := (List.range 16).filter (fun t => releasesAt l t (n + 1))

/-- The R59 digest of cycle `n` over the copy (19 R422). -/
def copyDigest (l : LaneState) (n : Nat) : DWord :=
  let shift (e : Nat × Byte) : Nat × Byte := (inBase + e.1, e.2)
  let m := setRegion l.prt.copy inBase 65536 (l.prt.inCopy.map shift)
  let v := { l with mem := m, forces := (copyExecState l).forces, exe := { l.exe with outComm := l.prt.outCopy } }
  crc64 (digestBytes v ((dueSlots l n).map (fun t => { slot := t })))

/-- A heartbeat of the active may make its cycle consistent (19 R422). -/
def pairConsistent (hb : Heartbeat) (l : LaneState) : LaneState :=
  let l := if hb.role = 2 && !hb.backlog && (l.prt.stage.filter (fun f => f.cycle == hb.cycle)).length = hb.blocks then
      let c := applyStage l
      if copyDigest c hb.cycle = hb.digest then
        setRole (fset { c with prt := { c.prt with stage := [], consistent := some hb.cycle } } Rg.PRT_STATUS 15 8 0) 4
      else finc { l with prt := { l.prt with wantFull := true } } Rg.PRT_SYNC_CNT 15 0 1
    else l
  match l.prt.consistent with
  | some c => if roleOf l = 4 && decide (c + 16 < hb.cycle) then setRole l 3 else l
  | none => if roleOf l = 4 then setRole l 3 else l

/-- HEARTBEAT_RECEIVE: the partner's role, position and build; a standby follows the active's mode and checks consistency, an active watches for a second active and for a standby that needs a full copy (19 R418, R420, R422, R427). -/
def execHeartbeatReceive (l : Lane) (hb : Heartbeat) (s : State) : Res :=
  .next (s.onLane l (fun x =>
    if !paired x || x.pwr.gated.contains 3 then x
    else
      let was := (x.prt.lastHb.map (·.role)).getD 0
      let x := rset64 (bset (bset x Rg.PRT_STATUS 3 true) Rg.PRT_STATUS 4 true) Rg.PRT_PARTNER_EUI_LO Rg.PRT_PARTNER_EUI_HI hb.eui
      let x := { x with prt := { x.prt with lastHb := some hb, hbSeen := x.prt.hbSeen || hb.role == 2 || roleOf x == 2 } }
      if hb.build ≠ (x.app.map (·.build)).getD 0 ∨ hb.index = bget x Rg.PRT_CFG 1 then
        if roleOf x = 5 then x else event (stand x 5) 0x0901 0xFF
      else
        match roleOf x with
        | 2 =>
          if hb.role = 2 then dualSeen x
          else
            let us := match x.prt.dualAt with
              | some t => ((wNow x - t) / 1000).toNat
              | none => 0
            let x := if x.prt.resigned then x
              else rset { x with prt := { x.prt with dualAt := none } } Rg.PRT_DUAL_MAX (BitVec.ofNat 32 (max (rget x Rg.PRT_DUAL_MAX).toNat us))
            if (hb.role = 3 ∧ was ≠ 3 ∧ was ≠ 4) ∨ (3 ≤ hb.role ∧ hb.role ≤ 4 ∧ hb.backlog) then markAll x else x
        | 3 | 4 =>
          let x := if hb.role = 2 && !isSafe x then setMode x hb.mode else x
          pairConsistent hb { x with prt := { x.prt with handN := if hb.role = 2 then hb.handoverN else x.prt.handN } }
        | _ => x))

/-- BLOCK_FRAME_RECEIVE: a standby takes a block of the active's state into its copy; the copy moves on when a cycle is consistent (19 R422, R425). -/
def execBlockFrameReceive (l : Lane) (f : PairBlock) (s : State) : Res :=
  .next (s.onLane l (fun x => if (roleOf x = 3 || roleOf x = 4) && !x.pwr.gated.contains 3 then { x with prt := { x.prt with stage := x.prt.stage ++ [f] } } else x))

/-- PAIR_WAIT in ns. -/
def pairWaitNs (l : LaneState) : Int := fget l Rg.PRT_WAIT 7 0 * 1000000000

/-- WAIT_EXIT: the tests of R419 in order (19 R419). -/
def execWaitExit (l : Lane) (s : State) : Res :=
  .next (s.onLane l (fun x =>
    let hb := (x.prt.lastHb.map (·.role)).getD 0
    let slot := match x.prt.slotAgo with
      | some t => decide (wNow x - t ≤ pairWaitNs x)
      | none => false
    if roleOf x ≠ 1 then x
    else if hb = 2 then setRole x 3
    else if slot then x
    else if hb = 1 && !bget x Rg.PRT_CFG 1 then fioDrive (setRole x 2)
    else x))

/-- PAIR_WAIT_EXPIRY: PAIR_WAIT has passed since STOP without a heartbeat or a pair-slot frame (19 R419). -/
def execPairWaitExpiry (l : Lane) (s : State) : Res :=
  .next (s.onLane l (fun x => if roleOf x = 1 && x.prt.lastHb.isNone && x.prt.slotAgo.isNone then fioDrive (setRole x 2) else x))

/-- The transmit buffers of the copy. -/
def copiedBufs (l : LaneState) (c : Nat) : List TxBuf :=
  ((List.range 256).filter (fun b => l.prt.txCopy.any (fun e => e.1 / 8 == b))).map (fun b =>
    let d := (List.range 8).flatMap (fun i => ((l.prt.txCopy.find? (fun e => e.1 == 8 * b + i)).map (·.2)).getD (List.replicate 256 0))
    { b := b, bytes := d.take (fget l (Rg.CAR_BUFb_CFG b) 26 16), from_ := c })

/-- The standby becomes ACTIVE from its last consistent cycle `c`: state, sequence numbers, forces, output image and transmit buffers are those of the copy; releases after `c` are skipped; PAIRED outputs wait for their readback (19 R425; 17 R396). -/
def becomeActive (c : Nat) (l : LaneState) : LaneState :=
  let x := copyExecState l
  let m := (copyRanges l).foldl (fun m r => setRegion m (256 * r.1) (256 * r.2) l.prt.copy) l.mem
  let l := { l with
    mem := m, forces := x.forces, saf := x.saf, tri := { l.tri with seqs := x.seqs, rels := x.seqs },
    exe := { l.exe with outProg := x.outProg, outComm := l.prt.outCopy, outApplied := l.prt.outCopy },
    car := { l.car with txb := copiedBufs l c }, prt := { l.prt with takeover := true, handN := 0, dirty := [], stage := [] } }
  let l := if modeOf l = .run then (List.range 16).foldl (fun l t => skipRelease l t (releasesBetween l t c (l.exe.n + 1))) l else l
  fioDrive (finc (setRole l 2) Rg.PRT_SWITCHOVERS 15 0 1)

/-- TAKEOVER: a synced standby whose Carousel runs finds both counts at HB_LOSS (19 R424). -/
def execTakeover (l : Lane) (s : State) : Res :=
  .next (s.onLane l (fun x =>
    if roleOf x = 4 && hbLoss x ≤ fget x Rg.PRT_HB_MISS 7 0 && hbLoss x ≤ fget x Rg.PRT_HB_MISS 15 8 && fget x Rg.CAR_STATUS 2 0 == 3 then
      event (becomeActive (x.prt.consistent.getD 0) x) 0x0901 0
    else x))

/-- INVISIBLE_RESIGN: an active that hears no partner and has sent no frame on either line for HB_LOSS Carousel cycles (19 R428). -/
def execInvisibleResign (l : Lane) (s : State) : Res :=
  .next (s.onLane l (fun x =>
    if roleOf x = 2 && !x.prt.resigned && hbLoss x ≤ fget x Rg.PRT_HB_MISS 7 0 && hbLoss x ≤ x.prt.txSilent then resign x else x))

/-- HANDOVER: PRT_CTRL.HANDOVER in an active whose partner is STANDBY_SYNCED announces a handover eight cycles ahead; any level may ask (19 R430). -/
def execHandover (l : Lane) (_src : CmdSrc) (s : State) : Res :=
  s.rmGate (fun s => s.onLane l (fun x =>
    if roleOf x = 2 && (x.prt.lastHb.map (·.role)).getD 0 == 4 then { x with prt := { x.prt with handN := x.exe.n + 8 } } else x))

/-- HANDOVER_SWITCH: at T(HANDOVER_N) the roles swap when the last cycle is consistent, and otherwise the handover lapses (19 R430). -/
def execHandoverSwitch (l : Lane) (s : State) : Res :=
  .next (s.onLane l (fun x =>
    let h := x.prt.handN
    let lapse := event { x with prt := { x.prt with handN := 0 } } 0x0901 2
    if h = 0 || x.exe.n + 1 < h then x
    else if roleOf x = 2 then
      if (x.prt.lastHb.map (·.role)).getD 0 == 4 then
        event (finc (stand { x with prt := { x.prt with handN := 0 } } 3) Rg.PRT_SWITCHOVERS 15 0 1) 0x0901 1
      else lapse
    else if roleOf x = 4 && x.prt.consistent == some (h - 1) then event (becomeActive (h - 1) x) 0x0901 1
    else if roleOf x = 3 || roleOf x = 4 then lapse
    else x))

/-- RESYNC: PRT_CTRL.RESYNC marks every area dirty (19 Table PRT-5). -/
def execResync (l : Lane) (ag : Agent) (s : State) : Res :=
  .next (s.onLane l (fun x => guardWrite x ag Rg.PRT_CTRL markAll))

end Sys2Proof.Machine
end

