-- ==== Sys2Proof/Machine/Validate.lean ====
section
/-! DEFINITION. Configuration validation at start-up: every check a chapter names, by register block, and the fields of no register block (02 R33, R60; 06 R139; 10 R229, R250; 11; 12; 13 R298, R334; 14 R339; 15 R341; 16 R353, R368, R371; 17 R398; 18 R417; 19 R418; 20 R441, R453; 21 Table SYS-10; 22; 23 R509). -/

namespace Sys2Proof.Machine

/-- A number within bounds. -/
def between (lo hi v : Nat) : Bool := decide (lo ≤ v) && decide (v ≤ hi)

/-- Every two elements of a list keep a relation. -/
def allPairs {α : Type} (r : α → α → Bool) : List α → Bool
  | [] => true
  | x :: xs => xs.all (r x) && allPairs r xs

/-- A task slot is enabled. -/
def slotOn (l : LaneState) (t : Nat) : Bool := kindOf l t != 0

/-- The enabled receive buffers of the Carousel. -/
def rxBufs (l : LaneState) : List Nat := (List.range 256).filter (fun b => bget l (Rg.CAR_BUFb_CFG b) 0 && bget l (Rg.CAR_BUFb_CFG b) 1)

/-- The area of a CAN queue: its header and 64 entries (16 R355). -/
def queueArea (l : LaneState) (k q : Nat) : Nat × Nat := (fget l (Rg.CAN_QqADDR k q) 15 0, 16 + 64 * qEsize l k q)

/-- The enabled CAN queues. -/
def queuesOn (l : LaneState) : List (Nat × Nat) :=
  ((List.range 8).map (fun r => (r / 2, r % 2))).filter (fun p => bget l (Rg.CAN_QqCFG p.1 p.2) 0)

/-- The areas of the input image that records take: offset and length (10 Table SAF-6; 13 Table CAR-7; 16 R355; 17 R373, R381; 14, 18, 19, 20 and 22 records). -/
def imageAreas (l : LaneState) : List (Nat × Nat) :=
  [(fioIn l, 116)]
    ++ (if bget l Rg.FIO_SOE_CFG 0 then [(fget l Rg.FIO_SOE_ADDR 15 0, 16 + 16 * 2 ^ (4 + fget l Rg.FIO_SOE_CFG 4 2))] else [])
    ++ (queuesOn l).map (fun p => queueArea l p.1 p.2)
    ++ (rxConns l).map (fun c => (fget l (Rg.SAF_CONNc_BUF c) 15 0, 8 + connLen l c))
    ++ (rxBufs l).map (fun b => (fget l (Rg.CAR_BUFb_ADDR b) 15 0, 8 + fget l (Rg.CAR_BUFb_CFG b) 26 16))
    ++ recArea l Rg.INA_CFG 16 ++ recArea l Rg.PRT_REC 8 ++ recArea l Rg.PWR_REC 8 ++ recArea l Rg.MBX_REC 64 ++ recArea l Rg.BRG_REC 64

/-- An area lies within 0x0000 to 0xFEFF and meets no other area of the input image. -/
def areaOk (l : LaneState) (a n : Nat) : Bool :=
  decide (a + n ≤ outLen) && ((imageAreas l).filter (fun r => meets a n r.1 r.2)).length ≤ 1

/-- A record register: aligned, within the image and apart when enabled. -/
def recAreaOk (l : LaneState) (reg n align : Nat) : Bool :=
  !bget l reg 16 || (fget l reg 15 0 % align == 0 && areaOk l (fget l reg 15 0) n)

/-- CYC (02 R33, R60, Tables CYC-7 to CYC-11). -/
def cycOk (l : LaneState) : Bool :=
  let on := (List.range 16).filter (slotOn l)
  between 250 1000000 (fget l Rg.CYC_BASE 19 0) && between 10 400 (fget l Rg.CYC_BUDGET 15 0) && between 10 400 (fget l Rg.CYC_BUDGET 31 16)
    && between 5 100 (fget l Rg.CYC_AGREE 6 0) && between 1 8 (fget l Rg.CYC_OVR 3 0)
    && allPairs (fun s t => prioOf l s != prioOf l t) on
    && on.all (fun t => (rget l (Rg.CYC_TASKt_ENTRY t)).toNat % 4 == 0 && (kindOf l t != 1 || fget l (Rg.CYC_TASKt_CFG t) 31 20 < periodOf l t))
    && (!bget l Rg.CYC_OVR 12 || kindOf l (fget l Rg.CYC_OVR 11 8) == 3)
    && on.all (fun t => kindOf l t != 3 || t == fget l Rg.CYC_OVR 11 8)
    && (List.range 256).all (fun s => !bget l (Rg.CYC_STNs_CFG s) 31 || (fget l (Rg.CYC_STNs_CFG s) 17 16 != 3 && fget l (Rg.CYC_STNs_CFG s) 15 0 != 0))
    && (List.range 16).all (fun s => !sheetValid l s || (baseNs l != 0 && sheetUs l s * 1000 % baseNs l == 0))

/-- TRI (09 Table TRI-12); the copies are corrected by majority, so each counts. -/
def triOk (l : LaneState) : Bool :=
  between 1 15 (fget l Rg.TRI_CFG 7 4) && between 64 8192 (fget l Rg.TRI_CFG 29 16) && between 100 60000 (fget l Rg.TRI_CATCHUP_WAIT 15 0)
    && (List.range 3).all (fun k => between 10 10000 (fget l (Rg.TRI_SKEWk k) 13 0) && between 1 10080 (fget l (Rg.TRI_DEGLIMk k) 13 0))

/-- MEM (07 Table MEM-8). -/
def memOk (l : LaneState) : Bool := between 1 600 (fget l Rg.MEM_SCRUB_CFG 9 0) && between 1 168 (fget l Rg.MEM_SCRUB_CFG 23 16)

/-- MER (12 Table MER-5). -/
def merOk (l : LaneState) : Bool :=
  between 16 10000 (fget l Rg.MER_SERVO 15 0) && between 100 60000 (fget l Rg.MER_SERVO 31 16)
    && between 10 10000 (fget l Rg.MER_LOCK 15 0) && between 1 15 (fget l Rg.MER_LOCK 19 16) && between 1 255 (fget l Rg.MER_LOCK 31 24)
    && between 4 1000 (fget l Rg.MER_XCHK_CFG 9 0)
    && (List.range 4).all (fun k => !bget l (Rg.MER_TCAPk_CFG k) 0 || fget l (Rg.MER_TCAPk_CFG k) 2 1 != 0)
    && fget l Rg.MER_GNSS_CFG 6 4 ≤ 5 && fget l Rg.MER_GNSS_CFG 29 16 ≤ 10000
    && between 1 200 (fget l Rg.MER_PPSOUT_CFG 15 8)
    && between 1 255 (fget l Rg.MER_PTP_CFG 7 0) && fget l Rg.MER_PTP_CFG 15 8 ≤ 127

/-- One entry of a sheet against Table CAR-4 and the buffer it names. -/
def entryOk (l : LaneState) (e : AtlasEnt) : Bool :=
  let k := entKind e
  let b := entBuf e
  let dir := if bget l (Rg.CAR_BUFb_CFG b) 1 then 1 else 0
  let own := entSender e == ownPos l && ownPos l != 0
  let lenEq := fget l (Rg.CAR_BUFb_CFG b) 26 16 == entLen e
  let fits := !bget l (Rg.CAR_BUFb_CFG b) 0 || (lenEq && (ownPos l == 0 || (if own then dir == 0 else (dir == 1 || !e.2.2.getLsbD 9))))
  getBits e.2.1 31 27 == 0 && getBits e.2.2 31 10 == 0 &&
    (match k with
     | 0 => between 1 63 (entSender e) && entLen e ≤ 1476 && fits
     | 1 => entSender e == 0 && entId e == 0 && entLen e == 476
     | 2 => entSender e == 0 && entId e == 0 && entLen e == 0
     | _ => false)

/-- The wire time of an entry in these checks: 0 for KIND 2. -/
def entWire (e : AtlasEnt) : Nat := if entKind e = 2 then 0 else wireNs (entLen e)

/-- One VALID sheet (13 R298). -/
def sheetOk (l : LaneState) (s : Nat) : Bool :=
  let es := sheetEnts l s
  let len := sheetUs l s * 1000
  let span := 8 * fget l (Rg.CAR_SHEETs_SPAN s) 17 0
  let nexts := (es.drop 1).map (fun e => 8 * entOffset e) ++ [len]
  let ps := es.zip nexts
  let data := es.filter (fun e => entKind e == 0)
  between 1000 64000 (sheetUs l s) && baseNs l != 0 && len % baseNs l == 0
    && between 1 8192 (fget l (Rg.CAR_SHEETs_RANGE s) 29 16) && fget l (Rg.CAR_SHEETs_RANGE s) 12 0 + fget l (Rg.CAR_SHEETs_RANGE s) 29 16 ≤ 8192
    && es.all (entryOk l)
    && allPairs (fun a b => entOffset a < entOffset b) es
    && ps.all (fun p => 8 * entOffset p.1 + entWire p.1 + span ≤ p.2)
    && (es.filter (fun e => entKind e == 1)).length == 1
    && ps.any (fun p => entKind p.1 == 2 && 8 * entOffset p.1 + 20000 ≤ p.2)
    && allPairs (fun a b => entId a != entId b) data

/-- CAR (13 R298, R322; 14 R334). -/
def carOk (l : LaneState) : Bool :=
  let vs := (List.range 16).filter (sheetValid l)
  let rng (s : Nat) : Nat × Nat := (fget l (Rg.CAR_SHEETs_RANGE s) 12 0, fget l (Rg.CAR_SHEETs_RANGE s) 29 16)
  between 25 1250 (fget l Rg.CAR_GUARD 11 0) && between 25 1250 (fget l Rg.CAR_GUARD 27 16)
    && vs.all (sheetOk l) && allPairs (fun s t => !meets (rng s).1 (rng s).2 (rng t).1 (rng t).2) vs
    && (List.range 256).all (fun b => !bget l (Rg.CAR_BUFb_CFG b) 0 ||
      (fget l (Rg.CAR_BUFb_CFG b) 26 16 ≤ 1476 && fget l (Rg.CAR_BUFb_ADDR b) 21 0 % 4 == 0
        && (!bget l (Rg.CAR_BUFb_CFG b) 1 || areaOk l (fget l (Rg.CAR_BUFb_ADDR b) 15 0) (8 + fget l (Rg.CAR_BUFb_CFG b) 26 16))))
    && (!(bget l Rg.CAR_CFG 0 && bget l Rg.CAR_CFG 1) || sheetValid l (csSheet l))
    && (!sheetValid l (csSheet l) || (sheetEnts l (csSheet l)).any (fun e => entKind e == 0 && entSender e == 1))

/-- INA (14 R339). -/
def inaOk (l : LaneState) : Bool :=
  recAreaOk l Rg.INA_CFG 16 4
    && ((List.range 63).map (· + 1)).all (fun n => !bget l (Rg.INA_COMPn n) 31 || sheetValid l (fget l (Rg.INA_COMPn n) 3 0))

/-- ECN (15 R341, R350, Tables ECN-2 to ECN-4). -/
def ecnOk (l : LaneState) : Bool :=
  let on := (List.range 64).filter (fun v => bget l (Rg.ECN_VLANv v) 31)
  let vid (v : Nat) : Nat := fget l (Rg.ECN_VLANv v) 11 0
  let cls (v : Nat) : Nat := fget l (Rg.ECN_VLANv v) 23 22
  between 10 3600 (fget l Rg.ECN_AGE 11 0)
    && (List.range 4).all (fun p => !bget l (Rg.ECN_PORTp_CFG p) 0 || (fget l (Rg.ECN_PORTp_CFG p) 2 1 != 3 && between 1 4094 (fget l (Rg.ECN_PORTp_CFG p) 27 16)))
    && on.all (fun v => between 1 4094 (vid v) && cls v != 3 && (cls v != 2 || isSplit l) && (cls v != 0 || !bget l (Rg.ECN_VLANv v) 16))
    && allPairs (fun v w => vid v != vid w) on && (on.filter (fun v => cls v == 1)).length ≤ 1
    && (on.any (fun v => cls v == 1) || (List.range 256).all (fun c => connCfg l c 0 0 == 0 || connCfg l c 3 2 != 1))
    && l.ecn.statics.all (fun e => !e.2.2.1.getLsbD 31 || e.2.2.2 ≤ 4)

/-- The controllers of enabled safety connections on the CAN bearer, and the mailboxes of the sending ones (10 R252). -/
def safMailbox (l : LaneState) (k m : Nat) : Bool :=
  (List.range 256).any (fun c => sendsConn l c && connCfg l c 3 2 == 2 && connRef l c % 4 == k && connRef l c / 4 % 32 == m)

/-- CAN controller k (16 R353, R368, R371, Table CAN-7). -/
def canOk (l : LaneState) (k : Nat) : Bool :=
  let f (reg hi lo : Nat) : Nat := fget l reg hi lo + 1
  let np := f (Rg.CAN_NBT k) 4 0
  let n1 := f (Rg.CAN_NBT k) 15 8
  let n2 := f (Rg.CAN_NBT k) 22 16
  let dp := f (Rg.CAN_DBT k) 4 0
  let d1 := f (Rg.CAN_DBT k) 12 8
  let d2 := f (Rg.CAN_DBT k) 19 16
  let nq := np * (1 + n1 + n2)
  let dq := dp * (1 + d1 + d2)
  let listen := bget l (Rg.CAN_CFG k) 2
  let fd := bget l (Rg.CAN_CFG k) 1
  let timing := 2 ≤ n1 && 2 ≤ n2 && f (Rg.CAN_NBT k) 30 24 ≤ n2 && 80 ≤ nq && nq ≤ 8000
    && (!fd || (f (Rg.CAN_DBT k) 27 24 ≤ d2 && 10 ≤ dq && (80 ≤ dq || bget l (Rg.CAN_TDC k) 0)))
  (!bget l (Rg.CAN_CFG k) 0 || timing)
    && (!listen || (!bget l (Rg.CAN_CFG k) 4 && (List.range 32).all (fun m => !bget l (Rg.CAN_MBmCFG k m) 0)
      && (List.range 256).all (fun c => connCfg l c 0 0 == 0 || connCfg l c 3 2 != 2 || connRef l c % 4 != k)))
    && ((queuesOn l).filter (fun p => p.1 == k)).all (fun p => slotOn l (fget l (Rg.CAN_QqCFG p.1 p.2) 7 4)
      && (queueArea l p.1 p.2).1 % 8 == 0 && areaOk l (queueArea l p.1 p.2).1 (queueArea l p.1 p.2).2)
    && (List.range 32).all (fun m =>
      (!bget l (Rg.CAN_MBmCFG k m) 0 || bget l (Rg.CAN_MBmCFG k m) 2 || (slotOn l (fget l (Rg.CAN_MBmCFG k m) 7 4) && fget l (Rg.CAN_MBmADDR k m) 21 0 % 4 == 0))
      && bget l (Rg.CAN_MBmCFG k m) 2 == safMailbox l k m)

/-- FIO (17 R398). -/
def fioOk (l : LaneState) : Bool :=
  let sp := fget l Rg.FIO_CFG 13 0
  let ring := bget l Rg.FIO_SOE_CFG 0
  between 100 10000 sp && sp != 0 && fget l Rg.CYC_BASE 19 0 % sp == 0 && between 1 255 (fget l Rg.FIO_CFG 23 16)
    && between 100 500 (fget l Rg.FIO_OPT 9 0) && between 100 10000 (fget l Rg.FIO_OPT 29 16) && between 1 3600 (fget l Rg.FIO_GSS 11 0)
    && fioIn l % 4 == 0 && areaOk l (fioIn l) 116 && fioOut l + 12 ≤ outLen
    && (!ring || (fget l Rg.FIO_SOE_CFG 4 2 ≤ 6 && fget l Rg.FIO_SOE_ADDR 15 0 % 8 == 0
      && areaOk l (fget l Rg.FIO_SOE_ADDR 15 0) (16 + 16 * 2 ^ (4 + fget l Rg.FIO_SOE_CFG 4 2))))
    && (List.range 96).all (fun i =>
      (chCfg l i 2 2 == 0 || chCfg l i 1 0 == 1) && (chCfg l i 8 8 == 0 || (chCfg l i 1 0 != 2 && bget l Rg.PRT_CFG 0))
      && (chCfg l i 3 3 == 0 || chCfg l i 5 4 != 0)
      && (!l.cfg.safeOut.contains (8 * fioOut l + i) || (chCfg l i 1 0 == 3 && chCfg l i 6 6 == 1)))

/-- SAF (10 R250, Table SAF-10 and the rules after it). -/
def safOk (l : LaneState) : Bool :=
  let on := (List.range 256).filter (fun c => connCfg l c 0 0 == 1)
  let off (c : Nat) : Nat := 8 * fget l (Rg.SAF_CONNc_ID c) 31 24
  let key (c : Nat) : Nat × Nat × Nat := (connCfg l c 3 2, connRef l c, fget l (Rg.SAF_CONNc_ID c) 15 0)
  let bus (c : Nat) : Bool := connCfg l c 3 2 == 0
  (List.range 6).all (fun g => between 1 86400 (fget l (Rg.SAF_DEGTIMEg g) 16 0))
    && on.all (fun c => connCfg l c 3 2 != 3 && connCfg l c 5 4 != 3 && connLen l c ≤ 1024 && connCfg l c 15 12 != 0
      && (connCfg l c 3 2 != 2 || connLen l c ≤ 32) && (!bus c || off c + 32 + connLen l c ≤ 1476)
      && (if connCfg l c 1 1 = 0 then slotOn l (connCfg l c 31 28) && fget l (Rg.SAF_CONNc_BUF c) 21 0 % 4 == 0
          else connCfg l c 31 28 == 0 && fget l (Rg.SAF_CONNc_BUF c) 15 0 % 4 == 0 && areaOk l (fget l (Rg.SAF_CONNc_BUF c) 15 0) (8 + connLen l c)))
    && allPairs (fun c d => connCfg l c 1 1 == 0 || connCfg l d 1 1 == 0 || key c != key d) on
    && allPairs (fun c d => !(bus c && bus d && connCfg l c 1 1 == connCfg l d 1 1 && connRef l c == connRef l d)
      || !meets (off c) (32 + connLen l c) (off d) (32 + connLen l d)) on

/-- CVU (11 Table CVU-3). -/
def cvuOk (l : LaneState) : Bool :=
  (List.range 8).all (fun k =>
    let o := fget l (Rg.CVU_CTXk_CFG k) 17 16
    o != 3 && between 1 64 (fget l (Rg.CVU_CTXk_CFG k) 6 0)
      && (o != 1 || slotOn l (fget l (Rg.CVU_CTXk_CFG k) 23 20)) && (o != 2 || (isSplit l && 6 ≤ k)))

/-- The range of DELAY(k) in 0.1 ms units (20 Table PWR-7). -/
def wdtRange (k : Nat) : Nat × Nat :=
  if k < 3 then (10, 200) else if k = 3 then (5, 100) else if k = 4 then (20, 500) else if k = 5 then (5, 200) else if k < 8 then (10, 500)
  else if k < 12 then (1, 100) else if k = 12 then (100, 2000) else if k = 13 then (10, 500) else if k = 14 then (50, 1000) else (10, 500)

/-- PWR (20 R441, R453). -/
def pwrOk (l : LaneState) : Bool :=
  (!bget l Rg.PWR_CFG 0 || (bget l Rg.PWR_CFG 16 && bget l Rg.PWR_CFG 31)) && between 1 600 (fget l Rg.PWR_WAKE_CFG 13 4)
    && recAreaOk l Rg.PWR_REC 8 4
    && (List.range 16).all (fun k => (List.range 3).all (fun c => between (wdtRange k).1 (wdtRange k).2 (fget l (Rg.PWR_WDTk_c k c) 10 0)))

/-- EVR (22 R487): a code repeats among the rate settings, or a setting names an exempt code. -/
def evrOk (l : LaneState) : Bool :=
  allPairs (fun (a b : Nat × Nat × Nat) => a.1 != b.1) l.cfg.rates
    && l.cfg.rates.all (fun r => !exemptCodes.contains r.1 && between 1 255 r.2.1 && between 1 127 r.2.2)

/-- BRG (18 R417). -/
def brgOk (l : LaneState) : Bool :=
  between 1 250 (fget l Rg.BRG_CFG 15 8) && recAreaOk l Rg.BRG_REC 64 4 && fget l Rg.BRG_INB_BASE_LO 23 0 == 0
    && (List.range 16).all (fun r =>
      regAttr l r 2 1 != 3 && (regAttr l r 2 1 != 2 || isSplit l) && (regAttr l r 0 0 == 0 || regAttr l r 2 1 != 1 || slotOn l (regAttr l r 7 4))
      && (bget l Rg.BRG_CFG 1 || regAttr l r 11 10 == 0) && fget l (Rg.BRG_REGr_XLAT_LO r) 27 0 == 0
      && between 2 1000 (fget l (Rg.BRG_REGr_BUDGET r) 9 0))

/-- Lmax in ns: the longest L among the valid sheets (13 R315). -/
def lmaxNs (l : LaneState) : Nat := (((List.range 16).filter (sheetValid l)).map (fun s => sheetUs l s * 1000)).foldl max 0

/-- PRT (19 R418, R432). -/
def prtOk (l : LaneState) : Bool :=
  between 1 15 (fget l Rg.PRT_CFG 11 8) && between 10 1000 (fget l Rg.PRT_CFG 25 16) && between 1 255 (fget l Rg.PRT_WAIT 7 0) && recAreaOk l Rg.PRT_REC 8 4
    && (if bget l Rg.PRT_CFG 0 then fget l Rg.PRT_CFG 11 8 * lmaxNs l + 2 * baseNs l ≤ fget l Rg.PRT_CFG 25 16 * 1000000
        else (List.range 96).all (fun i => chCfg l i 1 0 == 0 || chCfg l i 8 8 == 0))

/-- UPD (23 R509). -/
def updOk (l : LaneState) : Bool := between 10 3600 (fget l Rg.UPD_CFG 11 0)

/-- What lies in no register block (06 R139, Table MOD-3; 10 R251). -/
def otherOk (l : LaneState) : Bool :=
  let c := l.cfg
  let stop (bit : Nat) : Bool := (sget zByte c.stopImg (bit / 8)).getLsbD (bit % 8)
  between 1 480 c.holdLimitMin && between 1 480 c.forceExpiryMin && between 100 10000 c.migWaitMs && c.safeOut.all (fun b => !stop b)
    && c.stopBufs.all (fun e => bget l (Rg.CAR_BUFb_CFG e.1) 0 && !bget l (Rg.CAR_BUFb_CFG e.1) 1 && e.2.length == fget l (Rg.CAR_BUFb_CFG e.1) 26 16)
    && (List.range 256).all (fun n => !sendsConn l n || connCfg l n 3 2 != 1 || connRef l n < 64)

/-- The checks by register block, in ascending order. -/
def blockChecks (l : LaneState) : List (Nat × Bool) :=
  [(0, between 1 600 (fget l Rg.SYS_BOOT_CFG 9 0)), (2, triOk l), (3, cycOk l), (4, memOk l), (5, merOk l), (6, carOk l), (7, inaOk l),
   (8, ecnOk l), (9, (List.range 4).all (canOk l)), (10, fioOk l), (11, safOk l), (12, cvuOk l), (14, pwrOk l), (15, evrOk l), (16, brgOk l),
   (17, prtOk l), (18, recAreaOk l Rg.MBX_REC 64 8), (19, updOk l), (0xFD, otherOk l)]

/-- FAIL_BLOCK of a configuration that fails: the lowest block that fails a check, 0xFD when only a field of no block does (21 Table SYS-10). -/
def failBlock (l : LaneState) : Option Nat := ((blockChecks l).find? (fun e => !e.2)).map (·.1)

end Sys2Proof.Machine
end

