-- ==== Sys2Proof/Machine/Startup.lean ====
section
/-! DEFINITION. Start-up from the first supply to STOP, slot fallback, Safety Net entry, restart, supply dips and the controlled shutdown (21 R454 to R466; 25 R528, R530; 23 R508). -/

namespace Sys2Proof.Machine

/-! Lanes without their supply (20 R442, R449; 21 Table SYS-6). -/

/-- Registers that Ringmaster or the standby domain keeps while the lanes are off: the PWR block, what Ringmaster shows in the EVR, MBX and UPD blocks, the reset history, and the exclusion state (20 R442, R449; 09 R209). -/
def keptReg (a : Nat) : Bool :=
  let b := a / 65536
  let ro : Bool := match regRow a with
    | some r => r.acc != .rws
    | none => false
  b == Rg.PWR_STATUS / 65536 || ((b == Rg.EVR_STATUS / 65536 || b == Rg.UPD_STATUS / 65536) && ro)
    || [Rg.MBX_STATUS, Rg.SYS_RESET_CAUSE, Rg.SYS_BOOT, Rg.SYS_SUPPLY].contains a
    || (List.range 3).any (fun x => a == Rg.TRI_LANEL_STAT x || a == Rg.TRI_LANEL_EXCL x)

/-- An address of AOM (07 Table MEM-1). -/
def inAom (a : Nat) : Bool := 0x1000000 ≤ a && a < 0x1040000

/-- A lane whose supply goes off: AOM and the kept registers stay, everything else starts afresh (20 R442, R449). -/
def darken (l : LaneState) : LaneState :=
  let x := LaneState.init l.id
  { x with
    regs := l.regs.filter (fun e => keptReg e.1), mem := l.mem.filter (fun e => inAom e.1),
    ecc := { errs := l.ecc.errs.filter (fun e => inAom e.1), poison := l.ecc.poison.filter inAom },
    tri := { x.tri with hardT := l.tri.hardT }, fio := { x.fio with hold := l.fio.hold }, brg := { x.brg with cfgs := l.brg.cfgs },
    mer := { x.mer with ocxoWarm := l.mer.ocxoWarm }, rdval := l.rdval, berr := l.berr, sent := l.sent }

/-- A lane of a module without any supply keeps nothing; the model's own records stay (20 R433). -/
def deadLane (l : LaneState) : LaneState :=
  { LaneState.init l.id with rdval := l.rdval, berr := l.berr, sent := l.sent }

/-- W at this moment: a running instance's, a voting lane's first, or what Ringmaster holds. -/
def State.keptTime (s : State) : Option Int :=
  match (s.voting ++ allLanes).find? (fun x => (s.lane x).mer.running) with
  | some x => some (wNow (s.lane x))
  | none => s.rm.start.rmW

/-- The lanes stop and lose their supply. `hold` leaves the PAIRED channels of an active member to the hold latches (21 Table SYS-6; 19 R426). -/
def State.lanesDown (s : State) (hold : Bool) : State :=
  let t := s.keptTime
  let safe := s.safe
  let s := s.mapLanes (fun l => darken (if hold && roleOf l == 2 then driversOff l else { l with fio := { l.fio with hold := 0 } }))
  { s with rm := { s.rm with start := { s.rm.start with rmW := t, fall := s.rm.start.fall || safe }, ops := [] } }

/-! Ringmaster's start (21 Table SYS-2 step 1, R455; 22 R481). -/

/-- The other slot of a type becomes the selected one (21 R459). -/
def State.switchSlot (s : State) (t : ImgType) : State :=
  let n := s.rm.selClock + 1
  { s with rm := { (s.rm.setImg t ((s.rm.img t).switched n)) with selClock := n } }

/-- Whether the image of a slot verifies and its header passes. -/
def State.slotGood (s : State) (t : ImgType) (x : Slot) : Bool := imgVerifies s.rm t x.img && headerOk x.img t

/-- SYS_BOOT and the UPD slot registers' selection follow the slots (21 Table SYS-9; 23 Table UPD-7). -/
def State.showBoot (s : State) : State :=
  let bits (f : ImgSel → Bool) : Nat := ((allTypes.filter (fun t => f (s.rm.img t))).map (fun t => 2 ^ (imgNo t - 1))).foldl (· + ·) 0
  let s := s.fsetAll Rg.SYS_BOOT 4 0 (bits (·.selB))
  let s := s.fsetAll Rg.SYS_BOOT 12 8 (bits (·.fellBack))
  let s := s.fsetAll Rg.SYS_BOOT 17 16 ((allTypes.map (fun t => (s.rm.img t).count)).foldl max 0)
  allTypes.foldl (fun s t =>
    let x := s.rm.img t
    let a := Rg.UPD_SLOTt_STAT (imgNo t)
    let s := s.fsetAll a 1 0 x.a.st
    let s := s.fsetAll a 3 2 x.b.st
    let s := s.fsetAll a 5 4 (b2n x.selB + 2 * b2n x.provisional)
    let tag := if x.spare.img = [] then 0 else imgTag x.spare.img
    (s.rsetAll (Rg.UPD_SLOTt_TAG_LO (imgNo t)) (tag.setWidth 32)).rsetAll (Rg.UPD_SLOTt_TAG_HI (imgNo t)) ((tag >>> 32).setWidth 32)) s

/-- What Ringmaster holds in RAM is gone; what flash and the standby domain hold stays. A start-up with cause POWER_ON is one more power cycle (22 R481, R491). -/
def freshRm (r : RmState) : RmState :=
  { r with
    took := [], sessions := [], opSeq := 0, sensors := [], reported := [], back := [], ops := [], status := .ok, slackHist := [],
    evr := { r.evr with reports := [], defer := [], hold := [], frozenBy := none, buckets := [], supp := [] },
    stagings := r.stagings.map (fun g => { g with segs := [] }),
    life := { r.life with powerCycles := r.life.powerCycles + b2n (r.start.cause == 1) }, pwr := { off := false }, snet := {} }

/-- Ringmaster's ROM verifies its firmware, and a slot that fails falls back to one that does not (21 Table SYS-2 step 1, R457). -/
def State.bootSlot (s : State) : State :=
  let x := s.rm.img .ringmaster
  let s := if !s.slotGood .ringmaster x.selected && s.slotGood .ringmaster x.spare then
      let s := s.switchSlot .ringmaster
      (s.onRm (fun r => r.setImg .ringmaster { (r.img .ringmaster) with fellBack := true })).rmEvent 0x0B03 1
    else s
  let ok := s.slotGood .ringmaster (s.rm.img .ringmaster).selected
  s.onRm (fun r => r.setImg .ringmaster { (r.img .ringmaster) with verified := ok })

/-- Ringmaster boots from ROM and verifies its firmware. What it held in RAM is gone (21 Table SYS-2 step 1, R457; 22 R481). -/
def State.bootRm (s : State) : State :=
  let s := (s.onRm freshRm).bootSlot
  let s := s.fsetAll Rg.SYS_BOOT 31 24 (min s.rm.evr.counters 255)
  ((s.onRm (fun r => { r with evr := { r.evr with counters := 0 } })).rmUp).showBoot

/-! Lane sequencing (21 Table SYS-2 step 2, R455; 23 R508). -/

/-- A provisional selection falls back after a restart other than a supply reset, or after the safe state (23 R508). -/
def State.fallBackProv (s : State) : State :=
  if !s.rm.start.fall then s
  else
    let s := [ImgType.executive, .config, .vital, .auxiliary].foldl (fun s t =>
      if (s.rm.img t).provisional then
        let s := s.switchSlot t
        ({ s with rm := s.rm.setImg t { (s.rm.img t) with provisional := false, fellBack := true } }).rmEvent 0x0B03 (imgNo t)
      else s) s
    { s with rm := { s.rm with start := { s.rm.start with fall := false } } }

/-- PWR_STATUS in every lane: STATE and the participant or step index (20 Table PWR-10). -/
def State.setPwr (s : State) (st idx : Nat) : State := (s.fsetAll Rg.PWR_STATUS 2 0 st).fsetAll Rg.PWR_STATUS 15 12 idx

/-- SYS_STATUS.PHASE in every lane (21 Table SYS-10). -/
def State.setPhase (s : State) (p : Nat) : State := s.fsetAll Rg.SYS_STATUS 2 0 p

/-- A failure code and its block or image type (21 Tables SYS-3, SYS-10). -/
def State.setFail (s : State) (code blk : Nat) : State := (s.fsetAll Rg.SYS_STATUS 15 8 code).fsetAll Rg.SYS_STATUS 23 16 blk

/-- The start-up step reached. -/
def State.setStep (s : State) (n : Nat) : State := { s with rm := { s.rm with start := { s.rm.start with step := n } } }

/-- Start-up is in its steps 2 to 7 (21 Table SYS-2). -/
def State.inStartup (s : State) : Bool := 2 ≤ s.rm.start.step && s.rm.start.step ≤ 7

/-- Step 2: lane sequencing begins with the lanes fresh, for the cause that stands. A restart within one start-up keeps what fell back and the last failure. With a peripheral slot no lane is powered (21 Table SYS-2, R455, R459, R460; 25 R528). -/
def State.startLanes (s : State) : State :=
  let st := s.rm.start
  let again := st.cause = 7 || st.cause = 8 || st.cause = 9
  let code := fget s.la Rg.SYS_STATUS 15 8
  let blk := fget s.la Rg.SYS_STATUS 23 16
  let s := (s.mapLanes darken).showFw
  let s := [ImgType.executive, .config, .vital, .auxiliary].foldl (fun s t =>
    { s with rm := s.rm.setImg t { (s.rm.img t) with verified := false, fellBack := again && (s.rm.img t).fellBack } }) s
  let s := s.fallBackProv
  let s := s.mapLanes (fun l =>
    let l := fset l Rg.SYS_RESET_CAUSE 4 0 st.cause
    let l := fset l Rg.SYS_RESET_CAUSE 12 8 st.cause
    fset l Rg.SYS_RESET_CAUSE 31 16 (min (fget l Rg.SYS_RESET_CAUSE 31 16 + 1) 65535))
  let s := if again then s.setFail code blk else s
  let s := s.showBoot
  if st.periph then (s.setFail 0x30 0xFE).setStep 1
  else
    let s := { s with rm := { s.rm with start := { s.rm.start with step := 2, tests := [], linkLost := [], recTried := st.recTried && st.cause = 9 },
                                        pwr := { off := false }, snet := {}, slackHist := [] } }
    let s := s.mapLanes (fun l => rset l Rg.PWR_STATUS 0)
    s.setPwr 4 0

/-- A module start with a cause: it goes on with step 2 when +12 V is there (21 Tables SYS-2, SYS-4). -/
def State.beginStart (s : State) (cause : Nat) : State :=
  let s := { s with rm := { s.rm with start := { s.rm.start with cause := cause, step := 1 } } }
  if s.rm.start.input then s.startLanes else s

/-- A restart without Ringmaster: steps 1 to 3 of the controlled shutdown, then step 2 (21 R462, Table SYS-4; 23 R508). -/
def State.restart (s : State) (cause : Nat) : State :=
  let s := { s with rm := { s.rm with start := { s.rm.start with fall := s.rm.start.fall || [5, 7, 8, 10].contains cause } } }
  (s.lanesDown false).beginStart cause

/-- STANDBY_POWER_APPLIED: +5 V standby is applied. A module without supply or in OFF boots Ringmaster into bring-up, cause POWER_ON (21 R455, Table SYS-4; 20 Table PWR-2). -/
def execStandbyPowerApplied (s : State) : Res :=
  if s.rm.start.stby then .next s
  else
    let s := { s with rm := { s.rm with start := { s.rm.start with stby := true } } }
    .next (if s.rm.pwr.off then
        let s := s.mapLanes (fun l => fset l Rg.SYS_RESET_CAUSE 31 16 0)
        ({ s with rm := { s.rm with start := { s.rm.start with rmW := none, cause := 1 } } }).bootRm.beginStart 1
      else s)

/-- INPUT_POWER_APPLIED: +12 V has been stable for 100 ms with the store charged. A module without any supply starts from step 1, a waiting one goes on with step 2; in DORMANT and OFF with standby it only becomes available (21 Table SYS-2, Table SYS-4; 25 R530). -/
def execInputPowerApplied (s : State) : Res :=
  let was := s.rm.start.input
  let s := { s with rm := { s.rm with start := { s.rm.start with input := true } } }
  .next (if s.rm.pwr.off then
      if s.rm.start.stby then s
      else
        let c := if s.rm.start.cause = 2 then 2 else 1
        ({ s with rm := { s.rm with start := { s.rm.start with rmW := none, cause := c } } }).bootRm.beginStart c
    else if s.rm.alive && !was && s.rm.start.step = 1 then s.startLanes
    else s)

/-! The steps of the wake-delay table in one lane (20 Table PWR-7). -/

/-- Steps 0 to 2: the core supply of a lane rises to 0.90 V with an empty slack history (20 R448; 02 R53). -/
def stepSupply (k : Nat) (l : LaneState) : LaneState :=
  if laneNo l.id = k then fset { l with pwr := { l.pwr with supply := true } } Rg.MBX_VSET 4 0 28 else l

/-- Step 3 in a start-up: Meridian starts from the time Ringmaster holds, in holdover (12 R263, R280). -/
def stepMerStart (w : Int) (l : LaneState) : LaneState :=
  { l with mer := { l.mer with running := true, ltime := 0, w := clockSet {} w, d0 := clockSet {} w, d1 := clockSet {} w } }

/-- Step 6: the relays go in line, the Carousel starts in LISTEN, and unit 1 is armed for the next cycle start (13 R294, R296). A module woken by the pattern sends it on (20 R446). -/
def stepCar (sends : Nat → Bool) (pattern : Bool) (l : LaneState) : LaneState :=
  let down := (List.range 4).filter (fun p => !bget l (Rg.CAR_PORTp_STAT p) 0 && sends (lineOf p))
  let l := if pattern then down.foldl (fun l p => emit l (.wake p (rget l Rg.PWR_WAKE_ID))) l else l
  if !votes l then l
  else
    let l := relaysIn l
    if cycleLenNs l = 0 then l else armUnit l 1 (firstMultiple (wNow l + 1) (cycleLenNs l)) (cycleLenNs l)

/-- Step 14: each GSS and both SAFE_OK drives close, and the outputs take their stop values (20 Table PWR-7; 06 R134). -/
def stepFio (l : LaneState) : LaneState :=
  if !votes l || isSafe l then l
  else fioDrive (fioOn { l with tri := { l.tri with drivers := true }, fio := { l.fio with hold := 0 },
                                exe := { l.exe with outApplied := l.cfg.stopImg.filter (inRange 0 outLen) } })

/-- Step 15: the executive starts at the next boundary, and Tightrope compares (20 Table PWR-7; 08 Table TRP-6). -/
def stepCores (l : LaneState) : LaneState :=
  if !votes l then l
  else
    let l := { l with c0 := { l.c0 with halted := false, dcache := [] }, c1 := if isSplit l then l.c1 else { l.c1 with halted := false, dcache := [] } }
    let l := fset l Rg.TRP_STATUS 1 0 (if isSplit l then 1 else 0)
    if baseNs l = 0 then l else armUnit l 0 (firstMultiple (wNow l + 1) (baseNs l)) (baseNs l)

/-- One step of the wake-delay table at a start-up, in every lane; the executive, not the step, has loaded memory and configuration (20 R447, Table PWR-7; 21 Table SYS-2). -/
def startStep (k : Nat) (w : Int) (sends : Nat → Bool) (l : LaneState) : LaneState :=
  if k ≤ 2 then stepSupply k l
  else if k = 3 then stepMerStart w l
  else if k = 4 then fset l Rg.MEM_STATUS 1 0 3
  else if k = 6 then stepCar sends false (takePorts l)
  else if 8 ≤ k && k ≤ 11 then canStart l (k - 8)
  else if k = 14 then stepFio l
  else if k = 15 then stepCores l
  else l

/-! Failed slots and Safety Net (21 R458, R459, R466, R467). -/

/-- START_FAILED: every output off, the GSS and SAFE_OK contacts open, and both relays in bypass (21 R456). -/
def State.startFailed (s : State) (code blk : Nat) : State :=
  let s := s.mapLanes (fun l => relaysOut (fioOff (coreStop (auxStop l))))
  ((s.setPhase 5).setFail code blk).setStep 8

/-- What a lane does in Safety Net: no task, outputs off, CAN recessive, backplane links down, partner link silent; the relays in line with a verified configuration, Line X alone without one; Meridian in holdover (21 R467). -/
def snetLane (cfg : Bool) (l : LaneState) : LaneState :=
  let l := takePorts (fioOff (coreStop (auxStop l)))
  let l := (List.range 4).foldl canStop (canCancelVital l)
  let l := showLinks ((List.range 4).foldl (fun l p => fset l (Rg.BRG_LINKp_STAT p) 1 0 0) l)
  let l := bset (bset l Rg.PRT_STATUS 3 false) Rg.PRT_STATUS 4 false
  let l := { l with pwr := { l.pwr with gated := [2, 3, 4] } }
  let l := if l.mer.running && follow l != 0 then toHoldover l else l
  let l := { l with exe := { l.exe with waiting := [], owed := [] }, tri := { l.tri with cutX := !cfg } }
  if cfg then fset (fset { l with tri := { l.tri with bypass := false } } Rg.CAR_STATUS 2 0 1) Rg.CAR_STATUS 13 8 0 else relaysOut l

/-- The AOM configuration record (07 Table MEM-4). -/
def aomRecord (l : LaneState) : Bytes := mrd l 0x1000000 4096

/-- Whether some slot of a type holds a verifying image. -/
def State.hasImage (s : State) (t : ImgType) : Bool := s.slotGood t (s.rm.img t).a || s.slotGood t (s.rm.img t).b

/-- Image types required: firmware, executive, configuration and vital application, and the auxiliary application in split mode (21 R466). -/
def State.requiredTypes (s : State) : List ImgType :=
  [.ringmaster, .executive, .config, .vital] ++ (if Config.recSplit (aomRecord s.la) then [.auxiliary] else [])

/-- The module enters Safety Net with a cause (21 R466, R467). -/
def State.enterSnet (s : State) (cause : Nat) : State :=
  let cfg := s.hasImage .config
  let s := s.onLanes (snetLane cfg)
  let s := { s with rm := { s.rm with snet := { cause := cause } } }
  ((s.setPhase 6).setStep 8).rmEvent 0x0B04 cause

/-- One more consecutive start-up that began with the selections of these types did not reach STOP (21 R459). -/
def State.countUp (s : State) (ts : List ImgType) : State :=
  (ts.foldl (fun s t => { s with rm := s.rm.setImg t { (s.rm.img t) with count := min ((s.rm.img t).count + 1) 3 } }) s).showBoot

/-- Image types a lane starts from. -/
def laneTypes : List ImgType := [.executive, .vital, .auxiliary, .config]

/-- Slots fail in a start-up: each of their types selects its other slot, with EV_UPDATE_FALLBACK, and the module restarts; when the other slot does not verify or has failed too, the module enters Safety Net. `others` are the types that this reset counts a start-up for; one whose count reaches 3 fails with them (21 R459, R466). -/
def State.failSlots (s : State) (ts others : List ImgType) (code cause : Nat) : State :=
  let s := s.setFail code (imgNo (ts.headD .config))
  let ts := ts ++ others.filter (fun t => 2 ≤ (s.rm.img t).count)
  let bad := ts.filter (fun t => (s.rm.img t).fellBack || !s.slotGood t (s.rm.img t).spare)
  if bad != [] then s.enterSnet (if bad.any (fun t => !s.hasImage t) then 1 else 2)
  else
    let s := ts.foldl (fun s t =>
      let s := s.switchSlot t
      ({ s with rm := s.rm.setImg t { (s.rm.img t) with fellBack := true } }).rmEvent 0x0B03 (imgNo t)) s
    (s.countUp (others.filter (fun t => !ts.contains t))).restart cause

/-- Images fail at verification: their slots fail, and the reset counts a start-up for the other types (21 R459). -/
def State.imagesFail (s : State) (ts : List ImgType) (code : Nat) : State := s.failSlots ts (laneTypes.filter (fun t => !ts.contains t)) code 7

/-- The restart that puts a new configuration record in force counts a start-up for every type; a slot whose count so reaches 3 fails (21 R459, R460). -/
def State.recordRestart (s : State) : State :=
  let bad := laneTypes.filter (fun t => 2 ≤ (s.rm.img t).count)
  if bad = [] then (s.countUp laneTypes).restart 9 else s.imagesFail bad 0x14

/-! The start-up tests (21 R456, Table SYS-3). -/

/-- The failure code of a lane's own start-up tests, none when they pass. -/
def bistCode (r : BistResult) : Option Nat :=
  if !r.bootRom then some 1 else if !r.bist then some 2 else if !r.tightrope then some 3 else if !r.voter then some 4 else if !r.ecc then some 5 else none

/-- Lanes that fail a failed cross-lane link: the later of the two in the order A, B, C (21 Table SYS-3 code 0x06). -/
def linkLoser (l : Lane) (r : BistResult) : List Lane := r.linkFail.filterMap (fun p => if p = l then none else some (if laneNo p < laneNo l then l else p))

/-- Whether a lane is held excluded by its AOM: FAILED always, any exclusion after a wake from DORMANT or OFF (09 R209; 20 R449). -/
def State.heldOut (s : State) (x : Lane) : Bool :=
  let st (y : Lane) : Nat := fget (s.lane y) (Rg.TRI_LANEL_STAT (laneNo x)) 2 0
  let c := s.rm.start.cause
  allLanes.any (fun y => st y == 5 || ((c == 3 || c == 4) && (st y == 1 || st y == 2 || st y == 3)))

/-- A lane's view of the voters after the tests: a lane that failed is excluded with cause 9, one that AOM holds excluded stays so (21 R456; 09 Table TRI-4). -/
def afterTests (pass held : List Lane) (l : LaneState) : LaneState :=
  let l := allLanes.foldl (fun l x =>
    let failed := fget l (Rg.TRI_LANEL_STAT (laneNo x)) 2 0 == 5
    if held.contains x then setLaneState (setVoter l x false) x (if failed then 5 else 1)
    else if pass.contains x then setLaneState (setVoter l x true) x 0
    else
      let e := Rg.TRI_LANEL_EXCL (laneNo x)
      setLaneState (setVoter (event (finc (fset l e 3 0 9) e 31 16 1) 0x0103 (laneNo x + 256 * 9)) x false) x 1) l
  let bits := ((allLanes.filter (fun x => !pass.contains x)).map (fun x => 2 ^ laneNo x)).foldl (· + ·) 0
  let l := fset l Rg.SYS_STATUS 26 24 bits
  if votes l then l else { l with tri := { l.tri with latch := true } }

/-- All lanes have ended their tests: at least two that pass go on to image verification, otherwise the module is in START_FAILED; firmware that does not verify is Safety Net (21 R456, R466). -/
def State.testsEnded (s : State) : State :=
  let pass := allLanes.filter (fun x => s.rm.start.tests.contains (x, true) && !s.rm.start.linkLost.contains x)
  if pass.length < 2 then
    (s.mapLanes (fun l => fset l Rg.SYS_STATUS 26 24 (((allLanes.filter (fun x => !pass.contains x)).map (fun x => 2 ^ laneNo x)).foldl (· + ·) 0))).startFailed 0x30 0xFF
  else
    let held := allLanes.filter s.heldOut
    let s := s.onLanes (afterTests pass held)
    if (s.rm.img .ringmaster).verified then (s.setPhase 2).setStep 6 else s.enterSnet 1

/-- The Tightrope test of start-up has failed in a lane: EV_COMPARATOR_SELFTEST_FAIL with an index the test's course decides (21 Table SYS-3; 22 Table EVR-2; log 4). -/
def tightropeFail (k : Nat) (l : LaneState) : LaneState := event l 0x0111 (256 + (Config.free8 k).toNat % 64)

/-- BIST_COMPLETE: memory BIST ends in a lane, and its remaining tests decide; in a wake from STANDBY it reports the reduced self-test of step 5 (21 R456, Table SYS-3; 20 R448). -/
def execBistComplete (l : Lane) (r : BistResult) (s : State) : Res :=
  if s.rm.start.step = 3 && !s.rm.start.tests.any (fun t => t.1 == l) then
    let code := bistCode r
    let k := s.freeCtr
    let s := if r.bootRom && r.bist && !r.tightrope then (s.tick4).onLane l (tightropeFail k) else s
    let losers := linkLoser l r
    let s := match code with
      | some c => s.setFail c 0xFF
      | none => if losers != [] then s.setFail 6 0xFF else s
    let ts := s.rm.start.tests ++ [(l, code.isNone)]
    let s := { s with rm := { s.rm with start := { s.rm.start with tests := ts, linkLost := addNew s.rm.start.linkLost losers } } }
    .next (if ts.length = 3 then s.testsEnded else s)
  else if fget s.la Rg.PWR_STATUS 2 0 == 4 && s.rm.start.step == 8 && fget s.la Rg.PWR_STATUS 15 12 == 6 && votes (s.lane l) && !(r.tightrope && r.ecc) then
    let k := s.freeCtr
    let s := if !r.tightrope then (s.tick4).onLane l (tightropeFail k) else s
    .next (s.onLanes (fun y => if y.id = l then setLatch (noteExcluded y l 9 true) else noteExcluded y l 9 true))
  else .next s

/-! Image verification (21 R457, R458, R460). -/

/-- The images in the order of verification (21 R457). -/
def State.nextImage (s : State) : Option ImgType :=
  ([ImgType.executive, .config, .vital] ++ (if s.la.cfg.split then [ImgType.auxiliary] else [])).find? (fun t => !(s.rm.img t).verified)

/-- The firewall fields of a configuration record are within Table TRP-3 (08 R184). -/
def firewallOk (c : CfgImage) : Bool :=
  if c.split then
    c.auxWinMiB != 0 && c.auxBanks / 2 ^ 15 == 0 && c.auxBanks % 2 == 0 && c.auxWinBase % 1048576 == 0
      && decide (0x110000000 ≤ c.auxWinBase) && decide (c.auxWinBase + c.auxWinMiB * 1048576 ≤ 0x300000000)
  else c.auxBanks == 0 && c.auxWinMiB == 0

/-- Two byte ranges share no byte. -/
def disjoint (a n b m : Nat) : Bool := decide (a + n ≤ b) || decide (b + m ≤ a) || n == 0 || m == 0

/-- The failure code of a selected image and the types it puts in question; none when it passes (21 Table SYS-3, R458; 08 R184). -/
def State.imageCode (s : State) (t : ImgType) : Option (Nat × List ImgType) :=
  let b := (s.rm.img t).selected.img
  let l := s.lane (s.voting.headD .a)
  if !imgVerifies s.rm t b then some (0x10, [t])
  else if !headerOk b t then some (0x11, [t])
  else
    match t with
    | .config =>
      let c := Config.cfgOf b
      if !c.oneMode || !firewallOk c then some (0x13, [t]) else none
    | .vital =>
      let a := parseApp b
      if !loaderOk l b then some (0x12, [t])
      else if imgBuild b != l.cfg.vitalBuild || a.split != l.cfg.split
          || (l.cfg.split && !disjoint l.cfg.auxWinBase (l.cfg.auxWinMiB * 1048576) a.vdrBase a.vdrLen) then some (0x13, [.config, .vital])
      else none
    | .auxiliary => if !auxOk b then some (0x12, [t]) else if imgBuild b != l.cfg.auxBuild then some (0x13, [.config, .auxiliary]) else none
    | _ => none

/-- Of two images that fail together the more recently selected one fails; both when they were selected at the same moment (21 R458). -/
def State.blamed (s : State) (ts : List ImgType) : List ImgType :=
  let m := (ts.map (fun t => (s.rm.img t).selOrder)).foldl max 0
  ts.filter (fun t => (s.rm.img t).selOrder == m)

/-- A verified image comes into force in every lane (21 R457; 03 R90). -/
def loadImage (t : ImgType) (b : Bytes) (l : LaneState) : LaneState :=
  match t with
  | .executive => rset64 l (Rg.SYS_BUILDt_LO 2) (Rg.SYS_BUILDt_HI 2) (imgBuild b)
  | .config => loadConfig { Config.cfgOf b with build := imgBuild b } l
  | .vital => zeroMem (loadApp (parseApp b) l) (parseApp b).vdrBase (parseApp b).vdrLen
  | .auxiliary => loadAux (parseApp b) l
  | .ringmaster => l

/-- The image passes; after the last, validation begins (21 Table SYS-2). -/
def State.imagePasses (s : State) (t : ImgType) : State :=
  let s := s.mapLanes (loadImage t (s.rm.img t).selected.img)
  let s := { s with rm := s.rm.setImg t { (s.rm.img t) with verified := true } }
  if s.nextImage.isNone then (s.setPhase 3).setStep 7 else s

/-- IMAGE_VERIFICATION: the next image in the order is verified and checked in every lane. A failure is slot fallback; a configuration whose record differs from AOM is written there and restarts the lanes once (21 R457 to R460). -/
def execImageVerification (ty : ImgType) (s : State) : Res :=
  if s.rm.start.step != 6 || s.nextImage != some ty then .next s
  else
    match s.imageCode ty with
    | some (code, ts) => .next (s.imagesFail (s.blamed ts) code)
    | none =>
      let recd := padTo 4096 (Config.cfgOf (s.rm.img ty).selected.img).record
      if ty = .config && allLanes.any (fun x => aomRecord (s.lane x) != recd) then
        if s.rm.start.recTried then .next (s.imagesFail [.config] 0x13)
        else
          let s := s.mapLanes (fun l => mwr l 0x1000000 recd)
          let s := { s with rm := { s.rm with start := { s.rm.start with recTried := true } } }
          .next s.recordRestart
      else .next (s.imagePasses ty)

/-! Validation and STOP (21 Table SYS-2 steps 7 and 8). -/

/-- CONFIG_VALIDATION: validation ends, and the wake-delay steps from step 5 follow; a failure is shown and keeps the module in STOP (21 Table SYS-2, Table SYS-3 code 0x20). -/
def execConfigValidation (s : State) : Res :=
  if s.rm.start.step = 7 && fget s.la Rg.PWR_STATUS 15 12 != 5 then
    let s := match failBlock (s.lane (s.voting.headD .a)) with
      | some n => s.setFail 0x20 n
      | none => s
    .next (s.setPwr 4 5)
  else .next s

/-- A lane enters STOP at the end of start-up: a paired one in WAIT, AUTO_RUN pending, and the timer of degraded operation where two lanes vote (21 Table SYS-2, R456, R461; 09 R210; 19 R419). -/
def operate (l : LaneState) : LaneState :=
  let l := bset (setMode (fset l Rg.SYS_STATUS 2 0 4) .stop) Rg.SYS_STATUS 7 l.cfg.autoRun
  let l := fset (fset l Rg.PWR_STATUS 2 0 0) Rg.PWR_STATUS 15 12 0
  let l := fset l Rg.PRT_STATUS 2 0 (if paired l then 1 else 0)
  let two := (voters l).length == 2
  let l := { l with tri := { l.tri with degAt := if two then some l.mer.ltime else none }, exe := { l.exe with degraded := two } }
  if votes l then checkVoters l else l

/-- Start-up ends in STOP: every count is 0, the selections stand, and the wanted builds are those that run (21 R459, Table SYS-8). -/
def State.reachStop (s : State) : State :=
  let s := s.onLanes operate
  let s := allTypes.foldl (fun s t => { s with rm := s.rm.setImg t { (s.rm.img t) with count := 0, changed := false } }) s
  let builds := allTypes.map (fun t => (imgNo t, imgBuild (s.rm.img t).selected.img))
  ({ s with rm := { s.rm with start := { s.rm.start with step := 8, lastBuilds := builds } } }).showBoot

/-- STARTUP_TIMEOUT: STOP was not reached within 30 s of step 2. The types whose selection changed are blamed: each counts one more start-up and falls back at 3; with none changed the module is in START_FAILED (21 R459). -/
def execStartupTimeout (s : State) : Res :=
  if !s.inStartup then .next s
  else
    let ts := laneTypes.filter (fun t => (s.rm.img t).changed)
    if ts = [] then .next (s.startFailed 0x14 0xFF)
    else
      let s := (s.countUp ts).setFail 0x14 (imgNo (ts.headD .config))
      let bad := ts.filter (fun t => 3 ≤ (s.rm.img t).count)
      .next (if bad = [] then s.restart 8 else s.failSlots bad [] 0x14 8)

/-! Supply dips and the controlled shutdown (21 R463 to R465; 25 R530). -/

/-- SUPPLY_WARNING: the input falls below the warning level. A fall before recovery belongs to the same dip (21 R463). -/
def execSupplyWarning (dv : Nat) (s : State) : Res :=
  if s.rm.start.dip then .next s
  else
    let s := { s with rm := { s.rm with start := { s.rm.start with dip := true } } }
    let s := (s.fsetAll Rg.SYS_SUPPLY 16 16 1).mapLanes (fun l => fset l Rg.SYS_SUPPLY 31 24 (min (fget l Rg.SYS_SUPPLY 31 24 + 1) 255))
    .next ((if s.rm.alive then s.rmEvent 0x0A03 dv else s).showEvr)

/-- SUPPLY_RECOVERY: the input has stayed above the recovery level for 10 ms, and flash writes resume (21 R463). -/
def execSupplyRecovery (dipMs : Nat) (s : State) : Res :=
  if !s.rm.start.dip then .next s
  else
    let s := { s with rm := { s.rm with start := { s.rm.start with dip := false } } }
    let s := (s.fsetAll Rg.SYS_SUPPLY 16 16 0).flushDefer
    .next ((if s.rm.alive then s.rmEvent 0x0A04 dipMs else s).showEvr)

/-- No supply is left: Ringmaster, AOM and the PWR block lose everything but flash (20 R433; 25 R530). -/
def State.noSupply (s : State) : State :=
  let s := s.endSessions
  let s := s.mapLanes deadLane
  { s with rm := { s.rm with alive := false, downBy := 0, snet := {}, pwr := {}, slackHist := [], ops := [],
                             start := { s.rm.start with step := 0, rmW := none, tests := [], recTried := false, cause := 0 } } }

/-- The records pending at a shutdown go to flash: all of them from standby power, otherwise the 256 newest, and the rest are counted as lost (21 R465; 22 R491). -/
def State.flushPending (s : State) : State :=
  let e := s.rm.evr
  let all := e.hold ++ e.defer
  let kept := if s.rm.start.stby then all else all.take 256
  let e := kept.reverse.foldl writeRec { e with hold := [], defer := [] }
  { s with rm := { s.rm with evr := { e with counters := e.counters + (all.length - kept.length), loss := e.loss || decide (kept.length < all.length) } } }

/-- RESET_POINT: the store reaches 14 V, and the module performs the controlled shutdown in whatever state its lanes are powered. It waits for +12 V with cause SUPPLY; without standby power nothing is left (21 R464, R465, Table SYS-6; 20 R450). -/
def execResetPoint (s : State) : Res :=
  let off := s.rm.pwr.off || fget s.la Rg.PWR_STATUS 2 0 == 3
  let s := { s with rm := { s.rm with start := { s.rm.start with input := false } } }
  if off then .next (if s.rm.start.stby then s else s.noSupply)
  else
    let s := (s.recordR 0x0A05 0).lanesDown true
    let s := s.flushPending
    let s := { s with rm := { s.rm with start := { s.rm.start with dip := false, cause := 2, step := 1, savedW := s.rm.start.rmW.getD s.rm.start.savedW },
                                        pwr := { off := false }, snet := {} } }
    let s := s.mapLanes (fun l => rset (fset (fset l Rg.SYS_RESET_CAUSE 4 0 2) Rg.SYS_SUPPLY 16 16 0) Rg.PWR_STATUS 0)
    if s.rm.start.stby then .next s.showEvr
    else
      let s := s.noSupply
      .next { s with rm := { s.rm with start := { s.rm.start with cause := 2 } } }

/-- STANDBY_INPUT_REMOVED: +5 V standby goes. The standby domain draws from the +12 V side while it is there, unless the module is DORMANT or OFF, which are left without any supply (25 R530). -/
def execStandbyInputRemoved (s : State) : Res :=
  if !s.rm.start.stby then .next s
  else
    let s := { s with rm := { s.rm with start := { s.rm.start with stby := false } } }
    .next (if s.rm.pwr.off || fget s.la Rg.PWR_STATUS 2 0 == 3 || !s.rm.start.input then s.noSupply else s)

/-! RESTART and SAFETY_NET (21 R462, R466). -/

/-- The module is in STOP, in the safe state, in START_FAILED or in Safety Net: a restart needs no force there. -/
def State.idleMode (s : State) : Bool :=
  let p := phaseOf s.la
  p == 5 || p == 6 || (p == 4 && fget s.la Rg.PWR_STATUS 2 0 == 0 && (s.safe || s.mode == .stop))

/-- RESTART: Ringmaster restarts the module from step 2. In RUN or HOLD it needs MAINTAINER level and FORCE, and otherwise returns MODE (21 R462). -/
def execRestart (src : CmdSrc) (force : Bool) (s : State) : Res :=
  s.rmGate (fun s =>
    let forced := force && isMaintainer src && phaseOf s.la == 4 && fget s.la Rg.PWR_STATUS 2 0 == 0
    if s.idleMode || forced then (s.answer .ok).restart 5 else s.answer .mode)

/-- SAFETY_NET: a service-port command at MAINTAINER level in STOP, in the safe state or in START_FAILED (21 R466 case 3). -/
def execSafetyNet (src : CmdSrc) (s : State) : Res :=
  s.rmGate (fun s =>
    if !isMaintainer src then s.answer .auth
    else if s.idleMode && phaseOf s.la != 6 then (s.answer .ok).enterSnet 3
    else s.answer .mode)

/-! The key table (21 R454, R457). -/

/-- FLEET_KEY_ENROL: a fleet entry is written once, by a maintainer, with an enrolment record signed by an Oxausk key (21 R457; log 33). -/
def execFleetKeyEnrol (src : CmdSrc) (idx : Nat) (key sig : Bytes) (s : State) : Res :=
  s.rmGate (fun s =>
    match s.rm.keys[idx]? with
    | none => s.answer .refused
    | some k =>
      if !isMaintainer src then s.answer .auth
      else if idx < 4 || k.written || !sigVerifies s.rm true (Config.enrolText idx key) sig then s.answer .refused
      else ({ s with rm := { s.rm with keys := s.rm.keys.setIfInBounds idx { k with key := key, written := true } } }).answer .ok)

/-- KEY_REVOKE: an entry is marked revoked and never enabled again, on a maintainer's command (21 R457; log 33). -/
def execKeyRevoke (src : CmdSrc) (idx : Nat) (s : State) : Res :=
  s.rmGate (fun s =>
    match s.rm.keys[idx]? with
    | none => s.answer .refused
    | some k =>
      if !isMaintainer src then s.answer .auth
      else ({ s with rm := { s.rm with keys := s.rm.keys.setIfInBounds idx { k with revoked := true } } }).answer .ok)

end Sys2Proof.Machine
end

