-- ==== Sys2Proof/Machine/Power.lean ====
section
/-! DEFINITION. Power states: requests, entry and its participants, abort, retention, wake sources and the wake sequence (20 R433 to R453). -/

namespace Sys2Proof.Machine

/-! What the PWR block shows (20 Table PWR-10). -/

/-- STATE of PWR_STATUS: 0 RUN, 1 ENTERING, 2 STANDBY, 3 DORMANT, 4 WAKING, 5 RESTARTING. -/
def State.pwrState (s : State) : Nat := fget s.la Rg.PWR_STATUS 2 0

/-- The participant or step index of PWR_STATUS. -/
def State.pwrIndex (s : State) : Nat := fget s.la Rg.PWR_STATUS 15 12

/-- The target of the entry. -/
def State.pwrTarget (s : State) : Nat := fget s.la Rg.PWR_STATUS 6 4

/-- Replace the state of power-state control. -/
def State.onPwr (s : State) (f : PwrState → PwrState) : State := { s with rm := { s.rm with pwr := f s.rm.pwr } }

/-! Retention (20 R441 to R443, Table PWR-5). -/

/-- The retained register list in the order of Table PWR-5, each register with the participant whose SAVE writes it. -/
def retList : List (Nat × Nat) :=
  let cyc := [Rg.CYC_BASE, Rg.CYC_BUDGET, Rg.CYC_AGREE, Rg.CYC_OVR] ++ (List.range 16).flatMap (fun t => [Rg.CYC_TASKt_CFG t, Rg.CYC_TASKt_ENTRY t])
    ++ (List.range 32).map Rg.CYC_CPp ++ (List.range 256).map Rg.CYC_STNs_CFG
  let tri := [Rg.TRI_CFG, Rg.TRI_CATCHUP_WAIT] ++ (List.range 3).map Rg.TRI_SKEWk ++ (List.range 3).map Rg.TRI_DEGLIMk
  let mer := [Rg.MER_CFG, Rg.MER_SERVO, Rg.MER_LOCK, Rg.MER_XCHK_CFG, Rg.MER_UTC] ++ (List.range 8).map Rg.MER_PORTp_ASYM
    ++ (List.range 12).flatMap (fun u => [Rg.MER_CMPu_CTRL (u + 2), Rg.MER_CMPu_SEC (u + 2), Rg.MER_CMPu_NS (u + 2), Rg.MER_CMPu_PERIOD (u + 2)])
    ++ (List.range 4).map Rg.MER_TCAPk_CFG ++ [Rg.MER_GNSS_CFG, Rg.MER_PPSOUT_CFG, Rg.MER_PTP_CFG]
  let car := [Rg.CAR_CFG, Rg.CAR_ETYPE, Rg.CAR_DA_LO, Rg.CAR_DA_HI, Rg.CAR_GUARD, Rg.CAR_CAB]
    ++ (List.range 16).flatMap (fun s => [Rg.CAR_SHEETs_CFG s, Rg.CAR_SHEETs_RANGE s, Rg.CAR_SHEETs_SPAN s])
  let ina := [Rg.INA_CFG] ++ (List.range 63).map (fun n => Rg.INA_COMPn (n + 1))
  let ecn := [Rg.ECN_CFG, Rg.ECN_AGE, Rg.ECN_VITAL_IP] ++ (List.range 4).map Rg.ECN_PORTp_CFG ++ (List.range 64).map Rg.ECN_VLANv
    ++ [Rg.ECN_AUX_RX_BASE_LO, Rg.ECN_AUX_RX_BASE_HI, Rg.ECN_AUX_TX_BASE_LO, Rg.ECN_AUX_TX_BASE_HI]
  let can (k : Nat) := [Rg.CAN_CTRL k, Rg.CAN_CFG k, Rg.CAN_NBT k, Rg.CAN_DBT k, Rg.CAN_TDC k]
    ++ (List.range 2).flatMap (fun q => [Rg.CAN_QqCFG k q, Rg.CAN_QqADDR k q]) ++ (List.range 32).flatMap (fun m => [Rg.CAN_MBmCFG k m, Rg.CAN_MBmADDR k m])
  let fio := [Rg.FIO_CFG, Rg.FIO_OPT, Rg.FIO_GSS, Rg.FIO_IMG, Rg.FIO_SOE_CFG, Rg.FIO_SOE_ADDR] ++ (List.range 96).map Rg.FIO_CHi_CFG
  let cvu := (List.range 8).flatMap (fun k => [Rg.CVU_CTXk_CFG k, Rg.CVU_CTXk_POLY_LO k, Rg.CVU_CTXk_POLY_HI k, Rg.CVU_CTXk_INIT_LO k, Rg.CVU_CTXk_INIT_HI k,
    Rg.CVU_CTXk_XOROUT_LO k, Rg.CVU_CTXk_XOROUT_HI k])
  let brg := [Rg.BRG_CFG, Rg.BRG_REC, Rg.BRG_INB_BASE_LO, Rg.BRG_INB_BASE_HI, Rg.BRG_INB_EN]
    ++ (List.range 16).flatMap (fun r => [Rg.BRG_REGr_CFG r, Rg.BRG_REGr_XLAT_LO r, Rg.BRG_REGr_XLAT_HI r, Rg.BRG_REGr_BUDGET r])
  let prt := [Rg.PRT_CFG, Rg.PRT_WAIT, Rg.PRT_REC]
  let by_ (p : Nat) (as : List Nat) : List (Nat × Nat) := as.map (fun a => (p, a))
  by_ 1 cyc ++ by_ 1 tri ++ by_ 0xB [Rg.MEM_SCRUB_CFG] ++ by_ 0xC mer ++ by_ 0xA car ++ by_ 0xA ina ++ by_ 9 ecn
    ++ by_ 8 (can 0) ++ by_ 7 (can 1) ++ by_ 6 (can 2) ++ by_ 5 (can 3) ++ by_ 2 fio ++ by_ 1 cvu ++ by_ 4 brg ++ by_ 3 prt

/-- Start of the retention save area (07 Table MEM-4). -/
abbrev saveBase : Nat := 0x1001000

/-- The list entries with the address each is saved at. -/
def retSlots : List (Nat × Nat × Nat) := retList.zipIdx.map (fun e => (e.1.1, e.1.2, saveBase + 4 * e.2))

/-- SAVE of a participant under REGS_AND_BANKS: its part of the list goes to the save area; the last one, MER, closes it with the CRC-64 (20 R437, R442). -/
def saveRegs (p : Nat) (l : LaneState) : LaneState :=
  if !bget l Rg.PWR_CFG 0 then l
  else
    let l := (retSlots.filter (fun e => e.1 == p)).foldl (fun l e => mwr l e.2.2 (leBytes 4 (rget l e.2.1).toNat)) l
    if p = 0xC then
      let n := 4 * retList.length
      mwr l (saveBase + n) (leBytes 8 (crc64 (mrd l saveBase n)).toNat)
    else l

/-- Whether the CRC of the saved list holds (20 R443). -/
def saveOk (l : LaneState) : Bool :=
  let n := 4 * retList.length
  leNat (mrd l (saveBase + n) 8) == (crc64 (mrd l saveBase n)).toNat

/-- DRAM_KEEP of the lane (20 R441). -/
def dramKept (l : LaneState) : Bool := bget l Rg.PWR_CFG (4 + laneNo l.id)

/-! Participants of an entry in one lane (20 Table PWR-3). -/

/-- The "refuses when" entry of a participant (20 Table PWR-3). -/
def refuses (p : Nat) (l : LaneState) : Bool :=
  if p = 1 then modeOf l == .hold || l.exe.mig.isSome || bget l Rg.TRP_DBG_STATUS 0 || reintPhase l == 5
  else if p = 3 then l.prt.handN != 0
  else if p = 4 then l.brg.opens != [] || l.brg.posted != []
  else false

/-- CORES has released its last task and committed the stop image (20 Table PWR-3; 06 R137). -/
def coresDone (l : LaneState) : Bool :=
  match l.exe.parked with
  | some q => isStandby l || (match l.exe.undo with | some u => decide (q ≤ u.n) | none => false)
  | none => false

/-- What a participant does in QUIESCE in a lane; the auxiliary cores stop with the GATE of CORES, so a refusal by CORES leaves them running (20 Table PWR-3, R438). -/
def quiesceLane (sends : Nat → Bool) (p : Nat) (l : LaneState) : LaneState :=
  if p = 2 then fioOff { l with tri := { l.tri with drivers := false }, fio := { l.fio with pulse := none, gssPulse := none } }
  else if p = 3 then (if paired l && sends 8 then emit l (.hb (heartbeat l l.exe.n 0)) else l)
  else if 5 ≤ p && p ≤ 8 then canCancelAll l (8 - p)
  else if p = 9 then { (if sends 2 then l.ecn.queues.foldl (fun l q => emit l (.eth q.1 q.2.2)) l else l) with ecn := { l.ecn with queues := [] } }
  else if p = 0xA then dropPos l
  else l

/-- GATE: the participant's island is removed in a lane (20 R437, Table PWR-3). -/
def gateLane (p : Nat) (l : LaneState) : LaneState :=
  let l :=
    if p = 1 then coreStop (auxStop l)
    else if p = 2 then fioOff { l with tri := { l.tri with drivers := false } }
    else if p = 3 then bset (bset l Rg.PRT_STATUS 3 false) Rg.PRT_STATUS 4 false
    else if p = 4 then showLinks ((List.range 4).foldl (fun l k => fset l (Rg.BRG_LINKp_STAT k) 1 0 0) l)
    else if 5 ≤ p && p ≤ 8 then canStop l (8 - p)
    else if p = 9 then { l with ecn := { l.ecn with queues := [] } }
    else if p = 0xA then relaysOut (dropPos l)
    else if p = 0xB then bset (fset l Rg.MEM_STATUS 1 0 0) Rg.MEM_STATUS 3 (dramKept l)
    else l
  { l with pwr := { l.pwr with gated := addNew l.pwr.gated [p] } }

/-- The base cycles from T(q) that CORES let pass are skipped releases, and the executive goes on in the mode it was in (20 R438, R439; 02 R51). -/
def unpark (l : LaneState) : LaneState :=
  match l.exe.parked with
  | none => l
  | some q =>
    let l := { l with exe := { l.exe with parked := none } }
    if modeOf l ≠ .run then l
    else (List.range 16).foldl (fun l t => skipRelease l t (b2n (releasesAt l t q) + releasesBetween l t q (l.exe.n + 1))) l

/-- A participant in QUIESCE resumes its work when the entry ends there (20 R438, R439). -/
def resumeLane (p : Nat) (l : LaneState) : LaneState :=
  if p = 1 then unpark l else if p = 2 then stepFio l else l

/-- A participant's island comes back in a lane: at a restart after an abort, and in the wake steps of Table PWR-7 (20 R439, R447). -/
def startPart (sends : Nat → Bool) (pattern : Bool) (p : Nat) (l : LaneState) : LaneState :=
  let l := { l with pwr := { l.pwr with gated := l.pwr.gated.filter (· != p) } }
  if p = 1 then unpark (stepCores l)
  else if p = 2 then stepFio l
  else if 5 ≤ p && p ≤ 8 then canStart l (8 - p)
  else if p = 0xA then stepCar sends pattern l
  else if p = 0xB then bset (fset l Rg.MEM_STATUS 1 0 3) Rg.MEM_STATUS 3 false
  else l

/-! Outcomes (20 R440, R451, R452). -/

/-- The power record of an outcome reaches every lane as a message item (20 R451, Table PWR-8). -/
def State.outcome (s : State) (kind blk cause target : Nat) : State :=
  let b := leBytes 1 kind ++ leBytes 1 blk ++ leBytes 1 cause ++ [0] ++ leBytes 2 (fget s.la Rg.PWR_WAKE_CAUSE 15 0) ++ leBytes 1 target ++ [0]
  s.mapLanes (fun l => arrive l (.power b))

/-- The history of refusals and aborts, newest first (20 R452, Table PWR-10). -/
def noteRefusal (blk cause lane target : Nat) (aborted : Bool) (l : LaneState) : LaneState :=
  let v := BitVec.ofNat 32 (blk + 32 * cause + 256 * lane + 1024 * b2n aborted + 2048 * target + 65536 * (l.exe.n % 65536))
  let l := if aborted then finc l Rg.PWR_REFUSE_CNT 31 16 1 else finc l Rg.PWR_REFUSE_CNT 15 0 1
  let l := (List.range 15).foldl (fun l i => rset l (Rg.PWR_HISTh (15 - i)) (rget l (Rg.PWR_HISTh (14 - i)))) l
  rset (rset l (Rg.PWR_HISTh 0) v) Rg.PWR_LAST_REFUSER v

/-- Supplies at OFF: Ringmaster is held in reset, and the lanes keep AOM only (20 Table PWR-1, R449). -/
def State.toOff (s : State) : State :=
  let s := s.endSessions.lanesDown false
  let s := { s with rm := { s.rm with alive := false, downBy := 0, pwr := {}, snet := {},
                                      start := { s.rm.start with savedW := s.rm.start.rmW.getD s.rm.start.savedW, rmW := none, step := 0 } } }
  if s.rm.start.stby then s.setPwr 0 0 else s.noSupply

/-- Supplies at DORMANT: the lanes are off, Ringmaster keeps time and has recorded W; without +5 V standby nothing is left (20 Table PWR-1, R436; 12 R291; 25 R530). -/
def State.toDormant (s : State) (r436 : Bool) : State :=
  let s := s.lanesDown false
  let s := { s with rm := { s.rm with pwr := { s.rm.pwr with r436 := r436, gated := [], quiesced := [], entering := false, restart := [] },
                                      start := { s.rm.start with savedW := s.rm.start.rmW.getD s.rm.start.savedW, step := 0 } } }
  if s.rm.start.stby then s.setPwr 3 0 else s.noSupply

/-- The pending request, none when there is none (20 Table PWR-10). -/
def State.pendingReq (s : State) : Option Nat := if bget s.la Rg.PWR_STATUS 7 then some (fget s.la Rg.PWR_STATUS 10 8) else none

/-- Show a pending request, or that there is none. -/
def State.setPending (s : State) (t : Option Nat) : State := (s.fsetAll Rg.PWR_STATUS 7 7 (b2n t.isSome)).fsetAll Rg.PWR_STATUS 10 8 (t.getD 0)

/-- A request for a target from the state in force: a new entry from RUN, a deeper state from STANDBY or DORMANT, no effect for the state in force (20 R435, R436, R450). -/
def State.request (s : State) (t : Nat) : State :=
  match s.pwrState with
  | 0 => s.onPwr (fun p => { p with req := some t })
  | 2 => if t = 2 then s.toDormant false else if t = 3 then s.toOff else s
  | 3 => if t = 3 then s.toOff else s
  | _ => s.setPending (some t)

/-- A transition has ended: the pending request is evaluated (20 R450). -/
def State.evalPending (s : State) : State :=
  match s.pendingReq with
  | some t => (s.setPending none).request t
  | none => s

/-- The relays go in line again after a refusal or an abort; a Carousel that has not gated rejoins in LISTEN (20 R438, R439). -/
def relayBack (l : LaneState) : LaneState :=
  if !votes l then l
  else if l.pwr.gated.contains 0xA then { l with tri := { l.tri with bypass := false } }
  else relaysIn l

/-- The restart after an abort is over, or there was nothing to restart: RUN again, and the pending request counts (20 R439, R450). -/
def State.endAbort (s : State) : State :=
  (((s.setPwr 0 0).fsetAll Rg.PWR_STATUS 6 4 0).onPwr (fun p => { p with gated := [], quiesced := [], entering := false, restart := [] })).evalPending

/-- An entry is refused or aborted: its event, record and history; the participant in QUIESCE resumes, the relays return, and the gated participants restart in reverse order (20 R438 to R440, R451). -/
def State.endEntry (s : State) (blk cause : Nat) (lane : Lane) : State :=
  let t := s.pwrTarget
  let p := s.pwrIndex
  let gated := s.rm.pwr.gated
  let aborted := blk != 1
  let n := if aborted then gated.length else 0
  let s := s.onLane lane (fun l => event l (if aborted then 0x0A02 else 0x0A01) (blk + 256 * cause + 65536 * laneNo lane + 1048576 * t + 16777216 * n))
  let s := s.mapLanes (noteRefusal blk cause (laneNo lane) t aborted)
  let s := (s.outcome (if aborted then 2 else 1) blk cause t).mapLanes (fun l => relayBack (resumeLane p l))
  if gated = [] then s.endAbort
  else (s.setPwr 5 0).onPwr (fun x => { x with restart := gated, quiesced := [], entering := false })

/-! Requests and entry (20 R434 to R439). -/

/-- A released request that the MBX blocks hold: its target, and the blocks without what Ringmaster has taken. It takes an item once, however many lanes released it (20 R434; 22 R475). -/
def State.takeVital (s : State) : Option Nat × State :=
  let fresh (v : VItem) : Bool := v.q.stream == 0x500 && (match s.rm.took.find? (fun e => e.1 == 0x500) with
    | some e => seqAfter e.2 v.seq
    | none => true)
  let held := allLanes.flatMap (fun x => (s.lane x).mbx.itq.filter fresh)
  match held with
  | [] => (none, s.mapLanes (fun l => { l with mbx := { l.mbx with itq := l.mbx.itq.filter (fun w => w.q.stream != 0x500) } }))
  | v :: _ =>
    let s := s.mapLanes (fun l => { l with mbx := { l.mbx with itq := l.mbx.itq.filter (fun w => w.q.stream != 0x500 || seqAfter v.seq w.seq) } })
    let s := { s with rm := { s.rm with took := (0x500, v.seq) :: s.rm.took.filter (fun e => e.1 != 0x500) } }
    match v.q.pay with
    | .power t => (some t, s)
    | _ => (none, s)

/-- POWER_STATE_REQUEST: Ringmaster takes a request for STANDBY, DORMANT or OFF from a released item, a backbone command, or a service command (20 R434, R435, R450; 21 R455). -/
def execPowerStateRequest (src : PwrSrc) (target : Nat) (s : State) : Res :=
  if !s.rm.alive then .next s
  else
    match src with
    | .vital =>
      match s.takeVital with
      | (some t, s) => .next (s.request t)
      | (none, s) => .next s
    | _ =>
      if s.bringup && s.pwrState != 3 then .next (s.answer .bringup)
      else if target = 0 || 3 < target then .next (s.answer .refused)
      else .next ((s.answer .ok).request target)

/-- ENTRY_BEGIN: the first base-cycle boundary after Ringmaster holds a request. The relays release in every lane; in the safe state STANDBY is carried out as DORMANT (20 R435, R437). -/
def execEntryBegin (s : State) : Res :=
  match s.rm.pwr.req with
  | none => .next s
  | some t0 =>
    if s.pwrState != 0 || phaseOf s.la != 4 || s.voting = [] then .next s
    else
      let t := if s.safe && t0 = 1 then 2 else t0
      let x := s.lane (s.voting.headD .a)
      let s := s.onPwr (fun p => { p with
        req := none, gated := [], quiesced := [], entering := true, restart := [], armed := false, modeAt := s.mode, r436 := false, patternWoke := false, wakePending := false,
        wakeCan := (List.range 4).filter (fun k => bget x (Rg.CAN_CFG k) 5), wakeFio := (List.range 96).filter (fun i => chCfg x i 9 9 == 1 && (chMode x i == 1 || chMode x i == 2)),
        wakeEcn := (List.range 4).filter (fun k => bget x (Rg.ECN_PORTp_CFG k) 0) })
      .next (((s.setPwr 1 1).fsetAll Rg.PWR_STATUS 6 4 t).mapLanes (fun l => relaysOut (fset l Rg.PWR_WAKE_CAUSE 31 0 0)))

/-- A participant of an entry that is under way. -/
def State.partNow (s : State) : Option Nat := if s.pwrState == 1 && 1 ≤ s.pwrIndex && s.pwrIndex ≤ 12 then some s.pwrIndex else none

/-- Every voting lane has quiesced: the participant saves and gates in every lane, and the next starts (20 R437). -/
def State.gatePart (s : State) (p : Nat) : State :=
  let stb := s.pwrTarget == 1
  let s := s.mapLanes (fun l => gateLane p (if stb then saveRegs p l else l))
  let s := if p = 0xC && !stb then { s with rm := { s.rm with start := { s.rm.start with savedW := s.keptTime.getD s.rm.start.savedW } } } else s
  (s.setPwr 1 (p + 1)).onPwr (fun x => { x with gated := p :: x.gated, quiesced := [], entering := p != 0xC })

/-- PARTICIPANT_QUIESCED: the participant has finished its QUIESCE in a lane; once every voting lane has, it saves and gates (20 R437, Table PWR-3). -/
def execParticipantQuiesced (l : Lane) (s : State) : Res :=
  match s.partNow with
  | none => .next s
  | some p =>
    let x := s.lane l
    if !votes x || refuses p x || s.rm.pwr.quiesced.contains l || (p == 1 && !coresDone x) then .next s
    else
      let s := s.onLane l (quiesceLane (fun k => s.sends l k) p)
      let s := s.onPwr (fun q => { q with quiesced := q.quiesced ++ [l] })
      .next (if s.voting.all (fun y => s.rm.pwr.quiesced.contains y) then s.gatePart p else s)

/-- PARTICIPANT_REFUSAL: a participant refuses in a voting lane because its condition holds (20 R437 to R439, Table PWR-4 code 1). -/
def execParticipantRefusal (l : Lane) (s : State) : Res :=
  match s.partNow with
  | some p => .next (if votes (s.lane l) && refuses p (s.lane l) && !s.rm.pwr.quiesced.contains l then s.endEntry p 1 l else s)
  | none => .next s

/-- PARTICIPANT_TIMEOUT: a participant with a timeout has neither quiesced nor refused in time, and refuses; FIO and CAR have none (20 R437, Table PWR-4 code 2). -/
def execParticipantTimeout (l : Lane) (s : State) : Res :=
  match s.partNow with
  | some p => .next (if votes (s.lane l) && p != 2 && p != 0xA && !s.rm.pwr.quiesced.contains l then s.endEntry p 2 l else s)
  | none => .next s

/-- ABORT_RESTART_STEP: the next of the gated participants restarts; after the last the module is in RUN again (20 R439). -/
def execAbortRestartStep (s : State) : Res :=
  match s.rm.pwr.restart with
  | [] => .next s
  | p :: ps =>
    if s.pwrState != 5 then .next s
    else
      let s := s.mapLanes (fun l => startPart (fun k => s.sends l.id k) false p l)
      let s := s.onPwr (fun x => { x with restart := ps })
      .next (if ps = [] then s.endAbort else s)

/-! Wake (20 R443 to R449). -/

/-- PWR_WAKE_CAUSE takes a source: the first with its number, a later one beside it (20 R445, Table PWR-10). -/
def noteWake (first : Bool) (bit : Nat) (l : LaneState) : LaneState :=
  if first then rset l Rg.PWR_WAKE_CAUSE (BitVec.ofNat 32 (2 ^ bit + 65536 * bit)) else bset l Rg.PWR_WAKE_CAUSE bit true

/-- The wake from the state in force begins: the wake-delay table from STANDBY, lane sequencing from DORMANT or when new images are to load (20 R447, R449; 23 R505). -/
def State.startWake (s : State) : State :=
  if s.pwrState == 3 || s.rm.pwr.dormantPath then (if s.pwrState == 3 then s else s.lanesDown false).beginStart 3
  else ((s.setPwr 4 0).fsetAll Rg.PWR_STATUS 16 16 0).onPwr (fun p => { p with armed := false, wakePending := false })

/-- A wake event: it aborts an entry before MER has gated and discards the pending request; after that it waits for the target state; in STANDBY and DORMANT the wake begins; in the first moment of a wake another source is recorded (20 R445, R450). -/
def State.wake (s : State) (bit : Nat) : State :=
  let st := s.pwrState
  if st = 1 && s.rm.pwr.entering then ((s.mapLanes (noteWake true bit)).setPending none).endEntry 0x1F 3 .a
  else if st = 1 then (s.mapLanes (noteWake (!s.rm.pwr.wakePending) bit)).onPwr (fun p => { p with wakePending := true })
  else if st = 2 || st = 3 then (s.mapLanes (noteWake true bit)).startWake
  else if st = 4 && s.pwrIndex = 0 then s.mapLanes (noteWake false bit)
  else s

/-- ENTRY_COMPLETE: after MER has gated, the core supplies go to the target's level; then the pending request, and a wake that came meanwhile, take effect (20 R437, R445, R450). -/
def execEntryComplete (s : State) : Res :=
  if s.pwrState != 1 || s.pwrIndex != 13 then .next s
  else
    let w := s.rm.pwr.wakePending
    let s := match s.pwrTarget with
      | 1 => (s.setPwr 2 0).mapLanes (fun l => { l with pwr := { l.pwr with supply := false } })
      | 2 => s.toDormant false
      | _ => s.toOff
    let s := s.evalPending
    .next (if w && s.rm.alive && (s.pwrState == 2 || s.pwrState == 3) then s.startWake else s)

/-- STBY_LIMIT_EXPIRY: the module has been in STANDBY for STBY_LIMIT and goes to DORMANT; 0 disables it (20 R436). -/
def execStbyLimitExpiry (s : State) : Res :=
  .next (if s.pwrState == 2 && fget s.la Rg.PWR_WAKE_CFG 31 16 != 0 then s.toDormant true else s)

/-- STANDBY_SUPPLY_LOSS: in STANDBY the input has stayed below the warning level for 10 ms, and the module goes to DORMANT (20 R436). -/
def execStandbySupplyLoss (s : State) : Res :=
  .next (if s.pwrState == 2 then
      ({ s with rm := { s.rm with start := { s.rm.start with input := false } } }).toDormant true
    else s)

/-- WAKE_ARM_EXPIRY: WAKE_ARM after the entry completes, the backbone, consist and CAN sources are armed (20 R444). -/
def execWakeArmExpiry (s : State) : Res :=
  .next (if s.rm.alive && (s.pwrState == 2 || s.pwrState == 3) then s.onPwr (fun p => { p with armed := true }) else s)

/-- BACKBONE_ENERGY_WAKE: signalling on an end connector for 2 ms, in energy mode (20 Table PWR-6). -/
def execBackboneEnergyWake (s : State) : Res :=
  .next (if s.rm.pwr.armed && bget s.la Rg.PWR_WAKE_EN 0 && !bget s.la Rg.PWR_WAKE_CFG 0 then s.wake 0 else s)

/-- WAKE_PATTERN_RECEIVE: three wake-pattern frames of an accepted WAKE_ID within 10 ms, in pattern mode (20 R446, Table PWR-6). -/
def execWakePatternReceive (id : Word) (s : State) : Res :=
  .next (if s.rm.pwr.armed && bget s.la Rg.PWR_WAKE_EN 0 && bget s.la Rg.PWR_WAKE_CFG 0 && (id == rget s.la Rg.PWR_WAKE_ID || id == 0xFFFFFFFF#32) then
      (s.onPwr (fun p => { p with patternWoke := true })).wake 0
    else s)

/-- CONSIST_ENERGY_WAKE: signalling on an enabled consist port for 2 ms (20 Table PWR-6). -/
def execConsistEnergyWake (port : Nat) (s : State) : Res :=
  .next (if s.rm.pwr.armed && bget s.la Rg.PWR_WAKE_EN 1 && s.rm.pwr.wakeEcn.contains port then s.wake 1 else s)

/-- CAN_WAKE: a dominant level of at least 5 µs on a bus whose controller has WAKE_EN (16 R370; 20 Table PWR-6). -/
def execCanWake (k : CanNo) (s : State) : Res :=
  .next (if s.rm.pwr.armed && s.rm.pwr.wakeCan.contains k.val then s.wake (2 + k.val) else s)

/-- WAKE_PIN: F15 WAKE wakes the module from STANDBY, DORMANT and OFF, where it starts Ringmaster with cause WAKE_OFF (20 Table PWR-6, R449; 21 Table SYS-4). -/
def execWakePin (s : State) : Res :=
  .next (if !bget s.la Rg.PWR_WAKE_EN 2 then s
    else if s.rm.pwr.off then
      if s.rm.start.stby then
        ({ (s.mapLanes (noteWake true 6)) with rm := { s.rm with start := { s.rm.start with cause := 4 } } }).bootRm.beginStart 4
      else s
    else s.wake 6)

/-- ALARM_WAKE: compare unit 15 fires, or Ringmaster's timer expires (20 Table PWR-6). -/
def execAlarmWake (s : State) : Res :=
  .next (if s.rm.alive && bget s.la Rg.PWR_WAKE_EN 3 then s.wake 7 else s)

/-- FIELD_INPUT_WAKE: an input with WAKE is above its ON threshold for 1 ms (17 R397; 20 Table PWR-6). -/
def execFieldInputWake (ch : Chan) (s : State) : Res :=
  .next (if s.rm.alive && s.rm.pwr.wakeFio.contains ch.val then s.wake 8 else s)

/-- RESUPPLY_WAKE: +12 V is back above 10.6 V for 100 ms in a DORMANT entered under R436 (20 Table PWR-6). -/
def execResupplyWake (s : State) : Res :=
  if s.pwrState != 3 || !s.rm.pwr.r436 || !s.rm.alive then .next s
  else
    let s := { s with rm := { s.rm with start := { s.rm.start with input := true } } }
    .next (if bget s.la Rg.PWR_WAKE_EN 4 then s.wake 9 else s)

/-! The steps of a wake from STANDBY (20 R447, R448, Table PWR-7). -/

/-- Whether an address lies in an SRAM bank that SRAM_KEEP does not keep (20 R441; 07 R155). -/
def bankLost (l : LaneState) (a : Nat) : Bool := decide (a < 0x400000) && !bget l Rg.PWR_CFG (16 + a / 0x40000)

/-- The part of a section that lies in one SRAM bank. -/
def bankPart (base : Nat) (b : Bytes) (k : Nat) : Nat × Bytes :=
  let lo := max base (0x40000 * k)
  let hi := min (base + b.length) (0x40000 * (k + 1))
  (lo, (b.drop (lo - base)).take (hi - lo))

/-- A section is loaded again into the banks that were not kept. -/
def reload (base : Nat) (b : Bytes) (l : LaneState) : LaneState :=
  ((List.range 16).filter (fun k => bankLost l (0x40000 * k))).foldl (fun l k =>
    let p := bankPart base b k
    if p.2 = [] then l else mwr l p.1 p.2) l

/-- Banks that were not kept read 0, but for the code and the initial data of the images, which are loaded again (20 R448). -/
def restoreBanks (l : LaneState) : LaneState :=
  let l := { l with mem := l.mem.filter (fun e => !bankLost l e.1),
                    ecc := { l.ecc with errs := l.ecc.errs.filter (fun e => !bankLost l e.1), poison := l.ecc.poison.filter (fun c => !bankLost l c) } }
  let l := match l.app with
    | some a => reload a.dataAddr a.data (reload a.loadAddr a.code l)
    | none => l
  match l.aux with
  | some a => reload a.dataAddr a.data (reload a.loadAddr a.code l)
  | none => l

/-- Step 4: DRAM leaves self-refresh, or is initialised; the declared vital region is kept only when every voting lane keeps its DRAM, and a lane's own DRAM otherwise goes (20 R441, Table PWR-7; 07 R159). -/
def stbyMem (keepVdr : Bool) (l : LaneState) : LaneState :=
  let dram (a : Nat) : Bool := 0x100000000 ≤ a && a < 0x300000000
  let l := if dramKept l then l
    else { l with mem := l.mem.filter (fun e => !dram e.1), ecc := { l.ecc with errs := l.ecc.errs.filter (fun e => !dram e.1), poison := l.ecc.poison.filter (fun c => !dram c) } }
  let l := if keepVdr then l else zeroMem l (vdrBase l) (vdrLen l)
  startPart (fun _ => false) false 0xB l

/-- Registers that keep their values in STANDBY: those Ringmaster or the standby domain holds, Meridian's, which runs on, and the exclusion state (20 Table PWR-1, R442, R448). -/
def stbyReg (a : Nat) : Bool :=
  let b := a / 65536
  keptReg a || b == Rg.SYS_ID / 65536 || b == Rg.MER_STATUS / 65536 || b == Rg.MBX_STATUS / 65536 || a == Rg.TRI_STATUS
    || a == Rg.MEM_VDR_BASE_LO || a == Rg.MEM_VDR_BASE_HI || a == Rg.MEM_VDR_LEN || a == Rg.MEM_STATUS

/-- Step 5: every register takes its reset value, its configured value, or under REGS_AND_BANKS its saved one; the force table is empty and SEQ starts again. Without the saved list the executive starts afresh (20 R442, R448; 06 R146; 10 R237). -/
def stbyRestore (regs : Bool) (mode : Mode) (l : LaneState) : LaneState :=
  let f := LaneState.init l.id
  let l := restoreBanks l
  let saved := retSlots.map (fun e => (e.2.1, (BitVec.ofNat 32 (leNat (mrd l e.2.2 4)) : Word)))
  let t := l.tri
  let tri := if regs then { t with items := [], digs := [], counts := [], sdigs := [], accs := [], toOffer := [], reqs := [], taps := [], drivers := false }
    else { f.tri with latch := t.latch, announced := t.announced, linksDown := t.linksDown, hardT := t.hardT, degAt := t.degAt, bypass := true }
  let exe := if regs then { l.exe with insts := [], running := none, waiting := [], owed := [], pendEv := [], parked := none, slacks := [], undo := none, ovr := [],
                                       snapped := false, nextImg := none, stopN := true }
    else { f.exe with degraded := l.exe.degraded }
  let l := { l with
    regs := l.regs.filter (fun e => stbyReg e.1), c0 := f.c0, c1 := f.c1, forces := [], exe := exe, agree := f.agree, tri := tri, reint := f.reint,
    car := f.car, ina := f.ina, ecn := f.ecn, can := f.can, fio := f.fio, saf := f.saf, brg := { f.brg with cfgs := l.brg.cfgs }, prt := f.prt, dbg := f.dbg, pmc0 := f.pmc0, pmc1 := f.pmc1 }
  let l := loadConfig l.cfg l
  let l := if regs then saved.foldl (fun l e => rset l e.1 e.2) l else l
  let l := fset (setMode l (if regs && mode == .run then .run else .stop)) Rg.PRT_STATUS 2 0 (if paired l then 1 else 0)
  let l := bset l Rg.SYS_STATUS 7 (if regs then bget l Rg.SYS_STATUS 7 else l.cfg.autoRun)
  bset (fset (showForced l) Rg.TRP_AUX_STATUS 1 0 (if isSplit l then 2 else 0)) Rg.SYS_STATUS 3 false

/-- Step 15 of a wake: CORES; a resumption in RUN counts as an entry into RUN (20 R448). -/
def stbyCores (sends : Nat → Bool) (l : LaneState) : LaneState :=
  let l := startPart sends false 1 l
  if modeOf l = .run && votes l then enterRun l else l

/-- One step of a wake from STANDBY in a lane (20 Table PWR-7). -/
def stbyStep (k : Nat) (keepVdr regs pattern : Bool) (mode : Mode) (sends : Nat → Bool) (l : LaneState) : LaneState :=
  if k ≤ 2 then stepSupply k l
  else if k = 3 then startPart sends false 0xC l
  else if k = 4 then stbyMem keepVdr l
  else if k = 5 then stbyRestore regs mode l
  else if k = 6 then startPart sends pattern 0xA (takePorts l)
  else if k = 7 then startPart sends false 9 l
  else if k ≤ 11 then startPart sends false (16 - k) l
  else if k = 12 then startPart sends false 4 l
  else if k = 13 then startPart sends false 3 l
  else if k = 14 then startPart sends false 2 l
  else stbyCores sends l

/-- The time Meridian starts from: Ringmaster's own while it has kept running, some time after the stop, or the one in flash (12 R280, R291; 20 Table PWR-7; log 4). -/
def State.merStartTime (s : State) : Int :=
  match s.rm.start.rmW with
  | some t => t + ((Config.free64 s.freeCtr).toNat : Int)
  | none => s.rm.start.savedW

/-- WAKE_STEP: the next step of the wake-delay table, in a start-up or in a wake from STANDBY; after the last, tasks are released from the next boundary and the pending request counts (20 R447 to R450; 21 Table SYS-2). -/
def execWakeStep (s : State) : Res :=
  let k := s.pwrIndex
  if s.pwrState != 4 then .next s
  else if s.inStartup then
    let st := s.rm.start.step
    if st = 2 && k ≤ 4 then
      let w := s.merStartTime
      let s := (s.tick4).mapLanes (fun l => startStep k w (fun p => s.sends l.id p) l)
      .next (if k = 4 then (s.setPhase 1).setStep 3 else s.setPwr 4 (k + 1))
    else if st = 7 && 5 ≤ k then
      let s := s.mapLanes (fun l => startStep k 0 (fun p => s.sends l.id p) l)
      .next (if k = 15 then s.reachStop.evalPending else s.setPwr 4 (k + 1))
    else .next s
  else if s.rm.start.step = 8 && phaseOf s.la = 4 then
    let vs := s.voting
    let ret := bget s.la Rg.PWR_CFG 0
    let bad := k = 5 && ret && allLanes.any (fun x => !saveOk (s.lane x))
    let s := if bad then s.fsetAll Rg.PWR_STATUS 16 16 1 else s
    let regs := ret && !bget s.la Rg.PWR_STATUS 16
    let p := s.rm.pwr
    let kv := vs.all (fun x => dramKept (s.lane x))
    let s := s.mapLanes (fun l => stbyStep k kv regs p.patternWoke p.modeAt (fun q => s.sends l.id q) l)
    let s := if k = 0 then { s with rm := { s.rm with slackHist := [] } } else s
    if k < 15 then .next (s.setPwr 4 (k + 1))
    else
      let s := (s.setPwr 0 0).fsetAll Rg.PWR_STATUS 6 4 0
      let s := s.onPwr (fun _ => { off := false })
      .next (s.outcome 3 0 0 1).evalPending
  else .next s

/-! Commands of the PWR block (20 R446, R452). -/

/-- PWR_WAKE_TX: a write makes a module in RUN send the wake pattern for 12 ms on the end ports whose link is down (20 R446, Table PWR-10). -/
def execPwrWakeTx (l : Lane) (ag : Agent) (s : State) : Res :=
  let run := s.pwrState == 0
  .next (s.onLane l (fun x => guardWrite x ag Rg.PWR_WAKE_TX (fun x =>
    if run then
      ((List.range 4).filter (fun p => !bget x (Rg.CAR_PORTp_STAT p) 0 && s.sends l (lineOf p))).foldl (fun x p => emit x (.wake p (rget x Rg.PWR_WAKE_ID))) x
    else x)))

/-- PWR_RES_CLR: a maintainer clears the residency counters (20 R452, Table PWR-10). -/
def execPwrResClr (src : CmdSrc) (s : State) : Res :=
  s.rmGate (fun s =>
    if !isMaintainer src then s.answer .auth
    else ((List.range 5).foldl (fun s k => (s.rsetAll (Rg.PWR_RESs_LO k) 0).rsetAll (Rg.PWR_RESs_HI k) 0) s).answer .ok)

end Sys2Proof.Machine
end

