-- ==== Sys2Proof/Machine/Update.lean ====
section
/-! DEFINITION. Image update along the train: announcing, staging, injection, activation orders, and activation by restart or on-line (23 R495 to R509). -/

namespace Sys2Proof.Machine

/-! Frames and shown state. -/

/-- A Ringmaster type 4 frame waits in every lane for an unscheduled window of an end port (23 Table UPD-2; 13 R305). -/
def State.type4 (s : State) (port : Nat) (e : Emit) : State := s.mapLanes (fun l => queueUnsched l port 2 e)

/-- A type 4 frame on every end port. -/
def State.type4All (s : State) (e : Nat → Emit) : State := [0, 1, 2, 3].foldl (fun s p => s.type4 p (e p)) s

/-- An order that has not ended: pending, ready, GO held or refused (23 R501, Table UPD-6). -/
def OrderState.live (o : OrderState) : Bool := o.st == 1 || o.st == 2 || o.st == 3 || o.st == 7

/-- Whether the set of an order holds a type (23 Table UPD-3). -/
def hasType (o : UpdOrder) (t : ImgType) : Bool := o.types.getLsbD (imgNo t - 1)

/-- A type is locked from the receipt of an order that holds it until the order ends (23 R501). -/
def State.locked (s : State) (t : ImgType) : Bool :=
  match s.rm.order with
  | some o => o.live && hasType o.ord t
  | none => false

/-- UPD_STATUS, the slot registers and the order registers follow Ringmaster's state (23 Tables UPD-6, UPD-7). -/
def State.showUpd (s : State) : State :=
  let bits (f : ImgType → Bool) : Nat := ((allTypes.filter f).map (fun t => 2 ^ (imgNo t - 1))).foldl (· + ·) 0
  let s := s.fsetAll Rg.UPD_STATUS 4 0 (bits (fun t => s.rm.stagings.any (fun g => g.typ == t)))
  let s := s.fsetAll Rg.UPD_STATUS 12 8 (bits s.locked)
  let s := allTypes.foldl (fun s t => s.fsetAll (Rg.UPD_SLOTt_STAT (imgNo t)) 23 8 (((s.rm.stagings.find? (fun g => g.typ == t)).map (·.chunks)).getD 0)) s.showBoot
  match s.rm.order with
  | none => s
  | some o =>
    let s := s.fsetAll Rg.UPD_STATUS 16 16 (b2n o.live)
    let s := (s.rsetAll Rg.UPD_ORDER_LO (o.ord.oid.setWidth 32)).rsetAll Rg.UPD_ORDER_HI ((o.ord.oid >>> 32).setWidth 32)
    (s.fsetAll Rg.UPD_ORDER_STAT 2 0 o.st).fsetAll Rg.UPD_ORDER_STAT 11 8 o.cause

/-- W of the module, from a voting lane. -/
def State.now (s : State) : Int := s.keptTime.getD s.rm.start.savedW

/-- Staging goes on: no supply dip, and the module in RUN or STOP (23 R500). -/
def State.mayStage (s : State) : Bool :=
  s.rm.alive && !s.rm.start.dip && phaseOf s.la == 4 && s.pwrState == 0 && s.mode != .hold

/-! Staging (23 R497, R499, R500). -/

/-- The staging of a type. -/
def State.staging (s : State) (t : ImgType) : Option Staging := s.rm.stagings.find? (fun g => g.typ == t)

/-- Replace, add or remove the staging of a type. -/
def State.setStaging (s : State) (t : ImgType) (g : Option Staging) : State :=
  { s with rm := { s.rm with stagings := s.rm.stagings.filter (fun x => x.typ != t) ++ (match g with | some x => [x] | none => []) } }

/-- Replace the spare slot of a type. -/
def State.setSpare (s : State) (t : ImgType) (v : Slot) : State := { s with rm := s.rm.setImg t ((s.rm.img t).setSpare v) }

/-- ANNOUNCE: each verified slot is announced on every end port, once per second, while FORWARD_EN is 1 (23 R497, Table UPD-6). -/
def execAnnounce (s : State) : Res :=
  if !s.rm.alive || !bget s.la Rg.UPD_CFG 16 then .next s
  else
    .next (allTypes.foldl (fun s t =>
      [(s.rm.img t).a, (s.rm.img t).b].foldl (fun s x =>
        if x.st = 2 then s.type4All (fun p => .upd p 0x10 { typ := t, tag := imgTag x.img, len := x.img.length } []) else s) s) s)

/-- REQUEST for the chunk a staging waits for (23 R497). -/
def State.askChunk (s : State) (g : Staging) : State := s.type4 g.port (.upd g.port 0x11 { typ := g.typ, tag := g.tag, chunk := g.chunks } [])

/-- ANNOUNCE_RECEIVE: an announced image that differs from both slots, fits its slot, and whose type is neither being staged nor locked is pulled from that neighbour; the other neighbour is remembered when it announces the same TAG (23 R495, R497). -/
def execAnnounceReceive (port : Nat) (h : UpdHdr) (s : State) : Res :=
  if !s.mayStage then .next s
  else
    match s.staging h.typ with
    | some g => .next (if g.tag = h.tag && g.port != port then s.setStaging h.typ (some { g with other := some port }) else s)
    | none =>
      let x := s.rm.img h.typ
      let same (v : Slot) : Bool := v.img != [] && imgTag v.img == h.tag
      if same x.a || same x.b || s.locked h.typ || slotSize h.typ < h.len || h.len = 0 then .next s
      else
        let g : Staging := { typ := h.typ, tag := h.tag, len := h.len, port := port }
        .next (((s.setSpare h.typ { x.spare with st := 1 }).setStaging h.typ (some g)).askChunk g).showUpd

/-- The bytes of a chunk (23 R497). -/
def chunkOf (img : Bytes) (c : Nat) : Bytes := (img.drop (65536 * c)).take 65536

/-- REQUEST: the provider answers with the segments of the chunk in ascending SEG, each with the CRC of the chunk (23 R497, Table UPD-2). -/
def execRequest (port : Nat) (h : UpdHdr) (s : State) : Res :=
  let x := s.rm.img h.typ
  match [x.a, x.b].find? (fun v => v.st == 2 && imgTag v.img == h.tag) with
  | none => .next s
  | some v =>
    let c := chunkOf v.img h.chunk
    let crc := crc32c 0xFFFFFFFF#32 c
    let n := (c.length + 1023) / 1024
    .next (if s.rm.alive then (List.range n).foldl (fun s i =>
        let d := (c.drop (1024 * i)).take 1024
        s.type4 port (.upd port 0x12 { h with seg := i, len := d.length, crc := crc } d)) s
      else s)

/-- Length of the chunk a staging waits for. -/
def chunkLen (g : Staging) : Nat := min 65536 (g.len - 65536 * g.chunks)

/-- A staging ends without an image: the spare keeps what it held until a chunk was written (23 R496, R497). -/
def State.abandonStaging (s : State) (g : Staging) : State :=
  let x := (s.rm.img g.typ).spare
  let st := if g.chunks ≠ 0 then 3 else if s.slotGood g.typ x then 2 else if x.img = [] then 0 else 3
  let s := (s.setSpare g.typ { x with st := st }).setStaging g.typ none
  (s.mapLanes (fun l => finc l Rg.UPD_VERIFY_FAIL 31 16 1)).showUpd

/-- After 4 failures or 8 repeats the requester turns to the other neighbour, or abandons the staging (23 R497). -/
def State.turnAway (s : State) (g : Staging) : State :=
  match g.other with
  | some p =>
    let g := { g with port := p, other := none, fails := 0, repeats := 0, segs := [] }
    (s.setStaging g.typ (some g)).askChunk g
  | none => s.abandonStaging g

/-- The last chunk is stored: the slot is verified and read back, and counts as staged with EV_UPDATE_RECEIVED, or is marked failed (23 R499). -/
def State.finishSlot (s : State) (t : ImgType) (img : Bytes) : State :=
  let s := s.setStaging t none
  if receivedOk s.rm t img then ((s.setSpare t { img := img, st := 2 }).rmEvent 0x0B01 (imgNo t)).showUpd
  else ((s.setSpare t { img := img, st := 3 }).mapLanes (fun l => finc l Rg.UPD_VERIFY_FAIL 15 0 1)).showUpd

/-- A complete chunk is stored when its CRC holds, and otherwise requested again (23 R497). -/
def State.takeChunk (s : State) (g : Staging) (crc : Word) : State :=
  let n := (chunkLen g + 1023) / 1024
  let c := (List.range n).flatMap (fun i => sget (fun _ => ([] : Bytes)) g.segs i)
  if c.length = chunkLen g && crc32c 0xFFFFFFFF#32 c = crc then
    let s := s.mapLanes (fun l => finc l Rg.UPD_CNT 15 0 1)
    let old := if g.chunks = 0 then [] else (s.rm.img g.typ).spare.img
    let img := old ++ c
    let s := s.setSpare g.typ { img := img, st := 1 }
    let g := { g with chunks := g.chunks + 1, segs := [], repeats := 0 }
    if g.len ≤ 65536 * g.chunks then s.finishSlot g.typ img else ((s.setStaging g.typ (some g)).askChunk g).showUpd
  else
    let s := s.mapLanes (fun l => finc l Rg.UPD_CNT 31 16 1)
    let g := { g with segs := [], fails := g.fails + 1 }
    if 4 ≤ g.fails then s.turnAway g else (s.setStaging g.typ (some g)).askChunk g

/-- SEGMENT: a segment of the chunk outstanding is kept; a chunk with every segment is checked (23 R497). -/
def execSegment (h : UpdHdr) (d : Bytes) (s : State) : Res :=
  match s.staging h.typ with
  | none => .next s
  | some g =>
    if !s.mayStage || g.tag != h.tag || g.chunks != h.chunk || 64 ≤ h.seg || d.length != h.len then .next s
    else
      let g := { g with segs := sset (fun _ => ([] : Bytes)) g.segs h.seg d }
      let n := (chunkLen g + 1023) / 1024
      .next (if (List.range n).all (fun i => g.segs.any (fun e => e.1 == i)) then s.takeChunk g h.crc else s.setStaging h.typ (some g))

/-- CHUNK_TIMEOUT: 1 s without a complete chunk repeats the REQUEST; after 8 repeats the requester turns away (23 R497). -/
def execChunkTimeout (ty : ImgType) (s : State) : Res :=
  match s.staging ty with
  | none => .next s
  | some g =>
    if !s.mayStage then .next s
    else if 8 ≤ g.repeats then .next (s.turnAway g)
    else
      let g := { g with repeats := g.repeats + 1, segs := [] }
      .next ((s.setStaging ty (some g)).askChunk g)

/-- IMAGE_INJECT: a MAINTAINER session writes an image into the spare slot of a type that is not locked, which abandons a staging of it; the slot is verified as after staging (23 R495, R498, R499). -/
def execImageInject (src : CmdSrc) (ty : ImgType) (img : Bytes) (s : State) : Res :=
  s.rmGate (fun s =>
    if !isMaintainer src then s.answer .auth
    else if s.locked ty || slotSize ty < img.length then s.answer .refused
    else if s.rm.start.dip then s.answer .busy
    else
      let s := match s.staging ty with
        | some g => s.abandonStaging g
        | none => s
      (s.finishSlot ty img).answer .ok)

/-! Orders (23 R501, R502). -/

/-- The bytes 0x00 to 0x47 of an ORDER body (23 Table UPD-3). -/
def orderBytes (o : UpdOrder) : Bytes :=
  leBytes 8 o.oid.toNat ++ leInt 8 o.actTime ++ leInt 8 o.deadline ++ leBytes 1 o.types.toNat ++ leBytes 1 (b2n o.restartOk + 2 * b2n o.precond)
    ++ leBytes 6 0 ++ (List.range 5).flatMap (fun i => leBytes 8 (o.tags.getD i 0).toNat)

/-- The TAG an order gives a type. -/
def orderTag (o : UpdOrder) (t : ImgType) : DWord := o.tags.getD (imgNo t - 1) 0

/-- The types of an order's set. -/
def orderTypes (o : UpdOrder) : List ImgType := allTypes.filter (hasType o)

/-- Whether a module keeps an order (23 R501). -/
def State.orderOk (s : State) (o : UpdOrder) : Bool :=
  let now := s.now
  sigVerifies s.rm false (orderBytes o) o.sig && !(hasType o .ringmaster && (orderTypes o).length != 1)
    && (orderTypes o).all (fun t => orderTag o t != 0) && decide (5000000000 ≤ o.actTime - o.deadline) && decide (now ≤ o.deadline)
    && decide (o.actTime ≤ now + 604800000000000)

/-- The slot of a type that holds the image with a TAG. -/
def State.slotWith (s : State) (t : ImgType) (tag : DWord) : Option Slot :=
  [(s.rm.img t).selected, (s.rm.img t).spare].find? (fun x => x.img != [] && imgTag x.img == tag)

/-- The image of a type after an order: the one its TAG names, or the running one. -/
def State.imageAfter (s : State) (o : UpdOrder) (t : ImgType) : Bytes :=
  if hasType o t then ((s.slotWith t (orderTag o t)).map (·.img)).getD [] else (s.rm.img t).selected.img

/-- The parts of a configuration that an on-line change may alter, taken from another one (06 Table MOD-6). -/
def onlinePart (old new : CfgImage) : CfgImage :=
  let free (a : Nat) : Bool := (List.range 16).any (fun t => a == Rg.CYC_TASKt_CFG t || a == Rg.CYC_TASKt_ENTRY t) || (List.range 32).any (fun p => a == Rg.CYC_CPp p)
  { new with build := old.build, vitalBuild := old.vitalBuild, stopImg := old.stopImg, stopBufs := old.stopBufs,
             regs := (new.regs.filter (fun e => !free e.1)) ++ (old.regs.filter (fun e => free e.1)) }

/-- Whether two configurations differ only in what an on-line change may alter. -/
def cfgOnline (old new : CfgImage) : Bool := onlinePart old new == onlinePart old old

/-- The set of an order activates on-line: types 0x03 and 0x05 only, MIGRATION, a map that names the running image, only allowed differences, and at most 16 migration cycles (23 R506; 06 R147, R149, Table MOD-6). -/
def State.onlineOk (s : State) (o : UpdOrder) : Bool :=
  let l := s.lane (s.voting.headD .a)
  let img := s.imageAfter o .vital
  let a := parseApp img
  let old := l.app.getD {}
  hasType o .vital && (orderTypes o).all (fun t => t == .vital || t == .config) && a.migration && a.oldBuild == old.build && a.oldSymtab == old.symtab
    && a.split == old.split && a.vdrBase == old.vdrBase && a.vdrLen == old.vdrLen && mapOk old img && decide (migCycles l (migCost a) ≤ 16)
    && (!hasType o .config || cfgOnline { l.cfg with build := 0 } { Config.cfgOf (s.imageAfter o .config) with build := 0 })

/-- Why the module refuses an order: a cause of Table UPD-5, 0 when it does not (23 R502; 21 R458). -/
def State.refusal (s : State) (o : UpdOrder) : Nat :=
  let ts := orderTypes o
  let l := s.lane (s.voting.headD .a)
  let held (t : ImgType) : Option Slot := s.slotWith t (orderTag o t)
  if ts.any (fun t => (held t).isNone) then 1
  else if ts.any (fun t => (held t).any (fun x => x.st == 3 || !imgVerifies s.rm t x.img)) then 2
  else
    let c := if hasType o .config then { Config.cfgOf (s.imageAfter o .config) with build := imgBuild (s.imageAfter o .config) } else l.cfg
    let v := s.imageAfter o .vital
    let x := s.imageAfter o .auxiliary
    let a := parseApp v
    let lane := ts.any (fun t => t != .ringmaster && t != .executive)
    if lane && (!c.oneMode || !firewallOk c || imgBuild v != c.vitalBuild || a.split != c.split
        || (c.split && (imgBuild x != c.auxBuild || !disjoint c.auxWinBase (c.auxWinMiB * 1048576) a.vdrBase a.vdrLen))) then 3
    else if ts.any (fun t => !headerOk (s.imageAfter o t) t) || (lane && !loaderOk (loadConfig c l) v) || (lane && c.split && !auxOk x)
        || (a.migration && hasType o .vital && a.oldBuild == (l.app.getD {}).build && !mapOk (l.app.getD {}) v) then 4
    else if !hasType o .ringmaster && !s.onlineOk o && s.mode == .run && !o.restartOk then 5
    else 0

/-- Every valid precondition holds in the agreed input image of the latest snapshot (23 R502, Table UPD-6). -/
def precondOk (l : LaneState) : Bool :=
  (List.range 8).all (fun k =>
    let v := rget l (Rg.UPD_PRECONDk k)
    !v.getLsbD 31 || (sget zByte l.mem (inBase + getBits v 18 3)).getLsbD (getBits v 2 0) == v.getLsbD 19)

/-- The position in force of the module. -/
def State.position (s : State) : Nat := fget (s.lane (s.voting.headD .a)) Rg.CAR_STATUS 13 8

/-- The topology count in force. -/
def State.topo (s : State) : Word := rget (s.lane (s.voting.headD .a)) Rg.INA_TOPO

/-- The module may be ready for an order: a position, RUN or STOP, and the preconditions (23 R502). -/
def State.mayBeReady (s : State) (o : UpdOrder) : Bool :=
  s.position != 0 && s.mode != .hold && !s.safe && s.pwrState == 0 && phaseOf s.la == 4 && (!o.precond || precondOk (s.lane (s.voting.headD .a)))

/-- The READY map (23 Table UPD-6). -/
def State.readyMap (s : State) : DWord := rget64 s.la Rg.UPD_READY_LO Rg.UPD_READY_HI

/-- Replace the READY map. -/
def State.setReady (s : State) (v : DWord) : State := s.mapLanes (fun l => rset64 l Rg.UPD_READY_LO Rg.UPD_READY_HI v)

/-- Replace the order held. -/
def State.setOrder (s : State) (o : OrderState) : State := { s with rm := { s.rm with order := some o } }

/-- The module's own state toward its order enters the maps; a changed topology count clears them first, and a bit once set stays (23 R502). -/
def State.ownReady (s : State) (o : OrderState) : State :=
  let moved := o.topo != s.topo
  let s := if moved then s.setReady 0 else s
  let o := if moved then { o with topo := s.topo, refused := 0 } else o
  let p := s.position
  let bit : DWord := 1#64 <<< p
  if o.st ≠ 1 ∧ !moved then s.setOrder o
  else if p = 0 then s.setOrder o
  else if o.st = 2 then (s.setReady (s.readyMap ||| bit)).setOrder o
  else if o.st = 3 then s.setOrder o
  else
    let c := if o.st = 7 then o.cause else s.refusal o.ord
    if c ≠ 0 then s.setOrder { o with st := 7, cause := c, refused := o.refused ||| bit }
    else if s.mayBeReady o.ord then (s.setReady (s.readyMap ||| bit)).setOrder { o with st := 2 }
    else s.setOrder o

/-- The module takes a decision for its order, the first of which is final, and passes it on (23 R503). -/
def State.decide_ (s : State) (o : OrderState) (go : Bool) : State :=
  let s := s.type4All (fun p => .updDecision p o.ord.oid go)
  if o.final.isSome then s else s.setOrder { o with final := some go, st := if go then 3 else 5 }

/-- The module leads the composition (13 R312). -/
def State.leads (s : State) : Bool := isLeader (s.lane (s.voting.headD .a))

/-- The module's own state enters the maps, and the leader cancels at once when a module refuses (23 R502, R503). -/
def State.readyNow (s : State) : State :=
  match s.rm.order with
  | none => s
  | some o =>
    let s := s.ownReady o
    match s.rm.order with
    | none => s
    | some o => (if s.leads && o.live && o.refused != 0 && o.final.isNone then s.decide_ o false else s).showUpd

/-- What an order does in a Carousel cycle: READY goes out on both ends until the order ends, and the leader repeats its decision until ACT_TIME + 60 s (23 R502, R503). -/
def State.orderCycle (s : State) : State :=
  if !s.rm.alive then s
  else
    let s := match s.rm.order with
      | some o => if o.live then s.readyNow else s
      | none => s
    match s.rm.order with
    | none => s
    | some o =>
      let s := if o.live then s.type4All (fun p => .updReady p o.topo o.ord.oid s.readyMap o.refused) else s
      match o.final with
      | some go => if s.leads && decide (s.now ≤ o.ord.actTime + 60000000000) then s.type4All (fun p => .updDecision p o.ord.oid go) else s
      | none => s

/-- CAROUSEL_CYCLE_START: compare unit 1 starts a Carousel cycle in a lane (13 R296). At the first voting lane's, the order held does what it does in each cycle (23 R502, R503). -/
def execCarouselCycleStart (l : Lane) (c : Nat) (s : State) : Res :=
  let t := (s.onLane l (fun x => carCycleStart x (s.sends l) c)).carAgree
  .next (if s.voting.headD .a = l then t.orderCycle else t)

/-- ORDER: an order that passes its checks is held, unless another may not be replaced, and goes on out of the other end (23 R501). -/
def execOrder (o : UpdOrder) (s : State) : Res :=
  if !s.rm.alive || !s.orderOk o then .next s
  else
    let free := match s.rm.order with
      | none => true
      | some h => h.ord.oid != o.oid && (!h.live || (h.final.isNone && decide (s.now < h.ord.deadline)))
    if !free then .next s
    else
      let s := (s.setReady 0).setOrder { ord := o, st := 1, topo := s.topo }
      .next ((s.fsetAll Rg.UPD_ORDER_STAT 3 3 0).type4All (fun p => .updOrder p o)).readyNow

/-- READY: maps received under the module's own topology count are joined to its own (23 R502). -/
def execReady (topo : Word) (oid rdy refd : DWord) (s : State) : Res :=
  match s.rm.order with
  | none => .next s
  | some o =>
    if !s.rm.alive || !o.live || o.ord.oid != oid then .next s
    else
      let s := s.ownReady o
      match s.rm.order with
      | none => .next s
      | some o =>
        let s := if topo = s.topo then (s.setReady (s.readyMap ||| rdy)).setOrder { o with refused := o.refused ||| refd } else s
        .next s.readyNow

/-- DECISION: the first decision for the order held is final: GO is held, CANCEL ends the order (23 R503). -/
def execDecision (oid : DWord) (go : Bool) (s : State) : Res :=
  match s.rm.order with
  | none => .next s
  | some o => .next (if s.rm.alive && o.live && o.ord.oid == oid then (s.decide_ o go).showUpd else s)

/-- ORDER_DEADLINE: the leader sends GO when every position of the composition is ready, and CANCEL otherwise (23 R503). -/
def execOrderDeadline (s : State) : Res :=
  match s.rm.order with
  | none => .next s
  | some o =>
    if !s.rm.alive || !s.leads || !o.live || o.final.isSome then .next s
    else
      let n := fget (s.lane (s.voting.headD .a)) Rg.INA_RESULT 13 8
      let all := (List.range n).all (fun i => s.readyMap.getLsbD (i + 1))
      .next (s.decide_ o (0 < n && all && o.refused == 0)).showUpd

/-! Activation (23 R504 to R508). -/

/-- The selections of an order's set switch at one moment and become provisional; EV_UPDATE_ACTIVATED for each type (23 R505, R508; 21 R458). -/
def State.switchSet (s : State) (o : UpdOrder) : State :=
  let n := s.rm.selClock + 1
  let s := (orderTypes o).foldl (fun s t =>
    let x := s.rm.img t
    let x := if imgTag x.selected.img == orderTag o t && x.selected.img != [] then x else { x.switched n with provisional := true }
    ({ s with rm := s.rm.setImg t x }).rmEvent 0x0B02 (imgNo t)) s
  { s with rm := { s.rm with selClock := n } }

/-- The order held has activated, late when more than a base cycle after its time (23 R504, Table UPD-6). -/
def State.activated (s : State) (o : OrderState) : State :=
  let late := decide (o.ord.actTime + (baseNs s.la : Int) < s.now)
  ((s.setOrder { o with st := 4 }).fsetAll Rg.UPD_ORDER_STAT 3 3 (b2n late)).showUpd

/-- Activation by restart: the selections switch and the module restarts with cause UPDATE (23 R506). -/
def State.activateRestart (s : State) (o : OrderState) : State := ((s.switchSet o.ord).activated o).restart 6

/-- A lane holds an on-line change for the first quiet boundary at or after its time (06 R147). -/
def holdChange (o : UpdOrder) (v : Bytes) (c : Option Bytes) (l : LaneState) : LaneState :=
  if votes l then
    { l with exe := { l.exe with activate := some o.actTime, migNew := some (parseApp v), migDone := false,
                                 migCfg := c.map (fun b => { Config.cfgOf b with build := imgBuild b }) } }
  else l

/-- ACTIVATION: a module that holds GO activates at ACT_TIME. In HOLD, in a transition, or while a precondition fails it waits. In STANDBY and DORMANT the selections switch for the next wake; type 0x01 restarts Ringmaster alone; other sets change on-line or by restart (23 R504 to R507). -/
def execActivation (s : State) : Res :=
  match s.rm.order with
  | none => .next s
  | some o =>
    let x := s.lane (s.voting.headD .a)
    if o.st ≠ 3 || !s.rm.alive || s.now < o.ord.actTime || o.ord.actTime + 60000000000 < s.now then .next s
    else if s.pwrState = 2 || s.pwrState = 3 then .next (((s.switchSet o.ord).activated o).onPwr (fun p => { p with dormantPath := true }))
    else if s.pwrState ≠ 0 || phaseOf s.la ≠ 4 || s.mode = .hold || (o.ord.precond && !precondOk x) then .next s
    else if hasType o.ord .ringmaster then .next (((s.switchSet o.ord).activated o).rmDown 3)
    else if s.onlineOk o.ord then
      .next (s.mapLanes (holdChange o.ord (s.imageAfter o.ord .vital) (if hasType o.ord .config then some (s.imageAfter o.ord .config) else none)))
    else .next (s.activateRestart o)

/-- ACTIVATION_WINDOW_EXPIRY: a module that has not activated by ACT_TIME + 60 s keeps its images and reports MISSED (23 R504). -/
def execActivationWindowExpiry (s : State) : Res :=
  match s.rm.order with
  | none => .next s
  | some o =>
    if o.st ≠ 3 || s.migrating then .next s
    else
      let s := s.mapLanes (fun l => { l with exe := { l.exe with activate := none, migNew := none, migCfg := none } })
      .next (s.setOrder { o with st := 6 }).showUpd

/-- CONFIRM_TIME_EXPIRY: the module has spent CONFIRM_TIME in RUN or STOP without entering the safe state, and the selection is final (23 R508). -/
def execConfirmTimeExpiry (ty : ImgType) (s : State) : Res :=
  .next (if s.rm.alive && (ty == .ringmaster || (phaseOf s.la == 4 && s.pwrState == 0 && !s.safe)) then
      ({ s with rm := s.rm.setImg ty { (s.rm.img ty) with provisional := false } }).showBoot
    else s)

end Sys2Proof.Machine
end

