-- ==== Sys2Proof/Machine/Online.lean ====
section
/-! DEFINITION. On-line change: the switch at a quiet boundary, the migration cycles, the force table's revision, and the change that turns into a restart (06 R147 to R152). -/

namespace Sys2Proof.Machine

/-- A lane may begin the migration at T(n + 1): the boundary is quiet and not before the activation time, and the executive has committed cycle n (06 R147). -/
def maySwitch (l : LaneState) : Bool :=
  match l.exe.activate with
  | some t => modeOf l != .hold && quietNext l && l.exe.owed == [] && decide (t ≤ tOf l (l.exe.n + 1)) && l.exe.mig.isNone
  | none => false

/-- The migration begins in a lane: k base cycles from m on, as its cost needs; a reintegration is abandoned (06 R149 to R151). -/
def beginMigration (l : LaneState) : LaneState :=
  if !votes l then l
  else
    let k := migCycles l (migCost (l.exe.migNew.getD {}))
    let l := dropReint l
    { l with exe := { l.exe with mig := some (l.exe.n + 1, k), activate := none, migDone := false, scratch := [] } }

/-- ONLINE_CHANGE_SWITCH: the first quiet boundary at or after the activation time, in every voting lane: the selections switch and the migration begins (06 R147; 23 R506). -/
def execOnlineChangeSwitch (s : State) : Res :=
  if s.voting = [] || s.safe || !s.voting.all (fun x => maySwitch (s.lane x)) then .next s
  else
    let s := match s.rm.order with
      | some o => if o.st = 3 && s.rm.alive then (s.switchSet o.ord).activated o else s
      | none => s
    .next (s.mapLanes beginMigration)

/-! The work of the migration cycles (06 R150). -/

/-- The objects whose state is carried over: leaves whose symbol and type match (06 R148, Table MOD-8). -/
def carried (a : AppImage) : List MigEnt := a.migr.filter (fun e => e.matched && e.kind != 5)

/-- The items of a new configuration that an on-line change loads: the schedule registers and the stop contents (06 R150 step 4, Table MOD-6). -/
def loadOnlineCfg (c : CfgImage) (l : LaneState) : LaneState :=
  let regs := c.regs.filter (fun e => (List.range 16).any (fun t => e.1 == Rg.CYC_TASKt_CFG t || e.1 == Rg.CYC_TASKt_ENTRY t) || (List.range 32).any (fun p => e.1 == Rg.CYC_CPp p))
  let l := regs.foldl (fun l e => rset l e.1 e.2) { l with cfg := c }
  rset64 l (Rg.SYS_BUILDt_LO 5) (Rg.SYS_BUILDt_HI 5) c.build

/-- The matching objects are copied to scratch, and the new code, initial data and schedule are loaded; a task slot that the new image creates is released with FIRST_RUN (06 R150 steps 3 and 4). -/
def migrateLoad (a : AppImage) (l : LaneState) : LaneState :=
  let sc := (carried a).map (fun e => (e.newAddr, mrd l e.oldAddr e.len))
  let old := (l.app.getD {}).tasks.map (·.slot)
  let l := loadApp a l
  let l := match l.exe.migCfg with
    | some c => loadOnlineCfg c l
    | none => l
  let fresh := (a.tasks.map (·.slot)).filter (fun t => !old.contains t)
  { l with exe := { l.exe with scratch := sc, migNew := none, migCfg := none, firstRun := addNew l.exe.firstRun fresh } }

/-- A force under the new image: the location of the KIND 5 entry with its symbol and type (06 R152). -/
def movedForce (a : AppImage) (e : ForceEnt) : Option ForceEnt :=
  match a.migr.find? (fun x => x.kind == 5 && x.sym == e.f.sym && x.typeHash == e.f.typeHash) with
  | some x => some { e with f := { e.f with area := BitVec.ofNat 8 x.area, width := BitVec.ofNat 8 x.width, loc := BitVec.ofNat 32 x.newAddr } }
  | none => none

/-- The force table is revised in entry order: a force without an entry, or whose new location overlaps an earlier survivor, is removed with its event (06 R152). -/
def reviseForces (a : AppImage) (l : LaneState) : LaneState :=
  showForced (l.forces.foldl (fun l e =>
    match movedForce a e.2 with
    | some m =>
      if l.forces.any (fun x => x.1 < e.1 && forceMeets x.2.f m.f) then
        raiseV { l with forces := l.forces.filter (fun x => x.1 != e.1) } 0x0203 (e.2.f.sym.toNat % 2 ^ 32)
      else { l with forces := l.forces.map (fun x => if x.1 = e.1 then (x.1, m) else x) }
    | none => raiseV { l with forces := l.forces.filter (fun x => x.1 != e.1) } 0x0203 (e.2.f.sym.toNat % 2 ^ 32)) l)

/-- The last migration cycle: the scratch copies reach their new addresses, the forces are revised, and the last COMMIT offers EV_ONLINE_CHANGE_DONE (06 R150, R152). -/
def migrateEnd (l : LaneState) : LaneState :=
  let l := l.exe.scratch.foldl (fun l e => mwr l e.1 e.2) l
  let l := reviseForces (l.app.getD {}) l
  raiseV { l with exe := { l.exe with scratch := [], migDone := true } } 0x0210 0

/-- MIGRATION_CYCLE: the work of a migration cycle in a lane, after its AGREE: the first cycle copies and loads, the last writes the copies and revises the forces (06 R150). -/
def execMigrationCycle (l : Lane) (s : State) : Res :=
  .next (s.onLane l (fun x =>
    match x.exe.mig with
    | none => x
    | some (m, k) =>
      if !execUp x || x.exe.n < m || m + k ≤ x.exe.n || !x.agree.applied then x
      else
        let x := match x.exe.migNew with
          | some a => migrateLoad a x
          | none => x
        if x.exe.n + 1 = m + k && !x.exe.migDone then migrateEnd x else x))

/-- MIG_WAIT_EXPIRY: no quiet boundary came within MIG_WAIT of the activation time: EV_ONLINE_CHANGE_DONE with data 1, and the set activates by restart (06 R147, R150). -/
def execMigWaitExpiry (s : State) : Res :=
  if !s.voting.any (fun x => (s.lane x).exe.activate.isSome && (s.lane x).exe.mig.isNone) then .next s
  else
    match s.rm.order with
    | some o =>
      if o.st ≠ 3 then .next s
      else
        let x := s.lane (s.voting.headD .a)
        let r : Report := { code := 0x0210, data := 1, path := 2, lanes := BitVec.ofNat 3 (fget x Rg.TRI_STATUS 6 4), cycle := cycleNo x,
                            time := wNow x, timeValid := s.timeValid }
        let s := { s with rm := { s.rm with evr := { s.rm.evr with reports := s.rm.evr.reports ++ [r] } } }
        .next (s.activateRestart o)
    | none => .next s

end Sys2Proof.Machine
end

