-- ==== Sys2Proof/Machine/Snet.lean ====
section
/-! DEFINITION. The Safety Net protocol, as the module that needs images and as a provider (21 R468 to R471, Tables SYS-7, SYS-8). -/

namespace Sys2Proof.Machine

/-- The module is in Safety Net. -/
def State.inSnet (s : State) : Bool := phaseOf s.la == 6

/-- The types for which no slot holds a verifying image (21 R466, R469). -/
def State.missing (s : State) : List ImgType := s.requiredTypes.filter (fun t => !s.hasImage t)

/-- Whether a message reaches the module in Safety Net: its header is right and it names this module (21 R469). -/
def State.forMe (s : State) (m : SnetMsg) : Bool := s.inSnet && m.okHdr && m.eui == Config.eui

/-- A Ringmaster in RUN or STOP provides for its neighbours (21 R468). -/
def State.provides (s : State) : Bool := s.rm.alive && phaseOf s.la == 4 && s.mode != .hold

/-- Ringmaster sends a Safety Net message with the EUI-64 of the module in Safety Net. -/
def State.sendSnet (s : State) (op : Nat) (m : SnetMsg) : State := s.rmEmit (.snet op m)

/-- The wanted BUILD_ID of a type (21 Table SYS-8). -/
def State.wanted (s : State) (t : ImgType) : DWord := sget (fun _ => (0 : DWord)) s.rm.start.lastBuilds (imgNo t)

/-- The body of HELLO: SYS_ID, serial number, entry cause, mask of types missing, and the wanted builds (21 Table SYS-8). -/
def State.helloBody (s : State) : Bytes :=
  let mask := (s.missing.map (fun t => 2 ^ (imgNo t - 1))).foldl (· + ·) 0
  leBytes 4 0x0396000A ++ leBytes 8 Config.serial.toNat ++ leBytes 1 s.rm.snet.cause ++ leBytes 1 mask ++ leBytes 2 0
    ++ allTypes.flatMap (fun t => leBytes 8 (s.wanted t).toNat)

/-- HELLO: the module in Safety Net says what it lacks, every second (21 R468, Table SYS-8). -/
def execHello (s : State) : Res :=
  if !s.inSnet then .next s
  else
    let n := s.rm.snet.seq
    .next (({ s with rm := { s.rm with snet := { s.rm.snet with seq := (n + 1) % 65536 } } }).sendSnet 1 { seq := n, eui := Config.eui, data := s.helloBody })

/-- IDENTIFY: the module answers with HELLO, repeating SEQ (21 Tables SYS-7, SYS-8). -/
def execIdentify (m : SnetMsg) (s : State) : Res :=
  .next (if s.forMe m then s.sendSnet 1 { seq := m.seq, eui := Config.eui, data := s.helloBody } else s)

/-- A verifying image of a type, the selected slot's first. -/
def State.imageOf (s : State) (t : ImgType) : Option Bytes :=
  let x := s.rm.img t
  if s.slotGood t x.selected then some x.selected.img else if s.slotGood t x.spare then some x.spare.img else none

/-- A verifying image of a type with a BUILD_ID. -/
def State.imageWith (s : State) (t : ImgType) (b : DWord) : Option Bytes :=
  [(s.rm.img t).selected, (s.rm.img t).spare].findSome? (fun x => if s.slotGood t x && imgBuild x.img == b then some x.img else none)

/-- HELLO_RECEIVE: a provider offers, for each type the sender lacks, its verifying image of the wanted BUILD_ID (21 R468). -/
def execHelloReceive (m : SnetMsg) (s : State) : Res :=
  if !s.provides || !m.okHdr then .next s
  else
    let mask := leNat ((m.data.drop 13).take 1)
    .next (allTypes.foldl (fun s t =>
      let b : DWord := BitVec.ofNat 64 (leNat ((m.data.drop (8 + 8 * imgNo t)).take 8))
      if mask / 2 ^ (imgNo t - 1) % 2 = 0 then s
      else match s.imageWith t b with
        | some img => s.sendSnet 2 { seq := m.seq, eui := m.eui, typ := t, len := img.length, build := b, version := BitVec.ofNat 32 (imgField img 0x0C 4) }
        | none => s) s)

/-- READ: a provider answers with the bytes asked for, from a verifying slot (21 R468, Table SYS-8). -/
def execRead (m : SnetMsg) (s : State) : Res :=
  if !s.provides || !m.okHdr || m.len = 0 || 1024 < m.len then .next s
  else
    match s.imageOf m.typ with
    | some img =>
      .next (if m.offset < img.length then s.sendSnet 4 { m with data := (img.drop m.offset).take m.len } else s)
    | none => .next s

/-- RESULT: a provider receives it; the spec gives it nothing further to do (21 Table SYS-8). -/
def execResult (_m : SnetMsg) (s : State) : Res := .next s

/-- Bytes of the next READ of an offer. -/
def readLen (o : SnetOffer) : Nat := min 1024 (o.len - o.off)

/-- Send the READ that an offer waits for, with a SEQ of its own (21 R469). -/
def State.sendRead (s : State) (o : SnetOffer) : State :=
  let n := s.rm.snet.seq
  let o := { o with seq := n }
  let os := s.rm.snet.offers.map (fun p => if p.typ = o.typ then o else p)
  ({ s with rm := { s.rm with snet := { s.rm.snet with seq := (n + 1) % 65536, offers := os } } }).sendSnet 3
    { seq := n, eui := Config.eui, typ := o.typ, offset := o.off, len := readLen o }

/-- OFFER: the module takes one offer at a time for each type it lacks; the BUILD_ID of a configuration or application must be the wanted one unless the offer came over the service port. A longer image than the buffer or the slot gets RESULT 3, any other offer RESULT 5 (21 R469). -/
def execOffer (svc : Bool) (m : SnetMsg) (s : State) : Res :=
  if !s.forMe m then .next s
  else
    let t := m.typ
    let answer (c : Nat) : State := s.sendSnet 5 { seq := m.seq, eui := Config.eui, typ := t, code := BitVec.ofNat 8 c, build := m.build }
    let anyBuild := t == .ringmaster || t == .executive
    if !s.missing.contains t || s.rm.snet.offers.any (fun o => o.typ == t) || !(svc || anyBuild || m.build == s.wanted t) then .next (answer 5)
    else if 33554432 < m.len || slotSize t < m.len then .next (answer 3)
    else
      let o : SnetOffer := { typ := t, len := m.len, build := m.build, svc := svc }
      .next (({ s with rm := { s.rm with snet := { s.rm.snet with offers := s.rm.snet.offers ++ [o] } } }).sendRead o)

/-- A complete image is written to the slot of its type that holds no verifying image, or to slot A (21 R470). -/
def State.writeSnet (s : State) (t : ImgType) (img : Bytes) : State :=
  let x := s.rm.img t
  let v : Slot := { img := img, st := 2 }
  let toB := s.slotGood t x.a && !s.slotGood t x.b
  let s := { s with rm := s.rm.setImg t (if toB then { x with b := v } else { x with a := v }) }
  ({ s with rm := { s.rm with snet := { s.rm.snet with written := addNew s.rm.snet.written [t] } } }).showBoot

/-- DATA: the bytes of the READ outstanding are added and the next READ follows; a complete image is verified and written, or refused with RESULT 1 or 2 (21 R469, R470). -/
def execData (m : SnetMsg) (s : State) : Res :=
  if !s.forMe m then .next s
  else
    match s.rm.snet.offers.find? (fun o => o.typ == m.typ && o.seq == m.seq && o.off == m.offset && readLen o == m.data.length) with
    | none => .next s
    | some o =>
      let o := { o with off := o.off + m.data.length, buf := o.buf ++ m.data, repeats := 0 }
      if o.off < o.len then .next (s.sendRead o)
      else
        let s := { s with rm := { s.rm with snet := { s.rm.snet with offers := s.rm.snet.offers.filter (fun p => p.typ != o.typ) } } }
        let code := if !imgVerifies s.rm o.typ o.buf then 1 else if !receivedOk s.rm o.typ o.buf then 2 else 0
        let s := if code = 0 then s.writeSnet o.typ o.buf else s
        .next (s.sendSnet 5 { seq := m.seq, eui := Config.eui, typ := o.typ, code := BitVec.ofNat 8 code, build := o.build })

/-- READ_REPEAT_TIMEOUT: 200 ms without a matching DATA repeat the READ of the oldest offer; after 8 repeats it is abandoned (21 R469). -/
def execReadRepeatTimeout (s : State) : Res :=
  match s.rm.snet.offers with
  | [] => .next s
  | o :: os =>
    if !s.inSnet then .next s
    else if 8 ≤ o.repeats then .next { s with rm := { s.rm with snet := { s.rm.snet with offers := os } } }
    else
      let o := { o with repeats := o.repeats + 1 }
      let s := { s with rm := { s.rm with snet := { s.rm.snet with offers := o :: os } } }
      .next (s.sendSnet 3 { seq := o.seq, eui := Config.eui, typ := o.typ, offset := o.off, len := readLen o })

/-- The module leaves Safety Net: the written slots are selected with their counts 0, and it restarts (21 R471). -/
def State.leaveSnet (s : State) : State :=
  let s := s.rm.snet.written.foldl (fun s t =>
    let x := s.rm.img t
    let n := s.rm.selClock + 1
    let toB := !s.slotGood t x.a || (s.slotGood t x.b && x.selB)
    { s with rm := { (s.rm.setImg t { x with selB := toB, count := 0, changed := x.changed || toB != x.selB, selOrder := n, provisional := false }) with selClock := n } }) s
  s.restart 10

/-- SAFETY_NET_EXIT: 2 s after every required type has a verifying slot, the module restarts from them (21 R471). -/
def execSafetyNetExit (s : State) : Res :=
  .next (if s.inSnet && s.missing == [] then s.leaveSnet else s)

/-- SNET_RESTART: a RESTART message brings the exit forward, or gets RESULT 6 while a type is still missing (21 R471). -/
def execSnetRestart (m : SnetMsg) (s : State) : Res :=
  if !s.forMe m then .next s
  else match s.missing with
    | [] => .next s.leaveSnet
    | t :: _ => .next (s.sendSnet 5 { seq := m.seq, eui := Config.eui, typ := t, code := 6 })

end Sys2Proof.Machine
end

