-- ==== Sys2Proof/Machine/Twin.lean ====
section
/-! DEFINITION. A failed Tightrope join and a checker fault, and debug on one lane (08 R177, R180, R190 to R193; 04 R115). -/

namespace Sys2Proof.Machine

/-- COMPARE_TIMEOUT: one core raises a request that the other does not match within 1 µs, or the checker stays at the spacer; only a twin that compares sees it (08 R177, R178, R180). -/
def execCompareTimeout (l : Lane) (k : JoinFail) (s : State) : Res :=
  .next (s.onVote l (fun x =>
    if fget x Rg.TRP_STATUS 1 0 ≠ 0 || x.c0.halted then x
    else
      match k with
      | .core0Only => twinStop x 23 0 1 0 1 0x0110 (23 + 32)
      | .core1Only => twinStop x 23 0 0 1 1 0x0110 (23 + 32)
      | .spacer => twinStop x 0 0 0 0 2 0x0111 0))

/-! Debug (08 R190 to R193). -/

/-- Why an attachment is refused; 0 when it is accepted (08 R190, R192, Table TRP-5). -/
def attachReason (l : LaneState) (src : CmdSrc) (aux solo : Bool) : Nat :=
  if !bget l Rg.TRP_MODE 1 then 1
  else if !isMaintainer src then 2
  else if !aux && !votes l then 3
  else if isJoiner l && 1 ≤ reintPhase l && reintPhase l ≤ 5 then 4
  else if !aux && !solo && ((voters l).filter (· != l.id)).length < 2 then 5
  else 0

/-- An attachment is refused with a reason. -/
def attachRefused (l : LaneState) (r : Nat) : LaneState :=
  bset (fset { l with dbg := { l.dbg with pend := none } } Rg.TRP_DBG_STATUS 7 4 r) Rg.TRP_DBG_STATUS 2 true

/-- DEBUG_ATTACH: accepted for the next boundary, or refused with its reason (08 R190, R191). -/
def execDebugAttach (l : Lane) (src : CmdSrc) (aux solo : Bool) (s : State) : Res :=
  s.rmGate (fun s => s.onLane l (fun x =>
    let r := attachReason x src aux solo
    if r ≠ 0 then attachRefused x r
    else fset { x with dbg := { x.dbg with pend := some (aux, solo) } } Rg.TRP_DBG_STATUS 7 2 0))

/-- Every lane sees lane `j` withdrawn: its items no longer count, the others may run degraded or, under SOLO, alone, and ports pass at the boundary (08 R191, R192; 09 R210; 01 R19). -/
def withdrawn (j : Lane) (solo : Bool) (l : LaneState) : LaneState :=
  let l := setLaneState (setVoter l j false) j 4
  let n := (voters l).length
  let t := l.tri
  let l := { l with tri := { t with digs := t.digs.filter (fun d => d.sender != j || t.released.any (fun r => r.stream == d.stream && r.seq == d.seq)),
                                    degAt := if t.degAt.isNone && n = 2 then some (localNs l) else t.degAt } }
  takePorts (checkVoters (bset l Rg.TRI_STATUS 10 (solo && n == 1)))

/-- The chosen lane itself: Tightrope stops comparing and its outputs and GSS go off (08 R191). -/
def uncompared (l : LaneState) : LaneState :=
  let l := fioOff { l with tri := { l.tri with drivers := false }, dbg := { pend := none, core1 := false } }
  bset (bset (fset l Rg.TRP_STATUS 1 0 2) Rg.TRP_STATUS 7 true) Rg.TRP_DBG_STATUS 0 true

/-- DEBUG_ATTACH_EFFECT: an accepted attachment takes effect at the next boundary that is not in a migration; conditions that no longer hold refuse it. Attachment to an auxiliary core does not affect voting (08 R190 to R192). -/
def execDebugAttachEffect (l : Lane) (s : State) : Res :=
  let x := s.lane l
  match x.dbg.pend with
  | none => .next s
  | some (aux, solo) =>
    if x.exe.mig.isSome then .next s
    else if aux then
      .next (s.onLane l (fun x => bset (bset { x with dbg := { pend := none, core1 := true } } Rg.TRP_STATUS 7 true) Rg.TRP_DBG_STATUS 0 true))
    else if !votes x then .next (s.onLane l (fun x => attachRefused x 3))
    else if !solo && ((voters x).filter (· != l)).length < 2 then .next (s.onLane l (fun x => attachRefused x 5))
    else .next ((s.onLane l uncompared).onLanes (withdrawn l solo))

/-- Whether debug is attached to a core of the lane. -/
def attached (l : LaneState) : Bool := bget l Rg.TRP_DBG_STATUS 0

/-- Halt or release the attached core. -/
def setDbgHalt (l : LaneState) (h : Bool) : LaneState :=
  let l := if l.dbg.core1 then { l with c1 := { l.c1 with dbgHalted := h } } else { l with c0 := { l.c0 with dbgHalted := h } }
  bset l Rg.TRP_DBG_STATUS 1 h

/-- DEBUG_DETACH: the lane does not vote again; it is reset and rejoins only through reintegration. An auxiliary core just goes on (08 R193). -/
def execDebugDetach (l : Lane) (s : State) : Res :=
  let x := s.lane l
  if !attached x then .next s
  else
    let s := s.onLane l (fun x => bset (bset (setDbgHalt x false) Rg.TRP_DBG_STATUS 0 false) Rg.TRP_STATUS 7 false)
    if x.dbg.core1 then .next s
    else .next ((s.onLane l setLatch).onLanes (fun y => checkVoters (bset (setLaneState y l 1) Rg.TRI_STATUS 10 false)))

/-- DEBUG_HALT: the attached core halts (08 R191). -/
def execDebugHalt (l : Lane) (s : State) : Res :=
  .next (s.onLane l (fun x => if attached x then setDbgHalt x true else x))

/-- DEBUG_GO: the attached core goes on (08 R191). -/
def execDebugGo (l : Lane) (s : State) : Res :=
  .next (s.onLane l (fun x => if attached x then setDbgHalt x false else x))

/-- The word at the instruction pointer of the attached core and its meaning; a word that is no instruction is illegal (04 R97). -/
def fetched (l : LaneState) : Instr × Sem :=
  let u : CoreId := { lane := l.id, core1 := l.dbg.core1 }
  let ip := (if l.dbg.core1 then l.c1.ctx.ip else l.c0.ctx.ip).toNat
  let b := if l.dbg.core1 then auxBytes l ip 4 else mrd l ip 4
  match decodeJfi u (BitVec.ofNat 32 (leNat b)) with
  | some i => (i, ((semOf i).map (·.2)).getD (fun _ _ => illegal))
  | none => (.nop u, fun _ _ => illegal)

/-- DEBUG_STEP: a halted attached core executes one instruction (08 R191). -/
def execDebugStep (l : Lane) (s : State) : Res :=
  let x := s.lane l
  if !attached x || !bget x Rg.TRP_DBG_STATUS 1 then .next s
  else
    let i := fetched x
    if x.dbg.core1 then .next (if auxRuns x then s.auxRun l i.1 i.2 else s)
    else .next (if vitalRuns x then s.onVote l (vitalStep i.1 i.2 false) else s)

/-- A DIAG word that debug injects executes on the attached core in place of a fetched one: the instruction pointer stays (04 R115; 08 R191). -/
def inject (i : Instr) (sem : Sem) (l : LaneState) : LaneState :=
  let one := l.dbg.core1
  let env : Env := if one then auxEnv l else { vital := true, app := l.app.getD {}, lane := laneNo l.id, now := wNow l, diag := true, swBrk := l.c0.swBrk }
  let c := if one then l.c1.ctx else l.c0.ctx
  let put (l : LaneState) (a : CoreCtx) : LaneState :=
    let a := { a with ip := c.ip }
    if one then { l with c1 := { l.c1 with ctx := a } } else { l with c0 := { l.c0 with ctx := a } }
  match i with
  | .rdtime _ _ | .rdlane _ _ | .dcwb _ _ | .dcinv _ _ | .icinv _ _ | .brk _ =>
    match sem env c with
    | .fin a _ => put l a
    | .cache kind ea a =>
      let l := if !one then l
        else if kind = 2 then { l with c1 := { l.c1 with icache := l.c1.icache.filter (fun e => e.1 != ea / 64 * 64) } }
        else lineBack l ea
      put l a
    | .halt => setDbgHalt l true
    | .trap k a => if one then auxTrap l k a else vitalTrap l k a
    | _ => l
  | _ => l

/-- DEBUG_INJECT: a DIAG word injected through the debug port; another word is not executed (04 R115; 08 R191). -/
def execDebugInject (l : Lane) (word : Word) (s : State) : Res :=
  .next (s.onLane l (fun x =>
    if !attached x then x
    else
      match decodeJfi { lane := l, core1 := x.dbg.core1 } word with
      | some i =>
        match semOf i with
        | some m => inject i m.2 x
        | none => x
      | none => x))

end Sys2Proof.Machine
end

