-- ==== Sys2Proof/Machine/Dispatch.lean ====
section
/-! DEFINITION. The one dispatch of the model: each command of the table to its meaning. -/

namespace Sys2Proof.Machine

/-- The effect of a command on everything but the queue. -/
def exec (i : Instr) (s : State) : Host.Outcome State Fault Refusal :=
  match i with
  | .nop u => Sys2Proof.Machine.execNop u s
  | .trap u code => Sys2Proof.Machine.execTrap u code s
  | .fence u => Sys2Proof.Machine.execFence u s
  | .evt u ra rb => Sys2Proof.Machine.execEvt u ra rb s
  | .add u ovf d rd ra rb => Sys2Proof.Machine.execAdd u ovf d rd ra rb s
  | .sub u ovf d rd ra rb => Sys2Proof.Machine.execSub u ovf d rd ra rb s
  | .mul u ovf d rd ra rb => Sys2Proof.Machine.execMul u ovf d rd ra rb s
  | .mulhs u rd ra rb => Sys2Proof.Machine.execMulhs u rd ra rb s
  | .mulhu u rd ra rb => Sys2Proof.Machine.execMulhu u rd ra rb s
  | .div u ovf d rd ra rb => Sys2Proof.Machine.execDiv u ovf d rd ra rb s
  | .divu u d rd ra rb => Sys2Proof.Machine.execDivu u d rd ra rb s
  | .rem u d rd ra rb => Sys2Proof.Machine.execRem u d rd ra rb s
  | .remu u d rd ra rb => Sys2Proof.Machine.execRemu u d rd ra rb s
  | .and u d rd ra rb => Sys2Proof.Machine.execAnd u d rd ra rb s
  | .or u d rd ra rb => Sys2Proof.Machine.execOr u d rd ra rb s
  | .xor u d rd ra rb => Sys2Proof.Machine.execXor u d rd ra rb s
  | .andn u d rd ra rb => Sys2Proof.Machine.execAndn u d rd ra rb s
  | .sll u d rd ra rb => Sys2Proof.Machine.execSll u d rd ra rb s
  | .srl u d rd ra rb => Sys2Proof.Machine.execSrl u d rd ra rb s
  | .sra u d rd ra rb => Sys2Proof.Machine.execSra u d rd ra rb s
  | .rol u d rd ra rb => Sys2Proof.Machine.execRol u d rd ra rb s
  | .ror u d rd ra rb => Sys2Proof.Machine.execRor u d rd ra rb s
  | .cmp u d ra rb => Sys2Proof.Machine.execCmp u d ra rb s
  | .setc u rd cond => Sys2Proof.Machine.execSetc u rd cond s
  | .min u d rd ra rb => Sys2Proof.Machine.execMin u d rd ra rb s
  | .max u d rd ra rb => Sys2Proof.Machine.execMax u d rd ra rb s
  | .minu u d rd ra rb => Sys2Proof.Machine.execMinu u d rd ra rb s
  | .maxu u d rd ra rb => Sys2Proof.Machine.execMaxu u d rd ra rb s
  | .abs u ovf d rd ra => Sys2Proof.Machine.execAbs u ovf d rd ra s
  | .sextb u rd ra => Sys2Proof.Machine.execSextb u rd ra s
  | .sexth u rd ra => Sys2Proof.Machine.execSexth u rd ra s
  | .sextw u rd ra => Sys2Proof.Machine.execSextw u rd ra s
  | .zextw u rd ra => Sys2Proof.Machine.execZextw u rd ra s
  | .movd u rd ra => Sys2Proof.Machine.execMovd u rd ra s
  | .mfs u d rd sr => Sys2Proof.Machine.execMfs u d rd sr s
  | .mts u sr ra => Sys2Proof.Machine.execMts u sr ra s
  | .ldxb u rd ra rb => Sys2Proof.Machine.execLdxb u rd ra rb s
  | .ldxh u rd ra rb => Sys2Proof.Machine.execLdxh u rd ra rb s
  | .ldxw u rd ra rb => Sys2Proof.Machine.execLdxw u rd ra rb s
  | .ldxd u rd ra rb => Sys2Proof.Machine.execLdxd u rd ra rb s
  | .stxb u rs ra rb => Sys2Proof.Machine.execStxb u rs ra rb s
  | .stxh u rs ra rb => Sys2Proof.Machine.execStxh u rs ra rb s
  | .stxw u rs ra rb => Sys2Proof.Machine.execStxw u rs ra rb s
  | .stxd u rs ra rb => Sys2Proof.Machine.execStxd u rs ra rb s
  | .addi u rd ra imm => Sys2Proof.Machine.execAddi u rd ra imm s
  | .andi u rd ra imm => Sys2Proof.Machine.execAndi u rd ra imm s
  | .ori u rd ra imm => Sys2Proof.Machine.execOri u rd ra imm s
  | .xori u rd ra imm => Sys2Proof.Machine.execXori u rd ra imm s
  | .lui u rd imm => Sys2Proof.Machine.execLui u rd imm s
  | .cmpi u ra imm => Sys2Proof.Machine.execCmpi u ra imm s
  | .fadd u rd ra rb => Sys2Proof.Machine.execFadd u rd ra rb s
  | .dadd u rd ra rb => Sys2Proof.Machine.execDadd u rd ra rb s
  | .fsub u rd ra rb => Sys2Proof.Machine.execFsub u rd ra rb s
  | .dsub u rd ra rb => Sys2Proof.Machine.execDsub u rd ra rb s
  | .fmul u rd ra rb => Sys2Proof.Machine.execFmul u rd ra rb s
  | .dmul u rd ra rb => Sys2Proof.Machine.execDmul u rd ra rb s
  | .fdiv u rd ra rb => Sys2Proof.Machine.execFdiv u rd ra rb s
  | .ddiv u rd ra rb => Sys2Proof.Machine.execDdiv u rd ra rb s
  | .fsqrt u rd ra => Sys2Proof.Machine.execFsqrt u rd ra s
  | .dsqrt u rd ra => Sys2Proof.Machine.execDsqrt u rd ra s
  | .fmin u rd ra rb => Sys2Proof.Machine.execFmin u rd ra rb s
  | .dmin u rd ra rb => Sys2Proof.Machine.execDmin u rd ra rb s
  | .fmax u rd ra rb => Sys2Proof.Machine.execFmax u rd ra rb s
  | .dmax u rd ra rb => Sys2Proof.Machine.execDmax u rd ra rb s
  | .fcmp u ra rb => Sys2Proof.Machine.execFcmp u ra rb s
  | .dcmp u ra rb => Sys2Proof.Machine.execDcmp u ra rb s
  | .fneg u rd ra => Sys2Proof.Machine.execFneg u rd ra s
  | .dneg u rd ra => Sys2Proof.Machine.execDneg u rd ra s
  | .fabs u rd ra => Sys2Proof.Machine.execFabs u rd ra s
  | .dabs u rd ra => Sys2Proof.Machine.execDabs u rd ra s
  | .fcpys u rd ra rb => Sys2Proof.Machine.execFcpys u rd ra rb s
  | .dcpys u rd ra rb => Sys2Proof.Machine.execDcpys u rd ra rb s
  | .f2i u t rd ra => Sys2Proof.Machine.execF2i u t rd ra s
  | .f2u u t rd ra => Sys2Proof.Machine.execF2u u t rd ra s
  | .f2l u t rd ra => Sys2Proof.Machine.execF2l u t rd ra s
  | .f2ul u t rd ra => Sys2Proof.Machine.execF2ul u t rd ra s
  | .d2i u t rd ra => Sys2Proof.Machine.execD2i u t rd ra s
  | .d2u u t rd ra => Sys2Proof.Machine.execD2u u t rd ra s
  | .d2l u t rd ra => Sys2Proof.Machine.execD2l u t rd ra s
  | .d2ul u t rd ra => Sys2Proof.Machine.execD2ul u t rd ra s
  | .i2f u rd ra => Sys2Proof.Machine.execI2f u rd ra s
  | .u2f u rd ra => Sys2Proof.Machine.execU2f u rd ra s
  | .l2f u rd ra => Sys2Proof.Machine.execL2f u rd ra s
  | .ul2f u rd ra => Sys2Proof.Machine.execUl2f u rd ra s
  | .i2d u rd ra => Sys2Proof.Machine.execI2d u rd ra s
  | .u2d u rd ra => Sys2Proof.Machine.execU2d u rd ra s
  | .l2d u rd ra => Sys2Proof.Machine.execL2d u rd ra s
  | .ul2d u rd ra => Sys2Proof.Machine.execUl2d u rd ra s
  | .f2d u rd ra => Sys2Proof.Machine.execF2d u rd ra s
  | .d2f u rd ra => Sys2Proof.Machine.execD2f u rd ra s
  | .bld u rd loc => Sys2Proof.Machine.execBld u rd loc s
  | .bldn u rd loc => Sys2Proof.Machine.execBldn u rd loc s
  | .btst u loc => Sys2Proof.Machine.execBtst u loc s
  | .bstr u rs loc => Sys2Proof.Machine.execBstr u rs loc s
  | .bset u loc => Sys2Proof.Machine.execBset u loc s
  | .bclr u loc => Sys2Proof.Machine.execBclr u loc s
  | .btgl u loc => Sys2Proof.Machine.execBtgl u loc s
  | .ldw u rd base off => Sys2Proof.Machine.execLdw u rd base off s
  | .ldh u rd base off => Sys2Proof.Machine.execLdh u rd base off s
  | .ldb u rd base off => Sys2Proof.Machine.execLdb u rd base off s
  | .ldd u rd base off => Sys2Proof.Machine.execLdd u rd base off s
  | .stw u rs base off => Sys2Proof.Machine.execStw u rs base off s
  | .sth u rs base off => Sys2Proof.Machine.execSth u rs base off s
  | .stb u rs base off => Sys2Proof.Machine.execStb u rs base off s
  | .std u rs base off => Sys2Proof.Machine.execStd u rs base off s
  | .swapw u rd base off => Sys2Proof.Machine.execSwapw u rd base off s
  | .br u off => Sys2Proof.Machine.execBr u off s
  | .bc u cond ra off => Sys2Proof.Machine.execBc u cond ra off s
  | .loop u rc bound dist => Sys2Proof.Machine.execLoop u rc bound dist s
  | .call u off => Sys2Proof.Machine.execCall u off s
  | .callfb u bt fo => Sys2Proof.Machine.execCallfb u bt fo s
  | .ret u => Sys2Proof.Machine.execRet u s
  | .rdtime u rd => Sys2Proof.Machine.execRdtime u rd s
  | .rdlane u rd => Sys2Proof.Machine.execRdlane u rd s
  | .dcwb u ra => Sys2Proof.Machine.execDcwb u ra s
  | .dcinv u ra => Sys2Proof.Machine.execDcinv u ra s
  | .icinv u ra => Sys2Proof.Machine.execIcinv u ra s
  | .brk u => Sys2Proof.Machine.execBrk u s
  | .ton u r fo => Sys2Proof.Machine.execTon u r fo s
  | .tof u r fo => Sys2Proof.Machine.execTof u r fo s
  | .tp u r fo => Sys2Proof.Machine.execTp u r fo s
  | .rtrig u e1 r fo => Sys2Proof.Machine.execRtrig u e1 r fo s
  | .ftrig u e1 r fo => Sys2Proof.Machine.execFtrig u e1 r fo s
  | .ctu u e1 r fo => Sys2Proof.Machine.execCtu u e1 r fo s
  | .ctd u e1 r fo => Sys2Proof.Machine.execCtd u e1 r fo s
  | .ctud u e1 r fo => Sys2Proof.Machine.execCtud u e1 r fo s
  | .sr u r fo => Sys2Proof.Machine.execSr u r fo s
  | .rs u r fo => Sys2Proof.Machine.execRs u r fo s
  | .sel u r => Sys2Proof.Machine.execSel u r s
  | .seld u r => Sys2Proof.Machine.execSeld u r s
  | .mux u opt r => Sys2Proof.Machine.execMux u opt r s
  | .muxd u opt r => Sys2Proof.Machine.execMuxd u opt r s
  | .limitDint u r => Sys2Proof.Machine.execLimitDint u r s
  | .limitUdint u r => Sys2Proof.Machine.execLimitUdint u r s
  | .limitReal u r => Sys2Proof.Machine.execLimitReal u r s
  | .limitLreal u r => Sys2Proof.Machine.execLimitLreal u r s
  | .hystDint u r fo => Sys2Proof.Machine.execHystDint u r fo s
  | .hystReal u r fo => Sys2Proof.Machine.execHystReal u r fo s
  | .dbnc u q0 r fo => Sys2Proof.Machine.execDbnc u q0 r fo s
  | .dbncRising u q0 r fo => Sys2Proof.Machine.execDbncRising u q0 r fo s
  | .dbncFalling u q0 r fo => Sys2Proof.Machine.execDbncFalling u q0 r fo s
  | .pid u r fo => Sys2Proof.Machine.execPid u r fo s
  | .ramp u r fo => Sys2Proof.Machine.execRamp u r fo s
  | .auxRestart l => Sys2Proof.Machine.execAuxRestart l s
  | .auxStart l => Sys2Proof.Machine.execAuxStart l s
  | .auxTxRequest l f => Sys2Proof.Machine.execAuxTxRequest l f s
  | .snapshot l n => Sys2Proof.Machine.execSnapshot l n s
  | .agreeSetReceive l src st => Sys2Proof.Machine.execAgreeSetReceive l src st s
  | .agreeClose l => Sys2Proof.Machine.execAgreeClose l s
  | .agreeWaitExpiry l => Sys2Proof.Machine.execAgreeWaitExpiry l s
  | .closingNotice l src nt => Sys2Proof.Machine.execClosingNotice l src nt s
  | .agreeApply l => Sys2Proof.Machine.execAgreeApply l s
  | .commitPoint l => Sys2Proof.Machine.execCommitPoint l s
  | .overrunReport l src n r => Sys2Proof.Machine.execOverrunReport l src n r s
  | .commit l => Sys2Proof.Machine.execCommit l s
  | .steeringEvaluation l => Sys2Proof.Machine.execSteeringEvaluation l s
  | .vsetRefresh l => Sys2Proof.Machine.execVsetRefresh l s
  | .steerFallback l => Sys2Proof.Machine.execSteerFallback l s
  | .runWarm src => Sys2Proof.Machine.execRunWarm src s
  | .runCold src => Sys2Proof.Machine.execRunCold src s
  | .stop src => Sys2Proof.Machine.execStop src s
  | .hold src => Sys2Proof.Machine.execHold src s
  | .resume src => Sys2Proof.Machine.execResume src s
  | .holdLimitExpiry => Sys2Proof.Machine.execHoldLimitExpiry s
  | .autoRunEntry waited => Sys2Proof.Machine.execAutoRunEntry waited s
  | .moduleBreakpointArm addr => Sys2Proof.Machine.execModuleBreakpointArm addr s
  | .moduleBreakpointHit l => Sys2Proof.Machine.execModuleBreakpointHit l s
  | .forceSet src symtab e => Sys2Proof.Machine.execForceSet src symtab e s
  | .forceClear src symtab sym => Sys2Proof.Machine.execForceClear src symtab sym s
  | .clearAll src symtab => Sys2Proof.Machine.execClearAll src symtab s
  | .forceExpiry l => Sys2Proof.Machine.execForceExpiry l s
  | .onlineChangeSwitch => Sys2Proof.Machine.execOnlineChangeSwitch s
  | .migrationCycle l => Sys2Proof.Machine.execMigrationCycle l s
  | .migWaitExpiry => Sys2Proof.Machine.execMigWaitExpiry s
  | .ringmasterMessage msg => Sys2Proof.Machine.execRingmasterMessage msg s
  | .compareTimeout l k => Sys2Proof.Machine.execCompareTimeout l k s
  | .debugAttach l src aux solo => Sys2Proof.Machine.execDebugAttach l src aux solo s
  | .debugAttachEffect l => Sys2Proof.Machine.execDebugAttachEffect l s
  | .debugDetach l => Sys2Proof.Machine.execDebugDetach l s
  | .debugHalt l => Sys2Proof.Machine.execDebugHalt l s
  | .debugStep l => Sys2Proof.Machine.execDebugStep l s
  | .debugGo l => Sys2Proof.Machine.execDebugGo l s
  | .debugInject l word => Sys2Proof.Machine.execDebugInject l word s
  | .itemDigestRecord l r => Sys2Proof.Machine.execItemDigestRecord l r s
  | .commitDoneRecord l r => Sys2Proof.Machine.execCommitDoneRecord l r s
  | .stateDigestRecord l r => Sys2Proof.Machine.execStateDigestRecord l r s
  | .verdictRecord l r => Sys2Proof.Machine.execVerdictRecord l r s
  | .accusation l r => Sys2Proof.Machine.execAccusation l r s
  | .backplaneReadRequest l r => Sys2Proof.Machine.execBackplaneReadRequest l r s
  | .cycleClose l => Sys2Proof.Machine.execCycleClose l s
  | .linkFailure l peer => Sys2Proof.Machine.execLinkFailure l peer s
  | .exclusionAssertion l src subject => Sys2Proof.Machine.execExclusionAssertion l src subject s
  | .ownerTakeover l => Sys2Proof.Machine.execOwnerTakeover l s
  | .degLimitExpiry l => Sys2Proof.Machine.execDegLimitExpiry l s
  | .driverRefreshTimeout l => Sys2Proof.Machine.execDriverRefreshTimeout l s
  | .backplaneCompletionDelivery l c => Sys2Proof.Machine.execBackplaneCompletionDelivery l c s
  | .reintSelftestComplete l pass => Sys2Proof.Machine.execReintSelftestComplete l pass s
  | .join l => Sys2Proof.Machine.execJoin l s
  | .reintBlockSend l joiner blk => Sys2Proof.Machine.execReintBlockSend l joiner blk s
  | .reintBlockReceive l => Sys2Proof.Machine.execReintBlockReceive l s
  | .reintCatchup l inTime => Sys2Proof.Machine.execReintCatchup l inTime s
  | .reintVoteStart l => Sys2Proof.Machine.execReintVoteStart l s
  | .catchupWaitExpiry l => Sys2Proof.Machine.execCatchupWaitExpiry l s
  | .reintStart ag l => Sys2Proof.Machine.execReintStart ag l s
  | .clearFailed src l => Sys2Proof.Machine.execClearFailed src l s
  | .scrubCodeword l dram => Sys2Proof.Machine.execScrubCodeword l dram s
  | .scrubUeStop l => Sys2Proof.Machine.execScrubUeStop l s
  | .memEccInj l ag v => Sys2Proof.Machine.execMemEccInj l ag v s
  | .syncReceive l f => Sys2Proof.Machine.execSyncReceive l f s
  | .domainLost l d => Sys2Proof.Machine.execDomainLost l d s
  | .pdelayReqSend l port => Sys2Proof.Machine.execPdelayReqSend l port s
  | .pdelayReq l port seq rx => Sys2Proof.Machine.execPdelayReq l port seq rx s
  | .pdelayResp l port delayNs => Sys2Proof.Machine.execPdelayResp l port delayNs s
  | .checkEpoch => Sys2Proof.Machine.execCheckEpoch s
  | .merStep l clk => Sys2Proof.Machine.execMerStep l clk s
  | .merCorrection l clk => Sys2Proof.Machine.execMerCorrection l clk s
  | .grandmasterChange l => Sys2Proof.Machine.execGrandmasterChange l s
  | .sourceChange l => Sys2Proof.Machine.execSourceChange l s
  | .returnHoldExpiry l => Sys2Proof.Machine.execReturnHoldExpiry l s
  | .slewEnd l => Sys2Proof.Machine.execSlewEnd l s
  | .leapSecond l => Sys2Proof.Machine.execLeapSecond l s
  | .consistSyncSend l port => Sys2Proof.Machine.execConsistSyncSend l port s
  | .delayReq l port seq => Sys2Proof.Machine.execDelayReq l port seq s
  | .foreignPtp l => Sys2Proof.Machine.execForeignPtp l s
  | .cmpArm l ag un v => Sys2Proof.Machine.execCmpArm l ag un v s
  | .compareFire l un => Sys2Proof.Machine.execCompareFire l un s
  | .toutPulseEnd l k => Sys2Proof.Machine.execToutPulseEnd l k s
  | .ppsOutEdge l rise => Sys2Proof.Machine.execPpsOutEdge l rise s
  | .ppsInEdge l => Sys2Proof.Machine.execPpsInEdge l s
  | .rmcSentence l stA label msAfter => Sys2Proof.Machine.execRmcSentence l stA label msAfter s
  | .tcapEdge l k rising => Sys2Proof.Machine.execTcapEdge l k rising s
  | .merWtNsRead l ag => Sys2Proof.Machine.execMerWtNsRead l ag s
  | .carouselCycleStart l c => Sys2Proof.Machine.execCarouselCycleStart l c s
  | .slotTransmit l entry => Sys2Proof.Machine.execSlotTransmit l entry s
  | .syncSlotTransmit l => Sys2Proof.Machine.execSyncSlotTransmit l s
  | .scheduledFrameReceive l f => Sys2Proof.Machine.execScheduledFrameReceive l f s
  | .runningValidLoss l => Sys2Proof.Machine.execRunningValidLoss l s
  | .coldstartEntry l => Sys2Proof.Machine.execColdstartEntry l s
  | .coldstartFrameReceive l port f => Sys2Proof.Machine.execColdstartFrameReceive l port f s
  | .coldstartRelaySend l port => Sys2Proof.Machine.execColdstartRelaySend l port s
  | .contentionWindowEnd l => Sys2Proof.Machine.execContentionWindowEnd l s
  | .unscheduledWindow l lenNs => Sys2Proof.Machine.execUnscheduledWindow l lenNs s
  | .unscheduledFrameReceive l f => Sys2Proof.Machine.execUnscheduledFrameReceive l f s
  | .sheetPropose l ag v => Sys2Proof.Machine.execSheetPropose l ag v s
  | .carCabWrite l ag v => Sys2Proof.Machine.execCarCabWrite l ag v s
  | .carCommit l v => Sys2Proof.Machine.execCarCommit l v s
  | .carAtlasW2 l ag wr => Sys2Proof.Machine.execCarAtlasW2 l ag wr s
  | .linkStateChange l port up => Sys2Proof.Machine.execLinkStateChange l port up s
  | .debounceExpiry l port => Sys2Proof.Machine.execDebounceExpiry l port s
  | .mergeSend l port => Sys2Proof.Machine.execMergeSend l port s
  | .mergeReceive l port f => Sys2Proof.Machine.execMergeReceive l port f s
  | .foreignTimeout l port => Sys2Proof.Machine.execForeignTimeout l port s
  | .waveWindowStart l => Sys2Proof.Machine.execWaveWindowStart l s
  | .waveReceive l port f => Sys2Proof.Machine.execWaveReceive l port f s
  | .confirmReceive l port f => Sys2Proof.Machine.execConfirmReceive l port f s
  | .waveWindowEnd l => Sys2Proof.Machine.execWaveWindowEnd l s
  | .adoption l => Sys2Proof.Machine.execAdoption l s
  | .reinaugurate l => Sys2Proof.Machine.execReinaugurate l s
  | .consistFrameReceive l port f => Sys2Proof.Machine.execConsistFrameReceive l port f s
  | .consistFrameSend l port => Sys2Proof.Machine.execConsistFrameSend l port s
  | .vitalArpRequest l port ip mac sip => Sys2Proof.Machine.execVitalArpRequest l port ip mac sip s
  | .macAgeOut l vid mac => Sys2Proof.Machine.execMacAgeOut l vid mac s
  | .ecnAuxKick l => Sys2Proof.Machine.execEcnAuxKick l s
  | .canFrameReceive l k f => Sys2Proof.Machine.execCanFrameReceive l k f s
  | .canQqack l k q v => Sys2Proof.Machine.execCanQqack l k q v s
  | .canTxreq l k v => Sys2Proof.Machine.execCanTxreq l k v s
  | .canTxcancel l k v => Sys2Proof.Machine.execCanTxcancel l k v s
  | .canFrameStart l k => Sys2Proof.Machine.execCanFrameStart l k s
  | .canFrameComplete l k => Sys2Proof.Machine.execCanFrameComplete l k s
  | .canArbitrationLost l k => Sys2Proof.Machine.execCanArbitrationLost l k s
  | .canError l k e => Sys2Proof.Machine.execCanError l k e s
  | .canBusoffRecovery l k => Sys2Proof.Machine.execCanBusoffRecovery l k s
  | .canInit l k src on => Sys2Proof.Machine.execCanInit l k src on s
  | .sampleTick l m => Sys2Proof.Machine.execSampleTick l m s
  | .soeEdge l ch rising => Sys2Proof.Machine.execSoeEdge l ch rising s
  | .offPulseStart l ch k => Sys2Proof.Machine.execOffPulseStart l ch k s
  | .offPulseEnd l ch low fell => Sys2Proof.Machine.execOffPulseEnd l ch low fell s
  | .gssTestStart l g k => Sys2Proof.Machine.execGssTestStart l g k s
  | .gssTestEnd l g low => Sys2Proof.Machine.execGssTestEnd l g low s
  | .degTimeExpiry l ch => Sys2Proof.Machine.execDegTimeExpiry l ch s
  | .overcurrentTrip l ch => Sys2Proof.Machine.execOvercurrentTrip l ch s
  | .overcurrentRetry l ch => Sys2Proof.Machine.execOvercurrentRetry l ch s
  | .tripCountReset l ch => Sys2Proof.Machine.execTripCountReset l ch s
  | .groupOverload l g => Sys2Proof.Machine.execGroupOverload l g s
  | .safeOkDisagree l second => Sys2Proof.Machine.execSafeOkDisagree l second s
  | .fioClear l src v => Sys2Proof.Machine.execFioClear l src v s
  | .fioSoeAck l v => Sys2Proof.Machine.execFioSoeAck l v s
  | .safDegClear l src ch => Sys2Proof.Machine.execSafDegClear l src ch s
  | .safDegClearGroup l src ch => Sys2Proof.Machine.execSafDegClearGroup l src ch s
  | .safSend l v => Sys2Proof.Machine.execSafSend l v s
  | .blockWrite u v => Sys2Proof.Machine.execBlockWrite u v s
  | .blockRead u v => Sys2Proof.Machine.execBlockRead u v s
  | .backplaneReadCompletion l c => Sys2Proof.Machine.execBackplaneReadCompletion l c s
  | .backplaneBudgetExpiry l => Sys2Proof.Machine.execBackplaneBudgetExpiry l s
  | .completionTimeout l => Sys2Proof.Machine.execCompletionTimeout l s
  | .pcieErrorMessage l addr fatal => Sys2Proof.Machine.execPcieErrorMessage l addr fatal s
  | .pcieLinkDown l p => Sys2Proof.Machine.execPcieLinkDown l p s
  | .pcieLinkReady l p => Sys2Proof.Machine.execPcieLinkReady l p s
  | .inboundPostedWrite l addr d => Sys2Proof.Machine.execInboundPostedWrite l addr d s
  | .inboundMirrorRead l addr len => Sys2Proof.Machine.execInboundMirrorRead l addr len s
  | .inboundUnsupported l isWrite => Sys2Proof.Machine.execInboundUnsupported l isWrite s
  | .cfgaccRead l ag => Sys2Proof.Machine.execCfgaccRead l ag s
  | .cfgaccWrite l ag v => Sys2Proof.Machine.execCfgaccWrite l ag v s
  | .brgPwlogInfoRead l ag => Sys2Proof.Machine.execBrgPwlogInfoRead l ag s
  | .brgPwlogClr l ag => Sys2Proof.Machine.execBrgPwlogClr l ag s
  | .heartbeatReceive l hb => Sys2Proof.Machine.execHeartbeatReceive l hb s
  | .blockFrameReceive l f => Sys2Proof.Machine.execBlockFrameReceive l f s
  | .waitExit l => Sys2Proof.Machine.execWaitExit l s
  | .pairWaitExpiry l => Sys2Proof.Machine.execPairWaitExpiry l s
  | .takeover l => Sys2Proof.Machine.execTakeover l s
  | .invisibleResign l => Sys2Proof.Machine.execInvisibleResign l s
  | .handover l src => Sys2Proof.Machine.execHandover l src s
  | .handoverSwitch l => Sys2Proof.Machine.execHandoverSwitch l s
  | .resync l ag => Sys2Proof.Machine.execResync l ag s
  | .outHoldExpiry l ch => Sys2Proof.Machine.execOutHoldExpiry l ch s
  | .pwrReq l v => Sys2Proof.Machine.execPwrReq l v s
  | .powerStateRequest src target => Sys2Proof.Machine.execPowerStateRequest src target s
  | .entryBegin => Sys2Proof.Machine.execEntryBegin s
  | .participantQuiesced l => Sys2Proof.Machine.execParticipantQuiesced l s
  | .participantRefusal l => Sys2Proof.Machine.execParticipantRefusal l s
  | .participantTimeout l => Sys2Proof.Machine.execParticipantTimeout l s
  | .abortRestartStep => Sys2Proof.Machine.execAbortRestartStep s
  | .entryComplete => Sys2Proof.Machine.execEntryComplete s
  | .stbyLimitExpiry => Sys2Proof.Machine.execStbyLimitExpiry s
  | .standbySupplyLoss => Sys2Proof.Machine.execStandbySupplyLoss s
  | .wakeArmExpiry => Sys2Proof.Machine.execWakeArmExpiry s
  | .backboneEnergyWake => Sys2Proof.Machine.execBackboneEnergyWake s
  | .wakePatternReceive id => Sys2Proof.Machine.execWakePatternReceive id s
  | .consistEnergyWake port => Sys2Proof.Machine.execConsistEnergyWake port s
  | .canWake k => Sys2Proof.Machine.execCanWake k s
  | .wakePin => Sys2Proof.Machine.execWakePin s
  | .alarmWake => Sys2Proof.Machine.execAlarmWake s
  | .fieldInputWake ch => Sys2Proof.Machine.execFieldInputWake ch s
  | .resupplyWake => Sys2Proof.Machine.execResupplyWake s
  | .wakeStep => Sys2Proof.Machine.execWakeStep s
  | .pwrWakeTx l ag => Sys2Proof.Machine.execPwrWakeTx l ag s
  | .pwrResClr src => Sys2Proof.Machine.execPwrResClr src s
  | .standbyPowerApplied => Sys2Proof.Machine.execStandbyPowerApplied s
  | .inputPowerApplied => Sys2Proof.Machine.execInputPowerApplied s
  | .bistComplete l r => Sys2Proof.Machine.execBistComplete l r s
  | .imageVerification ty => Sys2Proof.Machine.execImageVerification ty s
  | .configValidation => Sys2Proof.Machine.execConfigValidation s
  | .startupTimeout => Sys2Proof.Machine.execStartupTimeout s
  | .supplyWarning dv => Sys2Proof.Machine.execSupplyWarning dv s
  | .supplyRecovery dipMs => Sys2Proof.Machine.execSupplyRecovery dipMs s
  | .resetPoint => Sys2Proof.Machine.execResetPoint s
  | .restart src force => Sys2Proof.Machine.execRestart src force s
  | .safetyNet src => Sys2Proof.Machine.execSafetyNet src s
  | .hello => Sys2Proof.Machine.execHello s
  | .offer svc m => Sys2Proof.Machine.execOffer svc m s
  | .read m => Sys2Proof.Machine.execRead m s
  | .data m => Sys2Proof.Machine.execData m s
  | .readRepeatTimeout => Sys2Proof.Machine.execReadRepeatTimeout s
  | .result m => Sys2Proof.Machine.execResult m s
  | .snetRestart m => Sys2Proof.Machine.execSnetRestart m s
  | .identify m => Sys2Proof.Machine.execIdentify m s
  | .safetyNetExit => Sys2Proof.Machine.execSafetyNetExit s
  | .fleetKeyEnrol src idx key sig => Sys2Proof.Machine.execFleetKeyEnrol src idx key sig s
  | .keyRevoke src idx => Sys2Proof.Machine.execKeyRevoke src idx s
  | .ringmasterWatchdog => Sys2Proof.Machine.execRingmasterWatchdog s
  | .ringmasterFault => Sys2Proof.Machine.execRingmasterFault s
  | .ringmasterResume => Sys2Proof.Machine.execRingmasterResume s
  | .serviceSessionOpen cert => Sys2Proof.Machine.execServiceSessionOpen cert s
  | .sessionTimeout sid => Sys2Proof.Machine.execSessionTimeout sid s
  | .operatorMessage src code d => Sys2Proof.Machine.execOperatorMessage src code d s
  | .sensorSample sn v => Sys2Proof.Machine.execSensorSample sn v s
  | .lifeCounterUpdate => Sys2Proof.Machine.execLifeCounterUpdate s
  | .eventReport now => Sys2Proof.Machine.execEventReport now s
  | .suppressionSummary code now => Sys2Proof.Machine.execSuppressionSummary code now s
  | .evrClear src => Sys2Proof.Machine.execEvrClear src s
  | .freeze fs src => Sys2Proof.Machine.execFreeze fs src s
  | .unfreeze fs => Sys2Proof.Machine.execUnfreeze fs s
  | .freezeMaxExpiry => Sys2Proof.Machine.execFreezeMaxExpiry s
  | .evrReadStart l ag v => Sys2Proof.Machine.execEvrReadStart l ag v s
  | .evrReadNext l ag => Sys2Proof.Machine.execEvrReadNext l ag s
  | .evrRateValRead l ag => Sys2Proof.Machine.execEvrRateValRead l ag s
  | .auxMessageSend l v => Sys2Proof.Machine.execAuxMessageSend l v s
  | .auxMessageReceive l d => Sys2Proof.Machine.execAuxMessageReceive l d s
  | .mbxAuxinAck l => Sys2Proof.Machine.execMbxAuxinAck l s
  | .announce => Sys2Proof.Machine.execAnnounce s
  | .announceReceive port h => Sys2Proof.Machine.execAnnounceReceive port h s
  | .request port h => Sys2Proof.Machine.execRequest port h s
  | .segment h d => Sys2Proof.Machine.execSegment h d s
  | .chunkTimeout ty => Sys2Proof.Machine.execChunkTimeout ty s
  | .imageInject src ty img => Sys2Proof.Machine.execImageInject src ty img s
  | .order o => Sys2Proof.Machine.execOrder o s
  | .ready topo oid rdy refd => Sys2Proof.Machine.execReady topo oid rdy refd s
  | .decision oid go => Sys2Proof.Machine.execDecision oid go s
  | .orderDeadline => Sys2Proof.Machine.execOrderDeadline s
  | .activation => Sys2Proof.Machine.execActivation s
  | .activationWindowExpiry => Sys2Proof.Machine.execActivationWindowExpiry s
  | .confirmTimeExpiry ty => Sys2Proof.Machine.execConfirmTimeExpiry ty s
  | .pmcCtrlWrite l ag c v => Sys2Proof.Machine.execPmcCtrlWrite l ag c v s
  | .pmcCntLoRead l ag c n => Sys2Proof.Machine.execPmcCntLoRead l ag c n s
  | .pmcCntHiWrite l ag c n v => Sys2Proof.Machine.execPmcCntHiWrite l ag c n v s
  | .pmcCntLoWrite l ag c n v => Sys2Proof.Machine.execPmcCntLoWrite l ag c n v s
  | .pmcSeedWrite l ag c v => Sys2Proof.Machine.execPmcSeedWrite l ag c v s
  | .clear l ag c => Sys2Proof.Machine.execClear l ag c s
  | .feed8 l ag k v => Sys2Proof.Machine.execFeed8 l ag k v s
  | .feed16 l ag k v => Sys2Proof.Machine.execFeed16 l ag k v s
  | .feed32 l ag k v => Sys2Proof.Machine.execFeed32 l ag k v s
  | .cvuRestart l ag k => Sys2Proof.Machine.execCvuRestart l ag k s
  | .cvuValueWrite l ag k hi v => Sys2Proof.Machine.execCvuValueWrite l ag k hi v s
  | .cvuResultRead l ag k hi => Sys2Proof.Machine.execCvuResultRead l ag k hi s
  | .registerWrite l ag a v => Sys2Proof.Machine.execRegisterWrite l ag a v s
  | .ocxoWarm l => Sys2Proof.Machine.execOcxoWarm l s
  | .gnssAbsenceExpiry l => Sys2Proof.Machine.execGnssAbsenceExpiry l s
  | .ppsMissing l => Sys2Proof.Machine.execPpsMissing l s
  | .crossLaneLinkRestored x y => Sys2Proof.Machine.execCrossLaneLinkRestored x y s
  | .hardExclusionAgeOut l subject => Sys2Proof.Machine.execHardExclusionAgeOut l subject s
  | .standbyInputRemoved => Sys2Proof.Machine.execStandbyInputRemoved s
  | .serviceSessionClose sid => Sys2Proof.Machine.execServiceSessionClose sid s
  | .helloReceive m => Sys2Proof.Machine.execHelloReceive m s
  | .rcRegisterRead l ag a => Sys2Proof.Machine.execRcRegisterRead l ag a s
  | .ecnStaticPort l ag wr => Sys2Proof.Machine.execEcnStaticPort l ag wr s

end Sys2Proof.Machine
end

