-- ==== Sys2Proof/Machine/Leds.lean ====
section
/-! DEFINITION. What the module shows on its front LEDs and its backplane reset output: functions of the state, on no path of the step (25 R523, R528, Table ELE-2). -/

namespace Sys2Proof.Machine

/-- The front LEDs (25 Table ELE-2). -/
inductive Led where
  | run | force | debug | degraded | fault | lane (l : Lane) | time | backbone
  deriving DecidableEq, Repr

/-- What one LED shows: dark, one colour steady, flashing at 1 Hz or fast at 4 Hz, or every colour it has (25 R523). -/
inductive Lamp where
  | dark | greenSteady | greenFlashing | greenFast | amberSteady | amberFlashing | redSteady | redFlashing | allColours
  deriving DecidableEq, Repr

/-- The last row of Table ELE-2 that applies wins; dark where none does (25 R523). -/
def lastRow (rows : List (Bool × Lamp)) : Lamp :=
  rows.foldl (fun v r => if r.1 then r.2 else v) .dark

/-- What a lane commands on the LEDs that the hardware majority drives (25 Table ELE-2). -/
def laneLamp (l : LaneState) : Led → Lamp
  | .run => lastRow [
      (modeOf l == .run, .greenSteady), (modeOf l == .stop, .greenFlashing), (modeOf l == .hold, .amberSteady),
      (phaseOf l ≤ 3, .greenFast),
      (isSafe l || phaseOf l == 5 || phaseOf l == 6 || fget l Rg.PWR_STATUS 2 0 == 2 || fget l Rg.PWR_STATUS 2 0 == 3, .dark)]
  | .force => lastRow [(l.forces != [], .amberSteady)]
  | .debug => lastRow [(modeOf l == .hold || allLanes.any (fun x => fget l (Rg.TRI_LANEL_STAT (laneNo x)) 2 0 == 4), .amberSteady)]
  | .degraded =>
    let n := (voters l).length
    lastRow [(n == 2, .amberSteady),
             (n == 3 && (fget l Rg.SAF_DEG_STAT 5 0 != 0 || fget l Rg.SAF_DEG_STAT 13 8 != 0), .amberFlashing)]
  | .fault => lastRow [(isSafe l || phaseOf l == 5, .redSteady), (phaseOf l == 6, .redFlashing)]
  | _ => .dark

/-- A lane drives its own LANE LED from its own state (25 R523, Table ELE-2; 09 Table TRI-13). -/
def ownLamp (l : LaneState) : Lamp :=
  let st := fget l (Rg.TRI_LANEL_STAT (laneNo l.id)) 2 0
  lastRow [(st == 0, .greenSteady), (st == 2 || st == 3, .greenFlashing), (st == 4, .amberSteady), (st == 1, .redSteady),
           (st == 5, .redFlashing), (!l.pwr.supply, .dark)]

/-- A property of the running Meridian instances by the majority rule of R484: two of three, or every one of fewer. -/
def State.timeShows (s : State) (p : LaneState → Bool) : Bool :=
  let run := allLanes.filter (fun x => (s.lane x).mer.running)
  let ok := run.filter (fun x => p (s.lane x))
  if run.length = 3 then 2 ≤ ok.length else run.length = ok.length && run != []

/-- The TIME LED: the module-wide state of the running instances (25 R523, Table ELE-2; 12 R290). -/
def State.timeLamp (s : State) : Lamp :=
  let on := fun (b : Nat) (l : LaneState) => bget l Rg.MER_STATUS b
  lastRow [
    (s.timeShows (on 3), .greenSteady), (s.timeShows (on 2), .greenFlashing),
    (s.timeShows (fun l => fget l Rg.MER_STATUS 1 0 == 0 && on 5 l), .amberSteady),
    (s.timeShows (fun l => !on 5 l), .amberFlashing),
    (allLanes.any (fun x => (s.lane x).mer.running && on 4 (s.lane x)), .redSteady)]

/-- The BACKBONE LED as one lane sees it (25 Table ELE-2; 13 Table CAR-12; 14 R325, R336). -/
def backboneLamp (l : LaneState) : Lamp :=
  let st := fget l Rg.CAR_STATUS 2 0
  lastRow [(st == 3, .greenSteady), (st == 1 || st == 2, .greenFlashing), (st == 4, .amberSteady),
           ((List.range 4).any (fun p => bget l (Rg.INA_PORTp_STAT p) 3 || bget l (Rg.INA_PORTp_STAT p) 5), .amberFlashing),
           (st == 0 || st == 5, .dark)]

/-- The lanes that run (25 R523). -/
def State.lanesRun (s : State) : List Lane := allLanes.filter (fun x => (s.lane x).pwr.supply)

/-- A lamp that at least two running lanes command; with fewer than two running, Ringmaster drives what the module shows (25 R523; 01 R22). -/
def State.majorityLamp (s : State) (d : Led) : Lamp :=
  let cmds := s.lanesRun.map (fun x => laneLamp (s.lane x) d)
  match cmds with
  | a :: b :: rest => if a == b || rest.contains a then a else if rest.contains b then b else .dark
  | _ => laneLamp (s.lane (s.lanesRun.headD .a)) d

/-- What a front LED shows (25 R523, Table ELE-2). Every LED is dark without supply and in OFF, and shows every colour at step 2 of start-up. -/
def State.lamp (s : State) (d : Led) : Lamp :=
  if !s.rm.alive && s.lanesRun == [] then .dark
  else if s.rm.start.step == 2 then .allColours
  else
    let line := allLanes.find? (fun x => s.sends x 0)
    match d with
    | .lane x => ownLamp (s.lane x)
    | .time => if line.isSome || s.lanesRun.length < 2 then s.timeLamp else .dark
    | .backbone =>
      match line with
      | some x => backboneLamp (s.lane x)
      | none => if s.lanesRun.length < 2 then backboneLamp (s.lane (s.lanesRun.headD .a)) else .dark
    | d => s.majorityLamp d

/-- The module asserts the backplane reset output: from the start of bring-up until step 12 of Table PWR-7 begins (25 R528). -/
def State.backplaneReset (s : State) : Bool :=
  s.rm.start.step != 0 && (s.rm.start.step ≤ 7 || phaseOf s.la == 5 || phaseOf s.la == 6)
    && !(s.rm.start.step ≤ 7 && fget s.la Rg.PWR_STATUS 2 0 == 4 && 12 < fget s.la Rg.PWR_STATUS 15 12)

end Sys2Proof.Machine
end

