-- ==== Sys2Proof/WellFormed.lean ====
section
/-! DEFINITION. Which commands are well formed: every operand in the range its row gives it. The machine answers an ill-formed command too, by its clamps and default reads; senders send well-formed ones. -/

namespace Sys2Proof.WellFormed

open Sys2Proof.Machine

/-- A port of four: backbone, consist or backplane (13, 15, 18). -/
def portOk (p : Nat) : Bool := p < 4

/-- An index below a bound. -/
def below (n k : Nat) : Bool := k < n

/-- A value within inclusive bounds. -/
def between (a b k : Nat) : Bool := a ≤ k && k ≤ b

/-- Two different lanes: no lane sends to itself over a cross-lane link (01 R11). -/
def distinct (a b : Lane) : Bool := a != b

/-- Field channels in rising order (17 R373). -/
def channels (cs : List Nat) : Bool := cs.all (· < 96)

/-- At most `n` bytes of data. -/
def dataUpTo (n : Nat) (d : Bytes) : Bool := d.length ≤ n

/-- Registers whose write has a row of its own in the command table, so that REGISTER_WRITE does not name them. -/
def ownWrites : List String :=
  ["TRI_REINT_CTRL", "TRP_DBG_CTRL", "SAF_SEND", "SAF_DEG_CLEAR", "MER_ADJ_CTRL", "CAR_SHEET_CTRL", "CAR_COMMIT", "CAR_CAB", "CAR_ATLAS_W2",
   "INA_CTRL", "ECN_AUX_KICK", "ECN_STATIC_PORT", "CAN_QqACK", "CAN_TXREQ", "CAN_TXCANCEL", "FIO_SOE_ACK", "FIO_CLEAR", "BRG_XFER",
   "BRG_CFGACC_DATA", "BRG_PWLOG_CLR", "PRT_CTRL", "PWR_REQ", "PWR_WAKE_TX", "PWR_RES_CLR", "SYS_CMD", "MBX_AUXOUT_CTRL", "MBX_AUXIN_ACK",
   "EVR_CTRL", "EVR_RD_IDX_HI", "MEM_ECC_INJ", "PMC_SCTRLc", "PMC_CTRLc", "PMC_SEEDc", "MER_CMPu_CTRL"]

/-- An offset that names a register without a row of its own for writes. -/
def plainRegister (a : Nat) : Bool :=
  match regRow a with
  | some r => !ownWrites.contains r.name
  | none => false

/-- An offset that names a register which a read clears (00 R6). -/
def rcRegister (a : Nat) : Bool :=
  match regRow a with
  | some r => r.acc == .rc
  | none => false

/-- A CAN frame: the data length its DLC says, 8 bytes at most in a classical frame (16 R351, Table CAN-2). -/
def canFrameOk (f : CanFrame) : Bool := f.dlc < 16 && (f.id.getLsbD 29 || f.data.length ≤ 8) && f.data.length ≤ 64

/-- An Ethernet frame: EtherType and tag in range (15 R341). -/
def ethFrameOk (f : EthFrame) : Bool :=
  f.etype < 65536 && match f.tag with
    | some t => t.1 < 4096 && t.2 < 8
    | none => true

/-- A scheduled Carousel frame on an end port, its payload at most 1,476 bytes (13 Table CAR-1). -/
def carFrameOk (f : CarFrame) : Bool := portOk f.port && f.payload.length ≤ 1476

/-- A sync frame: an end port, a position 1 to 63 (13 Table CAR-5). -/
def syncOk (s : SyncMsg) : Bool := portOk s.port && 1 ≤ s.pos && s.pos ≤ 63

/-- An agreement set: field bits of channel pairs in range (02 R42; 17 R379). -/
def setOk (s : AgreeSet) : Bool := s.fb.cross.all (fun p => p.1 < 96 && p.2 < 96)

/-- An activation order names at most five tags (23 Table UPD-3). -/
def orderOk (o : UpdOrder) : Bool := o.tags.length ≤ 5

end Sys2Proof.WellFormed

namespace Sys2Proof

open Sys2Proof.WellFormed

/-- A command is well formed when each operand lies in the range its row gives it. -/
def Instr.wellFormed : Instr → Bool
  | .nop _ => true
  | .trap _ _ => true
  | .fence _ => true
  | .evt _ _ _ => true
  | .add _ _ _ _ _ _ => true
  | .sub _ _ _ _ _ _ => true
  | .mul _ _ _ _ _ _ => true
  | .mulhs _ _ _ _ => true
  | .mulhu _ _ _ _ => true
  | .div _ _ _ _ _ _ => true
  | .divu _ _ _ _ _ => true
  | .rem _ _ _ _ _ => true
  | .remu _ _ _ _ _ => true
  | .and _ _ _ _ _ => true
  | .or _ _ _ _ _ => true
  | .xor _ _ _ _ _ => true
  | .andn _ _ _ _ _ => true
  | .sll _ _ _ _ _ => true
  | .srl _ _ _ _ _ => true
  | .sra _ _ _ _ _ => true
  | .rol _ _ _ _ _ => true
  | .ror _ _ _ _ _ => true
  | .cmp _ _ _ _ => true
  | .setc _ _ _ => true
  | .min _ _ _ _ _ => true
  | .max _ _ _ _ _ => true
  | .minu _ _ _ _ _ => true
  | .maxu _ _ _ _ _ => true
  | .abs _ _ _ _ _ => true
  | .sextb _ _ _ => true
  | .sexth _ _ _ => true
  | .sextw _ _ _ => true
  | .zextw _ _ _ => true
  | .movd _ _ _ => true
  | .mfs _ _ _ _ => true
  | .mts _ _ _ => true
  | .ldxb _ _ _ _ => true
  | .ldxh _ _ _ _ => true
  | .ldxw _ _ _ _ => true
  | .ldxd _ _ _ _ => true
  | .stxb _ _ _ _ => true
  | .stxh _ _ _ _ => true
  | .stxw _ _ _ _ => true
  | .stxd _ _ _ _ => true
  | .addi _ _ _ _ => true
  | .andi _ _ _ _ => true
  | .ori _ _ _ _ => true
  | .xori _ _ _ _ => true
  | .lui _ _ _ => true
  | .cmpi _ _ _ => true
  | .fadd _ _ _ _ => true
  | .dadd _ _ _ _ => true
  | .fsub _ _ _ _ => true
  | .dsub _ _ _ _ => true
  | .fmul _ _ _ _ => true
  | .dmul _ _ _ _ => true
  | .fdiv _ _ _ _ => true
  | .ddiv _ _ _ _ => true
  | .fsqrt _ _ _ => true
  | .dsqrt _ _ _ => true
  | .fmin _ _ _ _ => true
  | .dmin _ _ _ _ => true
  | .fmax _ _ _ _ => true
  | .dmax _ _ _ _ => true
  | .fcmp _ _ _ => true
  | .dcmp _ _ _ => true
  | .fneg _ _ _ => true
  | .dneg _ _ _ => true
  | .fabs _ _ _ => true
  | .dabs _ _ _ => true
  | .fcpys _ _ _ _ => true
  | .dcpys _ _ _ _ => true
  | .f2i _ _ _ _ => true
  | .f2u _ _ _ _ => true
  | .f2l _ _ _ _ => true
  | .f2ul _ _ _ _ => true
  | .d2i _ _ _ _ => true
  | .d2u _ _ _ _ => true
  | .d2l _ _ _ _ => true
  | .d2ul _ _ _ _ => true
  | .i2f _ _ _ => true
  | .u2f _ _ _ => true
  | .l2f _ _ _ => true
  | .ul2f _ _ _ => true
  | .i2d _ _ _ => true
  | .u2d _ _ _ => true
  | .l2d _ _ _ => true
  | .ul2d _ _ _ => true
  | .f2d _ _ _ => true
  | .d2f _ _ _ => true
  | .bld _ _ _ => true
  | .bldn _ _ _ => true
  | .btst _ _ => true
  | .bstr _ _ _ => true
  | .bset _ _ => true
  | .bclr _ _ => true
  | .btgl _ _ => true
  | .ldw _ _ _ _ => true
  | .ldh _ _ _ _ => true
  | .ldb _ _ _ _ => true
  | .ldd _ _ _ _ => true
  | .stw _ _ _ _ => true
  | .sth _ _ _ _ => true
  | .stb _ _ _ _ => true
  | .std _ _ _ _ => true
  | .swapw _ _ _ _ => true
  | .br _ _ => true
  | .bc _ _ _ _ => true
  | .loop _ _ _ _ => true
  | .call _ _ => true
  | .callfb _ _ _ => true
  | .ret _ => true
  | .rdtime _ _ => true
  | .rdlane _ _ => true
  | .dcwb _ _ => true
  | .dcinv _ _ => true
  | .icinv _ _ => true
  | .brk _ => true
  | .ton _ _ _ => true
  | .tof _ _ _ => true
  | .tp _ _ _ => true
  | .rtrig _ _ _ _ => true
  | .ftrig _ _ _ _ => true
  | .ctu _ _ _ _ => true
  | .ctd _ _ _ _ => true
  | .ctud _ _ _ _ => true
  | .sr _ _ _ => true
  | .rs _ _ _ => true
  | .sel _ _ => true
  | .seld _ _ => true
  | .mux _ _ _ => true
  | .muxd _ _ _ => true
  | .limitDint _ _ => true
  | .limitUdint _ _ => true
  | .limitReal _ _ => true
  | .limitLreal _ _ => true
  | .hystDint _ _ _ => true
  | .hystReal _ _ _ => true
  | .dbnc _ _ _ _ => true
  | .dbncRising _ _ _ _ => true
  | .dbncFalling _ _ _ _ => true
  | .pid _ _ _ => true
  | .ramp _ _ _ => true
  | .auxRestart _ => true
  | .auxStart _ => true
  | .auxTxRequest _ f => ethFrameOk f
  | .snapshot _ _ => true
  | .agreeSetReceive l src st => distinct l src && setOk st
  | .agreeClose _ => true
  | .agreeWaitExpiry _ => true
  | .closingNotice l src _ => distinct l src
  | .agreeApply _ => true
  | .commitPoint _ => true
  | .overrunReport l src _ _ => distinct l src
  | .commit _ => true
  | .steeringEvaluation _ => true
  | .vsetRefresh _ => true
  | .steerFallback _ => true
  | .runWarm _ => true
  | .runCold _ => true
  | .stop _ => true
  | .hold _ => true
  | .resume _ => true
  | .holdLimitExpiry => true
  | .autoRunEntry _ => true
  | .moduleBreakpointArm _ => true
  | .moduleBreakpointHit _ => true
  | .forceSet _ _ _ => true
  | .forceClear _ _ _ => true
  | .clearAll _ _ => true
  | .forceExpiry _ => true
  | .onlineChangeSwitch => true
  | .migrationCycle _ => true
  | .migWaitExpiry => true
  | .ringmasterMessage msg => dataUpTo 56 msg.data
  | .compareTimeout _ _ => true
  | .debugAttach _ _ _ _ => true
  | .debugAttachEffect _ => true
  | .debugDetach _ => true
  | .debugHalt _ => true
  | .debugStep _ => true
  | .debugGo _ => true
  | .debugInject _ _ => true
  | .itemDigestRecord l r => distinct l r.sender
  | .commitDoneRecord l r => distinct l r.sender
  | .stateDigestRecord l r => distinct l r.sender
  | .verdictRecord l r => distinct l r.sender
  | .accusation l r => distinct l r.sender
  | .backplaneReadRequest l r => distinct l r.sender
  | .cycleClose _ => true
  | .linkFailure l peer => distinct l peer
  | .exclusionAssertion _ _ _ => true
  | .ownerTakeover _ => true
  | .degLimitExpiry _ => true
  | .driverRefreshTimeout _ => true
  | .backplaneCompletionDelivery _ _ => true
  | .reintSelftestComplete _ _ => true
  | .join _ => true
  | .reintBlockSend l joiner blk => distinct l joiner && below 524288 blk
  | .reintBlockReceive _ => true
  | .reintCatchup _ _ => true
  | .reintVoteStart _ => true
  | .catchupWaitExpiry _ => true
  | .reintStart _ _ => true
  | .clearFailed _ _ => true
  | .scrubCodeword _ _ => true
  | .scrubUeStop _ => true
  | .memEccInj _ _ _ => true
  | .syncReceive _ s => syncOk s
  | .domainLost _ _ => true
  | .pdelayReqSend _ port => portOk port
  | .pdelayReq _ port _ _ => portOk port
  | .pdelayResp _ port _ => portOk port
  | .checkEpoch => true
  | .merStep _ _ => true
  | .merCorrection _ _ => true
  | .grandmasterChange _ => true
  | .sourceChange _ => true
  | .returnHoldExpiry _ => true
  | .slewEnd _ => true
  | .leapSecond _ => true
  | .consistSyncSend _ port => portOk port
  | .delayReq _ port _ => portOk port
  | .foreignPtp _ => true
  | .cmpArm _ _ un _ => below 16 un
  | .compareFire _ un => below 16 un
  | .toutPulseEnd _ k => below 4 k
  | .ppsOutEdge _ _ => true
  | .ppsInEdge _ => true
  | .rmcSentence _ _ _ _ => true
  | .tcapEdge _ k _ => below 4 k
  | .merWtNsRead _ _ => true
  | .carouselCycleStart _ _ => true
  | .slotTransmit _ entry => below 1024 entry
  | .syncSlotTransmit _ => true
  | .scheduledFrameReceive _ f => carFrameOk f
  | .runningValidLoss _ => true
  | .coldstartEntry _ => true
  | .coldstartFrameReceive _ port _ => portOk port
  | .coldstartRelaySend _ port => portOk port
  | .contentionWindowEnd _ => true
  | .unscheduledWindow _ _ => true
  | .unscheduledFrameReceive _ f => portOk f.port
  | .sheetPropose _ _ _ => true
  | .carCabWrite _ _ _ => true
  | .carCommit _ _ => true
  | .carAtlasW2 _ _ _ => true
  | .linkStateChange _ port _ => portOk port
  | .debounceExpiry _ port => portOk port
  | .mergeSend _ port => portOk port
  | .mergeReceive _ port _ => portOk port
  | .foreignTimeout _ port => portOk port
  | .waveWindowStart _ => true
  | .waveReceive _ port _ => portOk port
  | .confirmReceive _ port _ => portOk port
  | .waveWindowEnd _ => true
  | .adoption _ => true
  | .reinaugurate _ => true
  | .consistFrameReceive _ port f => portOk port && ethFrameOk f
  | .consistFrameSend _ port => portOk port
  | .vitalArpRequest _ port _ _ _ => portOk port
  | .macAgeOut _ vid _ => below 4096 vid
  | .ecnAuxKick _ => true
  | .canFrameReceive _ _ f => canFrameOk f
  | .canQqack _ _ _ _ => true
  | .canTxreq _ _ _ => true
  | .canTxcancel _ _ _ => true
  | .canFrameStart _ _ => true
  | .canFrameComplete _ _ => true
  | .canArbitrationLost _ _ => true
  | .canError _ _ _ => true
  | .canBusoffRecovery _ _ => true
  | .canInit _ _ _ _ => true
  | .sampleTick _ _ => true
  | .soeEdge _ _ _ => true
  | .offPulseStart _ _ _ => true
  | .offPulseEnd _ _ _ fell => channels fell
  | .gssTestStart _ _ _ => true
  | .gssTestEnd _ _ _ => true
  | .degTimeExpiry _ _ => true
  | .overcurrentTrip _ _ => true
  | .overcurrentRetry _ _ => true
  | .tripCountReset _ _ => true
  | .groupOverload _ _ => true
  | .safeOkDisagree _ _ => true
  | .fioClear _ _ _ => true
  | .fioSoeAck _ _ => true
  | .safDegClear _ _ _ => true
  | .safDegClearGroup _ _ _ => true
  | .safSend _ _ => true
  | .blockWrite _ _ => true
  | .blockRead _ _ => true
  | .backplaneReadCompletion _ _ => true
  | .backplaneBudgetExpiry _ => true
  | .completionTimeout _ => true
  | .pcieErrorMessage _ _ _ => true
  | .pcieLinkDown _ p => portOk p
  | .pcieLinkReady _ p => portOk p
  | .inboundPostedWrite _ _ d => dataUpTo 256 d
  | .inboundMirrorRead _ _ len => below 257 len
  | .inboundUnsupported _ _ => true
  | .cfgaccRead _ _ => true
  | .cfgaccWrite _ _ _ => true
  | .brgPwlogInfoRead _ _ => true
  | .brgPwlogClr _ _ => true
  | .heartbeatReceive _ _ => true
  | .blockFrameReceive _ _ => true
  | .waitExit _ => true
  | .pairWaitExpiry _ => true
  | .takeover _ => true
  | .invisibleResign _ => true
  | .handover _ _ => true
  | .handoverSwitch _ => true
  | .resync _ _ => true
  | .outHoldExpiry _ _ => true
  | .pwrReq _ _ => true
  | .powerStateRequest _ target => between 1 3 target
  | .entryBegin => true
  | .participantQuiesced _ => true
  | .participantRefusal _ => true
  | .participantTimeout _ => true
  | .abortRestartStep => true
  | .entryComplete => true
  | .stbyLimitExpiry => true
  | .standbySupplyLoss => true
  | .wakeArmExpiry => true
  | .backboneEnergyWake => true
  | .wakePatternReceive _ => true
  | .consistEnergyWake port => portOk port
  | .canWake _ => true
  | .wakePin => true
  | .alarmWake => true
  | .fieldInputWake _ => true
  | .resupplyWake => true
  | .wakeStep => true
  | .pwrWakeTx _ _ => true
  | .pwrResClr _ => true
  | .standbyPowerApplied => true
  | .inputPowerApplied => true
  | .bistComplete _ _ => true
  | .imageVerification _ => true
  | .configValidation => true
  | .startupTimeout => true
  | .supplyWarning _ => true
  | .supplyRecovery _ => true
  | .resetPoint => true
  | .restart _ _ => true
  | .safetyNet _ => true
  | .hello => true
  | .offer _ _ => true
  | .read _ => true
  | .data _ => true
  | .readRepeatTimeout => true
  | .result _ => true
  | .snetRestart _ => true
  | .identify _ => true
  | .safetyNetExit => true
  | .fleetKeyEnrol _ idx _ _ => below 8 idx
  | .keyRevoke _ idx => below 8 idx
  | .ringmasterWatchdog => true
  | .ringmasterFault => true
  | .ringmasterResume => true
  | .serviceSessionOpen _ => true
  | .sessionTimeout _ => true
  | .operatorMessage _ _ d => dataUpTo 56 d
  | .sensorSample sn _ => below 44 sn
  | .lifeCounterUpdate => true
  | .eventReport _ => true
  | .suppressionSummary _ _ => true
  | .evrClear _ => true
  | .freeze _ _ => true
  | .unfreeze _ => true
  | .freezeMaxExpiry => true
  | .evrReadStart _ _ _ => true
  | .evrReadNext _ _ => true
  | .evrRateValRead _ _ => true
  | .auxMessageSend _ _ => true
  | .auxMessageReceive _ d => dataUpTo 256 d
  | .mbxAuxinAck _ => true
  | .announce => true
  | .announceReceive port _ => portOk port
  | .request port _ => portOk port
  | .segment _ d => dataUpTo 1024 d
  | .chunkTimeout _ => true
  | .imageInject _ _ _ => true
  | .order o => orderOk o
  | .ready _ _ _ _ => true
  | .decision _ _ => true
  | .orderDeadline => true
  | .activation => true
  | .activationWindowExpiry => true
  | .confirmTimeExpiry _ => true
  | .pmcCtrlWrite _ _ _ _ => true
  | .pmcCntLoRead _ _ _ _ => true
  | .pmcCntHiWrite _ _ _ _ _ => true
  | .pmcCntLoWrite _ _ _ _ _ => true
  | .pmcSeedWrite _ _ _ _ => true
  | .clear _ _ _ => true
  | .feed8 _ _ _ _ => true
  | .feed16 _ _ _ _ => true
  | .feed32 _ _ _ _ => true
  | .cvuRestart _ _ _ => true
  | .cvuValueWrite _ _ _ _ _ => true
  | .cvuResultRead _ _ _ _ => true
  | .registerWrite _ _ a _ => plainRegister a
  | .ocxoWarm _ => true
  | .gnssAbsenceExpiry _ => true
  | .ppsMissing _ => true
  | .crossLaneLinkRestored x y => distinct x y
  | .hardExclusionAgeOut _ _ => true
  | .standbyInputRemoved => true
  | .serviceSessionClose _ => true
  | .helloReceive _ => true
  | .rcRegisterRead _ _ a => rcRegister a
  | .ecnStaticPort _ _ _ => true

end Sys2Proof
end

