-- ==== Sys2Proof/Safety.lean ====
section
/-! DEFINITION. What counts as a well-formed state and a safe run, in the terms the statements use. -/

namespace Sys2Proof

open Sys2Proof.Machine

/-- The canonical form of a lane's memory: addresses rise, and no listed byte equals what an unlisted address reads as (07 Table MEM-1; log 3). -/
abbrev Memory.wf (m : List (Nat × Byte)) : Bool := swf zByte m

/-- The canonical form of a lane's register file: offsets rise, and no listed register holds its reset value (07 R154). -/
abbrev Registers.wf (l : LaneState) : Bool := swf (resetReg l.id) l.regs

/-- A lane in canonical form: it is the lane `x`, and its memory and register file are canonical. -/
def LaneOk (x : Lane) (l : LaneState) : Prop := l.id = x ∧ Memory.wf l.mem = true ∧ Registers.wf l = true

/-- A lane that differs from another at most in its mailbox block: what Ringmaster takes from it (22 R475). -/
def SameButMail (x y : LaneState) : Prop :=
  y = { x with mbx := y.mbx, regs := y.regs } ∧ ∀ a, a ≠ Rg.MBX_STATUS → rget y a = rget x a

/-- Ringmaster differs at most in the reports it holds, the items it has taken, and the status it returns (22 R475, R483). -/
def SameButReports (r q : RmState) : Prop := q = { r with evr := q.evr, took := q.took, status := q.status }

/-- A command reached lane `l` alone: in the others and in Ringmaster nothing changed but the reports passed on, no free value was taken, and the queue is as it was. -/
def OnlyLane (l : Lane) (s t : Machine.State) : Prop :=
  (∀ x, x ≠ l → SameButMail (s.lane x) (t.lane x)) ∧ SameButReports s.rm t.rm ∧ t.freeCtr = s.freeCtr ∧ t.pending = s.pending

/-- No vote item waits at the voter of a lane (09 R197 to R200). -/
def Calm (l : LaneState) : Prop := l.tri.toOffer = [] ∧ l.tri.items = [] ∧ l.tri.digs = []

/-- The vital unit of a lane stands with registers `c` at an instruction it will execute: it runs an instance, no debug or module breakpoint stops it, twins agree, the fetch reaches code without error, and no vote item waits (02 R34; 03 R64; 06 R140; 08 R174; 09 R200). -/
structure VitalStands (x : LaneState) (i : Instance) (c : CoreCtx) : Prop where
  runs : vitalRuns x = true
  inst : runInst x = some i
  free : x.c0.dbgHalted = false
  clear : atBreak x = false
  ctx0 : x.c0.ctx = c
  ctx1 : (isSplit x || outOfComparison x) = false → x.c1.ctx = c
  code : vitalFetch x c.ip.toNat = true
  clean : x.ecc.errs = [] ∧ x.ecc.poison = []
  calm : Calm x

/-- The same, with an instance that waits for no completion (18 R407). -/
structure VitalAt (x : LaneState) (i : Instance) (c : CoreCtx) : Prop extends VitalStands x i c where
  idle : i.susp = none

/-- The auxiliary core of a lane stands with registers `c` at an instruction it will execute: the core runs, debug does not hold it, the fetch reaches its own code without error, the data cache holds DRAM alone, and no vote item waits (04 R98; 08 R184, R188; 09 R200). -/
structure AuxAt (x : LaneState) (c : CoreCtx) : Prop where
  runs : auxRuns x = true
  free : x.c1.dbgHalted = false
  ctx : x.c1.ctx = c
  cache : ∀ b ∈ x.c1.dcache, 0x100000000 ≤ b.1
  code : auxFetch x c.ip.toNat = true
  clean : x.ecc.errs = [] ∧ x.ecc.poison = []
  calm : Calm x

/-- Core `u` stands with registers `c` at an instruction it will execute; a vital one in instance `i`. -/
def CoreAt (u : CoreId) (i : Instance) (c : CoreCtx) (s : Machine.State) : Prop :=
  (s.lane u.lane).id = u.lane ∧ if u.core1 = true then AuxAt (s.lane u.lane) c else VitalAt (s.lane u.lane) i c

/-- What an instruction on core `u` may depend on beside its registers. -/
def coreEnv (u : CoreId) (x : LaneState) : Env := if u.core1 then auxEnv x else vitalEnv x false

/-- The running instance has been let past a breakpoint (06 R141). -/
def passed (x : LaneState) : LaneState := updRun x (fun i => { i with resumed := false })

/-- A lane whose core `u` has gone on with registers `c`: the twin's cores alike, a core in split mode alone (08 R174, R183). -/
def afterCore (u : CoreId) (x : LaneState) (c : CoreCtx) : LaneState :=
  if u.core1 then { x with c1 := { x.c1 with ctx := c } } else setCtx (passed x) c c

/-- A register of the performance units, or the mailbox status. -/
def counterReg (a : Nat) : Bool := a == Rg.MBX_STATUS || (0x0D0000 ≤ a && a < 0x0E0000)

/-- Lane `y` is lane `x` but for its performance units and its mailbox block. -/
def Counted (x y : LaneState) : Prop :=
  y = { x with regs := y.regs, pmc0 := y.pmc0, pmc1 := y.pmc1, mbx := y.mbx } ∧ ∀ a, counterReg a = false → rget y a = rget x a

/-- A command reached lane `l` alone, as OnlyLane says, but that another lane's taps may have noted what left (09 R200). -/
def OnlyVoter (l : Lane) (s t : Machine.State) : Prop :=
  (∀ x, x ≠ l → SameButMail { s.lane x with tri := (t.lane x).tri } (t.lane x) ∧ (t.lane x).tri = { (s.lane x).tri with taps := (t.lane x).tri.taps })
    ∧ SameButReports s.rm t.rm ∧ t.freeCtr = s.freeCtr ∧ t.pending = s.pending

/-- Instruction `i` on core `u` answers a next state in which its lane is `z` with registers `c` in the core, but for counting, and no other lane is reached but by its taps. -/
def Retires (i : Instr) (u : CoreId) (s : Machine.State) (z : LaneState) (c : CoreCtx) : Prop :=
  ∃ t, exec i s = .next t ∧ OnlyVoter u.lane s t ∧ Counted (afterCore u z c) (t.lane u.lane)

/-- The same for an instruction that changes registers of its core alone. -/
def RetiresTo (i : Instr) (u : CoreId) (s : Machine.State) (c : CoreCtx) : Prop := Retires i u s (s.lane u.lane) c

/-- An event that sets E does so on core `u`, where ARITH_TRAP would trap (03 R85). -/
def SetsE (u : CoreId) (s : Machine.State) : Prop := u.core1 = true ∨ arithTrap (s.lane u.lane) = false

/-- A command of lane `l` answers a next state in which that lane is `y` but for the mailbox block, and no other lane is reached. -/
def LaneBecomes (i : Instr) (l : Lane) (s : Machine.State) (y : LaneState) : Prop :=
  ∃ t, exec i s = .next t ∧ OnlyLane l s t ∧ SameButMail y (t.lane l)

/-- The same for a command that may release vote items: the lane ends as its voter settles `y`. -/
def VoterSettles (i : Instr) (l : Lane) (s : Machine.State) (y : LaneState) : Prop :=
  ∃ t, exec i s = .next t ∧ OnlyVoter l s t ∧ SameButMail (settleAll (s.sends l) y) (t.lane l)

/-- A command answers a next state in which every lane is `f` of what it was but for the mailbox block, and nothing else of the module changes but the reports passed on. -/
def LanesBecome (i : Instr) (s : Machine.State) (f : LaneState → LaneState) : Prop :=
  ∃ t, exec i s = .next t ∧ (∀ l, SameButMail (f (s.lane l)) (t.lane l)) ∧ SameButReports s.rm t.rm ∧ t.freeCtr = s.freeCtr ∧ t.pending = s.pending

/-- The same, and Ringmaster returns status `st` for the command. -/
def LanesAnswer (i : Instr) (s : Machine.State) (st : CmdStatus) (f : LaneState → LaneState) : Prop :=
  ∃ t, exec i s = .next t ∧ (∀ l, SameButMail (f (s.lane l)) (t.lane l)) ∧ SameButReports s.rm t.rm ∧ t.rm.status = st ∧ t.freeCtr = s.freeCtr ∧ t.pending = s.pending

/-- A change in the lanes that vote. -/
def whereVotes (f : LaneState → LaneState) (x : LaneState) : LaneState := if votes x then f x else x

/-- The session table: at most two sessions, every number given out already, no number twice (22 R476). -/
def SessionsOk (r : RmState) : Prop :=
  r.sessions.length ≤ 2 ∧ (r.sessions.map (·.sid)).Nodup ∧ ∀ x ∈ r.sessions, x.sid < r.nextSid

/-- A run is safe for `n` steps when no step ends in a fault or a refusal. -/
def SafeRun (n : Nat) (s : Machine.State) : Prop := ∃ t, Host.Core.run core n s = .next t

end Sys2Proof
end

