-- ==== Sys2Proof/Terms.lean ====
section
/-! DEFINITION. The terms in which the statements speak of one instruction of a core: its operands, its result with its flags, the memory it reaches, and the registers at entry to a trap handler. -/

namespace Sys2Proof

open Sys2Proof.Machine

/-! Operands and results (03 R61 to R65; 04 R103). -/

/-- The width of a word or, with `d`, of a pair. -/
def widthOf (d : Bool) : Nat := if d then 64 else 32

/-- The unsigned value of a word register or, with `d`, of a pair. -/
def opnd (d : Bool) (c : CoreCtx) (r : Reg) : Nat := if d then (dget c r).toNat else (wget c r).toNat

/-- Pair fields hold the numbers of even registers other than 0, where the operation works on pairs (03 R63). -/
def pairsOk (d : Bool) (rs : List Reg) : Prop := d = true → ∀ r ∈ rs, badPair r.val = false

/-- A register that is no base register, so that an instruction may name it as its destination (03 R62). -/
def destOk (r : Reg) : Prop := isBase r.val = false

/-- The value written to a word register or, with `d`, to a pair; then the next instruction. -/
def putNext (d : Bool) (c : CoreCtx) (r : Reg) (v : Nat) : CoreCtx :=
  advance (if d then dset c r (BitVec.ofNat 64 v) else wset c r (BitVec.ofNat 32 v))

/-- Registers `c'` are `b` with the flags Z, N, C, V and E as given, the rest of sf as it was. -/
def FlagsOf (z n cy v e : Bool) (b c' : CoreCtx) : Prop :=
  c' = { b with sf := c'.sf } ∧ flagZ c' = z ∧ flagN c' = n ∧ flagC c' = cy ∧ flagV c' = v ∧ flagE c' = e ∧ c'.sf >>> 5 = b.sf >>> 5

/-- An integer instruction writes `v`, sets Z and N from it, C and V as given (a flag not given is kept), and with `e` sets E (03 R65; 04 R103). -/
def IntRetires (i : Instr) (u : CoreId) (s : Machine.State) (c : CoreCtx) (d : Bool) (rd : Reg) (v : Nat) (cy vo : Option Bool) (e : Bool) : Prop :=
  (e = true → SetsE u s) →
    ∃ c', FlagsOf (v == 0) (decide (2 ^ (widthOf d - 1) ≤ v)) (cy.getD (flagC c)) (vo.getD (flagV c)) (e || flagE c) (putNext d c rd v) c'
      ∧ RetiresTo i u s c'

/-- An instruction that writes no register but flags: Z, N, C and V as given, and with `e` E set. -/
def FlagsRetire (i : Instr) (u : CoreId) (s : Machine.State) (c : CoreCtx) (z n cy v e : Bool) : Prop :=
  (e = true → SetsE u s) → ∃ c', FlagsOf z n cy v (e || flagE c) (advance c) c' ∧ RetiresTo i u s c'

/-- An instruction that writes `v` and changes no flag but, with `e`, E. -/
def PutRetires (i : Instr) (u : CoreId) (s : Machine.State) (c : CoreCtx) (d : Bool) (rd : Reg) (v : Nat) (e : Bool) : Prop :=
  (e = true → SetsE u s) → RetiresTo i u s (withE e (putNext d c rd v))

/-- The three forms of an addition, subtraction or multiplication with the exact results `exS` and `exU` (04 R103). -/
def ArithForms (mk : Ovf → Instr) (u : CoreId) (s : Machine.State) (c : CoreCtx) (d : Bool) (rd : Reg) (exS exU : Int) : Prop :=
  let w := widthOf d
  let res := (exU % 2 ^ w).toNat
  let rs := max (-(2 ^ (w - 1))) (min exS (2 ^ (w - 1) - 1))
  let ru := max 0 (min exU (2 ^ w - 1))
  IntRetires (mk .w) u s c d rd res (some (exU != (res : Int))) (some (exS != sxI w res)) false
    ∧ IntRetires (mk .ss) u s c d rd (rs % 2 ^ w).toNat none (some (rs != exS)) false
    ∧ IntRetires (mk .us) u s c d rd ru.toNat (some (ru != exU)) none false

/-! Memory that an instruction reaches (02 R38; 04 R98, R99, R109; 07 Table MEM-6; 08 Table TRP-4). -/

/-- SRAM that core `u` may read, and with `wr` also write. -/
def mayReach (u : CoreId) (x : LaneState) (i : Instance) (ea n : Nat) (wr : Bool) : Bool :=
  if u.core1 then decide (ea + n ≤ 0x400000) && auxMay x ea n wr else sramBoth x i ea n wr

/-- The bytes core `u` reads there. -/
def bytesAt (u : CoreId) (x : LaneState) (i : Instance) (ea n : Nat) : Bytes :=
  if u.core1 then mrd x ea n else sramBytes x i ea n

/-- A load of `n` bytes from an aligned SRAM address puts their value, lowest byte first, into the destination and changes nothing else (04 R99, R110). -/
def Loads (i : Instr) (u : CoreId) (s : Machine.State) (inst : Instance) (c : CoreCtx) (d : Bool) (rd : Reg) (ea n : Nat) : Prop :=
  ea % n = 0 → mayReach u (s.lane u.lane) inst ea n false = true →
    RetiresTo i u s (putNext d c rd (leNat (bytesAt u (s.lane u.lane) inst ea n)))

/-- A store of the low `n` bytes of `v` to an aligned SRAM address writes them there, changes no register, and leaves every other byte (04 R99, R110). -/
def Stores (i : Instr) (u : CoreId) (s : Machine.State) (inst : Instance) (c : CoreCtx) (ea n v : Nat) : Prop :=
  ea % n = 0 → mayReach u (s.lane u.lane) inst ea n true = true →
    Retires i u s (mwr (s.lane u.lane) ea (leBytes n v)) (advance c)

/-- An instruction that reads bytes of SRAM and writes the same number back: with `f` the new bytes, with `g` the next registers, with `h` whether E is set. -/
def Updates (i : Instr) (u : CoreId) (s : Machine.State) (inst : Instance) (ea n : Nat) (f : Bytes → Bytes) (g : Bytes → CoreCtx) (h : Bytes → Bool) : Prop :=
  let b := mrd (s.lane u.lane) ea n
  mayReach u (s.lane u.lane) inst ea n true = true → (h b = true → SetsE u s) →
    Retires i u s (mwr (s.lane u.lane) ea (f b)) (withE (h b) (g b))

/-- A register window of `len` registers from `r` that an instruction may use: its pairs are pairs, and it writes no base register (05 R117). -/
def windowOk (r : Reg) (len : Nat) (pairs writes : List Nat) : Prop :=
  r.val + len ≤ 32 ∧ (∀ p ∈ pairs, badPair p = false) ∧ ∀ w ∈ writes, isBase w = false

/-- A limiter puts its result, sets V as given, and with `e` sets E (05 R128). -/
def LimitRetires (i : Instr) (u : CoreId) (s : Machine.State) (c : CoreCtx) (d : Bool) (r : Reg) (v : Nat) (out e : Bool) : Prop :=
  (e = true → SetsE u s) → ∃ c', FlagsOf (flagZ c) (flagN c) (flagC c) out (e || flagE c) (putNext d c r v) c' ∧ RetiresTo i u s c'

/-- What a PID instance and its window hold before an execution (05 R131, Table FBI-3). -/
def pidIn (c : CoreCtx) (r : Reg) (b : Bytes) : PidIn :=
  let f := fbWord b
  { kp := f 0x00, ti := f 0x04, td := f 0x08, tf := f 0x0C, ymin := f 0x10, ymax := f 0x14, i := f 0x18, d := f 0x1C, pvPrev := f 0x20,
    first := (f 0x30).testBit 0, satHi := (f 0x30).testBit 1, satLo := (f 0x30).testBit 2, tPrev := fbTime b 0x28,
    man := (wget c r).getLsbD 0, reset := (wget c r).getLsbD 1, sp := (wget c (r + 1)).toNat, pv := (wget c (r + 2)).toNat, yman := (wget c (r + 3)).toNat }

/-! Traps (03 R86, R90). -/

/-- The registers at entry to an error handler at `ip` with frame `fp` (03 R86): both stacks empty, sf 0, the cause in w1, the trapping address in w2 and the faulting address in w3. -/
def handlerEntry (c : CoreCtx) (ip : Nat) (fp : Option Nat) (cause fault : Nat) : CoreCtx :=
  let w := ((c.w.setIfInBounds 1 (BitVec.ofNat 32 cause)).setIfInBounds 2 (BitVec.ofNat 32 c.ip.toNat)).setIfInBounds 3 (BitVec.ofNat 32 fault)
  { c with
    w := match fp with
      | some f => w.setIfInBounds 31 (BitVec.ofNat 32 f)
      | none => w
    rstack := [], lnest := [], sf := 0, ip := BitVec.ofNat 40 ip, inHandler := true }

/-- An instruction traps with a cause and a faulting address. On the vital core the trap record is queued and the task's handler entered; on the auxiliary core its handler is entered (03 R86, R87, R90). -/
def Traps (i : Instr) (u : CoreId) (s : Machine.State) (inst : Instance) (c : CoreCtx) (cause fault : Nat) : Prop :=
  let x := s.lane u.lane
  let e := taskEnt x inst.slot
  let a := x.aux.getD {}
  c.inHandler = false →
  (u.core1 = false → e.handler ≠ 0 → ∃ t, exec i s = .next t ∧ OnlyVoter u.lane s t ∧
    Counted (setCtx (updRun (passed x) (fun j => { j with items := j.items ++ [⟨0x600, .event 0x0240 (BitVec.ofNat 32 cause) inst.slot c.ip.toNat⟩], susp := none }))
      (handlerEntry c e.handler (some e.frame) cause fault) (handlerEntry c e.handler (some e.frame) cause fault)) (t.lane u.lane))
  ∧ (u.core1 = true → a.auxTrap ≠ 0 → ∃ t, exec i s = .next t ∧ OnlyVoter u.lane s t ∧
    Counted { x with c1 := { x.c1 with ctx := handlerEntry c (a.loadAddr + a.auxTrap) none cause fault } } (t.lane u.lane))

/-! Registers (00 R4 to R8). -/

/-- A register of which a read or a write does what its access kind says and nothing more. -/
def plainReg (a : Nat) : Bool :=
  !(0x050000 ≤ a && a < 0x051000) && !(0x090000 ≤ a && a < 0x0A0000) && !(0x0C0000 ≤ a && a < 0x0E0000 && (a < 0x0D0000 || a % 4096 != 4)) && !(0x0B1014 ≤ a && a < 0x0B3000 && a % 32 == 0x14)
    && !List.contains [Rg.CAR_CAB, Rg.CAR_COMMIT, Rg.CAR_SHEET_CTRL, Rg.CAR_ATLAS_W0, Rg.CAR_ATLAS_W1, Rg.CAR_ATLAS_W2, Rg.ECN_STATIC_MAC_LO, Rg.ECN_STATIC_MAC_HI, Rg.ECN_STATIC_PORT,
      Rg.INA_CTRL, Rg.MEM_ECC_INJ, Rg.BRG_PWLOG_ADDR_LO, Rg.BRG_PWLOG_ADDR_HI, Rg.BRG_PWLOG_INFO, Rg.BRG_PWLOG_CLR, Rg.SAF_SEND, Rg.FIO_SOE_ACK, Rg.PWR_REQ,
      Rg.EVR_RATE_VAL, Rg.TRI_DEG_REMAIN, Rg.TRI_REINT_DIRTY] a

end Sys2Proof
end

