-- ==== Sys2Proof/Certificates/Slice0/Obligations.lean ====
section
/-! DEFINITION. The statements for the provers. -/

open Sys2Proof Sys2Proof.Machine

/-! Instructions of the cores. In each, core `u` stands with registers `c` at an instruction it will execute. -/

/-- ADD, SUB and MUL, in words and pairs, wrapping and saturating: result and flags of 04 R103. -/
def Obligations.IntegerArithmetic : Prop :=
  ∀ (u : CoreId) (i : Instance) (c : CoreCtx) (s : State) (d : Bool) (rd ra rb : Reg),
    CoreAt u i c s → destOk rd → pairsOk d [rd, ra, rb] →
    let x := opnd d c ra
    let y := opnd d c rb
    let w := widthOf d
    ArithForms (fun o => .add u o d rd ra rb) u s c d rd (sxI w x + sxI w y) (x + y)
    ∧ ArithForms (fun o => .sub u o d rd ra rb) u s c d rd (sxI w x - sxI w y) (x - y)
    ∧ ArithForms (fun o => .mul u o d rd ra rb) u s c d rd (sxI w x * sxI w y) (x * y)

/-- DIV, DIVU, REM, REMU and ABS: truncation toward zero, the sign of the remainder, the corner −2^(w−1) / −1, and division by zero, which traps under ARITH_TRAP (03 R78, R85; 04 R103). -/
def Obligations.DivisionAndAbsolute : Prop :=
  ∀ (u : CoreId) (i : Instance) (c : CoreCtx) (s : State) (d : Bool) (rd ra rb : Reg),
    CoreAt u i c s → destOk rd → pairsOk d [rd, ra, rb] →
    let x := opnd d c ra
    let y := opnd d c rb
    let w := widthOf d
    let q := (sxI w x).tdiv (sxI w y)
    (y = 0 →
      IntRetires (.div u .w d rd ra rb) u s c d rd 0 none (some false) true ∧ IntRetires (.div u .ss d rd ra rb) u s c d rd 0 none (some false) true
      ∧ IntRetires (.divu u d rd ra rb) u s c d rd 0 none none true ∧ IntRetires (.rem u d rd ra rb) u s c d rd 0 none none true
      ∧ IntRetires (.remu u d rd ra rb) u s c d rd 0 none none true)
    ∧ (y = 0 → u.core1 = false → arithTrap (s.lane u.lane) = true → ∀ o, o ≠ Ovf.us →
      ∀ j ∈ [Instr.div u o d rd ra rb, .divu u d rd ra rb, .rem u d rd ra rb, .remu u d rd ra rb], Traps j u s i c 8 0)
    ∧ (y ≠ 0 → sxI w x = -(2 ^ (w - 1)) → sxI w y = -1 →
      IntRetires (.div u .w d rd ra rb) u s c d rd (2 ^ (w - 1)) none (some true) false
      ∧ IntRetires (.div u .ss d rd ra rb) u s c d rd (2 ^ (w - 1) - 1) none (some true) false)
    ∧ (y ≠ 0 → ¬(sxI w x = -(2 ^ (w - 1)) ∧ sxI w y = -1) → ∀ o, o ≠ Ovf.us → IntRetires (.div u o d rd ra rb) u s c d rd (q % 2 ^ w).toNat none (some false) false)
    ∧ (y ≠ 0 → IntRetires (.divu u d rd ra rb) u s c d rd (x / y) none none false
      ∧ IntRetires (.rem u d rd ra rb) u s c d rd (((sxI w x).tmod (sxI w y)) % 2 ^ w).toNat none none false
      ∧ IntRetires (.remu u d rd ra rb) u s c d rd (x % y) none none false)
    ∧ (x = 2 ^ (w - 1) → IntRetires (.abs u .w d rd ra) u s c d rd (2 ^ (w - 1)) none (some true) false
      ∧ IntRetires (.abs u .ss d rd ra) u s c d rd (2 ^ (w - 1) - 1) none (some true) false)
    ∧ (x ≠ 2 ^ (w - 1) → ∀ o, o ≠ Ovf.us → IntRetires (.abs u o d rd ra) u s c d rd (sxI w x).natAbs none (some false) false)

/-- AND, OR, XOR, ANDN and the shifts and rotates, with Z and N of the result; an amount at or above the width, and the amount modulo the width (03 R79; 04 Tables JFI-6, JFI-7). -/
def Obligations.LogicAndShifts : Prop :=
  ∀ (u : CoreId) (i : Instance) (c : CoreCtx) (s : State) (d : Bool) (rd ra rb : Reg) (imm : Half),
    CoreAt u i c s → destOk rd → pairsOk d [rd, ra, rb] →
    let x := opnd d c ra
    let y := opnd d c rb
    let w := widthOf d
    let n := y % 2 ^ 32
    let k := n % w
    let on (j : Instr) (v : Nat) : Prop := IntRetires j u s c d rd v none none false
    let onW (j : Instr) (v : Nat) : Prop := IntRetires j u s c false rd v none none false
    on (.and u d rd ra rb) (x &&& y) ∧ on (.or u d rd ra rb) (x ||| y) ∧ on (.xor u d rd ra rb) (x ^^^ y)
    ∧ on (.andn u d rd ra rb) (x &&& (2 ^ w - 1 - y))
    ∧ (w ≤ n → on (.sll u d rd ra rb) 0 ∧ on (.srl u d rd ra rb) 0 ∧ on (.sra u d rd ra rb) (if sxI w x < 0 then 2 ^ w - 1 else 0))
    ∧ (n < w → on (.sll u d rd ra rb) (x * 2 ^ n % 2 ^ w) ∧ on (.srl u d rd ra rb) (x / 2 ^ n)
      ∧ on (.sra u d rd ra rb) (sxI w x / 2 ^ n % 2 ^ w).toNat)
    ∧ on (.rol u d rd ra rb) (x * 2 ^ k % 2 ^ w + x / 2 ^ (w - k)) ∧ on (.ror u d rd ra rb) (x / 2 ^ k + x * 2 ^ (w - k) % 2 ^ w)
    ∧ onW (.andi u rd ra imm) ((wget c ra).toNat &&& imm.toNat) ∧ onW (.ori u rd ra imm) ((wget c ra).toNat ||| imm.toNat)
    ∧ onW (.xori u rd ra imm) ((wget c ra).toNat ^^^ imm.toNat)

/-- CMP, CMPI, SETC, the minima and maxima, the high products, ADDI and LUI (04 R103, Tables JFI-6, JFI-7, JFI-11). -/
def Obligations.ComparesAndSelections : Prop :=
  ∀ (u : CoreId) (i : Instance) (c : CoreCtx) (s : State) (d : Bool) (rd ra rb cond : Reg) (imm : Half),
    CoreAt u i c s →
    let x := opnd d c ra
    let y := opnd d c rb
    let w := widthOf d
    let a := (wget c ra).toNat
    let b := (wget c rb).toNat
    let m := (imm.signExtend 32).toNat
    let sum := ((a : Int) + m) % 2 ^ 32
    (pairsOk d [ra, rb] → FlagsRetire (.cmp u d ra rb) u s c (x == y) (decide (sxI w x < sxI w y)) (decide (x < y)) false false)
    ∧ FlagsRetire (.cmpi u ra imm) u s c (a == m) (decide (sxI 32 a < sxI 32 m)) (decide (a < m)) false false
    ∧ (destOk rd →
      (cond.val < 16 → PutRetires (.setc u rd cond) u s c false rd
        (b2n ([flagZ c, !flagZ c, flagN c, !flagN c, flagN c || flagZ c, !flagN c && !flagZ c, flagC c, !flagC c, flagC c || flagZ c, !flagC c && !flagZ c,
          flagV c, !flagV c, flagE c, !flagE c, !flagN c && !flagV c, !flagN c && !flagZ c && !flagV c].getD cond.val false)) false)
      ∧ IntRetires (.mulhs u rd ra rb) u s c false rd ((sxI 32 a * sxI 32 b) / 2 ^ 32 % 2 ^ 32).toNat none none false
      ∧ IntRetires (.mulhu u rd ra rb) u s c false rd (a * b / 2 ^ 32) none none false
      ∧ IntRetires (.addi u rd ra imm) u s c false rd sum.toNat (some ((a : Int) + m != sum)) (some (sxI 32 a + sxI 32 m != sxI 32 sum.toNat)) false
      ∧ PutRetires (.lui u rd imm) u s c false rd (imm.toNat * 2 ^ 16) false)
    ∧ (destOk rd → pairsOk d [rd, ra, rb] →
      IntRetires (.min u d rd ra rb) u s c d rd (if sxI w x < sxI w y then x else y) none none false
      ∧ IntRetires (.max u d rd ra rb) u s c d rd (if sxI w x < sxI w y then y else x) none none false
      ∧ IntRetires (.minu u d rd ra rb) u s c d rd (min x y) none none false
      ∧ IntRetires (.maxu u d rd ra rb) u s c d rd (max x y) none none false)

/-- NOP and FENCE go on; the extensions and MOVD; MFS reads ip, sf, tn and cs; MTS writes sf[4:0] and clears the rest of sf; RDTIME and RDLANE on the auxiliary core (04 R100, R104, R115). -/
def Obligations.MovesAndSpecialRegisters : Prop :=
  ∀ (u : CoreId) (i : Instance) (c : CoreCtx) (s : State) (rd ra : Reg),
    CoreAt u i c s →
    RetiresTo (.nop u) u s (advance c) ∧ RetiresTo (.fence u) u s (advance c)
    ∧ RetiresTo (.mts u 1 ra) u s (advance { c with sf := BitVec.ofNat 32 ((wget c ra).toNat % 32) })
    ∧ (destOk rd →
      PutRetires (.sextb u rd ra) u s c false rd ((BitVec.ofNat 8 (wget c ra).toNat).signExtend 32).toNat false
      ∧ PutRetires (.sexth u rd ra) u s c false rd ((BitVec.ofNat 16 (wget c ra).toNat).signExtend 32).toNat false
      ∧ PutRetires (.mfs u false rd 1) u s c false rd c.sf.toNat false ∧ PutRetires (.mfs u false rd 3) u s c false rd c.cs.toNat false
      ∧ (u.core1 = true → PutRetires (.rdlane u rd) u s c false rd (laneNo u.lane) false))
    ∧ (destOk rd → badPair rd = false →
      PutRetires (.sextw u rd ra) u s c true rd ((wget c ra).signExtend 64).toNat false
      ∧ PutRetires (.zextw u rd ra) u s c true rd (wget c ra).toNat false
      ∧ PutRetires (.mfs u true rd 0) u s c true rd c.ip.toNat false ∧ PutRetires (.mfs u true rd 2) u s c true rd c.tn.toNat false
      ∧ (u.core1 = true → PutRetires (.rdtime u rd) u s c true rd (BitVec.ofInt 64 (wNow (s.lane u.lane))).toNat false)
      ∧ (badPair ra = false → PutRetires (.movd u rd ra) u s c true rd (dget c ra).toNat false))

/-- FADD, FSUB, FMUL, FDIV and FSQRT in binary32 and, with the D prefix, in binary64 change the destination and at most E; a NaN operand gives the canonical quiet NaN, and E only when it signals (03 R80, R81; 04 R106). -/
def Obligations.FloatArithmetic : Prop :=
  ∀ (u : CoreId) (i : Instance) (c : CoreCtx) (s : State) (d : Bool) (rd ra rb : Reg),
    CoreAt u i c s → destOk rd → pairsOk d [rd, ra, rb] →
    let m := if d then f64 else f32
    let x := opnd d c ra
    let y := opnd d c rb
    let vx := unpackF m x
    let vy := unpackF m y
    let two : List (Instr × FRes) := [(if d then .dadd u rd ra rb else .fadd u rd ra rb, faddB m x y), (if d then .dsub u rd ra rb else .fsub u rd ra rb, fsubB m x y),
      (if d then .dmul u rd ra rb else .fmul u rd ra rb, fmulB m x y), (if d then .ddiv u rd ra rb else .fdiv u rd ra rb, fdivB m x y)]
    let root : Instr := if d then .dsqrt u rd ra else .fsqrt u rd ra
    (∀ p ∈ two, PutRetires p.1 u s c d rd p.2.1 p.2.2 ∧ (vx.isNan = true ∨ vy.isNan = true → p.2 = (qnan m, vx.isSnan || vy.isSnan)))
    ∧ PutRetires root u s c d rd (fsqrtB m x).1 (fsqrtB m x).2 ∧ (vx.isNan = true → fsqrtB m x = (qnan m, vx.isSnan))

/-- FMIN, FMAX, FCMP, FNEG, FABS and FCPYS and their binary64 forms (03 R81, R82; 04 R107): the order of FMIN and FMAX puts −0 below +0, and the sign operations change the sign bit alone. -/
def Obligations.FloatComparesAndSigns : Prop :=
  ∀ (u : CoreId) (i : Instance) (c : CoreCtx) (s : State) (d : Bool) (rd ra rb : Reg),
    CoreAt u i c s → pairsOk d [rd, ra, rb] →
    let m := if d then f64 else f32
    let x := opnd d c ra
    let y := opnd d c rb
    let vx := unpackF m x
    let vy := unpackF m y
    let nan := vx.isNan || vy.isNan
    let top := 2 ^ (widthOf d - 1)
    FlagsRetire (if d then .dcmp u ra rb else .fcmp u ra rb) u s c (!nan && !ltV vx vy && !ltV vy vx) (!nan && ltV vx vy) false nan (vx.isSnan || vy.isSnan)
    ∧ (destOk rd →
      (nan = true →
        PutRetires (if d then .dmin u rd ra rb else .fmin u rd ra rb) u s c d rd (qnan m) (vx.isSnan || vy.isSnan)
        ∧ PutRetires (if d then .dmax u rd ra rb else .fmax u rd ra rb) u s c d rd (qnan m) (vx.isSnan || vy.isSnan))
      ∧ (nan = false →
        PutRetires (if d then .dmin u rd ra rb else .fmin u rd ra rb) u s c d rd (if ltZ vy vx then y else x) false
        ∧ PutRetires (if d then .dmax u rd ra rb else .fmax u rd ra rb) u s c d rd (if ltZ vx vy then y else x) false)
      ∧ PutRetires (if d then .dneg u rd ra else .fneg u rd ra) u s c d rd (if x < top then x + top else x - top) false
      ∧ PutRetires (if d then .dabs u rd ra else .fabs u rd ra) u s c d rd (x % top) false
      ∧ PutRetires (if d then .dcpys u rd ra rb else .fcpys u rd ra rb) u s c d rd (x % top + (if y < top then 0 else top)) false)

/-- The conversions (03 R83; 04 R108, Table JFI-9): to an integer a NaN gives 0 with E, a value outside the range its nearer end with E; to floating point E is never set but by a signalling NaN of F2D and D2F. -/
def Obligations.Conversions : Prop :=
  ∀ (u : CoreId) (i : Instance) (c : CoreCtx) (s : State) (rd ra : Reg) (t : Bool),
    CoreAt u i c s → destOk rd →
    let put (j : Instr) (d : Bool) (r : FRes) : Prop := PutRetires j u s c d rd r.1 r.2
    let w := (wget c ra).toNat
    let p := (dget c ra).toNat
    (put (.f2i u t rd ra) false (f2int f32 32 true t w) ∧ put (.f2u u t rd ra) false (f2int f32 32 false t w)
      ∧ put (.i2f u rd ra) false (int2f f32 32 true w, false) ∧ put (.u2f u rd ra) false (int2f f32 32 false w, false))
    ∧ (badPair rd = false → put (.f2l u t rd ra) true (f2int f32 64 true t w) ∧ put (.f2ul u t rd ra) true (f2int f32 64 false t w)
      ∧ put (.i2d u rd ra) true (int2f f64 32 true w, false) ∧ put (.u2d u rd ra) true (int2f f64 32 false w, false)
      ∧ put (.f2d u rd ra) true (f2f f32 f64 w))
    ∧ (badPair ra = false → put (.d2i u t rd ra) false (f2int f64 32 true t p) ∧ put (.d2u u t rd ra) false (f2int f64 32 false t p)
      ∧ put (.l2f u rd ra) false (int2f f32 64 true p, false) ∧ put (.ul2f u rd ra) false (int2f f32 64 false p, false)
      ∧ put (.d2f u rd ra) false (f2f f64 f32 p))
    ∧ (badPair rd = false → badPair ra = false → put (.d2l u t rd ra) true (f2int f64 64 true t p) ∧ put (.d2ul u t rd ra) true (f2int f64 64 false t p)
      ∧ put (.l2d u rd ra) true (int2f f64 64 true p, false) ∧ put (.ul2d u rd ra) true (int2f f64 64 false p, false))
    ∧ (∀ (m : Fmt) (n x : Nat) (sg : Bool), (unpackF m x).isNan = true → f2int m n sg t x = (0, true))

/-- The bit instructions on SRAM (04 R109): the byte and bit of both forms, the old bit read, and the one bit written. -/
def Obligations.BitInstructions : Prop :=
  ∀ (u : CoreId) (i : Instance) (c : CoreCtx) (s : State) (r : Reg) (loc : BitRef),
    CoreAt u i c s → bitRefOk loc = true →
    let a := bitAt c loc
    let old := ((bytesAt u (s.lane u.lane) i a.1 1).headD 0).getLsbD a.2
    let zNext (b : CoreCtx) (z : Bool) (j : Instr) : Prop := ∃ c', FlagsOf z (flagN c) (flagC c) (flagV c) (flagE c) b c' ∧ RetiresTo j u s c'
    let puts (j : Instr) (n : Bool) : Prop := Updates j u s i a.1 1 (fun b => [if n then b.headD 0 ||| (1#8 <<< a.2) else b.headD 0 &&& ~~~(1#8 <<< a.2)]) (fun _ => advance c) (fun _ => false)
    (mayReach u (s.lane u.lane) i a.1 1 false = true →
      (destOk r → zNext (putNext false c r (b2n old)) (!old) (.bld u r loc) ∧ zNext (putNext false c r (b2n !old)) old (.bldn u r loc))
      ∧ zNext (advance c) (!old) (.btst u loc))
    ∧ puts (.bset u loc) true ∧ puts (.bclr u loc) false ∧ puts (.bstr u r loc) ((wget c r).getLsbD 0) ∧ puts (.btgl u loc) (!old)

/-- Loads from SRAM, near and far, with LDB and LDH zero-extended (04 R98, R99, R110). -/
def Obligations.LoadsFromSram : Prop :=
  ∀ (u : CoreId) (i : Instance) (c : CoreCtx) (s : State) (rd ra rb : Reg) (off : Half),
    CoreAt u i c s → destOk rd →
    let near := (wget c ra + off.signExtend 32).toNat
    let far := ((dget c ra).toNat + (wget c rb).toNat) % 2 ^ 64
    Loads (.ldb u rd ra off) u s i c false rd near 1 ∧ Loads (.ldh u rd ra off) u s i c false rd near 2 ∧ Loads (.ldw u rd ra off) u s i c false rd near 4
    ∧ (badPair rd = false → Loads (.ldd u rd ra off) u s i c true rd near 8)
    ∧ (badPair ra = false → Loads (.ldxb u rd ra rb) u s i c false rd far 1 ∧ Loads (.ldxh u rd ra rb) u s i c false rd far 2
      ∧ Loads (.ldxw u rd ra rb) u s i c false rd far 4 ∧ (badPair rd = false → Loads (.ldxd u rd ra rb) u s i c true rd far 8))

/-- Stores to SRAM, near and far, and SWAPW (04 R99, R110, R111): the bytes written, at the address computed, and nothing else. -/
def Obligations.StoresToSram : Prop :=
  ∀ (u : CoreId) (i : Instance) (c : CoreCtx) (s : State) (r ra rb : Reg) (off : Half),
    CoreAt u i c s →
    let near := (wget c ra + off.signExtend 32).toNat
    let far := ((dget c ra).toNat + (wget c rb).toNat) % 2 ^ 64
    let w := (wget c r).toNat
    Stores (.stb u r ra off) u s i c near 1 (w % 2 ^ 8) ∧ Stores (.sth u r ra off) u s i c near 2 (w % 2 ^ 16) ∧ Stores (.stw u r ra off) u s i c near 4 w
    ∧ (badPair r = false → Stores (.std u r ra off) u s i c near 8 (dget c r).toNat)
    ∧ (badPair ra = false → Stores (.stxb u r ra rb) u s i c far 1 (w % 2 ^ 8) ∧ Stores (.stxh u r ra rb) u s i c far 2 (w % 2 ^ 16)
      ∧ Stores (.stxw u r ra rb) u s i c far 4 w ∧ (badPair r = false → Stores (.stxd u r ra rb) u s i c far 8 (dget c r).toNat))
    ∧ (destOk r → near % 4 = 0 →
      Updates (.swapw u r ra off) u s i near 4 (fun _ => leBytes 4 w) (fun b => putNext false c r (leNat b)) (fun _ => false))

/-- BR, BC, LOOP, CALL, CALLFB and RET (03 R67 to R70, R75; 04 R112 to R114): where each continues, and what it leaves on the return and loop-nest stacks. -/
def Obligations.ControlTransfer : Prop :=
  ∀ (u : CoreId) (i : Instance) (c : CoreCtx) (s : State) (rd ra cond : Reg) (o26 : BitVec 26) (o16 fo : Half) (bound : BitVec 11) (dist : BitVec 10) (bt : BitVec 10),
    CoreAt u i c s →
    let goes (n : Int) : CoreCtx :=
      let t : Addr40 := BitVec.ofInt 40 ((c.ip.toNat : Int) + 4 * n)
      { c with ip := t, lnest := if 0 < n then c.lnest.dropWhile (fun e => e.depth == c.rstack.length && decide (e.addr.toNat < t.toNat)) else c.lnest }
    let ok (n : Int) : Prop := u.core1 = true ∨ 0 < n
    let holds : Bool := if cond.val < 16 then condHolds c cond
      else [wget c ra == 0, wget c ra != 0, decide (2 ^ 31 ≤ (wget c ra).toNat), decide ((wget c ra).toNat < 2 ^ 31)].getD (cond.val - 16) false
    let v := wget c rd - 1
    let top : Bool := match c.lnest with | e :: _ => e.addr == c.ip && e.depth == c.rstack.length | [] => false
    let taken := (if top then (c.lnest.head?.map (·.count)).getD 0 else 0) + 1
    let rest := if top then c.lnest.drop 1 else c.lnest
    let x := s.lane u.lane
    let app := (if u.core1 then x.aux else x.app).getD {}
    (ok o26.toInt → RetiresTo (.br u o26) u s (goes o26.toInt))
    ∧ (ok o16.toInt → cond.val < 20 → (cond.val < 16 → ra.val = 0) → RetiresTo (.bc u cond ra o16) u s (if holds then goes o16.toInt else advance c))
    ∧ (destOk rd → rd.val ≠ 0 →
      (v = 0 → RetiresTo (.loop u rd bound dist) u s (advance { wset c rd v with lnest := rest }))
      ∧ (v ≠ 0 → taken < bound.toNat + 1 → rest.length < 16 → RetiresTo (.loop u rd bound dist) u s
          { wset c rd v with ip := BitVec.ofInt 40 ((c.ip.toNat : Int) - 4 * (dist.toNat + 1)), lnest := ⟨c.ip, c.rstack.length, taken⟩ :: rest }))
    ∧ (c.rstack.length < 64 → RetiresTo (.call u o26) u s
        { c with ip := BitVec.ofInt 40 ((c.ip.toNat : Int) + 4 * o26.toInt), rstack := { ret := c.ip + 4 } :: c.rstack })
    ∧ (∀ b, app.blocks[bt.toNat]? = some b → c.rstack.length < 64 → RetiresTo (.callfb u bt fo) u s
        { c with ip := BitVec.ofNat 40 (app.loadAddr + b.1), rstack := { ret := c.ip + 4, fp := some (wget c 31) } :: c.rstack,
                 w := c.w.setIfInBounds 31 (wget c 31 + BitVec.ofNat 32 (8 * fo.toNat)) })
    ∧ (∀ r rs, c.rstack = r :: rs → RetiresTo (.ret u) u s
        { c with ip := r.ret, rstack := rs, lnest := c.lnest.dropWhile (fun e => e.depth == rs.length + 1),
                 w := match r.fp with | some f => c.w.setIfInBounds 31 f | none => c.w })

/-- TON, TOF and TP (05 R122, R123): the instance after one execution is one timer step from what it held, FIRST counting as a cleared instance; W[r+2] takes Q; a negative PT counts as 0 and sets E. A TON with IN FALSE clears Q and ET, and with PT 0 sets Q at the rising edge. -/
def Obligations.TimerBlocks : Prop :=
  (∀ (u : CoreId) (i : Instance) (c : CoreCtx) (s : State) (r : Reg) (fo : Half) (k : TimerKind),
    CoreAt u i c s → windowOk r 3 [r.val] [r.val + 2] →
    let pt := (dget c r).toInt
    let on (b : Bytes) : TimerSt :=
      if (fbWord b 8).testBit 3 then { start := fbTime b 0, prev := false, q := false, run := false, et := 0 }
      else { start := fbTime b 0, prev := (fbWord b 8).testBit 0, q := (fbWord b 8).testBit 1, run := (fbWord b 8).testBit 2, et := fbTime b 0x10 }
    let y (b : Bytes) : TimerSt := timerStep k (on b) c.tn.toInt (max 0 pt) (wget c (r + 2) != 0)
    let j : Instr := match k with | .on => .ton u r fo | .off => .tof u r fo | .pulse => .tp u r fo
    Updates j u s i ((wget c 31).toNat + 8 * fo.toNat) 24
      (fun b => fbPut (fbPut (fbPut b 0 8 (wrapI 64 (y b).start)) 8 4 (fbFlags (fbWord b 8) 4 [(y b).prev, (y b).q, (y b).run, false])) 0x10 8 (wrapI 64 (y b).et))
      (fun b => advance (wset c (r + 2) (BitVec.ofNat 32 (b2n (y b).q)))) (fun _ => decide (pt < 0)))
  ∧ ∀ (x : TimerSt) (tn pt : Int),
    ((timerStep .on x tn pt false).q = false ∧ (timerStep .on x tn pt false).et = 0)
    ∧ (x.prev = false → (timerStep .on x tn 0 true).q = true) ∧ (timerStep .off x tn pt true).q = true

/-- RTRIG, FTRIG, the counters and the bistables (05 R121, R124 to R126): the outputs and the instance after one execution. -/
def Obligations.EdgesCountersBistables : Prop :=
  ∀ (u : CoreId) (i : Instance) (c : CoreCtx) (s : State) (r : Reg) (fo : Half) (e1 : Bool),
    CoreAt u i c s →
    let ea := (wget c 31).toNat + 8 * fo.toNat
    let w := wget c r
    let clk := w != 0
    let pv := (wget c (r + 1)).toInt
    let edge (falling : Bool) (b : Bytes) : Bool :=
      let prev := if (fbWord b 0).testBit 1 then (if e1 then falling else clk) else (fbWord b 0).testBit 0
      if falling then prev && !clk else clk && !prev
    let was (n : Nat) (now : Bool) (b : Bytes) : Bool := if (fbWord b 4).testBit 2 then !e1 && now else (fbWord b 4).testBit n
    let cv (b : Bytes) : Int := sxI 32 (fbWord b 0)
    let up (b : Bytes) : Bool := w.getLsbD 0 && !was 0 (w.getLsbD 0) b
    let dn (b : Bytes) : Bool := w.getLsbD 1 && !was 1 (w.getLsbD 1) b
    let inc (b : Bytes) : Int := min (cv b + 1) (2 ^ 31 - 1)
    let dec (b : Bytes) : Int := max (cv b - 1) (-(2 ^ 31))
    let counts (j : Instr) (n : Bytes → Int) : Prop := Updates j u s i ea 8
      (fun b => fbPut (fbPut b 0 4 (wrapI 32 (n b))) 4 4 (fbFlags (fbWord b 4) 3 [w.getLsbD 0, w.getLsbD 1, false]))
      (fun b => advance (wset (wset c r (BitVec.ofNat 32 (b2n (decide (pv ≤ n b)) + 2 * b2n (decide (n b ≤ 0))))) (r + 2) (BitVec.ofInt 32 (n b)))) (fun _ => false)
    let holds (j : Instr) (q : Bytes → Bool) : Prop := Updates j u s i ea 8 (fun b => fbPut b 0 4 (fbFlags (fbWord b 0) 1 [q b]))
      (fun b => advance (wset c r (BitVec.ofNat 32 (b2n (q b))))) (fun _ => false)
    (windowOk r 1 [] [r.val] → ∀ falling, Updates (if falling then .ftrig u e1 r fo else .rtrig u e1 r fo) u s i ea 4
        (fun b => fbPut b 0 4 (fbFlags (fbWord b 0) 2 [clk, false])) (fun b => advance (wset c r (BitVec.ofNat 32 (b2n (edge falling b))))) (fun _ => false))
    ∧ (windowOk r 3 [] [r.val, r.val + 2] →
      counts (.ctu u e1 r fo) (fun b => if w.getLsbD 2 then 0 else if up b then inc b else cv b)
      ∧ counts (.ctd u e1 r fo) (fun b => if w.getLsbD 3 then pv else if dn b then dec b else cv b)
      ∧ counts (.ctud u e1 r fo) (fun b => if w.getLsbD 2 then 0 else if w.getLsbD 3 then pv else if up b && !dn b then inc b else if dn b && !up b then dec b else cv b))
    ∧ (windowOk r 1 [] [r.val] →
      holds (.sr u r fo) (fun b => w.getLsbD 0 || ((fbWord b 0).testBit 0 && !w.getLsbD 1))
      ∧ holds (.rs u r fo) (fun b => !w.getLsbD 1 && (w.getLsbD 0 || (fbWord b 0).testBit 0)))

/-- SEL, SELD, MUX, MUXD and LIMIT (05 R127, R128): the value selected, E for K at or above n, and the limits with V and E. -/
def Obligations.SelectionsAndLimiters : Prop :=
  ∀ (u : CoreId) (i : Instance) (c : CoreCtx) (s : State) (r : Reg) (o : BitVec 2),
    CoreAt u i c s →
    let n := o.toNat + 2
    let w (j : Nat) : Word := wget c (r + j)
    let k := (w 0).toNat
    let kd := (w (2 * n)).toNat
    let sIn := (w 0).toInt
    let sMn := (w 1).toInt
    let sMx := (w 2).toInt
    let uIn := (w 0).toNat
    let uMn := (w 1).toNat
    let uMx := (w 2).toNat
    let fp (j : Instr) (d : Bool) (m : Fmt) (a lo hi : Nat) : Prop :=
      let va := unpackF m a
      let vl := unpackF m lo
      let vh := unpackF m hi
      ((vl.isNan || vh.isNan) = true → LimitRetires j u s c d r (qnan m) true true)
      ∧ ((vl.isNan || vh.isNan) = false → va.isNan = true → LimitRetires j u s c d r lo true true)
      ∧ ((vl.isNan || vh.isNan) = false → va.isNan = false → ltZ vh vl = true → LimitRetires j u s c d r hi true true)
      ∧ ((vl.isNan || vh.isNan) = false → va.isNan = false → ltZ vh vl = false →
          LimitRetires j u s c d r (if ltZ va vl then lo else if ltZ vh va then hi else a) (ltZ va vl || ltZ vh va) false)
    (windowOk r 3 [] [r.val] → PutRetires (.sel u r) u s c false r (if w 0 != 0 then w 2 else w 1).toNat false)
    ∧ (windowOk r 5 [r.val, r.val + 2] [r.val, r.val + 1] → RetiresTo (.seld u r) u s (advance (if w 4 != 0 then dset c r (dget c (r + 2)) else c)))
    ∧ (windowOk r (n + 1) [] [r.val] → PutRetires (.mux u o r) u s c false r (w (1 + min k (n - 1))).toNat (decide (n ≤ k)))
    ∧ (windowOk r (2 * n + 1) [r.val] [r.val, r.val + 1] → PutRetires (.muxd u o r) u s c true r (dget c (r + 2 * min kd (n - 1))).toNat (decide (n ≤ kd)))
    ∧ (windowOk r 3 [] [r.val] →
      LimitRetires (.limitDint u r) u s c false r (BitVec.ofInt 32 (min (max sIn sMn) sMx)).toNat (decide (sMx < sMn ∨ sIn < sMn ∨ sMx < sIn)) (decide (sMx < sMn))
      ∧ LimitRetires (.limitUdint u r) u s c false r (min (max uIn uMn) uMx) (decide (uMx < uMn ∨ uIn < uMn ∨ uMx < uIn)) (decide (uMx < uMn))
      ∧ fp (.limitReal u r) false f32 uIn uMn uMx)
    ∧ (windowOk r 6 [r.val] [r.val, r.val + 1] → fp (.limitLreal u r) true f64 (dget c r).toNat (dget c (r + 2)).toNat (dget c (r + 4)).toNat)

/-- HYST and the debouncers (05 R129, R130): Q and the instance after one execution, and the event that sets E. -/
def Obligations.HysteresisAndDebounce : Prop :=
  ∀ (u : CoreId) (i : Instance) (c : CoreCtx) (s : State) (r : Reg) (fo : Half) (q0 : Bool) (k : DebounceKind),
    CoreAt u i c s →
    let ea := (wget c 31).toNat + 8 * fo.toNat
    let a := (wget c r).toInt
    let m := (wget c (r + 1)).toInt
    let eps := (wget c (r + 2)).toInt
    let t := (dget c r).toInt
    let inp := wget c (r + 2) != 0
    let q (b : Bytes) : Bool := if m + |eps| < a then true else if a < m - |eps| then false else (fbWord b 0).testBit 0
    let hold (j : Instr) (q : Bytes → Bool) (e : Bytes → Bool) : Prop := Updates j u s i ea 8 (fun b => fbPut b 0 4 (fbFlags (fbWord b 0) 1 [q b]))
      (fun b => advance (wset c r (BitVec.ofNat 32 (b2n (q b))))) e
    let x := (wget c r).toNat
    let y := (wget c (r + 1)).toNat
    let z := (wget c (r + 2)).toNat
    let start (b : Bytes) : Bool × Bool := if (fbWord b 8).testBit 3 then (!q0 && inp, false) else ((fbWord b 8).testBit 1, (fbWord b 8).testBit 2)
    let st (b : Bytes) : Int × Bool × Bool := debounceStep k (fbTime b 0) (start b).1 (start b).2 c.tn.toInt (max 0 t) inp
    let j : Instr := match k with | .both => .dbnc u q0 r fo | .rising => .dbncRising u q0 r fo | .falling => .dbncFalling u q0 r fo
    (windowOk r 3 [] [r.val] →
      hold (.hystDint u r fo) q (fun _ => decide (eps < 0))
      ∧ hold (.hystReal u r fo) (fun b => (hystFp x y z ((fbWord b 0).testBit 0)).1) (fun b => (hystFp x y z ((fbWord b 0).testBit 0)).2)
      ∧ ((nan32 x || nan32 y || nan32 z) = true → ∀ b, hystFp x y z b = (b, true)))
    ∧ (windowOk r 3 [r.val] [r.val + 2] →
      Updates j u s i ea 16 (fun b => fbPut (fbPut b 0 8 (wrapI 64 (st b).1)) 8 4 (fbFlags (fbWord b 8) 4 [inp, (st b).2.1, (st b).2.2, false]))
        (fun b => advance (wset c (r + 2) (BitVec.ofNat 32 (b2n (st b).2.1)))) (fun _ => decide (t < 0)))

/-- PID and RAMP (05 R131 to R133). An invalid PID execution leaves the instance unchanged, writes the stored Y and status 4 and sets E; a valid one stores its results. A RAMP with a NaN leaves its instance unchanged and sets E; V says that the output is still ramping. -/
def Obligations.PidAndRamp : Prop :=
  ∀ (u : CoreId) (i : Instance) (c : CoreCtx) (s : State) (r : Reg) (fo : Half),
    CoreAt u i c s →
    let ea := (wget c 31).toNat + 8 * fo.toNat
    let run (b : Bytes) : Option PidOut := (pidIn c r b).run c.tn.toInt
    let wrote (st y : Nat) : CoreCtx := advance (wset (wset c r (BitVec.ofNat 32 st)) (r + 3) (BitVec.ofNat 32 y))
    let x := (wget c r).toNat
    let bad (b : Bytes) : Bool := nan32 x || nan32 (fbWord b 0) || nan32 (fbWord b 4)
    let z (b : Bytes) : FRes := if (fbWord b 0xC).testBit 0 then (x, false) else rampNext x (fbWord b 8) (fbWord b 0) (fbWord b 4) (fbDts c.tn.toInt (fbTime b 0x10)).1
    (windowOk r 4 [] [r.val, r.val + 3] → Updates (.pid u r fo) u s i ea 56
      (fun b => match run b with
        | none => b
        | some o => fbPut (fbPut (fbPut (fbPut (fbPut (fbPut b 0x18 4 o.i) 0x1C 4 o.d) 0x20 4 (wget c (r + 2)).toNat) 0x24 4 o.y) 0x28 8 c.tn.toNat) 0x30 4
            (fbFlags (fbWord b 0x30) 3 [false, o.satHi, o.satLo]))
      (fun b => match run b with | none => wrote 4 (fbWord b 0x24) | some o => wrote (b2n o.satHi + 2 * b2n o.satLo) o.y)
      (fun b => (run b).isNone))
    ∧ (∀ p : PidIn, (nan32 p.sp || nan32 p.pv || nan32 p.kp || nan32 p.ti || nan32 p.ymin || nan32 p.ymax || (p.man && nan32 p.yman) || flt32 p.ymax p.ymin) = true →
        ∀ tn, p.run tn = none)
    ∧ (windowOk r 1 [] [r.val] → Updates (.ramp u r fo) u s i ea 24
      (fun b => if bad b then b else fbPut (fbPut (fbPut b 8 4 (z b).1) 0xC 4 (fbFlags (fbWord b 0xC) 1 [false])) 0x10 8 c.tn.toNat)
      (fun b => if bad b then advance (wset c r (BitVec.ofNat 32 (fbWord b 8)))
        else advance (setFlag (wset c r (BitVec.ofNat 32 (z b).1)) 3 (!(fcmpB f32 (z b).1 x).1)))
      (fun b => if bad b then true else (z b).2))

/-- Taking a trap (03 R62, R63, R67, R70, R72, R85, R86, R90; 04 R100): instructions that trap, with their cause of Table JFM-8 and faulting address, and the entry to the handler. -/
def Obligations.TrapEntry : Prop :=
  ∀ (u : CoreId) (i : Instance) (c : CoreCtx) (s : State) (rd ra rb code : Reg) (imm : Half) (o26 : BitVec 26) (bound : BitVec 11) (dist : BitVec 10),
    CoreAt u i c s →
    let ea := (wget c ra + imm.signExtend 32).toNat
    let v := wget c rd - 1
    Traps (.trap u code) u s i c 0xA 0
    ∧ (isBase rd = true → Traps (.addi u rd ra imm) u s i c 2 0 ∧ Traps (.ldw u rd ra imm) u s i c 2 0 ∧ Traps (.swapw u rd ra imm) u s i c 2 0)
    ∧ (badPair ra = true → Traps (.movd u rd ra) u s i c 1 0 ∧ Traps (.stxw u rd ra rb) u s i c 1 0)
    ∧ (destOk rd → ea % 4 ≠ 0 → Traps (.ldw u rd ra imm) u s i c 3 ea) ∧ (ea % 4 ≠ 0 → Traps (.stw u rd ra imm) u s i c 3 ea)
    ∧ (c.rstack.length = 64 → Traps (.call u o26) u s i c 6 0)
    ∧ (destOk rd → rd.val ≠ 0 → v ≠ 0 → c.lnest = [⟨c.ip, c.rstack.length, bound.toNat⟩] → Traps (.loop u rd bound dist) u s i c 7 0)
    ∧ (u.core1 = false → destOk rd → arithTrap (s.lane u.lane) = true → wget c rb = 0 → Traps (.divu u false rd ra rb) u s i c 8 0)
    ∧ (u.core1 = false → Traps (.rdlane u rd) u s i c 1 0)

/-- EVT queues one record on the vital core, up to 32 an instance, and then sets E instead; on the auxiliary core it goes on (04 R101). The cache operations write back and drop lines of the auxiliary core, and BRK halts it where software breakpoints are armed and raises SOFTWARE elsewhere (04 R115). -/
def Obligations.EventsCachesBreakpoints : Prop :=
  ∀ (u : CoreId) (i : Instance) (c : CoreCtx) (s : State) (ra rb : Reg),
    CoreAt u i c s →
    let x := s.lane u.lane
    let ea := (dget c ra).toNat
    let line := ea / 64 * 64
    let mine := x.c1.dcache.filter (fun e => decide (line ≤ e.1) && decide (e.1 < line + 64))
    let kept := x.c1.dcache.filter (fun e => !(decide (line ≤ e.1) && decide (e.1 < line + 64)))
    let back := mine.foldl (fun y e => mwr y e.1 [e.2]) { x with c1 := { x.c1 with dcache := kept } }
    (u.core1 = false → i.evts < 32 → Retires (.evt u ra rb) u s
      (updRun x (fun j => { j with items := j.items ++ [⟨0x600, .event (0x8000 + (wget c ra).toNat % 2 ^ 15) (wget c rb) i.slot 0⟩], evts := j.evts + 1 })) (advance c))
    ∧ (u.core1 = false → 32 ≤ i.evts → SetsE u s → RetiresTo (.evt u ra rb) u s (withE true (advance c)))
    ∧ (u.core1 = true → bget x Rg.MBX_STATUS 0 = true ∨ x.mbx.evq.length < 256 → RetiresTo (.evt u ra rb) u s (advance c))
    ∧ (u.core1 = true → badPair ra = false →
      Retires (.dcwb u ra) u s back (advance c) ∧ Retires (.dcinv u ra) u s back (advance c)
      ∧ Retires (.icinv u ra) u s { x with c1 := { x.c1 with icache := x.c1.icache.filter (fun e => e.1 != line) } } (advance c))
    ∧ (u.core1 = true → x.c1.swBrk = false → Traps (.brk u) u s i c 0xA 0)
    ∧ (u.core1 = true → x.c1.swBrk = true → ∃ t, exec (.brk u) s = .next t ∧ OnlyVoter u.lane s t
      ∧ Counted (bset { x with c1 := { x.c1 with dbgHalted := true } } Rg.TRP_DBG_STATUS 1 true) (t.lane u.lane))

/-- Register accesses (00 R5 to R7, Table SCO-2): an access that is not permitted ends in a bus error and changes nothing; a permitted one does what the access kind says. An agent that the Who column does not list is not permitted. -/
def Obligations.RegisterAccess : Prop :=
  ∀ (s : State) (l : Lane) (ag : Agent) (a : Nat) (v : Word) (r : RegRow),
    let x := s.lane l
    let y := { x with berr := false }
    let put := rset y a (maskWord r.wmask (rget x a) v)
    (writeOk x ag a = false → LaneBecomes (.registerWrite l ag a v) l s { x with berr := true })
    ∧ (readOk x ag a = false → LaneBecomes (.rcRegisterRead l ag a) l s { x with berr := true })
    ∧ (regRow a = some r → cmpUnit a = none →
        (r.writers.contains ag = false → writeOk x ag a = false) ∧ (r.readers.contains ag = false → sampleWord x a = none → phaseOf x ≠ 0 → readOk x ag a = false))
    ∧ (regRow a = some r → plainReg a = true → writeOk x ag a = true →
        (r.acc = .rw → LaneBecomes (.registerWrite l ag a v) l s put)
        ∧ (r.acc = .rws → LaneBecomes (.registerWrite l ag a v) l s (if modeOf x = .stop then put else y))
        ∧ (r.acc = .w1c → LaneBecomes (.registerWrite l ag a v) l s (rset y a (rget x a &&& ~~~(v &&& BitVec.ofNat 32 r.wmask))))
        ∧ (r.acc = .ro ∨ r.acc = .rc → LaneBecomes (.registerWrite l ag a v) l s y))
    ∧ (regRow a = some r → plainReg a = true → readOk x ag a = true → r.acc = .rc →
        LaneBecomes (.rcRegisterRead l ag a) l s (rset { y with rdval := rget x a } a (rcClear a)))

/-- The performance units (24 R513 to R518): enables, the latch of a counter's high bits, its buffered load, the seed, and CLEAR. A loaded counter counts from what was loaded. -/
def Obligations.PerformanceUnits : Prop :=
  ∀ (s : State) (l : Lane) (ag : Agent) (c : Bool) (n : Ctr) (v : Word),
    let x := s.lane l
    let y := { x with berr := false }
    let k := b2n c
    let p := pmcOf x k
    let lo := Rg.PMC_CNTc_n_LO k n
    let hi := Rg.PMC_CNTc_n_HI k n
    ag ≠ .v →
    (writeOk x ag (Rg.PMC_CTRLc k) = true →
      LaneBecomes (.pmcCtrlWrite l ag c v) l s (rset y (Rg.PMC_CTRLc k) (maskWord 0x1FF (rget x (Rg.PMC_CTRLc k)) v)))
    ∧ (readOk x ag lo = true →
      LaneBecomes (.pmcCntLoRead l ag c n) l s (rset { y with rdval := rget x lo } hi (BitVec.ofNat 32 (sget zNat p.cntHi n))))
    ∧ (writeOk x ag hi = true → LaneBecomes (.pmcCntHiWrite l ag c n v) l s (setPmc y k { p with bufHi := sset zNat p.bufHi n (v.toNat % 2 ^ 16) }))
    ∧ (writeOk x ag lo = true → LaneBecomes (.pmcCntLoWrite l ag c n v) l s (pmcLoad y k n (v.toNat + sget zNat p.bufHi n * 2 ^ 32)))
    ∧ (∀ m < 2 ^ 48, pmcCount (pmcLoad x k n m) k n = m)
    ∧ (writeOk x ag (Rg.PMC_SEEDc k) = true → LaneBecomes (.pmcSeedWrite l ag c v) l s (rset y (Rg.PMC_SEEDc k) (if v = 0 then 1 else v)))
    ∧ (writeOk x ag (Rg.PMC_SCTRLc k) = true →
      LaneBecomes (.clear l ag c) l s (fset (fset (setPmc y k { p with samples := [] }) (Rg.PMC_SSTATc k) 16 8 0) (Rg.PMC_SSTATc k) 7 0 0))

/-- The check-value contexts (11 R254 to R256, R258): feeding 1, 2 or 4 bytes lowest first, RESTART, the halves of VALUE, and RESULT computed at the read. -/
def Obligations.CheckValueContexts : Prop :=
  ∀ (s : State) (l : Lane) (ag : Agent) (k : Ctr) (hi : Bool) (v : Word),
    let x := s.lane l
    let y := { x with berr := false }
    let old := cvuValue x k
    let fed (n : Nat) := cvuSet y k ((leBytes n v.toNat).foldl (crcByte (cvuPars x k)) old)
    let res := if hi then Rg.CVU_CTXk_RESULT_HI k else Rg.CVU_CTXk_RESULT_LO k
    (writeOk x ag (Rg.CVU_CTXk_FEED8 k) = true → LaneBecomes (.feed8 l ag k v) l s (fed 1))
    ∧ (writeOk x ag (Rg.CVU_CTXk_FEED16 k) = true → LaneBecomes (.feed16 l ag k v) l s (fed 2))
    ∧ (writeOk x ag (Rg.CVU_CTXk_FEED32 k) = true → LaneBecomes (.feed32 l ag k v) l s (fed 4))
    ∧ (writeOk x ag (Rg.CVU_CTXk_RESTART k) = true → LaneBecomes (.cvuRestart l ag k) l s (cvuSet y k (cvuPars x k).init))
    ∧ (writeOk x ag (if hi then Rg.CVU_CTXk_VALUE_HI k else Rg.CVU_CTXk_VALUE_LO k) = true →
      LaneBecomes (.cvuValueWrite l ag k hi v) l s (cvuSet y k (if hi then old % 2 ^ 32 + v.toNat * 2 ^ 32 else old / 2 ^ 32 * 2 ^ 32 + v.toNat)))
    ∧ (readOk x ag res = true → LaneBecomes (.cvuResultRead l ag k hi) l s
        { y with rdval := BitVec.ofNat 32 (if hi then crcResult (cvuPars x k) old / 2 ^ 32 else crcResult (cvuPars x k) old) })
    ∧ (writeOk x ag (Rg.CVU_CTXk_FEED8 k) = false → LaneBecomes (.feed8 l ag k v) l s { x with berr := true })
    ∧ (∀ n, cvuWidth x k ≤ 64 → cvuValue (cvuSet x k n) k = n % 2 ^ cvuWidth x k)

/-- SNAPSHOT and AGREE (02 R41 to R43): the boundary selects what is stamped at or before T(n), sets and notices of other lanes are held, the three ways of closing, the wait, and the result applied. -/
def Obligations.SnapshotAndAgreement : Prop :=
  ∀ (s : State) (l src : Lane) (n : Nat) (st : AgreeSet) (nt : Notice),
    let x := s.lane l
    let z := snapshotLane n x
    let w := { x with agree := { x.agree with waitOver := true } }
    let closes (y : LaneState) (c : Notice) := emit { bset y Rg.CYC_STATUS 10 (c.caseNo == 3) with agree := { y.agree with closed := some c } } (.notice c)
    (execUp x = true → ¬ (x.exe.snapped = true ∧ n = x.exe.n) → s.rm.ops = [] → LaneBecomes (.snapshot l n) l s z)
    ∧ (z.exe.n = n ∧ z.exe.snapped = true ∧ z.agree.closed = none ∧ z.agree.applied = false
        ∧ ∃ o, z.agree.own = some o ∧ o.n = n ∧ (∀ i ∈ o.items, i.stamp ≤ tOf z n) ∧ ∀ i ∈ o.held, tOf z n < i.stamp)
    ∧ (src ≠ x.id → sees x src = true → x.tri.linksDown.contains src = false →
        LaneBecomes (.agreeSetReceive l src st) l s
          { x with agree := { x.agree with sets := x.agree.sets.filter (fun e => !(e.1 == src && e.2.n == st.n)) ++ [(src, st)] } }
        ∧ LaneBecomes (.closingNotice l src nt) l s
          { x with agree := { x.agree with notices := x.agree.notices.filter (fun e => !(e.1 == src && e.2.n == nt.n)) ++ [(src, nt)] } })
    ∧ (execUp x = true → x.agree.closed = none →
        (∀ c, closeCase x = some c → LaneBecomes (.agreeClose l) l s (closes x c))
        ∧ (∀ c, closeCase w = some c → LaneBecomes (.agreeWaitExpiry l) l s (closes w c)))
    ∧ (∀ o a, heldSets x = [o, a] →
        (sameSet a.2 o.2 = true → closeCase x = some ⟨o.2.n, none, 2, [o.1, a.1]⟩)
        ∧ (sameSet a.2 o.2 = false → x.agree.waitOver = false → closeCase x = none)
        ∧ (sameSet a.2 o.2 = false → x.agree.waitOver = true → closeCase x = some ⟨o.2.n, (voters x).find? (fun y => y != o.1 && y != a.1), 3, [o.1, a.1]⟩))
    ∧ (∀ o, heldSets x = [o] → closeCase x = none)
    ∧ (∀ o a b, heldSets x = [o, a, b] → closeCase x = some ⟨o.2.n, none, 1, [o.1, a.1, b.1]⟩)
    ∧ (x.agree.closed = some nt → x.agree.applied = false → execUp x = true →
        VoterSettles (.agreeApply l) l s (applyAgreed x (resultSets x nt).1 (resultSets x nt).2))

/-- COMMIT and the commit point (02 R44, R50, R52): the instances due commit the image and the items, a lane that is late reports an overrun, and two late lanes abandon the cycle. In a program's values a byte that no due instance may write keeps its value, and one that a single due instance writes takes its working value. -/
def Obligations.CommitAndCommitPoint : Prop :=
  ∀ (s : State) (l src : Lane) (n k : Nat) (ns : List Nat) (r : OvrKind),
    let x := s.lane l
    let m := x.exe.n
    let due := dueInsts x n
    let covers (i : Instance) (a : Nat) : Bool := (wsetOf x i.slot).any (fun w => decide (w.1 ≤ a) && decide (a < w.1 + w.2))
    let p := pointResult x m
    let late := if p = .overrun then (addNew [] (lateSlots x m)).foldl (fun y t => finc y (Rg.CYC_TASKt_STAT t) 7 0 1) (finc x Rg.CYC_OVR_CNT 31 0 1) else x
    let heard := { x with exe := { x.exe with ovr := x.exe.ovr ++ [(src, m, r)] } }
    let done := s.onVote l (fun _ => pairSend (s.sends l 8) n (commitLane n x))
    (x.exe.owed = n :: ns → commitReady x n = true → isStandby x = false → x.ecc.errs = [] → x.ecc.poison = [] →
      exec (.commit l) s = .next (State.trapSafe (if (done.lane l).prt.frames != x.prt.frames then done.linkTaps l else done)))
    ∧ (execUp x = true → isSafe x = false → x.exe.ovr.any (fun o => o.1 == x.id && o.2.1 == m) = false →
      LaneBecomes (.commitPoint l) l s (decidePoint (emit { late with exe := { late.exe with ovr := late.exe.ovr ++ [(late.id, m, p)] } } (.overrun m p)) m))
    ∧ (src ≠ x.id → sees x src = true → votes x = true → x.exe.ovr.any (fun o => o.1 == src && o.2.1 == m) = false →
      LaneBecomes (.overrunReport l src m r) l s (decidePoint heard m))
    ∧ (migBehind x = false → (p = .onTime ↔ modeOf x ≠ .run ∨ lateSlots x m = []))
    ∧ (modeOf x = .run → isSafe x = false → x.exe.abandoned ≠ some k → (x.exe.ovr.filter (fun o => o.2.1 == k && sees x o.1)).map (·.2.2) = [.overrun, .overrun] →
      decidePoint x k = abandonCycle x k)
    ∧ (modeOf x = .run → x.exe.parked = none → x.exe.mig = none →
      ∀ a, (due.any (covers · a) = false → sget zByte (progImage x due) a = sget zByte x.exe.outProg a)
        ∧ ∀ i, due.filter (covers · a) = [i] → stopsTask x i = false → sget zByte (progImage x due) a = sget zByte x.mem (outBase + a))

/-- Mode commands (06 R135 to R142): while the window of a snapshot is open they take effect in every voting lane and return OK; otherwise they wait for the next snapshot. HOLD and RESUME need MAINTAINER level. HOLD_LIMIT ends in STOP, and AUTO_RUN enters RUN. -/
def Obligations.ModeCommands : Prop :=
  ∀ (s : State) (src : CmdSrc) (w : Bool) (x : LaneState),
    let quiet := s.rm.alive = true ∧ s.bringup = false ∧ s.safe = false ∧ s.migrating = false
    let waits (i : Instr) (o : RmOp) := s.atSnapshot = false → exec i s = .next { s with rm := { s.rm with ops := s.rm.ops ++ [o] } }
    let stopped := { level := Auth.maintainer : CmdSrc }
    (quiet → s.atSnapshot = true → s.mode = .stop → s.heldInStop = false →
      LanesAnswer (.runWarm src) s .ok (whereVotes enterRun) ∧ LanesAnswer (.runCold src) s .ok (whereVotes enterCold)
      ∧ (s.autoReady w = true → LanesAnswer (.autoRunEntry w) s .ok (whereVotes enterRun)))
    ∧ (quiet → s.atSnapshot = true → s.mode = .run ∨ s.mode = .hold → LanesAnswer (.stop src) s .ok (whereVotes enterStop))
    ∧ (quiet → s.atSnapshot = true → isMaintainer src = true →
      (s.mode = .run → LanesAnswer (.hold src) s .ok (whereVotes (fun y => enterHold y (y.exe.n + 1))))
      ∧ (s.mode = .hold → s.heldInStop = false → LanesAnswer (.resume src) s .ok (whereVotes leaveHold)))
    ∧ (quiet → s.atSnapshot = true → src.backbone = false → isMaintainer src = false → LanesAnswer (.hold src) s .auth id ∧ LanesAnswer (.resume src) s .auth id)
    ∧ (quiet → s.atSnapshot = true → s.mode = .hold → LanesAnswer .holdLimitExpiry s .ok (whereVotes enterStop))
    ∧ (quiet → waits (.runWarm src) (.runWarm false src) ∧ waits (.runCold src) (.runCold src) ∧ waits (.stop src) (.stop false src)
      ∧ (src.backbone = false → waits (.hold src) (.hold src) ∧ waits (.resume src) (.resume src)) ∧ (s.mode = .hold → waits .holdLimitExpiry (.stop true stopped)))
    ∧ (s.rm.alive = true → s.bringup = false → s.safe = true → LanesAnswer (.runWarm src) s .mode id)
    ∧ (modeOf (enterRun x) = .run ∧ modeOf (enterStop x) = .stop ∧ modeOf (enterHold x 0) = .hold ∧ (enterStop x).exe.insts = [] ∧ (enterRun x).exe.stopped = []
      ∧ ∀ i ∈ (enterHold x 0).exe.insts, i.frozen = true)

/-- Forcing and module breakpoints (06 R140, R143 to R145). A force operation that a lane applies changes its table; one with another status changes nothing but the status it will report. At a snapshot entries whose EXPIRY_N the cycle has reached are cleared. -/
def Obligations.ForcesAndBreakpoints : Prop :=
  ∀ (s : State) (l : Lane) (src : CmdSrc) (t sym : DWord) (e : ForceFields) (addr : Addr40) (i : Instance) (y : LaneState) (o : ForceOp),
    let x := s.lane l
    let quiet := s.rm.alive = true ∧ s.bringup = false ∧ s.safe = false ∧ s.migrating = false ∧ s.atSnapshot = true ∧ src.backbone = false
    (quiet → LanesBecome (.forceSet src t e) s (whereVotes (applyForce src t (.set e)))
      ∧ LanesBecome (.forceClear src t sym) s (whereVotes (applyForce src t (.clear sym))) ∧ LanesBecome (.clearAll src t) s (whereVotes (applyForce src t .clearAll)))
    ∧ (forceStatusOf y src t o ≠ 0 → (applyForce src t o y).forces = y.forces)
    ∧ (forceStatusOf y src t (.clear sym) = 0 → (applyForce src t (.clear sym) y).forces = y.forces.filter (fun f => f.2.f.sym != sym))
    ∧ (forceStatusOf y src t .clearAll = 0 → (applyForce src t .clearAll y).forces = [])
    ∧ (forceStatusOf y src t (.set e) = 0 → y.forces.any (fun f => sameKey f.2.f e) = false →
        (applyForce src t (.set e) y).forces = sins (freeForce y) ⟨e, forceSafety y e, expiryAt y (forceSafety y e) y.exe.n⟩ y.forces)
    ∧ (x.exe.snapped = true → LaneBecomes (.forceExpiry l) l s (expireForces x x.exe.n))
    ∧ (∀ n, (expireForces y n).forces = y.forces.filter (fun f => !(f.2.expiry != 0 && f.2.expiry ≤ n)))
    ∧ (s.rm.alive = true → s.bringup = false →
        LanesBecome (.moduleBreakpointArm addr) s (whereVotes (fun z => { z with exe := { z.exe with breaks := addNew z.exe.breaks [addr] } })))
    ∧ (runInst x = some i → x.exe.breaks.contains x.c0.ctx.ip = true → i.resumed = false →
        LaneBecomes (.moduleBreakpointHit l) l s (reschedule (updRun x (fun j => { j with frozen := true, bpHit := true }))))

/-- The auxiliary core's start and restart, Tightrope mismatches, and debug (03 R90; 04 R115; 08 R177 to R180, R188, R190 to R193). -/
def Obligations.SplitCoreAndDebug : Prop :=
  ∀ (s : State) (l : Lane) (src : CmdSrc) (k : JoinFail) (aux solo : Bool) (a : AppImage) (w : Word) (i : Instr) (m : CoreId × Sem),
    let x := s.lane l
    let boots := fset { x with c1 := { x.c1 with ctx := { ip := BitVec.ofNat 40 (a.loadAddr + a.auxEntry) }, halted := false, dbgHalted := false } } Rg.TRP_AUX_STATUS 1 0 1
    let can := phaseOf x = 4 ∧ votes x = true ∧ isSplit x = true ∧ x.aux = some a
    let halts (h : Bool) := bset (if x.dbg.core1 then { x with c1 := { x.c1 with dbgHalted := h } } else { x with c0 := { x.c0 with dbgHalted := h } }) Rg.TRP_DBG_STATUS 1 h
    let r := attachReason x src aux solo
    let up := s.rm.alive = true ∧ s.bringup = false
    (can → fget x Rg.TRP_AUX_STATUS 1 0 ≠ 1 → LaneBecomes (.auxStart l) l s boots)
    ∧ (can → s.rm.alive = true → fget x Rg.TRP_AUX_STATUS 1 0 = 2 → LaneBecomes (.auxRestart l) l s (finc boots Rg.TRP_AUX_STATUS 15 8 1))
    ∧ (fget x Rg.TRP_STATUS 1 0 = 0 → x.c0.halted = false → VoterSettles (.compareTimeout l k) l s
        (match k with
         | .core0Only => twinStop x 23 0 1 0 1 0x0110 (23 + 32)
         | .core1Only => twinStop x 23 0 0 1 1 0x0110 (23 + 32)
         | .spacer => twinStop x 0 0 0 0 2 0x0111 0))
    ∧ (up → r ≠ 0 → LaneBecomes (.debugAttach l src aux solo) l s (bset (fset { x with dbg := { x.dbg with pend := none } } Rg.TRP_DBG_STATUS 7 4 r) Rg.TRP_DBG_STATUS 2 true))
    ∧ (up → r = 0 → LaneBecomes (.debugAttach l src aux solo) l s (fset { x with dbg := { x.dbg with pend := some (aux, solo) } } Rg.TRP_DBG_STATUS 7 2 0))
    ∧ (bget x Rg.TRP_MODE 1 = false → r = 1) ∧ (bget x Rg.TRP_MODE 1 = true → isMaintainer src = false → r = 2)
    ∧ (x.dbg.pend = some (true, solo) → x.exe.mig = none →
        LaneBecomes (.debugAttachEffect l) l s (bset (bset { x with dbg := { pend := none, core1 := true } } Rg.TRP_STATUS 7 true) Rg.TRP_DBG_STATUS 0 true))
    ∧ (x.dbg.pend = some (false, solo) → x.exe.mig = none → votes x = true → (solo = true ∨ 2 ≤ ((voters x).filter (· != l)).length) →
        exec (.debugAttachEffect l) s = .next ((s.onLane l uncompared).onLanes (withdrawn l solo)))
    ∧ (attached x = true →
        LaneBecomes (.debugHalt l) l s (halts true) ∧ LaneBecomes (.debugGo l) l s (halts false)
        ∧ (x.dbg.core1 = true → LaneBecomes (.debugDetach l) l s (bset (bset (halts false) Rg.TRP_DBG_STATUS 0 false) Rg.TRP_STATUS 7 false))
        ∧ (x.dbg.core1 = false → exec (.debugDetach l) s = .next (((s.onLane l (fun z => bset (bset (setDbgHalt z false) Rg.TRP_DBG_STATUS 0 false) Rg.TRP_STATUS 7 false)).onLane l
            setLatch).onLanes (fun z => checkVoters (bset (setLaneState z l 1) Rg.TRI_STATUS 10 false))))
        ∧ (bget x Rg.TRP_DBG_STATUS 1 = true → x.dbg.core1 = true → auxRuns x = true → exec (.debugStep l) s = .next (s.auxRun l (fetched x).1 (fetched x).2))
        ∧ (bget x Rg.TRP_DBG_STATUS 1 = true → x.dbg.core1 = false → vitalRuns x = true →
            VoterSettles (.debugStep l) l s (vitalStep (fetched x).1 (fetched x).2 false x))
        ∧ (decodeJfi ⟨l, x.dbg.core1⟩ w = some i → semOf i = some m → LaneBecomes (.debugInject l w) l s (inject i m.2 x)))

/-- The voter's records (09 R197 to R206, R214, R217): a digest is held and judged, counts are compared, state digests are held, verdicts and accusations are held and evaluated, and a cycle closes. -/
def Obligations.VotingRecords : Prop :=
  ∀ (s : State) (l : Lane) (r : XRec),
    let x := s.lane l
    let n := r.cycle.toNat
    let v (y : Lane) := r.aux.toNat / 4 ^ laneNo y % 4
    let cause := r.aux.toNat / 256 % 16
    let told := (allLanes.filter (fun y => y != r.sender && v y != 0)).foldl (fun z y => addAcc z ⟨r.sender, y, n, v y, cause⟩) x
    let verdicts := (allLanes.filter (· != r.sender)).foldl (fun z y => addAcc z ⟨r.sender, y, n, v y, if 2 ≤ v y then cause else 0⟩) x
    (recOk x r 1 = true → VoterSettles (.itemDigestRecord l r) l s (takeDigest x r))
    ∧ (recOk x r 6 = true → VoterSettles (.backplaneReadRequest l r) l s (takeDigest { x with tri := { x.tri with reqs := x.tri.reqs ++ [r] } } r))
    ∧ (recOk x r 2 = true → VoterSettles (.commitDoneRecord l r) l s
        (compareCounts { x with tri := { x.tri with counts := x.tri.counts.filter (fun c => !(c.1 == r.sender && c.2.1 == n)) ++ [(r.sender, n, r.aux.toNat)] } } n))
    ∧ (recOk x r 3 = true → LaneBecomes (.stateDigestRecord l r) l s
        { x with tri := { x.tri with sdigs := x.tri.sdigs.filter (fun c => !(c.1 == r.sender && c.2.1 == n)) ++ [(r.sender, n, r.digest)] } })
    ∧ (recOk x r 4 = true → VoterSettles (.verdictRecord l r) l s
        (evaluate (((othersOf verdicts verdicts.id).filter (· != r.sender)).foldl (fun z y => lateRun z y n) verdicts)))
    ∧ (recOk x r 5 = true → VoterSettles (.accusation l r) l s (if (voters told).length < 3 && !isSafe told then enterSafe told 2 else evaluate told))
    ∧ (0 < x.exe.n → VoterSettles (.cycleClose l) l s (closeCycle (x.exe.n - 1) x))
    ∧ (recOk x r 1 = false → VoterSettles (.itemDigestRecord l r) l s x)

/-- An item leaves only with two equal digests (09 R198, R201): outside the solo run of a debugged module, a lane that releases the next item of a stream holds equal digests for it from two lanes that vote, and three digests no two of which are equal are the safe state. -/
def Obligations.ReleaseNeedsTwo : Prop :=
  ∀ (l z : LaneState) (stream : Nat),
    let seq := sget (fun _ => (0 : Word)) l.tri.rels stream
    releaseOne l stream = some z → bget l Rg.TRI_STATUS 10 = false →
      (∃ d ∈ digsFor l stream seq, ∃ e ∈ digsFor l stream seq, d.sender ≠ e.sender ∧ d.digest = e.digest ∧ d.cycle = e.cycle
        ∧ sees l d.sender = true ∧ sees l e.sender = true)
      ∨ z = enterSafe l 3 ∨ z = enterSafe l 2

/-- Links, exclusion, takeover and the timers of the voter (01 R19; 09 R204, R207, R210, R213; 19 R426). -/
def Obligations.ExclusionAndTimers : Prop :=
  ∀ (s : State) (l peer src : Lane) (ch : Chan),
    let x := s.lane l
    let calm := (∀ p q : Lane, (bget (s.lane p) Rg.TRI_REINT_STATUS 5 && bget (s.lane q) Rg.TRI_REINT_STATUS 4) = false)
    (calm → peer ≠ x.id → x.tri.linksDown.contains peer = false →
      VoterSettles (.linkFailure l peer) l s (accuse { x with tri := { x.tri with linksDown := peer :: x.tri.linksDown } } peer x.exe.n 3 7))
    ∧ LaneBecomes (.crossLaneLinkRestored l peer) l s { x with tri := { x.tri with linksDown := x.tri.linksDown.filter (· != peer) } }
    ∧ (x.id = peer → VoterSettles (.exclusionAssertion l peer peer) l s (setLatch x))
    ∧ (src ≠ peer → sees x src = true → sees x peer = true → x.tri.asserts.contains (src, peer) = false →
      VoterSettles (.exclusionAssertion l src peer) l s (checkAsserts { x with tri := { x.tri with asserts := x.tri.asserts ++ [(src, peer)] } } peer))
    ∧ VoterSettles (.ownerTakeover l) l s (takePorts x)
    ∧ (votes x = true → x.tri.latch = false → (takePorts x).tri.owns = (List.range 9).filter (fun p => portLane x p == some x.id))
    ∧ (x.tri.degAt.isSome = true → votes x = true → isSafe x = false → LaneBecomes (.degLimitExpiry l) l s (enterSafe (event x 0x0105 0) 4))
    ∧ LaneBecomes (.driverRefreshTimeout l) l s (driversOff x)
    ∧ (driversOff x).tri.drivers = false
    ∧ LaneBecomes (.outHoldExpiry l ch) l s { x with fio := { x.fio with hold := putBit x.fio.hold ch false } }
    ∧ (isSafe (enterSafe x 4) = true)

/-- Reintegration of an excluded lane (09 R208, R209, R218 to R224; 12 R291): the self-test, JOIN, block copies, catch-up and the first voting cycle. -/
def Obligations.Reintegration : Prop :=
  ∀ (s : State) (l y : Lane) (ag : Agent) (src : CmdSrc) (b : Nat) (d : Bytes),
    let x := s.lane l
    let up := s.rm.alive = true ∧ s.bringup = false
    let sends := s.lane y
    (toStart x = true → s.mayJoin l = true → LanesBecome (.reintSelftestComplete l false) s (fun z => testFailed z l))
    ∧ (toStart x = true → s.mayJoin l = true → 3 ≤ x.mer.joinOk →
      ∃ t, exec (.reintSelftestComplete l true) s = .next t ∧ ∀ z, fget (t.lane z) (Rg.TRI_LANEL_STAT (laneNo l)) 2 0 = 3)
    ∧ (isJoiner x = true → reintPhase x = 2 → s.mayJoin l = true →
      exec (.join l) s = .next ((s.mapLanes (whereVotes (startBulk l))).setLane l (startCopy x)))
    ∧ (maySend sends b = true → fget sends Rg.TRI_REINT_STATUS 7 6 = laneNo l → sends.ecc.errs = [] → sends.ecc.poison = [] → y ≠ l →
      ∃ t, exec (.reintBlockSend y l b) s = .next t ∧ SameButMail (noteSent (emit sends (.block l b (mrd sends (256 * b) 256))) b) (t.lane y)
        ∧ (t.lane l).reint.inbox = x.reint.inbox.filter (fun e => !(e.1 == y && e.2.1 == b)) ++ [(y, b, mrd sends (256 * b) 256)])
    ∧ (isJoiner x = true → 3 ≤ reintPhase x → reintPhase x ≤ 5 → x.reint.inbox = [(.a, b, d), (.b, b, d)] → s.sources l = [.a, .b] →
        s.la.reint.dirty.contains b = false → s.lb.reint.dirty.contains b = false →
      exec (.reintBlockReceive l) s = .next (s.setLane l (settleBlock x b d)))
    ∧ (d.length = 256 → mrd (settleBlock x b d) (256 * b) 256 = d)
    ∧ (isJoiner x = true → reintPhase x = 4 → x.reint.passed = false → s.mayJoin l = true →
        (∀ z ∈ s.sources l, reintPhase (s.lane z) = 4 ∧ quietNext (s.lane z) = true ∧ digested (s.lane z) = true ∧ (s.lane z).reint.dirty.length ≤ fget x Rg.TRI_CFG 29 16) →
      exec (.reintCatchup l false) s = .next (s.mapLanes (fun z => if z.id = l then { z with reint := { z.reint with firstTry := true } } else z)))
    ∧ (x.reint.passed = true → isJoiner x = true →
      exec (.reintVoteStart l) s = .next (((s.setLane l (joinerRuns x)).onLanes (fun z => takePorts (votesAgain l z))).onLane l (fun z => auxBoot (refreshDrivers z))))
    ∧ (isJoiner x = true → x.reint.firstTry = true → x.reint.passed = false → reintPhase x = 4 →
      exec (.catchupWaitExpiry l) s = .next ((s.mapLanes (fun z => if isSource z then startBulk l z else z)).setLane l (startCopy x)))
    ∧ (mayWrite x ag Rg.TRI_REINT_CTRL = true → fget x Rg.TRI_STATUS 2 0 = 1 → bget x Rg.TRI_CFG 0 = false →
      exec (.reintStart ag l) s = .next ((s.setLane l { x with berr := false }).mapLanes (fun z => setLaneState z l 2)))
    ∧ (up → isMaintainer src = true → ∃ t, exec (.clearFailed src l) s = .next t ∧ t.rm.status = .ok ∧ ∀ z, fget (s.lane z) (Rg.TRI_LANEL_STAT (laneNo l)) 2 0 = 5 →
        (t.lane z).tri.hardT = (s.lane z).tri.hardT.filter (fun h => h.1 != l) ∧ fget (t.lane z) (Rg.TRI_LANEL_STAT (laneNo l)) 11 8 = 0)
    ∧ LaneBecomes (.hardExclusionAgeOut l y) l s
      (let mine := x.tri.hardT.filter (fun h => h.1 == y)
       fset { x with tri := { x.tri with hardT := x.tri.hardT.filter (fun h => h.1 != y) ++ mine.drop 1 } } (Rg.TRI_LANEL_STAT (laneNo y)) 11 8 (min (mine.length - 1) 15))

/-- Memory errors (07 R161 to R169, R172): the codes correct every single symbol, the scrubber decodes the next codeword and moves on, an uncorrectable error in vital memory stops the core at the boundary, and an injection is armed by its register. -/
def Obligations.MemoryErrors : Prop :=
  ∀ (s : State) (l : Lane) (ag : Agent) (dram : Bool) (v : Word),
    let x := s.lane l
    let i := if dram then fget x Rg.MEM_SCRUB_POS_DRAM 26 0 else fget x Rg.MEM_SCRUB_POS_SRAM 20 0
    (∀ c ∈ [codeSram, codeDram], ∀ j < c.n, ∀ e, 0 < e → e < 2 ^ c.bits → eccDecode c [(j, e)] = .corrected j e)
    ∧ (x.pwr.supply = true → 4 ≤ phaseOf x → x.pwr.gated.contains 0xB = false → (dram = true → bget x Rg.MEM_STATUS 3 = false) →
        LaneBecomes (.scrubCodeword l dram) l s (scrubStep x dram))
    ∧ (x.ecc.errs = [] → x.ecc.poison = [] → dram = false → i + 1 < 1114112 →
        scrubStep x dram = fset (bset x Rg.MEM_STATUS 0 true) Rg.MEM_SCRUB_POS_SRAM 20 0 (i + 1))
    ∧ (x.ecc.uePending = true → LaneBecomes (.scrubUeStop l) l s (coreStop { x with ecc := { x.ecc with uePending := false } }))
    ∧ (mayWrite x ag Rg.MEM_ECC_INJ = true → modeOf x = .stop → injOk x v = true →
        LaneBecomes (.memEccInj l ag v) l s
          (rset { x with berr := false } Rg.MEM_ECC_INJ (maskWord (((regRow Rg.MEM_ECC_INJ).map (·.wmask)).getD 0) (rget x Rg.MEM_ECC_INJ) v)))

/-- Meridian's clocks, servos and sources (12 R267, R270 to R281, R288, R290, R291). -/
def Obligations.ClocksAndSources : Prop :=
  ∀ (s : State) (l : Lane) (d : Bool) (clk : MerClk) (c : Clock) (port delay rx : Nat) (seq : Half),
    let x := s.lane l
    let f := follow x
    let p := fget x Rg.MER_CFG 0 0
    let q := sget zNat x.mer.pseq port
    let heard := ((port, delay, x.mer.ltime) :: pdelays x port).take 8
    let timed := { x with mer := { x.mer with pdel := heard ++ x.mer.pdel.filter (fun e => e.1 != port) } }
    let shown := fset timed (Rg.MER_PORTp_DELAY port) 19 0 (min (linkDelay timed port) 0xFFFFF)
    let y := { x with berr := false }
    let fixed (k : Clock) : Int := clockNs k * 2 ^ 40 + (k.frac * 2 ^ 24 + k.resid : Nat)
    (c.sec < 2 ^ 47 → c.ns < 1000000000 → c.frac < 2 ^ 16 → c.resid < 2 ^ 24 → fixed (clockTick c) = fixed c + 2 ^ 41 + 2 * clampInt (-maxRate) maxRate c.rate)
    ∧ (∀ i th : Int, ∀ us : Int, let r := servoPi x i th us; -maxRate ≤ r.1 ∧ r.1 ≤ maxRate ∧ -maxRate ≤ r.2 ∧ r.2 ≤ maxRate)
    ∧ (1 ≤ domSt x (b2n d) → domSt x (b2n d) ≤ 3 → LaneBecomes (.domainLost l d) l s (showLocked (setDomSt x (b2n d) 4)))
    ∧ LaneBecomes (.pdelayReqSend l port) l s (queueUnsched { x with mer := { x.mer with pseq := sset zNat x.mer.pseq port ((q + 1) % 65536) } } port 1 (.pdelayReq port q))
    ∧ LaneBecomes (.pdelayReq l port seq rx) l s (queueUnsched x port 1 (.pdelayResp port seq.toNat rx))
    ∧ (port < 4 → LaneBecomes (.pdelayResp l port delay) l s (bset shown (Rg.INA_PORTp_STAT port) 5 (550 < linkDelay shown port)))
    ∧ (mayWrite x .m Rg.MER_ADJ_CTRL = true →
        LaneBecomes (.merStep l clk) l s (commandShift y clk (adjNs x) true) ∧ LaneBecomes (.merCorrection l clk) l s (commandShift y clk (adjNs x) false))
    ∧ (∀ a b : Nat × Nat, 8 ≤ x.mer.gmStood → x.mer.gmCand = (a, b) → fget x (Rg.MER_Dd_STATUS 0) 13 8 ≠ a.1 → fget (setGm x 0 a) (Rg.MER_Dd_STATUS 1) 13 8 ≠ b.1 →
        LaneBecomes (.grandmasterChange l) l s (showLocked (setGm (setGm x 0 a) 1 b)))
    ∧ (nextSource x ≠ f → LaneBecomes (.sourceChange l) l s (toSource x (nextSource x)))
    ∧ (classOf x = 1 → nextSource x = 3)
    ∧ (classOf x ≠ 1 → f = 1 ∨ f = 2 → domSt x (f - 1) = 4 → domSt x (2 - f) = 3 → nextSource x = 3 - f)
    ∧ (domSt x p = 3 → f ≠ p + 1 → f ≠ 3 → LaneBecomes (.returnHoldExpiry l) l s (toSource x (p + 1)))
    ∧ (x.mer.slew ≠ 0 → f = 1 ∨ f = 2 →
        LaneBecomes (.slewEnd l) l s (rateW (bset { x with mer := { x.mer with slew := 0, w := domClock x (f - 1) } } Rg.MER_STATUS 2 false)))
    ∧ (s.rm.alive = true → (∀ k, (s.lane k).mer.running = true ∧ (s.lane k).mer.cmds = [] ∧ (∀ m, clkReq (s.lane k) m = none) ∧ ∀ m, clkNs (s.lane k) m = clkNs s.la m) →
        ∃ t, exec .checkEpoch s = .next t ∧ ∀ k, (t.lane k).mer.w = (s.lane k).mer.w ∧ (t.lane k).mer.joinOk = min ((s.lane k).mer.joinOk + 1) 3
          ∧ (t.lane k).mer.epochs = ((s.lane k).mer.ltime, wNow (s.lane k), clkNs (s.lane k) .d0, clkNs (s.lane k) .d1) :: (s.lane k).mer.epochs.take 2)
    ∧ (∀ (a b : Int) (n : Nat), s.merRunning = [.a, .b, .c] → clkReq s.la clk = some (a, n) → clkReq s.lb clk = some (b, n) → clkReq s.lc clk = none →
        s.wantedStep clk = some (2 * (a + b).tdiv 4))

/-- Meridian's compare units, time inputs and outputs, GNSS and PTP on the consist network (12 R266, R276, R283 to R289, R292). -/
def Obligations.TimeInputsAndOutputs : Prop :=
  ∀ (s : State) (l : Lane) (ag : Agent) (u k port label ms : Nat) (v : Word) (b stA : Bool) (seq : Half),
    let x := s.lane l
    let y := { x with berr := false }
    let ctrl := Rg.MER_CMPu_CTRL u
    let utc := fget x Rg.MER_UTC 15 0
    let put := rset y ctrl (maskWord 0xFFFF0007 (rget x ctrl) v)
    let e := fget x (Rg.MER_TCAPk_CFG k) 2 1
    let caught := finc (arrive x (.tcap k b)) (Rg.MER_TCAPk_CNT k) 15 0 1
    let old := match x.mer.ppsAt with
      | some t => decide (499999500 ≤ x.mer.ltime - t) && decide (x.mer.ltime - t ≤ 500000500)
      | none => false
    let edge := bset { x with mer := { x.mer with ppsAt := some x.mer.ltime, ppsW := wNow x, ppsGood := old } } Rg.MER_GNSS_STAT 1 true
    let named := bset x Rg.MER_GNSS_STAT 2 stA
    let sent := { named with mer := { named.mer with label := label } }
    (u < 16 → bget x ctrl 0 = true → LaneBecomes (.compareFire l u) l s (unitFire x u))
    ∧ (bget x ctrl 1 = false → u < 2 ∨ 5 < u → u < 16 → unitFire x u = bset (finc x (Rg.MER_CMPu_STAT u) 15 0 1) ctrl 0 false)
    ∧ (u < 16 → ag ≠ .v → writeOk x ag ctrl = true → bget x ctrl 0 = false → v.getLsbD 0 = false → LaneBecomes (.cmpArm l ag u v) l s put)
    ∧ (u < 16 → ag ≠ .v → writeOk x ag ctrl = true → bget x ctrl 0 = false → v.getLsbD 0 = true → armOk put u = false →
        LaneBecomes (.cmpArm l ag u v) l s (bset (bset put ctrl 0 false) ctrl 3 true))
    ∧ (u < 16 → ag ≠ .v → writeOk x ag ctrl = true → bget x ctrl 0 = false → v.getLsbD 0 = true → armOk put u = true → unitDist (bset put ctrl 3 false) u < 0 →
        LaneBecomes (.cmpArm l ag u v) l s (bset put ctrl 3 false))
    ∧ (k < 4 → LaneBecomes (.toutPulseEnd l k) l s (setTout x k false))
    ∧ (bget x Rg.MER_PPSOUT_CFG 0 = true → bget x Rg.MER_PPSOUT_CFG 1 = false → x.mer.ppsOut ≠ b →
        LaneBecomes (.ppsOutEdge l b) l s (emit { x with mer := { x.mer with ppsOut := b } } (.pps b)))
    ∧ (bget x (Rg.MER_TCAPk_CFG k) 0 = true → (if b then e % 2 = 1 else 2 ≤ e) → tcapHeld x k < 64 →
        LaneBecomes (.tcapEdge l k b) l s (rset (rset caught (Rg.MER_TCAPk_SEC k) (BitVec.ofNat 32 caught.mer.w.sec)) (Rg.MER_TCAPk_NS k)
          (BitVec.ofNat 32 (caught.mer.w.ns + if b then 2 ^ 31 else 0))))
    ∧ (mayRead x ag Rg.MER_WT_NS = true → LaneBecomes (.merWtNsRead l ag) l s (wtLatch { y with rdval := BitVec.ofNat 32 x.mer.w.ns }))
    ∧ (bget x Rg.MER_GNSS_CFG 0 = true → LaneBecomes (.ppsInEdge l) l s (if old then edge else gnssBreak edge))
    ∧ LaneBecomes (.ppsMissing l) l s (gnssBreak { bset x Rg.MER_GNSS_STAT 1 false with mer := { x.mer with ppsGood := false } })
    ∧ (bget x Rg.MER_GNSS_CFG 0 = true → 10 ≤ ms → ms ≤ 900 →
        (x.mer.ppsGood = false → LaneBecomes (.rmcSentence l stA label ms) l s (gnssBreak sent))
        ∧ (x.mer.ppsGood = true → stA = true → label = x.mer.label + 1 → fget (finc sent Rg.MER_GNSS_STAT 15 8 1) Rg.MER_GNSS_STAT 15 8 < 3 →
            LaneBecomes (.rmcSentence l stA label ms) l s (finc sent Rg.MER_GNSS_STAT 15 8 1)))
    ∧ LaneBecomes (.ocxoWarm l) l s (updateClass { x with mer := { x.mer with ocxoWarm := true } })
    ∧ (bget x Rg.MER_GNSS_STAT 0 = false → LaneBecomes (.gnssAbsenceExpiry l) l s (updateClass { x with mer := { x.mer with absent10 := true } }))
    ∧ (bget x Rg.MER_UTC 16 = true → LaneBecomes (.leapSecond l) l s (bset (bset (fset x Rg.MER_UTC 15 0 (utc + 1)) Rg.MER_UTC 16 false) Rg.MER_UTC 17 false))
    ∧ (consistPtp x port = true →
        (s.sends l 2 = true → LaneBecomes (.consistSyncSend l port) l s (emit x (.consistSync port (wNow x) (rget x Rg.MER_UTC) (clockClass x) (fget x Rg.MER_PTP_CFG 15 8))))
        ∧ LaneBecomes (.delayReq l port seq) l s (let z := finc x Rg.ECN_PTP_STAT 15 0 1; if s.sends l 2 then emit z (.delayResp port seq.toNat (wNow z)) else z))
    ∧ LaneBecomes (.foreignPtp l) l s (finc x Rg.MER_STATUS 31 16 1)

/-- What a module sends and takes on the Carousel (13 R296, R297, R301 to R308, R317, R318; 02 R46), and how the other lanes' readback taps close a port (01 R17). -/
def Obligations.CarouselTraffic : Prop :=
  ∀ (s : State) (l : Lane) (m : SyncMsg) (f : CarFrame) (u : UnschedFrame) (g : ColdFrame) (ent c port : Nat) (t : TxBuf),
    let x := s.lane l
    let on := carSt x ≠ 0 ∧ carSt x ≠ 5
    let e := (sheetEnts x (sheetNow x)).getD ent (0, 0, 0)
    let b := entBuf e
    let out (y : LaneState) (p : Nat) : Bool := portUsable y p && allLanes.any (fun z => s.sends z (lineOf p))
    let noted (y : LaneState) := { y with prt := { y.prt with sentNow := y.prt.sentNow || [0, 1, 2, 3].any (out y) } }
    let x1 := leaderConfirm x ent
    let kept := { x1 with car := { x1.car with txb := x1.car.txb.filter (fun v => v.b != b || v == t || decide (slotTime x1 e < tOf x1 v.from_)) } }
    let st := Rg.CAR_BUFb_STAT b
    let told := bset (fset kept st 15 0 (fget kept st 15 0 + 1)) st 18 false
    let fr := { header told (entId e) t.flags with payload := t.bytes, sender := BitVec.ofNat 8 (entSender e) ||| (senderByte told &&& 0xC0) }
    let o := if port % 2 = 0 then port + 1 else port - 1
    let cycled := s.onLane l (fun z => carCycleStart z (s.sends l) c)
    (on → portUsable x m.port = true → LaneBecomes (.syncReceive l m) l s (showSyncErr (carSync (merSync x m) m)))
    ∧ (cycled.carAgree = cycled → s.rm.order = none ∨ s.voting.headD .a ≠ l → LaneBecomes (.carouselCycleStart l c) l s (carCycleStart x (s.sends l) c))
    ∧ (carSt x = 0 → x.car.cabNext = none → carCycleStart x (s.sends l) c = pairCarousel x)
    ∧ (s.slotTaps l ent = s → carSt x = 3 → entKind e = 0 → ownPos x ≠ 0 → entSender e = ownPos x → pairSlot x (entSender e) = false → eligible x1 b (slotTime x1 e) = some t →
        (t.matched = false → LaneBecomes (.slotTransmit l ent) l s (bset kept st 18 true))
        ∧ (t.matched = true → LaneBecomes (.slotTransmit l ent) l s
            ([0, 1, 2, 3].foldl (fun y p => if s.sends l (lineOf p) && portUsable y p then emit y (.car p { fr with port := p }) else y) (noted told))))
    ∧ (s.syncTaps l = s → carSt x = 3 → LaneBecomes (.syncSlotTransmit l) l s
        ([0, 1, 2, 3].foldl (fun y p => if s.sends l (lineOf p) && portUsable y p then (syncFrames y p).foldl (fun z k => emit z (.sync p k)) y else y) (noted x)))
    ∧ LaneBecomes (.scheduledFrameReceive l f) l s (carReceive x (s.sends l (lineOf f.port)) f)
    ∧ (on → portUsable x f.port = true → headerGood f = false → carReceive x true f = dropCount x Rg.CAR_DROP_FCS (lineOf f.port))
    ∧ (carSt x = 3 → portUsable x f.port = true → headerGood f = true → f.typ = 1 → f.topo ≠ topoOf x → carReceive x true f = dropCount x Rg.CAR_DROP_TOPO (lineOf f.port))
    ∧ (on → x.car.unschedQ = [] → LaneBecomes (.unscheduledWindow l c) l s x)
    ∧ (∀ e1 : Emit, on → x.car.unschedQ = [(0, 1, e1)] → portUsable x 0 = true → s.sends l 0 = true → unschedNs e1 ≤ c - guardNs x false →
        LaneBecomes (.unscheduledWindow l c) l s (emit { x with car := { x.car with unschedQ := [] } } e1))
    ∧ (on → bget x (Rg.INA_PORTp_STAT u.port) 2 = false → bget x (Rg.INA_PORTp_STAT u.port) 3 = false → u.inWindow = false →
        LaneBecomes (.unscheduledFrameReceive l u) l s (finc x Rg.CAR_UNSCHED_DROP 31 0 1))
    ∧ (on → carSt x ≠ 2 → portUsable x port = true → x.car.csQ.any (fun q => q.1 == o) = false →
        LaneBecomes (.coldstartFrameReceive l port g) l s { x with car := { x.car with csQ := (o, g) :: x.car.csQ } })
    ∧ (carSt x = 2 → portUsable x port = true → x.car.csQ.any (fun q => q.1 == o) = true → coldBetter g (coldFrame x) = true →
        LaneBecomes (.coldstartFrameReceive l port g) l s (event (setCarSt { x with car := { x.car with csStart := none } } 1) 0x0401 2))
    ∧ (x.car.csQ = [(port, g)] → carSt x ≠ 5 → s.sends l (lineOf port) = true → portUsable x port = true →
        LaneBecomes (.coldstartRelaySend l port) l s (emit { x with car := { x.car with csQ := [] } } (.cold port g)))
    ∧ (∀ (p : Nat) (differs : LaneState → Bool) (y : Lane), s.sends l p = true →
        (s.tapCheck l p differs).lane y = (if y ≠ l ∧ differs (s.lane y) = true then withdrawEnable (s.lane y) p else s.lane y))
    ∧ (∀ (p : Nat) (z : LaneState) (q : Nat), (withdrawEnable z p).tri.enables.contains q = (z.tri.enables.contains q && q != p))

/-- The states of the Carousel, its leader, cold start, sheet proposals, and its registers that act (13 R297, R312 to R320, Table CAR-11). -/
def Obligations.CarouselStates : Prop :=
  ∀ (s : State) (l : Lane) (ag : Agent) (v w : Word) (c : Nat),
    let x := s.lane l
    let y := { x with berr := false }
    let i := fget x Rg.CAR_ATLAS_IDX 12 0
    let e := atlasEnt x i
    let next (z : LaneState) := fset z Rg.CAR_ATLAS_IDX 12 0 ((i + 1) % 8192)
    let sh := getBits v 3 0
    (carSt x = 3 ∨ carSt x = 4 → isLeader x = false → LaneBecomes (.runningValidLoss l) l s (setCarSt x 1))
    ∧ (carSt x = 1 → bget x Rg.CAR_CFG 1 = true → LaneBecomes (.coldstartEntry l) l s (event (dropPos (setCarSt (cycleUnit { x with car := { x.car with csStart := none } } (csSheet x)) 2)) 0x0401 0))
    ∧ (carSt x = 2 → LaneBecomes (.contentionWindowEnd l) l s (becomeLeader x))
    ∧ (mayWrite x ag Rg.CAR_SHEET_CTRL = true → isLeader x = true → 3 ≤ getBits v 15 8 → x.car.prop = none → switchCycle x sh (getBits v 15 8) = some c →
        LaneBecomes (.sheetPropose l ag v) l s
          (fset (fset (fset { y with car := { x.car with prop := some (sh, c, carCycle x + 1), newSheet := none, acks := [] } } Rg.CAR_SHEET 7 4 sh) Rg.CAR_SHEET 8 8 1) Rg.CAR_SHEET 23 16 (c % 256)))
    ∧ (switchCycle x sh (getBits v 15 8) = some c → carCycle x + 1 + getBits v 15 8 ≤ c ∧ c ≤ carCycle x + 256 ∧ c * sheetUs x (sheetNow x) % sheetUs x sh = 0)
    ∧ (mayRead x ag Rg.CAR_ATLAS_W2 = true → LaneBecomes (.carAtlasW2 l ag none) l s (next { y with rdval := e.2.2 }))
    ∧ (mayWrite x ag Rg.CAR_ATLAS_W2 = true → modeOf x = .stop →
        LaneBecomes (.carAtlasW2 l ag (some w)) l s (next { y with car := { x.car with atlas := sset (fun _ => (0, 0, 0)) x.car.atlas i (e.1, e.2.1, w) } }))
    ∧ (ag ≠ .v → writeOk x ag Rg.CAR_CAB = true → LaneBecomes (.carCabWrite l ag v) l s { y with car := { x.car with cabNext := some (v.getLsbD 0) } })
    ∧ (carSt (becomeLeader x) = 3 ∧ isLeader (becomeLeader x) = true ∧ ownPos (becomeLeader x) = 1)

/-- Inauguration (14 R323 to R337): links and fences, merges, waves and confirmations, rounds, and adoption. -/
def Obligations.InaugurationRounds : Prop :=
  ∀ (s : State) (l : Lane) (port : Nat) (f : InaFrame) (r : InaResult),
    let x := s.lane l
    let a := Rg.INA_PORTp_STAT port
    let seen (b : Bool) := if b then bset x (Rg.CAR_PORTp_STAT port) 0 true else finc (bset x (Rg.CAR_PORTp_STAT port) 0 false) (Rg.CAR_PORTp_STAT port) 15 8 1
    let fenced (b : Bool) := bset (bset (finc (bset (bset (seen b) a 0 b) a 1 false) a 15 8 1) a 2 b) a 3 false
    let bare (b : Bool) := { fenced b with ina := { x.ina with peers := x.ina.peers.filter (fun e => e.1 != port) } }
    let heard := { x with ina := { x.ina with peers := (port, f) :: x.ina.peers.filter (fun e => e.1 != port) } }
    let own := mergeFrame x
    let still := setTrigger (bset x a 1 true)
    let fresh := { x with ina := { x.ina with waves := [], confirms := [], yieldWaved := x.ina.yielding } }
    let kept (y : LaneState) (o : Nat) (e : Emit) := if portUsable y o && s.sends l (lineOf o) then emit y e else y
    let waved := { x with ina := { x.ina with waves := (port, f) :: x.ina.waves.filter (fun e => e.1 != port) } }
    let agreed := { x with ina := { x.ina with confirms := (port, f) :: x.ina.confirms.filter (fun e => e.1 != port) } }
    let rr := roundResult x
    let got := bset (bset { x with ina := { x.ina with res := rr.1 } } Rg.INA_STATUS 4 (!rr.1.complete)) Rg.INA_STATUS 5 (63 < rr.1.n)
    let ok := x.ina.res.complete && (confirmsOn x 0 || confirmsOn x 1)
    let changed := changedOwn x || x.ina.confirms.any (fun e => e.2.changed)
    (∀ b, LaneBecomes (.linkStateChange l port b) l s (showOpen (if fget (bare b) Rg.INA_STATUS 2 0 = 0 then fset (bare b) Rg.INA_STATUS 2 0 1 else bare b) port))
    ∧ (fget still Rg.INA_STATUS 2 0 ≠ 1 → LaneBecomes (.debounceExpiry l port) l s still)
    ∧ (s.mergeTaps l port = s → bget x a 2 = true → bget x a 3 = false → peerOf x port = none →
        LaneBecomes (.mergeSend l port) l s (if s.sends l (lineOf port) then emit x (.ina port own 3) else x))
    ∧ (phaseOf x ≠ 6 → bget x a 2 = true → bget x a 3 = false →
        (oneTrain own f = true → LaneBecomes (.mergeReceive l port f) l s (unfence heard port))
        ∧ (oneTrain own f = false → ranksBelow own f = true → own.leaderless = false →
            LaneBecomes (.mergeReceive l port f) l s { heard with ina := { heard.ina with yielding := !x.ina.yieldSent } })
        ∧ (oneTrain own f = false → ranksBelow own f = false → f.yield = true → LaneBecomes (.mergeReceive l port f) l s (finc (unfence heard port) Rg.INA_MERGES 31 16 1)))
    ∧ (bget x a 2 = true → peerOf x port = none → LaneBecomes (.foreignTimeout l port) l s (showOpen (bset x a 3 true) port))
    ∧ (inWaves x = true → inaSt x ≠ 3 → bget x Rg.INA_STATUS 3 = false →
        LaneBecomes (.waveWindowStart l) l s
          ([0, 1, 2, 3].foldl (fun y p => if openPort y (otherEnd p) && portUsable y p && s.sends l (lineOf p) then emit y (.ina p (ownWave y) 1) else y) fresh))
    ∧ (inWaves x = true → phaseOf x ≠ 6 → openPort x port = false → f.yield = false →
        (f.trigger = false → LaneBecomes (.waveReceive l port f) l s (kept waved (otherEnd port) (.ina (otherEnd port) (onwardWave waved f) 1)))
        ∧ LaneBecomes (.confirmReceive l port f) l s (kept agreed (otherEnd port) (.ina (otherEnd port) (onwardConfirm agreed f) 2)))
    ∧ (inWaves x = true → inaSt x = 2 →
        LaneBecomes (.waveWindowEnd l) l s (fset (bset (bset got Rg.INA_STATUS 7 (1 < cabsCounted got rr.2)) Rg.INA_STATUS 8 (rr.2 == 1)) Rg.INA_STATUS 2 0 3))
    ∧ (inWaves x = true → inaSt x = 3 →
        (ok = true → changed = true → LaneBecomes (.waveWindowEnd l) l s (bset { x with ina := { x.ina with adopt := some x.ina.res } } Rg.INA_STATUS 3 false))
        ∧ (ok = true → changed = false → LaneBecomes (.waveWindowEnd l) l s (inaEvent (fset (bset x Rg.INA_STATUS 3 false) Rg.INA_STATUS 2 0 0) 3))
        ∧ (ok = false → LaneBecomes (.waveWindowEnd l) l s (inaEvent (fset (finc x Rg.INA_ROUNDS 31 16 1) Rg.INA_STATUS 2 0 0) 2)))
    ∧ (x.ina.adopt = some r → LaneBecomes (.adoption l) l s (adopt x r))
    ∧ (r.pos < 64 → r.sheet < 16 → topoOf (adopt x r) = r.topo ∧ ownPos (adopt x r) = r.pos ∧ sheetNow (adopt x r) = r.sheet ∧ (adopt x r).ina.adopt = none)
    ∧ (mayWrite x .m Rg.INA_CTRL = true → LaneBecomes (.reinaugurate l) l s (bset { x with berr := false } Rg.INA_STATUS 3 true))

/-- The consist switch (08 R186; 15 R340 to R349): reception, sending under the other lanes' readback taps, address resolution, ageing, the auxiliary rings, and the static table. -/
def Obligations.ConsistSwitch : Prop :=
  ∀ (s : State) (l : Lane) (ag : Agent) (port k vid : Nat) (f : EthFrame) (mac : Mac48) (ip sip w : Word),
    let x := s.lane l
    let y := { x with berr := false }
    let c := Rg.ECN_PORTp_CFG port
    let v := vitalIdx x
    let rx := finc x (Rg.ECN_PORTp_RX port) 31 0 1
    let body := beBytes 2 1 ++ beBytes 2 0x0800 ++ beBytes 1 6 ++ beBytes 1 4 ++ beBytes 2 2 ++ beBytes 6 (ownMac x).toNat ++ beBytes 4 ip.toNat ++ beBytes 6 mac.toNat ++ beBytes 4 sip.toNat
    let arp : EthFrame := { dst := mac, src := ownMac x, tag := if bget x (Rg.ECN_VLANv v) (17 + port) then none else some (fget x (Rg.ECN_VLANv v) 11 0, fget x Rg.ECN_CFG 18 16),
                            etype := 0x0806, body := body }
    let i := fget x Rg.ECN_STATIC_IDX 6 0
    let tapped := s.ecnTaps l port
    (port < 4 → ecnUp x = true → LaneBecomes (.consistFrameReceive l port f) l s (consistReceive x s.ecnGap port f))
    ∧ (bget x Rg.ECN_CFG 0 = true → bget x c 0 = true → terminated f = false → (∀ t, f.tag = some t → vlanOf rx t.1 = none) → f.tag ≠ none →
        consistReceive x s.ecnGap port f = finc rx (Rg.ECN_PORTp_DROP port) 31 16 1)
    ∧ ((tapped.lane l).ecn.queues = [(port, k, f)] → k < 8 → exec (.consistFrameSend l port) s = .next (tapped.onLane l (fun z =>
        let w := { z with ecn := { z.ecn with queues := [] } }
        if tapped.sends l 2 then emit w (.eth port f) else w)))
    ∧ (∀ y, s.sends l 2 = true → nextFrame x port = some (port, k, f) → y ≠ l →
        ((s.ecnTaps l port).lane y).tri.enables = (if unexpected (s.lane y) port f then (s.lane y).tri.enables.filter (· != 2) else (s.lane y).tri.enables))
    ∧ (bget x Rg.ECN_CFG 0 = true → ecnUp x = true → vlanClass x v = 1 → isMember x v port = true → s.sends l 2 = true → ip = rget x Rg.ECN_VITAL_IP → s.arpTaps l port ip mac sip = s →
        LaneBecomes (.vitalArpRequest l port ip mac sip) l s (emit x (.eth port arp)))
    ∧ LaneBecomes (.macAgeOut l vid mac) l s (showMacs { x with ecn := { x.ecn with macs := x.ecn.macs.filter (fun m => !(m.vid == vid && m.mac == mac)) } })
    ∧ (isSplit x = true → ecnUp x = true → LaneBecomes (.auxTxRequest l f) l s (auxSend x (s.sends l 2) f).1)
    ∧ (ringBaseOk x (ringBase x Rg.ECN_AUX_TX_BASE_LO Rg.ECN_AUX_TX_BASE_HI) = true → ringBaseOk x (ringBase x Rg.ECN_AUX_RX_BASE_LO Rg.ECN_AUX_RX_BASE_HI) = true →
        mayWrite x .x Rg.ECN_AUX_KICK = true → ecnUp x = true → LaneBecomes (.ecnAuxKick l) l s (txScan 256 (s.sends l 2) y))
    ∧ (mayRead x ag Rg.ECN_STATIC_PORT = true → LaneBecomes (.ecnStaticPort l ag none) l s (staticNext { y with rdval := staticRead x 2 }))
    ∧ (mayWrite x ag Rg.ECN_STATIC_PORT = true → modeOf x = .stop → LaneBecomes (.ecnStaticPort l ag (some w)) l s (staticNext (staticWrite y 2 w)))
    ∧ (i < 127 → fget (staticNext x) Rg.ECN_STATIC_IDX 6 0 = i + 1)

/-- The CAN controllers (16 R351, R354, R360 to R368, Table CAN-4): filters and reception, the choice of a mailbox, completion, lost arbitration, errors, bus-off and INIT. -/
def Obligations.CanControllers : Prop :=
  ∀ (s : State) (l : Lane) (k : CanNo) (f g : CanFrame) (m i : Nat) (e : CanErr) (src : CmdSrc) (w : Bool),
    let x := s.lane l
    let c := canOf x k
    let b := mbOf x k m
    let st := Rg.CAN_MBmSTAT k m
    let on := canOn x k = true
    let heard := ackSeen (showErr (setCan x k { c with rec_ := recDown c.rec_ }) k) k
    let act := fget heard (Rg.CAN_FLTiCTRL k i) 1 0
    let done := ackSeen (showErr (setCan x k { c with onBus := none, tec := c.tec - 1 }) k) k
    let counted := bset (mbStat (fset done st 31 16 (fget done st 31 16 + 1)) k m 3) st 3 b.cancel
    let seen := { counted with tri := { counted.tri with taps := (0x200 + k.val, b.seq) :: counted.tri.taps } }
    let off := setCan x k { c with onBus := none }
    let erred := fset x (Rg.CAN_ERR k) 26 24 (canErrCode e.kind)
    let sent := setCan erred k { c with tec := c.tec + 8, ackRun := 0 }
    let hurt := showErr (match c.onBus with
      | some n => leaveBus sent k n
      | none => sent) k
    (on → f.id.getLsbD 31 = true → bget x (Rg.CAN_CFG k) 1 = false → canSt x k ≠ 4 →
      LaneBecomes (.canFrameReceive l k f) l s (showErr (fset (setCan x k { c with rec_ := c.rec_ + 1 }) (Rg.CAN_ERR k) 26 24 2) k))
    ∧ (on → f.id.getLsbD 31 = false → fltFor heard k f.id = some i → act = 1 ∨ act = 2 → bget heard (Rg.CAN_QqCFG k (b2n (act == 2))) 0 = true →
        (staged heard k < 256 → LaneBecomes (.canFrameReceive l k f) l s { heard with agree := { heard.agree with inbox := heard.agree.inbox ++ [⟨.canRx k (act == 2) i f, wNow heard⟩] } })
        ∧ (256 ≤ staged heard k → LaneBecomes (.canFrameReceive l k f) l s (finc heard (Rg.CAN_STAGE_LOST k) 31 0 1)))
    ∧ (on → f.id.getLsbD 31 = false → fltFor heard k f.id = none → LaneBecomes (.canFrameReceive l k f) l s (finc heard (Rg.CAN_RXDISC k) 31 0 1))
    ∧ (fltFor x k f.id = some i → fltMatch x k i f.id = true ∧ fget x (Rg.CAN_FLTiCTRL k i) 1 0 ≠ 0
        ∧ ∀ j < i, fget x (Rg.CAN_FLTiCTRL k j) 1 0 = 0 ∨ fltMatch x k j f.id = false)
    ∧ (s.canTaps l k = s → on → canSt x k ≠ 4 → c.onBus = none → modeOf x = .run → isSafe x = false → isStandby x = false → chooseMb x k = some m →
        LaneBecomes (.canFrameStart l k) l s (mbStat (setCan x k { c with onBus := some m }) k m 2))
    ∧ (bget x (Rg.CAN_CFG k) 3 = false → chooseMb x k = some m → b.frame = some f → ∀ n < 32, (mbOf x k n).frame = some g → arbKey f ≤ arbKey g)
    ∧ (bget x (Rg.CAN_CFG k) 3 = true → chooseMb x k = some m → ∀ n < m, (mbOf x k n).frame = none)
    ∧ (c.onBus = some m → b.frame = some f → b.waiting = none →
        LaneBecomes (.canFrameComplete l k) l s (setMb (if s.sends l (3 + k.val) then emit seen (.can k f) else seen) k m {}))
    ∧ (c.onBus = some m → b.waiting = none →
        (b.cancel = false → bget off (Rg.CAN_MBmCFG k m) 1 = false → LaneBecomes (.canArbitrationLost l k) l s (mbStat (setMb off k m b) k m 1))
        ∧ (b.cancel = true → LaneBecomes (.canArbitrationLost l k) l s (mbStat (setMb off k m {}) k m 4))
        ∧ (b.cancel = false → bget off (Rg.CAN_MBmCFG k m) 1 = true → LaneBecomes (.canArbitrationLost l k) l s (mbStat (setMb off k m {}) k m 5)))
    ∧ (c.onBus = some m → b.waiting = some g → LaneBecomes (.canArbitrationLost l k) l s (mbStat (setMb off k m { frame := some g, seq := b.wseq }) k m 1))
    ∧ (on → canSt x k ≠ 4 → e.kind ≠ .ack →
        (e.tx = false → canSt erred k ≠ 4 → LaneBecomes (.canError l k e) l s (showErr (setCan erred k { c with rec_ := c.rec_ + (if e.primary then 8 else 1) }) k))
        ∧ (e.tx = true → canSt erred k ≠ 4 → canSt hurt k ≠ 3 → LaneBecomes (.canError l k e) l s hurt)
        ∧ (e.tx = true → canSt erred k ≠ 4 → canSt hurt k = 3 →
            LaneBecomes (.canError l k e) l s (event (failOneshots (fset (finc hurt (Rg.CAN_ERRCNT k) 15 0 1) (Rg.CAN_ERR k) 23 16 0) k) 0x0501 k)))
    ∧ (bget x (Rg.CAN_CTRL k) 0 = false → bget x (Rg.CAN_CFG k) 2 = false →
        canSt (showErr x k) k = if 255 < c.tec then 3 else if 128 ≤ c.tec ∨ 128 ≤ c.rec_ then 2 else 1)
    ∧ (canSt x k = 3 → LaneBecomes (.canBusoffRecovery l k) l s
        (event (fset (showErr (setCan x k { c with tec := 0, rec_ := 0, ackRun := 0 }) k) (Rg.CAN_ERR k) 23 16 128) 0x0502 k))
    ∧ (isMaintainer src = true → LaneBecomes (.canInit l k src w) l s (fset (showErr (bset x (Rg.CAN_CTRL k) 0 w) k) (Rg.CAN_ERR k) 23 16 0))
    ∧ (isMaintainer src = false → exec (.canInit l k src w) s = .next (s.answer .auth))

/-- What a vital task asks for through registers that act (10 R236; 13 R310; 16 R357 to R362; 17 R381; 18 R402 to R407; 20 R434): each request joins the items of its instance, and waits for the vote. -/
def Obligations.VitalRequests : Prop :=
  ∀ (s : State) (l : Lane) (k : CanNo) (q : Bool) (v : Word) (i : Instance) (f : CanFrame),
    let x := s.lane l
    let runs := vitalRuns x = true ∧ x.c0.dbgHalted = false ∧ runInst x = some i
    let may (a : Nat) := writeOk x .v a = true
    let m := getBits v 4 0
    let c := getBits v 7 0
    let buf := Rg.CAR_BUFb_CFG c
    let seq := nextSeq (sget (fun _ => (0 : Word)) x.saf.txSeq c)
    let pay := mrd x (fget x (Rg.SAF_CONNc_BUF c) 21 0) (connLen x c)
    let tel := telegramBody (rget x Rg.SAF_SRC_ID) (rget x (Rg.SAF_CONNc_PEER c)) (fget x (Rg.SAF_CONNc_ID c) 15 0) seq x.c0.ctx.tn pay
    let asked (st : Nat) (p : Payload) (g : Instance → Instance) := updRun (updRun x (fun j => { j with items := j.items ++ [⟨st, p⟩] })) g
    let acked (ring : Nat) := updRun x (fun j => { j with acks := j.acks.filter (fun a => a.1 != ring) ++ [(ring, v)] })
    let ring (off : Nat) := instIn x i off 8
    let ahead (off : Nat) := (v - wordAt (ring off) 4).toNat ≤ (wordAt (ring off) 0 - wordAt (ring off) 4).toNat
    let qa := fget x (Rg.CAN_QqADDR k (b2n q)) 15 0
    let sa := fget x Rg.FIO_SOE_ADDR 15 0
    (runs → may Rg.SAF_SEND → sendsConn x c = true → connCfg x c 31 28 = i.slot → (i.safCnt.filter (· == c)).length < 8 →
      VoterSettles (.safSend l v) l s (let z := asked (0x100 + c) (.telegram c tel) (fun j => { j with safCnt := c :: j.safCnt })
        { z with saf := { z.saf with txSeq := sset (fun _ => (0 : Word)) z.saf.txSeq c seq } }))
    ∧ (runs → may (Rg.CAN_TXREQ k) → mbAllowed x k m i = true → canQueued i k < 64 →
        (descriptor x k (fget x (Rg.CAN_MBmADDR k m) 21 0) = some f →
          VoterSettles (.canTxreq l k v) l s (asked (0x200 + k.val) (.canReq m f) (fun j => { j with canCnt := k.val :: j.canCnt })))
        ∧ (descriptor x k (fget x (Rg.CAN_MBmADDR k m) 21 0) = none → arithTrap x = false →
          VoterSettles (.canTxreq l k v) l s (setCtx x (withE true x.c0.ctx) (withE true x.c1.ctx))))
    ∧ (runs → may (Rg.CAN_TXCANCEL k) → mbAllowed x k m i = true → canQueued i k < 64 →
        VoterSettles (.canTxcancel l k v) l s (asked (0x200 + k.val) (.canCancel m) (fun j => { j with canCnt := k.val :: j.canCnt })))
    ∧ (runs → may (Rg.CAN_TXREQ k) → mbAllowed x k m i = false → VoterSettles (.canTxreq l k v) l s (vitalTrap x 4 (0x10000000 + Rg.CAN_TXREQ k)))
    ∧ (runs → may (Rg.CAN_QqACK k (b2n q)) → fget x (Rg.CAN_QqCFG k (b2n q)) 7 4 = i.slot → ahead qa →
        VoterSettles (.canQqack l k q v) l s (acked (2 * k.val + b2n q)))
    ∧ (runs → may Rg.FIO_SOE_ACK → bget x Rg.FIO_SOE_CFG 0 = true → fget x Rg.FIO_SOE_CFG 11 8 = i.slot → ahead sa → VoterSettles (.fioSoeAck l v) l s (acked 8))
    ∧ (runs → may Rg.PWR_REQ → modeOf x = .run → getBits v 1 0 ≠ 0 → VoterSettles (.pwrReq l v) l s (updRun x (fun j => { j with items := j.items ++ [⟨0x500, .power (getBits v 1 0)⟩] })))
    ∧ (runs → may Rg.PWR_REQ → modeOf x ≠ .run ∨ getBits v 1 0 = 0 → VoterSettles (.pwrReq l v) l s x)
    ∧ (runs → may Rg.CAR_COMMIT → bget x buf 0 = true → bget x buf 1 = false → fget x buf 31 28 = i.slot →
        VoterSettles (.carCommit l v) l s (updRun x (fun j => { j with items := j.items ++ [⟨0x300 + c, .slotBuf c 0 (mrd x (fget x (Rg.CAR_BUFb_ADDR c) 21 0) (fget x buf 26 16))⟩] })))
    ∧ (waitsBus x = true → LaneBecomes (.backplaneBudgetExpiry l) l s (reschedule x))
    ∧ (waitsBus x = false → LaneBecomes (.backplaneBudgetExpiry l) l s x)

/-- Block transfers (18 R404, R405, R407, R410; 09 R217): a write of a vital task reads its bytes and becomes a vote item of its region; a read becomes an item, its instance waits, and when the lane holds the completion the bytes come into memory. -/
def Obligations.BlockTransfers : Prop :=
  ∀ (s : State) (u : CoreId) (v : Word) (i : Instance) (c : CoreCtx) (cpl : BrgCpl) (sp : SuspInstr),
    let y := s.lane u.lane
    let d := v.toNat
    let x := xferDesc y d
    let adr := x.1
    let mem := x.2.1
    let n := x.2.2.1
    let r := (regionOf adr).getD 0
    let fits (dir : Nat) := u.core1 = false ∧ y.id = u.lane ∧ writeOk y .v Rg.BRG_XFER = true ∧ d % 8 = 0 ∧ vitalSram y i d 16 false = true ∧ x.2.2.2 = dir
      ∧ 0 < n ∧ n ≤ 256 ∧ mem % 4 = 0 ∧ winBase ≤ adr ∧ adr + n ≤ winBase + 16 * regionLen ∧ 0x10000 ≤ mem ∧ mem + n ≤ inBase ∧ vitalSram y i mem n true = true
      ∧ ((regionCut adr n).map (·.1)).all (brgMay y i) = true
    let resumed := updRun (passed y) (fun j => { j with susp := none })
    let taken := { resumed with brg := { resumed.brg with held := resumed.brg.held.filter (fun h => !(h.region == r && h.seq == sp.seq)) } }
    (fits 0 → VitalAt y i c → regAttr y r 9 9 ≠ 1 →
      ∃ w, VoterSettles (.blockWrite u v) u.lane s w ∧ Counted (setCtx (offer (passed y) ⟨0x400 + r, .brgWrite adr (mrd y mem n)⟩ i.due) c c) w)
    ∧ (fits 1 → VitalAt y i c → y.brg.held = [] →
        VoterSettles (.blockRead u v) u.lane s
          (updRun (offer (passed y) ⟨0x400 + r, .brgRead adr n⟩ i.due) (fun j => { j with susp := some { region := r, seq := sget (fun _ => (0 : Word)) y.tri.seqs (0x400 + r) } })))
    ∧ (fits 1 → VitalStands y i c → i.susp = some sp → y.brg.held.find? (fun h => h.region == r && h.seq == sp.seq) = some cpl → cpl.ok = true →
        ∃ w, VoterSettles (.blockRead u v) u.lane s (reschedule w) ∧ Counted (setCtx (mwr taken mem (cpl.data.take n)) c c) w)

/-- Field inputs and outputs are sampled and tested (17 R375 to R390, R394): a sample tick, edges for the sequence of events, off-pulses and tests of the group supply switches. -/
def Obligations.FieldSamplingAndTests : Prop :=
  ∀ (s : State) (l : Lane) (m : FieldMeas) (ch : Chan) (g : Grp) (n i mv ua gap : Nat) (rising low p val wb : Bool) (fell : List Nat) (pu : Pulse),
    let x := s.lane l
    let f := x.fio
    let md := chMode x ch
    let every := fget x Rg.FIO_GSS 11 0
    let edgeBit := if rising then 4 else 5
    let ys := fell.filter (fun y => y != ch.val && y < 96 && chMode x y == 3 && !(cmdBits x).getLsbD y && f.rb.getLsbD y)
    let ended := { x with fio := { f with pulse := none, pfail := if low then f.pfail else putBit f.pfail ch true, crossF := f.crossF ++ ys.map (fun y => (ch.val, y)) } }
    let edges := chCfg x ch 3 3 = 1 ∧ chCfg x ch edgeBit edgeBit = 1 ∧ (md = 1 ∨ md = 2) ∧ x.mer.running = true
    (x.mer.running = true → x.pwr.gated.contains 2 = false →
      LaneBecomes (.sampleTick l m) l s ((List.range 96).foldl (sampleCh m) ((List.range 6).foldl (sampleGrp m) (sampleOk m x))))
    ∧ (i < 96 → chMode x i = 2 ∨ (chMode x i = 1 ∧ chCfg x i 2 2 = 0) →
        ((sampleCh m x i).fio.cls.getLsbD i = classify (m.mv.getD i 0) (m.ua.getD i 0) (f.cls.getLsbD i))
        ∧ ∀ j < 96, j ≠ i → (sampleCh m x i).fio.cls.getLsbD j = f.cls.getLsbD j)
    ∧ ((11000 ≤ mv → 2000 ≤ ua → classify mv ua p = true) ∧ (mv ≤ 5000 ∨ ua ≤ 1500 → classify mv ua p = false)
        ∧ (5000 < mv → 1500 < ua → mv < 11000 ∨ ua < 2000 → classify mv ua p = p))
    ∧ ((ua < 700 → wireBreak ua val wb gap = (false, true, 0)) ∧ (1200 ≤ ua → ua ≤ 3500 → wireBreak ua val wb gap = (false, false, 0))
        ∧ (5000 < ua → wireBreak ua val wb gap = (true, false, 0))
        ∧ ((700 ≤ ua ∧ ua < 1200) ∨ (3500 < ua ∧ ua ≤ 5000) → gap < 7 → wireBreak ua val wb gap = (val && !wb, wb, gap + 1))
        ∧ ((700 ≤ ua ∧ ua < 1200) ∨ (3500 < ua ∧ ua ≤ 5000) → gap = 7 → wireBreak ua val wb gap = (false, true, 8)))
    ∧ (edges → soeHeld x < 4096 →
        LaneBecomes (.soeEdge l ch rising) l s { x with agree := { x.agree with inbox := x.agree.inbox ++ [⟨.soe ch rising, wNow x / 1000 * 1000⟩] } })
    ∧ (edges → 4096 ≤ soeHeld x → LaneBecomes (.soeEdge l ch rising) l s (finc x Rg.FIO_SOE_STAT 31 16 1))
    ∧ (md = 3 → chCfg x ch 6 6 = 1 → (cmdBits x).getLsbD ch = true → mayTest x (ch / 16) = true → pairIdle x ch = false →
        LaneBecomes (.offPulseStart l ch n) l s { x with fio := { f with pulse := some ⟨ch, n % 3⟩, pat := sset zNat f.pat ch (n % 3) } })
    ∧ (isSafe x = true ∨ f.pulse.isSome = true ∨ f.gssPulse.isSome = true ∨ supplyOk x (ch / 16) = false → LaneBecomes (.offPulseStart l ch n) l s x)
    ∧ (f.pulse = some pu → pu.no = ch.val →
        LaneBecomes (.offPulseEnd l ch low fell) l s (if low then finc ended (Rg.FIO_CHi_CNT ch) 15 0 1 else finc ended (Rg.FIO_CHi_CNT ch) 31 16 1))
    ∧ (every ≠ 0 → n % every = 0 → mayTest x g = true → f.gss.getLsbD g = true →
        LaneBecomes (.gssTestStart l g n) l s { x with fio := { f with gssPulse := some ⟨g, n / every % 3⟩ } })
    ∧ (f.gssPulse = some pu → pu.no = g.val →
        LaneBecomes (.gssTestEnd l g low) l s { x with fio := { f with gssPulse := none, gssFail := if low then f.gssFail else putBit f.gssFail g true } })
    ∧ (f.pulse = some ⟨i, laneNo x.id⟩ → sees x x.id = true → transistorOn x i = (f.hold.getLsbD i || (cmdBits x).getLsbD i))

/-- Output protection and the safe outputs (10 R230, R231, R233; 17 R382, R388, R389, R393, R395, R397): trips, retries, clears; and no channel that a rule holds off is ever driven, nor any in the safe state or with the drivers off. -/
def Obligations.OutputProtection : Prop :=
  ∀ (s : State) (l : Lane) (ch : Chan) (g : Grp) (src : CmdSrc) (v : Word) (i : Nat) (second : Bool),
    let x := s.lane l
    let f := x.fio
    let y := { x with berr := false }
    let j := getBits v 6 0
    let rest := f.retryAt.filter (fun e => e.1 != ch.val)
    (f.deg.any (fun d => d.1 == ch.val) = true → f.tripPend.contains (ch.val / 16) = false →
      LaneBecomes (.degTimeExpiry l ch) l s { x with fio := { f with tripPend := f.tripPend ++ [ch.val / 16] } })
    ∧ (chMode x ch = 3 → (cmdBits x).getLsbD ch = true →
        LaneBecomes (.overcurrentTrip l ch) l s (fioDrive { x with fio := { f with oc := putBit f.oc ch true, ocNew := putBit f.ocNew ch true, retryAt := rest } }))
    ∧ (chMode x ch = 3 → (cmdBits x).getLsbD ch = true →
        (cmdBits (fioDrive { x with fio := { f with oc := putBit f.oc ch true, ocNew := putBit f.ocNew ch true, retryAt := rest } })).getLsbD ch = false)
    ∧ (f.oc.getLsbD ch = true → chStat x ch 3 = false → f.ocNew.getLsbD ch = false →
        LaneBecomes (.overcurrentRetry l ch) l s (fioDrive { x with fio := { f with oc := putBit f.oc ch false, retryAt := (ch.val, tOf x x.exe.n) :: rest } }))
    ∧ (chStat x ch 3 = true → LaneBecomes (.overcurrentRetry l ch) l s x)
    ∧ (chStat x ch 3 = false → LaneBecomes (.tripCountReset l ch) l s (setTrips x ch 0))
    ∧ (chStat x ch 3 = true → LaneBecomes (.tripCountReset l ch) l s x)
    ∧ LaneBecomes (.groupOverload l g) l s { x with fio := { f with ovl := putBit f.ovl g true } }
    ∧ LaneBecomes (.safeOkDisagree l second) l s (bset x Rg.FIO_STATUS (if second then 5 else 4) true)
    ∧ (mayWrite x .m Rg.FIO_CLEAR = true → j < 96 → safetyAssigned y j = false ∨ isMaintainer src = true → safeCh y j = false ∨ chStat y j 6 = false →
        LaneBecomes (.fioClear l src v) l s { y with fio := { f with clear := f.clear ++ [j] } })
    ∧ (mayWrite x .m Rg.FIO_CLEAR = true → safetyAssigned y j = true → isMaintainer src = false → LaneBecomes (.fioClear l src v) l s y)
    ∧ (mayWrite x .m Rg.SAF_DEG_CLEAR = true → i < 96 → isMaintainer src = true →
        LaneBecomes (.safDegClear l src i) l s { y with fio := { f with degClear := f.degClear ++ [(i, false)] } }
        ∧ LaneBecomes (.safDegClearGroup l src i) l s { y with fio := { f with degClear := f.degClear ++ [(i, true)] } })
    ∧ (mayWrite x .m Rg.SAF_DEG_CLEAR = true → isMaintainer src = false →
        LaneBecomes (.safDegClear l src i) l s y ∧ LaneBecomes (.safDegClearGroup l src i) l s y)
    ∧ (i < 96 → heldOff x i = true ∨ isSafe x = true ∨ x.tri.drivers = false → (cmdBits (fioDrive x)).getLsbD i = false)
    ∧ (i < 96 → heldOff x i = false → isSafe x = false → x.tri.drivers = true → (cmdBits (fioDrive x)).getLsbD i = (imgCmd x).getLsbD i)

/-- The backplane bridge (18 R400 to R417; 09 R217): cutting, completions and their loss, errors and links, inbound traffic, configuration accesses and the posted-write log. -/
def Obligations.BackplaneBridge : Prop :=
  ∀ (s : State) (l : Lane) (ag : Agent) (c : BrgCpl) (addr : DWord) (fatal isWrite : Bool) (p fuel step a n len : Nat) (d : Bytes) (v : Word)
    (o : Nat × Word × Nat × Nat) (os : List (Nat × Word × Nat × Nat)) (w : Nat × Nat × Nat × Nat),
    let x := s.lane l
    let y := { x with berr := false }
    let own := s.sends l 7 = true
    let found := x.brg.opens.find? (fun q => q.1 == c.region && q.2.1 == c.seq)
    let met := { x with brg := { x.brg with failed := x.brg.failed.filter (· != (c.region, c.seq)) } }
    let st := Rg.BRG_LINKp_STAT p
    let down := finc (fset x st 1 0 0) st 23 16 1
    let up := fset (fset (fset (fset x st 1 0 3) st 3 2 (Config.linkRate p + 1)) st 6 4 (if bget x Rg.BRG_CFG 1 then 1 else 4)) st 9 8 (b2n (Config.linkMps256 p))
    let off := addr.toNat - inbBase x
    let inWindow := inbBase x ≤ addr.toNat ∧ off / 0x100000 < 8 ∧ bget x Rg.BRG_INB_EN (off / 0x100000) = true
    let mir := inbBase x + 0x800000
    let shown := (List.range len).map (fun i => if addr.toNat - mir + i < outLen then sget zByte x.exe.outApplied (addr.toNat - mir + i) else 0)
    let sent (z : LaneState) := if s.sends l 7 then emit z .unsupported else z
    let free := Config.free32 s.freeCtr
    (0 < step → n ≤ fuel → ((cutRange fuel step a n).map (·.2)).sum = n
      ∧ ∀ q ∈ cutRange fuel step a n, 0 < q.2 ∧ a ≤ q.1 ∧ q.1 + q.2 ≤ a + n ∧ q.1 / step = (q.1 + q.2 - 1) / step)
    ∧ (own → found = some o → regAttr met c.region 8 8 ≠ 1 →
        LaneBecomes (.backplaneReadCompletion l c) l s (ownCpl met { c with ok := c.ok && !x.brg.failed.contains (c.region, c.seq), data := c.data.take o.2.2.2 }))
    ∧ (found = none → LaneBecomes (.backplaneReadCompletion l c) l s x)
    ∧ LaneBecomes (.backplaneCompletionDelivery l c) l s (holdCpl { x with brg := { x.brg with opens := x.brg.opens.filter (fun q => !(q.1 == c.region && q.2.1 == c.seq)) } } c)
    ∧ (holdCpl x c).brg.held.any (fun h => h.region == c.region && h.seq == c.seq) = true
    ∧ (own → x.brg.opens = o :: os → LaneBecomes (.completionTimeout l) l s (event (finc (ownCpl x ⟨o.1, o.2.1, false, []⟩) Rg.BRG_CPL_TO_CNT 31 0 1) 0x0802 o.1))
    ∧ (x.brg.posted.find? (fun q => coversAddr q.2.2.1 q.2.2.2 addr.toNat) = some w →
        LaneBecomes (.pcieErrorMessage l addr fatal) l s
          (postedFail { x with brg := { x.brg with posted := x.brg.posted.filter (· != w) } } w.1 addr.toNat (if fatal then 3 else 2)))
    ∧ (x.brg.posted = [] → x.brg.opens = [] → p < 4 → LaneBecomes (.pcieLinkDown l p) l s (showLinks down))
    ∧ (p < 4 → ∃ t, exec (.pcieLinkDown l p) s = .next t ∧ t.freeCtr = s.freeCtr + x.brg.posted.length ∧ (t.lane l).brg.posted = x.brg.posted.filter (fun q => q.2.1 != p)
        ∧ linkReady (t.lane l) p = false)
    ∧ (p < 4 → bget x Rg.BRG_CFG 0 = true → p = 0 ∨ bget x Rg.BRG_CFG 1 = true →
        LaneBecomes (.pcieLinkReady l p) l s (showLinks (if s.sends l 7 then up.brg.cfgs.foldl (fun z e => emit z (.pcieCfg (BitVec.ofNat 32 e.1) e.2)) up else up)))
    ∧ (x.pwr.gated.contains 4 = false → inWindow → landed x (off / 0x100000) < 1024 →
        LaneBecomes (.inboundPostedWrite l addr d) l s (arrive x (.tlp (off / 0x100000) (off % 0x100000) d)))
    ∧ (x.pwr.gated.contains 4 = false → ¬ inWindow → LaneBecomes (.inboundPostedWrite l addr d) l s (finc x Rg.BRG_UR_CNT 31 16 1))
    ∧ (own → x.pwr.gated.contains 4 = false → bget x Rg.BRG_INB_EN 8 = true → mir ≤ addr.toNat → addr.toNat + len ≤ mir + 0x10000 →
        LaneBecomes (.inboundMirrorRead l addr len) l s (emit x (.mirror addr.toNat shown)))
    ∧ (addr.toNat < mir → x.pwr.gated.contains 4 = false → LaneBecomes (.inboundMirrorRead l addr len) l s (sent (finc x Rg.BRG_UR_CNT 15 0 1)))
    ∧ LaneBecomes (.inboundUnsupported l isWrite) l s (if isWrite then finc x Rg.BRG_UR_CNT 31 16 1 else sent (finc x Rg.BRG_UR_CNT 15 0 1))
    ∧ (mayRead x ag Rg.BRG_CFGACC_DATA = true → exec (.cfgaccRead l ag) s = .next (s.tick4.onLane l (fun _ =>
        fset (rset { y with rdval := free } Rg.BRG_CFGACC_DATA free) Rg.BRG_CFGACC_STAT 2 0 (if fget x Rg.BRG_STATUS 7 4 = 0 then 2 else 0))))
    ∧ (mayWrite x ag Rg.BRG_CFGACC_DATA = true → LaneBecomes (.cfgaccWrite l ag v) l s (cfgaccWrite y (s.sends l 7) v))
    ∧ (own → ∃ z, cfgaccWrite y true v = emit z (.pcieCfg (rget x Rg.BRG_CFGACC_ADDR) v))
    ∧ (mayRead x ag Rg.BRG_PWLOG_INFO = true → LaneBecomes (.brgPwlogInfoRead l ag) l s
        (fset { y with rdval := pwlogWord x Rg.BRG_PWLOG_INFO } Rg.BRG_PWLOG_IDX 5 0 ((fget x Rg.BRG_PWLOG_IDX 5 0 + 1) % 64)))
    ∧ (mayWrite x ag Rg.BRG_PWLOG_CLR = true → LaneBecomes (.brgPwlogClr l ag) l s { y with brg := { x.brg with pwlog := [] } })
    ∧ (x.brg.pwlog.length = 64 → (postedFail x p a n).brg.pwlog = x.brg.pwlog)

/-- The active and standby pair (19 R418 to R430): heartbeats, block frames, WAIT, takeover, resignation, handover and resynchronisation. -/
def Obligations.ActiveAndStandby : Prop :=
  ∀ (s : State) (l : Lane) (ag : Agent) (hb : Heartbeat) (f : PairBlock) (src : CmdSrc) (c : Nat),
    let x := s.lane l
    let role := (x.prt.lastHb.map (·.role)).getD 0
    let y := rset64 (bset (bset x Rg.PRT_STATUS 3 true) Rg.PRT_STATUS 4 true) Rg.PRT_PARTNER_EUI_LO Rg.PRT_PARTNER_EUI_HI hb.eui
    let heard := { y with prt := { y.prt with lastHb := some hb, hbSeen := y.prt.hbSeen || hb.role == 2 || roleOf y == 2 } }
    let misfit := hb.build ≠ (heard.app.map (·.build)).getD 0 ∨ hb.index = bget heard Rg.PRT_CFG 1
    let quiet := hbLoss x ≤ fget x Rg.PRT_HB_MISS 7 0
    let up := s.rm.alive = true ∧ s.bringup = false
    let calm := x.pwr.gated.contains 3 = false
    let noHand := { x with prt := { x.prt with handN := 0 } }
    (paired x = true → calm → misfit → roleOf heard ≠ 5 → LaneBecomes (.heartbeatReceive l hb) l s (event (stand heard 5) 0x0901 0xFF))
    ∧ (paired x = true → calm → ¬ misfit → roleOf heard = 2 → hb.role = 2 → LaneBecomes (.heartbeatReceive l hb) l s (dualSeen heard))
    ∧ (paired x = true → calm → ¬ misfit → roleOf heard = 3 ∨ roleOf heard = 4 → hb.role = 2 → isSafe heard = false →
        LaneBecomes (.heartbeatReceive l hb) l s (let z := setMode heard hb.mode; pairConsistent hb { z with prt := { z.prt with handN := hb.handoverN } }))
    ∧ (paired x = true → calm → ¬ misfit → roleOf heard = 0 ∨ roleOf heard = 1 → LaneBecomes (.heartbeatReceive l hb) l s heard)
    ∧ (roleOf x = 3 ∨ roleOf x = 4 → calm → LaneBecomes (.blockFrameReceive l f) l s { x with prt := { x.prt with stage := x.prt.stage ++ [f] } })
    ∧ (roleOf x = 1 →
        (role = 2 → LaneBecomes (.waitExit l) l s (setRole x 3))
        ∧ (role = 1 → x.prt.slotAgo = none → bget x Rg.PRT_CFG 1 = false → LaneBecomes (.waitExit l) l s (fioDrive (setRole x 2)))
        ∧ (role = 1 → bget x Rg.PRT_CFG 1 = true → LaneBecomes (.waitExit l) l s x)
        ∧ (x.prt.lastHb = none → x.prt.slotAgo = none → LaneBecomes (.pairWaitExpiry l) l s (fioDrive (setRole x 2))))
    ∧ (roleOf x = 4 → quiet → hbLoss x ≤ fget x Rg.PRT_HB_MISS 15 8 → fget x Rg.CAR_STATUS 2 0 = 3 →
        LaneBecomes (.takeover l) l s (event (becomeActive (x.prt.consistent.getD 0) x) 0x0901 0))
    ∧ (roleOf x ≠ 4 ∨ fget x Rg.CAR_STATUS 2 0 ≠ 3 → LaneBecomes (.takeover l) l s x)
    ∧ (roleOf (becomeActive c x) = 2 ∧ (becomeActive c x).exe.outApplied = x.prt.outCopy ∧ (becomeActive c x).exe.outComm = x.prt.outCopy
        ∧ (becomeActive c x).forces = (copyExecState x).forces ∧ (becomeActive c x).tri.seqs = (copyExecState x).seqs)
    ∧ (roleOf x = 2 → x.prt.resigned = false → quiet → hbLoss x ≤ x.prt.txSilent → LaneBecomes (.invisibleResign l) l s (resign x))
    ∧ (up → roleOf x = 2 → role = 4 → LaneBecomes (.handover l src) l s { x with prt := { x.prt with handN := x.exe.n + 8 } })
    ∧ (up → roleOf x ≠ 2 ∨ role ≠ 4 → LaneBecomes (.handover l src) l s x)
    ∧ (0 < x.prt.handN → x.prt.handN ≤ x.exe.n + 1 →
        (roleOf x = 2 → role = 4 → LaneBecomes (.handoverSwitch l) l s (event (finc (stand noHand 3) Rg.PRT_SWITCHOVERS 15 0 1) 0x0901 1))
        ∧ (roleOf x = 2 → role ≠ 4 → LaneBecomes (.handoverSwitch l) l s (event noHand 0x0901 2))
        ∧ (roleOf x = 4 → x.prt.consistent = some (x.prt.handN - 1) → LaneBecomes (.handoverSwitch l) l s (event (becomeActive (x.prt.handN - 1) x) 0x0901 1))
        ∧ (roleOf x = 3 → LaneBecomes (.handoverSwitch l) l s (event noHand 0x0901 2)))
    ∧ (mayWrite x ag Rg.PRT_CTRL = true → LaneBecomes (.resync l ag) l s (markAll { x with berr := false }))
    ∧ (roleOf x ≠ 2 → roleOf x ≠ 0 → isStandby x = true)

/-- Power-state requests and entries (20 R434 to R440, R446, R450, R452): requests, the order of the participants, refusals and aborts, the end of an entry, and the limits that lead to DORMANT. -/
def Obligations.PowerStateEntry : Prop :=
  ∀ (s : State) (l : Lane) (ag : Agent) (src : PwrSrc) (csrc : CmdSrc) (t p : Nat) (ps : List Nat),
    let x := s.lane l
    let asked := (s.answer .ok)
    let outside := s.rm.alive = true ∧ src ≠ .vital ∧ (s.bringup = false ∨ s.pwrState = 3)
    let quiesced := (s.onLane l (quiesceLane (fun k => s.sends l k) p)).onPwr (fun q => { q with quiesced := q.quiesced ++ [l] })
    let voter := votes x = true ∧ s.rm.pwr.quiesced.contains l = false
    let noPend (z : State) := z.pendingReq = none
    let back := (s.mapLanes (fun z => startPart (fun k => s.sends z.id k) false p z)).onPwr (fun z => { z with restart := ps })
    (outside → 1 ≤ t → t ≤ 3 →
      (s.pwrState = 0 → exec (.powerStateRequest src t) s = .next (asked.onPwr (fun q => { q with req := some t })))
      ∧ (s.pwrState = 2 → exec (.powerStateRequest src t) s = .next (if t = 2 then asked.toDormant false else if t = 3 then asked.toOff else asked))
      ∧ (s.pwrState = 3 → exec (.powerStateRequest src t) s = .next (if t = 3 then asked.toOff else asked))
      ∧ (s.pwrState = 1 ∨ s.pwrState = 4 ∨ s.pwrState = 5 → exec (.powerStateRequest src t) s = .next (asked.setPending (some t))))
    ∧ (outside → t = 0 ∨ 3 < t → exec (.powerStateRequest src t) s = .next (s.answer .refused))
    ∧ (∀ n z, s.rm.alive = true → s.takeVital = (some n, z) → exec (.powerStateRequest .vital t) s = .next (z.request n))
    ∧ (s.rm.pwr.req = some t → t < 4 → s.pwrState = 0 → phaseOf s.la = 4 → s.voting ≠ [] →
        ∃ z, exec .entryBegin s = .next z ∧ z.pwrState = 1 ∧ z.pwrIndex = 1 ∧ z.pwrTarget = (if s.safe && t = 1 then 2 else t) ∧ z.rm.pwr.req = none
          ∧ z.rm.pwr.gated = [] ∧ z.rm.pwr.modeAt = s.mode ∧ ∀ k, (z.lane k).tri.bypass = true)
    ∧ (s.partNow = some p → voter → refuses p x = false → p = 1 → coresDone x = true →
        exec (.participantQuiesced l) s = .next (if quiesced.voting.all (fun y => quiesced.rm.pwr.quiesced.contains y) then quiesced.gatePart p else quiesced))
    ∧ (s.partNow = some p → voter → refuses p x = false → p ≠ 1 →
        exec (.participantQuiesced l) s = .next (if quiesced.voting.all (fun y => quiesced.rm.pwr.quiesced.contains y) then quiesced.gatePart p else quiesced))
    ∧ (s.partNow = some p → voter → refuses p x = true → exec (.participantRefusal l) s = .next (s.endEntry p 1 l) ∧ exec (.participantQuiesced l) s = .next s)
    ∧ (s.partNow = some p → voter → p ≠ 2 → p ≠ 0xA → exec (.participantTimeout l) s = .next (s.endEntry p 2 l))
    ∧ (s.partNow = some p → p = 2 ∨ p = 0xA → exec (.participantTimeout l) s = .next s)
    ∧ (p ≤ 12 → (s.gatePart p).rm.pwr.gated = p :: s.rm.pwr.gated ∧ (s.gatePart p).rm.pwr.quiesced = [] ∧ (s.gatePart p).pwrState = 1 ∧ (s.gatePart p).pwrIndex = p + 1
        ∧ ∀ k, ((s.gatePart p).lane k).pwr.gated.contains p = true)
    ∧ (s.rm.pwr.gated ≠ [] → (s.endEntry p t l).pwrState = 5 ∧ (s.endEntry p t l).rm.pwr.restart = s.rm.pwr.gated)
    ∧ (s.rm.pwr.restart = p :: ps → s.pwrState = 5 → exec .abortRestartStep s = .next (if ps = [] then back.endAbort else back))
    ∧ (s.pwrState = 1 → s.pwrIndex = 13 → s.rm.pwr.wakePending = false → noPend s →
        (s.pwrTarget = 1 → ∃ z, exec .entryComplete s = .next z ∧ z.pwrState = 2 ∧ ∀ k, (z.lane k).pwr.supply = false)
        ∧ (s.pwrTarget = 2 → exec .entryComplete s = .next (s.toDormant false).evalPending)
        ∧ (s.pwrTarget = 3 → exec .entryComplete s = .next s.toOff.evalPending))
    ∧ (s.rm.start.stby = true → ∀ b, (s.toDormant b).pwrState = 3 ∧ (s.toDormant b).rm.alive = s.rm.alive)
    ∧ (s.toOff.rm.alive = false ∧ s.toOff.rm.sessions = [])
    ∧ (s.pwrState = 2 →
        (fget s.la Rg.PWR_WAKE_CFG 31 16 ≠ 0 → exec .stbyLimitExpiry s = .next (s.toDormant true))
        ∧ (fget s.la Rg.PWR_WAKE_CFG 31 16 = 0 → exec .stbyLimitExpiry s = .next s)
        ∧ exec .standbySupplyLoss s = .next (({ s with rm := { s.rm with start := { s.rm.start with input := false } } } : State).toDormant true))
    ∧ (mayWrite x ag Rg.PWR_WAKE_TX = true → s.pwrState = 0 → LaneBecomes (.pwrWakeTx l ag) l s
        (((List.range 4).filter (fun q => !bget x (Rg.CAR_PORTp_STAT q) 0 && s.sends l (lineOf q))).foldl (fun z q => emit z (.wake q (rget x Rg.PWR_WAKE_ID))) { x with berr := false }))
    ∧ (s.rm.alive = true → s.bringup = false → isMaintainer csrc = true →
        ∃ z, exec (.pwrResClr csrc) s = .next z ∧ z.rm.status = .ok ∧ ∀ k, ∀ n < 5, rget (z.lane k) (Rg.PWR_RESs_LO n) = 0 ∧ rget (z.lane k) (Rg.PWR_RESs_HI n) = 0)

/-- Wake sources and the wake (20 R444 to R449, Table PWR-6): each source that is enabled and armed wakes the module; a wake aborts an entry before MER has gated; and the steps of a wake or a start-up follow one another. -/
def Obligations.WakeSourcesAndSteps : Prop :=
  ∀ (s : State) (id : Word) (port n : Nat) (k : CanNo) (ch : Chan),
    let p := s.rm.pwr
    let en (b : Nat) := bget s.la Rg.PWR_WAKE_EN b = true
    let pat := bget s.la Rg.PWR_WAKE_CFG 0
    let i := s.pwrIndex
    let regs := bget s.la Rg.PWR_CFG 0 && !bget s.la Rg.PWR_STATUS 16
    let kv := s.voting.all (fun x => dramKept (s.lane x))
    let stby := s.mapLanes (fun l => stbyStep i kv regs p.patternWoke p.modeAt (fun q => s.sends l.id q) l)
    (s.rm.alive = true → s.pwrState = 2 ∨ s.pwrState = 3 → exec .wakeArmExpiry s = .next (s.onPwr (fun q => { q with armed := true })))
    ∧ (p.armed = true →
        (en 0 → pat = false → exec .backboneEnergyWake s = .next (s.wake 0))
        ∧ (en 0 → pat = true → id = rget s.la Rg.PWR_WAKE_ID ∨ id = 0xFFFFFFFF#32 →
            exec (.wakePatternReceive id) s = .next ((s.onPwr (fun q => { q with patternWoke := true })).wake 0))
        ∧ (en 1 → p.wakeEcn.contains port = true → exec (.consistEnergyWake port) s = .next (s.wake 1))
        ∧ (p.wakeCan.contains k.val = true → exec (.canWake k) s = .next (s.wake (2 + k.val))))
    ∧ (p.armed = false → exec .backboneEnergyWake s = .next s ∧ exec (.wakePatternReceive id) s = .next s ∧ exec (.consistEnergyWake port) s = .next s ∧ exec (.canWake k) s = .next s)
    ∧ (en 2 → (p.off = false → exec .wakePin s = .next (s.wake 6))
        ∧ (p.off = true → s.rm.start.stby = true → exec .wakePin s = .next ((({ (s.mapLanes (noteWake true 6)) with rm := { s.rm with start := { s.rm.start with cause := 4 } } } : State).bootRm).beginStart 4)))
    ∧ (s.rm.alive = true →
        (en 3 → exec .alarmWake s = .next (s.wake 7))
        ∧ (p.wakeFio.contains ch.val = true → exec (.fieldInputWake ch) s = .next (s.wake 8))
        ∧ (s.pwrState = 3 → p.r436 = true → en 4 →
            exec .resupplyWake s = .next (({ s with rm := { s.rm with start := { s.rm.start with input := true } } } : State).wake 9)))
    ∧ (s.pwrState = 1 → p.entering = true → s.wake n = ((s.mapLanes (noteWake true n)).setPending none).endEntry 0x1F 3 .a)
    ∧ (s.pwrState = 1 → p.entering = false → (s.wake n).rm.pwr.wakePending = true)
    ∧ (s.pwrState = 2 → p.dormantPath = false → (s.wake n).pwrState = 4 ∧ (s.wake n).pwrIndex = 0 ∧ (s.wake n).rm.pwr.armed = false
        ∧ (n < 16 → ∀ x, rget ((s.wake n).lane x) Rg.PWR_WAKE_CAUSE = BitVec.ofNat 32 (2 ^ n + 65536 * n)))
    ∧ (s.pwrState = 0 ∨ s.pwrState = 5 → s.wake n = s)
    ∧ (s.pwrState = 4 → s.rm.start.step = 8 → phaseOf s.la = 4 → i ≠ 0 → i ≠ 5 → i < 15 → exec .wakeStep s = .next (stby.setPwr 4 (i + 1)))
    ∧ (s.pwrState = 4 → s.rm.start.step = 7 → 5 ≤ i → i < 15 →
        exec .wakeStep s = .next ((s.mapLanes (fun l => startStep i 0 (fun q => s.sends l.id q) l)).setPwr 4 (i + 1)))
    ∧ (s.pwrState = 4 → s.rm.start.step = 7 → i = 15 →
        exec .wakeStep s = .next ((s.mapLanes (fun l => startStep 15 0 (fun q => s.sends l.id q) l)).reachStop).evalPending)

/-- Start-up (21 R455 to R461, Tables SYS-2, SYS-3; 20 R448; 25 R528): supplies applied, lane sequencing, the tests of the lanes, image verification, validation, the time-out, and STOP. -/
def Obligations.StartUp : Prop :=
  ∀ (s : State) (l : Lane) (r : BistResult) (ty : ImgType) (ts : List ImgType) (code n : Nat),
    let st := s.rm.start
    let standby : State := { s with rm := { s.rm with start := { st with stby := true } } }
    let input : State := { s with rm := { s.rm with start := { st with input := true } } }
    let tested (z : State) (b : Bool) : State := { z with rm := { z.rm with start := { z.rm.start with tests := z.rm.start.tests ++ [(l, b)] } } }
    let here := st.step = 3 ∧ st.tests.any (fun t => t.1 == l) = false
    let clean := bistCode r = none ∧ r.linkFail = []
    let late := laneTypes.filter (fun t => (s.rm.img t).changed)
    let counted := (s.countUp late).setFail 0x14 (imgNo (late.headD .config))
    let bad := late.filter (fun t => 3 ≤ (counted.rm.img t).count)
    let recd := padTo 4096 (Config.cfgOf (s.rm.img .config).selected.img).record
    let stale := allLanes.any (fun x => aomRecord (s.lane x) != recd)
    let turn := st.step = 6 ∧ s.nextImage = some ty
    (st.stby = false → s.rm.pwr.off = false → exec .standbyPowerApplied s = .next standby)
    ∧ (st.stby = false → s.rm.pwr.off = true → exec .standbyPowerApplied s = .next
        (let z := standby.mapLanes (fun x => fset x Rg.SYS_RESET_CAUSE 31 16 0)
         (({ z with rm := { z.rm with start := { z.rm.start with rmW := none, cause := 1 } } } : State).bootRm).beginStart 1))
    ∧ (s.rm.pwr.off = true → st.stby = true → exec .inputPowerApplied s = .next input)
    ∧ (s.rm.pwr.off = true → st.stby = false → exec .inputPowerApplied s = .next
        ((({ input with rm := { input.rm with start := { input.rm.start with rmW := none, cause := if st.cause = 2 then 2 else 1 } } } : State).bootRm).beginStart (if st.cause = 2 then 2 else 1)))
    ∧ (s.rm.pwr.off = false → s.rm.alive = true → st.input = false → st.step = 1 → exec .inputPowerApplied s = .next input.startLanes)
    ∧ (st.periph = false → s.startLanes.rm.start.step = 2 ∧ s.startLanes.pwrState = 4 ∧ s.startLanes.pwrIndex = 0 ∧ s.startLanes.rm.start.tests = [])
    ∧ (st.periph = true → s.startLanes.rm.start.step = 1)
    ∧ (here → clean → st.tests.length < 2 → exec (.bistComplete l r) s = .next (tested s true))
    ∧ (here → clean → st.tests.length = 2 → exec (.bistComplete l r) s = .next (tested s true).testsEnded)
    ∧ (here → bistCode r = some code → r.tightrope = true → r.linkFail = [] → st.tests.length < 2 →
        exec (.bistComplete l r) s = .next (tested (s.setFail code 0xFF) false))
    ∧ (s.pwrState = 4 → st.step = 8 → s.pwrIndex = 6 → votes (s.lane l) = true → r.tightrope = true → r.ecc = false →
        exec (.bistComplete l r) s = .next (s.onLanes (fun y => if y.id = l then setLatch (noteExcluded y l 9 true) else noteExcluded y l 9 true)))
    ∧ ((allLanes.filter (fun x => st.tests.contains (x, true) && !st.linkLost.contains x)).length < 2 →
        (s.testsEnded.rm.start.step = 8 ∧ ∀ x, phaseOf (s.testsEnded.lane x) = 5))
    ∧ (turn → s.imageCode ty = some (code, ts) → exec (.imageVerification ty) s = .next (s.imagesFail (s.blamed ts) code))
    ∧ (turn → s.imageCode ty = none → ty ≠ .config ∨ stale = false → exec (.imageVerification ty) s = .next (s.imagePasses ty))
    ∧ (turn → s.imageCode ty = none → ty = .config → stale = true →
        (st.recTried = true → exec (.imageVerification ty) s = .next (s.imagesFail [.config] 0x13))
        ∧ (st.recTried = false → exec (.imageVerification ty) s = .next
            (let z := s.mapLanes (fun x => mwr x 0x1000000 recd)
             ({ z with rm := { z.rm with start := { z.rm.start with recTried := true } } } : State).recordRestart)))
    ∧ (st.step = 7 → s.pwrIndex ≠ 5 →
        (failBlock (s.lane (s.voting.headD .a)) = none → exec .configValidation s = .next (s.setPwr 4 5))
        ∧ (failBlock (s.lane (s.voting.headD .a)) = some n → exec .configValidation s = .next ((s.setFail 0x20 n).setPwr 4 5)))
    ∧ (s.inStartup = true →
        (late = [] → exec .startupTimeout s = .next (s.startFailed 0x14 0xFF))
        ∧ (late ≠ [] → exec .startupTimeout s = .next (if bad = [] then counted.restart 8 else counted.failSlots bad [] 0x14 8)))
    ∧ (s.inStartup = false → exec .startupTimeout s = .next s)
    ∧ (s.reachStop.rm.start.step = 8 ∧ ∀ t, (s.reachStop.rm.img t).count = 0 ∧ (s.reachStop.rm.img t).changed = false)

/-- Supply dips, the controlled shutdown, restart commands and the key table (21 R454, R457, R462 to R466; 25 R530). -/
def Obligations.SupplyRestartAndKeys : Prop :=
  ∀ (s : State) (src : CmdSrc) (force : Bool) (n idx : Nat) (key sig : Bytes) (k : KeyEnt),
    let st := s.rm.start
    let off := s.rm.pwr.off = true ∨ s.pwrState = 3
    let input : State := { s with rm := { s.rm with start := { st with input := false } } }
    let standby : State := { s with rm := { s.rm with start := { st with stby := false } } }
    let up := s.rm.alive = true ∧ s.bringup = false
    let entry := s.rm.keys[idx]? = some k
    let put (z : KeyEnt) : State := ({ s with rm := { s.rm with keys := s.rm.keys.setIfInBounds idx z } } : State).answer .ok
    (st.dip = false → ∃ z, exec (.supplyWarning n) s = .next z ∧ z.rm.start.dip = true
      ∧ ∀ x, fget (z.lane x) Rg.SYS_SUPPLY 16 16 = 1 ∧ fget (z.lane x) Rg.SYS_SUPPLY 31 24 = min (fget (s.lane x) Rg.SYS_SUPPLY 31 24 + 1) 255)
    ∧ (st.dip = true → exec (.supplyWarning n) s = .next s)
    ∧ (st.dip = true → ∃ z, exec (.supplyRecovery n) s = .next z ∧ z.rm.start.dip = false ∧ ∀ x, fget (z.lane x) Rg.SYS_SUPPLY 16 16 = 0)
    ∧ (st.dip = false → exec (.supplyRecovery n) s = .next s)
    ∧ (off → exec .resetPoint s = .next (if st.stby then input else input.noSupply))
    ∧ (¬ off → ∃ z, exec .resetPoint s = .next z ∧ z.rm.start.cause = 2 ∧ z.rm.start.input = false
        ∧ (st.stby = true → z.rm.start.step = 1 ∧ z.rm.start.dip = false ∧ ∀ x, fget (z.lane x) Rg.SYS_RESET_CAUSE 4 0 = 2)
        ∧ (st.stby = false → z.rm.alive = false ∧ z.rm.start.step = 0))
    ∧ (st.stby = true → exec .standbyInputRemoved s = .next (if s.rm.pwr.off || s.pwrState == 3 || !st.input then standby.noSupply else standby))
    ∧ (up → s.idleMode = true → exec (.restart src force) s = .next ((s.answer .ok).restart 5))
    ∧ (up → s.idleMode = false → force = true → isMaintainer src = true → phaseOf s.la = 4 → s.pwrState = 0 → exec (.restart src force) s = .next ((s.answer .ok).restart 5))
    ∧ (up → s.idleMode = false → force = false ∨ isMaintainer src = false → exec (.restart src force) s = .next (s.answer .mode))
    ∧ (up → isMaintainer src = true →
        (s.idleMode = true → phaseOf s.la ≠ 6 → exec (.safetyNet src) s = .next ((s.answer .ok).enterSnet 3))
        ∧ (s.idleMode = false ∨ phaseOf s.la = 6 → exec (.safetyNet src) s = .next (s.answer .mode)))
    ∧ (up → isMaintainer src = false → exec (.safetyNet src) s = .next (s.answer .auth))
    ∧ (s.rm.alive = true → s.bringup = true → exec (.restart src force) s = .next (s.answer .bringup) ∧ exec (.safetyNet src) s = .next (s.answer .bringup))
    ∧ (up → isMaintainer src = true → entry →
        (4 ≤ idx → k.written = false → sigVerifies s.rm true (Config.enrolText idx key) sig = true →
          exec (.fleetKeyEnrol src idx key sig) s = .next (put { k with key := key, written := true }))
        ∧ (idx < 4 ∨ k.written = true → exec (.fleetKeyEnrol src idx key sig) s = .next (s.answer .refused))
        ∧ exec (.keyRevoke src idx) s = .next (put { k with revoked := true }))
    ∧ (up → entry → isMaintainer src = false → exec (.fleetKeyEnrol src idx key sig) s = .next (s.answer .auth) ∧ exec (.keyRevoke src idx) s = .next (s.answer .auth))

/-- Safety Net (21 R466 to R471, Tables SYS-7, SYS-8), as the module that lacks images and as its neighbour. -/
def Obligations.SafetyNetProtocol : Prop :=
  ∀ (s : State) (svc : Bool) (m : SnetMsg) (o : SnetOffer) (os : List SnetOffer) (img : Bytes) (t : ImgType) (ts : List ImgType),
    let n := s.rm.snet.seq
    let answer (c : Nat) := s.sendSnet 5 { seq := m.seq, eui := Config.eui, typ := m.typ, code := BitVec.ofNat 8 c, build := m.build }
    let lacks := s.missing.contains m.typ = true ∧ s.rm.snet.offers.any (fun z => z.typ == m.typ) = false
    let anyBuild := m.typ = .ringmaster ∨ m.typ = .executive
    let wants := svc = true ∨ anyBuild ∨ m.build = s.wanted m.typ
    let fits := m.len ≤ 33554432 ∧ m.len ≤ slotSize m.typ
    let new : SnetOffer := { typ := m.typ, len := m.len, build := m.build, svc := svc }
    let open_ := s.rm.snet.offers.find? (fun z => z.typ == m.typ && z.seq == m.seq && z.off == m.offset && readLen z == m.data.length)
    let grown : SnetOffer := { o with off := o.off + m.data.length, buf := o.buf ++ m.data, repeats := 0 }
    let without : State := { s with rm := { s.rm with snet := { s.rm.snet with offers := s.rm.snet.offers.filter (fun z => z.typ != o.typ) } } }
    let code := if !imgVerifies without.rm o.typ grown.buf then 1 else if !receivedOk without.rm o.typ grown.buf then 2 else 0
    let result (z : State) := z.sendSnet 5 { seq := m.seq, eui := Config.eui, typ := o.typ, code := BitVec.ofNat 8 code, build := o.build }
    let again : SnetOffer := { o with repeats := o.repeats + 1 }
    let serves := s.provides = true ∧ m.okHdr = true
    (s.inSnet = true → exec .hello s = .next (({ s with rm := { s.rm with snet := { s.rm.snet with seq := n + 1 } } } : State).sendSnet 1 { seq := n, eui := Config.eui, data := s.helloBody }))
    ∧ (s.forMe m = true → exec (.identify m) s = .next (s.sendSnet 1 { seq := m.seq, eui := Config.eui, data := s.helloBody }))
    ∧ (s.forMe m = false → exec (.identify m) s = .next s ∧ exec (.offer svc m) s = .next s ∧ exec (.data m) s = .next s ∧ exec (.snetRestart m) s = .next s)
    ∧ (s.forMe m = true → lacks → wants → fits →
        exec (.offer svc m) s = .next (({ s with rm := { s.rm with snet := { s.rm.snet with offers := s.rm.snet.offers ++ [new] } } } : State).sendRead new))
    ∧ (s.forMe m = true → ¬ lacks ∨ ¬ wants → exec (.offer svc m) s = .next (answer 5))
    ∧ (s.forMe m = true → lacks → wants → ¬ fits → exec (.offer svc m) s = .next (answer 3))
    ∧ (s.forMe m = true → open_ = none → exec (.data m) s = .next s)
    ∧ (s.forMe m = true → open_ = some o →
        (o.off + m.data.length < o.len → exec (.data m) s = .next (s.sendRead grown))
        ∧ (o.len ≤ o.off + m.data.length → exec (.data m) s = .next (result (if code = 0 then without.writeSnet o.typ grown.buf else without))))
    ∧ (s.rm.snet.offers = o :: os → s.inSnet = true →
        (8 ≤ o.repeats → exec .readRepeatTimeout s = .next { s with rm := { s.rm with snet := { s.rm.snet with offers := os } } })
        ∧ (o.repeats < 8 → exec .readRepeatTimeout s = .next (({ s with rm := { s.rm with snet := { s.rm.snet with offers := again :: os } } } : State).sendSnet 3
            { seq := o.seq, eui := Config.eui, typ := o.typ, offset := o.off, len := readLen o })))
    ∧ (serves → 0 < m.len → m.len ≤ 1024 → s.imageOf m.typ = some img → m.offset < img.length →
        exec (.read m) s = .next (s.sendSnet 4 { m with data := (img.drop m.offset).take m.len }))
    ∧ (s.provides = false → exec (.read m) s = .next s ∧ exec (.helloReceive m) s = .next s)
    ∧ (serves → (∀ z, s.imageWith z (BitVec.ofNat 64 (leNat ((m.data.drop (8 + 8 * imgNo z)).take 8))) = none) → exec (.helloReceive m) s = .next s)
    ∧ (serves → leNat ((m.data.drop 13).take 1) = 2 ^ (imgNo t - 1) → s.imageWith t (BitVec.ofNat 64 (leNat ((m.data.drop (8 + 8 * imgNo t)).take 8))) = some img →
        exec (.helloReceive m) s = .next (s.sendSnet 2
          { seq := m.seq, eui := m.eui, typ := t, len := img.length, build := BitVec.ofNat 64 (leNat ((m.data.drop (8 + 8 * imgNo t)).take 8)), version := BitVec.ofNat 32 (imgField img 0x0C 4) }))
    ∧ exec (.result m) s = .next s
    ∧ (s.inSnet = true → s.missing = [] → exec .safetyNetExit s = .next s.leaveSnet)
    ∧ (s.inSnet = false → exec .safetyNetExit s = .next s)
    ∧ (s.forMe m = true →
        (s.missing = [] → exec (.snetRestart m) s = .next s.leaveSnet)
        ∧ (s.missing = t :: ts → exec (.snetRestart m) s = .next (s.sendSnet 5 { seq := m.seq, eui := Config.eui, typ := t, code := 6 })))

/-- Ringmaster's services (01 R21, R25; 02 R53; 22 R473 to R482, Table MBX-3): its restart, sessions, messages, sensors, life counters, voltage steering and the auxiliary message buffers. -/
def Obligations.RingmasterServices : Prop :=
  ∀ (s : State) (l : Lane) (src : CmdSrc) (cert : Cert) (sid sn : Nat) (code : Half) (d : Bytes) (msg : RmMsg) (v : Int) (w : Word) (lo hi : Int),
    let x := s.lane l
    let up := s.rm.alive = true ∧ s.bringup = false
    let mine := s.rm.slackHist.filter (fun e => e.1 == l)
    let now := fget x Rg.CYC_SLACK 9 0
    let worst := ((((l, now) :: mine).take 16).map (·.2)).foldl min 1000
    let vset := fget x Rg.MBX_VSET 4 0
    let steered := s.rm.alive = true ∧ votes x = true ∧ x.cfg.steerEn = true ∧ bget x Rg.CYC_STATUS 9 = false
    let sets (n : Nat) := ∃ z, exec (.steeringEvaluation l) s = .next z ∧ fget (z.lane l) Rg.MBX_VSET 4 0 = n ∧ bget (z.lane l) Rg.MBX_STATUS 1 = false
    let len := getBits w 8 0
    let y := { x with berr := false }
    let went (i : Instr) (k : Nat) := ∃ z, exec i s = .next z ∧ z.rm.alive = false ∧ z.rm.downBy = k ∧ z.rm.sessions = [] ∧ ∀ q, bget (z.lane q) Rg.MBX_STATUS 0 = false
    let ends (i : Instr) := ∃ z, exec i s = .next z ∧ z.rm.sessions = s.rm.sessions.filter (fun q => q.sid != sid) ∧ (s.rm.evr.frozenBy = some (.session sid) → z.rm.evr.frozenBy = none)
    (s.rm.alive = true → went .ringmasterWatchdog 1 ∧ went .ringmasterFault 2)
    ∧ (s.rm.alive = false → exec .ringmasterWatchdog s = .next s ∧ exec .ringmasterFault s = .next s)
    ∧ (s.rm.alive = false → s.rm.downBy ≠ 0 → ∃ z, exec .ringmasterResume s = .next z ∧ z.rm.alive = true ∧ z.rm.downBy = 0 ∧ ∀ q, bget (z.lane q) Rg.MBX_STATUS 0 = true)
    ∧ (s.rm.alive = false → s.rm.downBy = 1 → (s.rm.img .ringmaster).provisional = true →
        ∃ z, exec .ringmasterResume s = .next z ∧ (z.rm.img .ringmaster).selB = !(s.rm.img .ringmaster).selB ∧ (z.rm.img .ringmaster).provisional = false)
    ∧ (s.rm.alive = true → s.rm.sessions.length < 2 → exec (.serviceSessionOpen cert) s = .next
        (({ s with rm := { s.rm with sessions := s.rm.sessions ++ [Session.mk s.rm.nextSid (s.certLevel cert)], nextSid := s.rm.nextSid + 1 } } : State).answer .ok))
    ∧ (s.rm.alive = true → 2 ≤ s.rm.sessions.length → exec (.serviceSessionOpen cert) s = .next (s.answer .refused))
    ∧ (∀ k a, cert.keyIdx = some k → s.certLevel cert = some a → (keyOf s.rm k).isSome = true ∧ cert.notBefore ≤ s.certNow ∧ s.certNow ≤ cert.notAfter ∧ cert.role = some a)
    ∧ ends (.sessionTimeout sid) ∧ ends (.serviceSessionClose sid)
    ∧ (up → src.backbone = false → exec (.operatorMessage src code d) s = .next
        ((({ s with rm := { s.rm with opSeq := s.rm.opSeq + 1 } } : State).mapLanes (fun q => arrive q (.rm { code := code, seq := s.rm.opSeq + 1, data := padTo 56 d }))).answer .ok))
    ∧ (up → src.backbone = true → exec (.operatorMessage src code d) s = .next (s.answer .auth))
    ∧ (s.rm.alive = true → exec (.ringmasterMessage msg) s = .next (s.mapLanes (fun q => arrive q (.rm msg))))
    ∧ (s.rm.alive = true → ∃ z, exec (.sensorSample sn v) s = .next z
        ∧ (sn = 9 → z.rm.life = thermalStep s.rm.life v)
        ∧ (sn = 32 → ∀ q, fget (z.lane q) Rg.SYS_SUPPLY 7 0 = min (v / 10).toNat 255)
        ∧ (sn = 39 → ∀ q, fget (z.lane q) Rg.SYS_SUPPLY 15 8 = min (v / 20).toNat 255)
        ∧ (41 ≤ sn → v ≤ 1000 → z.rm.hist = s.rm.hist)
        ∧ (bandOf s.la.cfg sn = some (lo, hi) → v < lo ∨ hi < v → z.rm.sensors.contains (sn, true) = true ∧ z.rm.reported.contains sn = true))
    ∧ (s.rm.alive = true → ∃ z, exec .lifeCounterUpdate s = .next z ∧ z.rm.life.seconds = (if s.rm.start.input then s.rm.life.seconds + 60 else s.rm.life.seconds)
        ∧ z.rm.life.flash = if s.rm.start.dip then s.rm.life.flash else (z.rm.life.seconds, s.rm.life.powerCycles, s.rm.life.thermal))
    ∧ (steered → now < 100 → sets (min (vset + 2) 28))
    ∧ (steered → 100 ≤ now → mine.length + 1 = 64 ∨ mine.length + 1 = 80 → 200 < worst → sets (vset - 1))
    ∧ (steered → 100 ≤ now → mine.length + 1 ≠ 64 → mine.length + 1 ≠ 80 → sets vset)
    ∧ (s.rm.alive = true → votes x = false ∨ x.cfg.steerEn = false ∨ bget x Rg.CYC_STATUS 9 = true → sets 28)
    ∧ (s.rm.alive = true → exec (.vsetRefresh l) s = .next (s.setLane l (steerTo x vset)))
    ∧ LaneBecomes (.steerFallback l) l s (bset (fset { x with mbx := { x.mbx with silentSteer := true } } Rg.MBX_VSET 4 0 28) Rg.MBX_STATUS 1 true)
    ∧ (mayWrite x .x Rg.MBX_AUXOUT_CTRL = true → bget x Rg.MBX_AUX_STAT 0 = false → 0 < len → len ≤ 256 →
        LaneBecomes (.auxMessageSend l w) l s (if bget x Rg.MBX_STATUS 0 then emit y (.auxMsg (regBytes x (Rg.MBX_AUXOUTi 0) len)) else bset y Rg.MBX_AUX_STAT 0 true))
    ∧ (s.rm.alive = true → isSplit x = true → bget x Rg.MBX_AUX_STAT 1 = false → 0 < d.length → d.length ≤ 256 →
        LaneBecomes (.auxMessageReceive l d) l s (fset (bset (rsetWords x (Rg.MBX_AUXINi 0) d) Rg.MBX_AUX_STAT 1 true) Rg.MBX_AUX_STAT 10 2 d.length))
    ∧ (mayWrite x .x Rg.MBX_AUXIN_ACK = true → LaneBecomes (.mbxAuxinAck l) l s (fset (bset y Rg.MBX_AUX_STAT 1 false) Rg.MBX_AUX_STAT 10 2 0))

/-- The event recorder (22 R483 to R494): what is recorded and where, rate limits and suppression, clear, freeze and its holder, and reads. -/
def Obligations.EventRecorder : Prop :=
  ∀ (s : State) (l : Lane) (ag : Agent) (r : Report) (rs : List Report) (code : Half) (now : Nat) (src : CmdSrc) (fs h : FreezeSrc) (v : Word) (b : Nat × Nat × Nat),
    let x := s.lane l
    let e := s.rm.evr
    let c := r.code.toNat
    let rest : State := { s with rm := { s.rm with evr := { e with reports := rs } } }
    let t := tokens e s.la.cfg c now
    let quiet := e.frozenBy = none ∧ s.rm.start.dip = false
    let a15 := Rg.EVR_RD_DATAk 15
    let read := { x with berr := false, rdval := rget x a15 }
    let i := fget x Rg.EVR_RATE_IDX 9 0
    let first : EvRec := { index := e.newest + 1, rep := r, firstAfterClear := e.afterClear, lossBefore := e.loss, suppressed := BitVec.ofNat 32 (min (suppOf e c) 0xFFFFFFFF), powerCycles := BitVec.ofNat 32 s.rm.life.powerCycles }
    (s.rm.alive = true → e.reports = r :: rs →
      (exemptCodes.contains c = true → codeKnown c = true → exec (.eventReport now) s = .next (rest.recordEvent r))
      ∧ (codeKnown c = false → exec (.eventReport now) s = .next rest)
      ∧ (codeKnown c = true → exemptCodes.contains c = false → 1000 ≤ t →
          exec (.eventReport now) s = .next (({ rest with rm := { rest.rm with evr := { rest.rm.evr with buckets := setCode e.buckets c (some (t - 1000, now)) } } } : State).recordEvent r))
      ∧ (codeKnown c = true → exemptCodes.contains c = false → t < 1000 →
          ∃ z, exec (.eventReport now) s = .next z ∧ z.rm.evr.lastArea = e.lastArea ∧ z.rm.evr.newest = e.newest ∧ suppOf z.rm.evr c = suppOf e c + 1))
    ∧ (quiet → (s.recordEvent r).rm.evr.lastArea = (first :: e.lastArea).take 1048576 ∧ (s.recordEvent r).rm.evr.newest = e.newest + 1
        ∧ (s.recordEvent r).rm.evr.firstArea = (if e.firstArea.length < 4096 then first :: e.firstArea else e.firstArea) ∧ suppOf (s.recordEvent r).rm.evr c = 0)
    ∧ (e.frozenBy = some h → (s.recordEvent r).rm.evr.lastArea = e.lastArea ∧ (s.recordEvent r).rm.evr.firstArea = e.firstArea
        ∧ (e.hold.length < 256 → (s.recordEvent r).rm.evr.hold = { first with held := true } :: e.hold)
        ∧ (256 ≤ e.hold.length → (s.recordEvent r).rm.evr.hold = e.hold ∧ (s.recordEvent r).rm.evr.loss = true))
    ∧ (s.rm.alive = true → e.supp.find? (fun q => q.1 == code.toNat) = some b → 60000 ≤ now - b.2.2 → ∃ z, exec (.suppressionSummary code now) s = .next z
        ∧ (quiet → suppOf z.rm.evr code.toNat = 0 ∧ ∃ q, z.rm.evr.lastArea.head? = some q ∧ q.rep.code = 0x0D01))
    ∧ (s.rm.alive = true → isMaintainer src = true → quiet → ∃ z, exec (.evrClear src) s = .next z ∧ z.rm.status = .ok
        ∧ ∃ q, z.rm.evr.firstArea = [q] ∧ q.rep.code = 0x0E03 ∧ q.firstAfterClear = true)
    ∧ (s.rm.alive = true → isMaintainer src = false → exec (.evrClear src) s = .next (s.answer .auth))
    ∧ (s.rm.alive = true → isMaintainer src = true → e.frozenBy = some h → exec (.evrClear src) s = .next (s.answer .busy))
    ∧ (s.rm.alive = true → s.mayFreeze fs = true →
        (e.frozenBy = none → ∃ z, exec (.freeze fs src) s = .next z ∧ z.rm.status = .ok ∧ z.rm.evr = { e with frozenBy := some fs } ∧ ∀ q, bget (z.lane q) Rg.EVR_STATUS 0 = true)
        ∧ (e.frozenBy = some h → exec (.freeze fs src) s = .next (s.answer (if h = fs then .ok else .busy))))
    ∧ (s.rm.alive = true → s.mayFreeze fs = false → exec (.freeze fs src) s = .next (s.answer .auth))
    ∧ (s.rm.alive = true →
        (e.frozenBy = none → exec (.unfreeze fs) s = .next (s.answer .ok)) ∧ (e.frozenBy = some fs → exec (.unfreeze fs) s = .next (s.unfreeze.answer .ok))
        ∧ (e.frozenBy = some h → h ≠ fs → exec (.unfreeze fs) s = .next (s.answer .busy)))
    ∧ (e.frozenBy = some h → exec .freezeMaxExpiry s = .next s.unfreeze)
    ∧ (s.unfreeze.rm.evr.frozenBy = none ∧ s.unfreeze.rm.evr.hold = []
        ∧ (s.rm.start.dip = false → s.unfreeze.rm.evr.lastArea = (e.defer.reverse ++ e.hold.reverse).foldl (fun q z => (z :: q).take 1048576) e.lastArea)
        ∧ (s.rm.start.dip = true → s.unfreeze.rm.evr.lastArea = e.lastArea))
    ∧ (mayWrite x ag Rg.EVR_RD_IDX_HI = true →
        exec (.evrReadStart l ag v) s = .next ((s.setLane l (plainWrite { x with berr := false } Rg.EVR_RD_IDX_HI v)).serveRead l))
    ∧ (mayRead x ag a15 = true → exec (.evrReadNext l ag) s = .next
        ((s.setLane l (rset64 read Rg.EVR_RD_IDX_LO Rg.EVR_RD_IDX_HI (rget64 read Rg.EVR_RD_IDX_LO Rg.EVR_RD_IDX_HI + 1))).serveRead l))
    ∧ (s.rm.alive = true → s.recNamed x = none → fget ((s.serveRead l).lane l) Rg.EVR_RD_STAT 2 0 = 4)
    ∧ (∀ q, s.rm.alive = true → s.recNamed x = some q → fget ((s.serveRead l).lane l) Rg.EVR_RD_STAT 2 0 = 2 ∧ regBytes ((s.serveRead l).lane l) (Rg.EVR_RD_DATAk 0) 64 = recBytes q)
    ∧ (mayRead x ag Rg.EVR_RATE_VAL = true → LaneBecomes (.evrRateValRead l ag) l s
        (fset { x with berr := false, rdval := rateWord x.cfg i } Rg.EVR_RATE_IDX 9 0 ((i + 1) % 1024)))

/-- Image update by chunks (23 R495 to R500): announcing, pulling from a neighbour, providing, segments and their check, time-outs, and injection. -/
def Obligations.ImageStaging : Prop :=
  ∀ (s : State) (port p : Nat) (h : UpdHdr) (d : Bytes) (t : ImgType) (src : CmdSrc) (img : Bytes) (g : Staging) (v : Slot),
    let x := s.rm.img h.typ
    let differs (z : Slot) := z.img = [] ∨ imgTag z.img ≠ h.tag
    let new : Staging := { typ := h.typ, tag := h.tag, len := h.len, port := port }
    let c := chunkOf v.img h.chunk
    let segment (i : Nat) : Emit := .upd port 0x12 { h with seg := i, len := ((c.drop (1024 * i)).take 1024).length, crc := crc32c 0xFFFFFFFF#32 c } ((c.drop (1024 * i)).take 1024)
    let kept : Staging := { g with segs := sset (fun _ => ([] : Bytes)) g.segs h.seg d }
    let whole := (List.range ((chunkLen kept + 1023) / 1024)).all (fun i => kept.segs.any (fun e => e.1 == i))
    let again : Staging := { g with repeats := g.repeats + 1, segs := [] }
    let data := (List.range ((chunkLen g + 1023) / 1024)).flatMap (fun i => sget (fun _ => ([] : Bytes)) g.segs i)
    let good := data.length = chunkLen g ∧ crc32c 0xFFFFFFFF#32 data = h.crc
    let up := s.rm.alive = true ∧ s.bringup = false
    let old := if g.chunks = 0 then [] else (s.rm.img g.typ).spare.img
    (s.rm.alive = true → bget s.la Rg.UPD_CFG 16 = true →
      ((∀ z, (s.rm.img z).a.st ≠ 2 ∧ (s.rm.img z).b.st ≠ 2) → exec .announce s = .next s)
      ∧ ((s.rm.img t).a.st = 2 → (s.rm.img t).b.st ≠ 2 → (∀ z, z ≠ t → (s.rm.img z).a.st ≠ 2 ∧ (s.rm.img z).b.st ≠ 2) →
          exec .announce s = .next (s.type4All (fun q => .upd q 0x10 { typ := t, tag := imgTag (s.rm.img t).a.img, len := (s.rm.img t).a.img.length } []))))
    ∧ (bget s.la Rg.UPD_CFG 16 = false → exec .announce s = .next s)
    ∧ (s.mayStage = true → s.staging h.typ = none → differs x.a → differs x.b → s.locked h.typ = false → 0 < h.len → h.len ≤ slotSize h.typ →
        exec (.announceReceive port h) s = .next ((((s.setSpare h.typ { x.spare with st := 1 }).setStaging h.typ (some new)).askChunk new).showUpd))
    ∧ (s.mayStage = true → s.staging h.typ = none → s.locked h.typ = true ∨ slotSize h.typ < h.len → exec (.announceReceive port h) s = .next s)
    ∧ (s.mayStage = true → s.staging h.typ = some g → g.tag = h.tag → g.port ≠ port → exec (.announceReceive port h) s = .next (s.setStaging h.typ (some { g with other := some port })))
    ∧ (s.rm.alive = true → [x.a, x.b].find? (fun z => z.st == 2 && imgTag z.img == h.tag) = some v →
        exec (.request port h) s = .next ((List.range ((c.length + 1023) / 1024)).foldl (fun z i => z.type4 port (segment i)) s))
    ∧ ([x.a, x.b].find? (fun z => z.st == 2 && imgTag z.img == h.tag) = none → exec (.request port h) s = .next s)
    ∧ (∀ i, (c.drop (1024 * i)).take 1024 = (v.img.drop (65536 * h.chunk + 1024 * i)).take (min 1024 (65536 - 1024 * i)))
    ∧ (s.staging h.typ = some g → s.mayStage = true → g.tag = h.tag → g.chunks = h.chunk → h.seg < 64 → d.length = h.len →
        exec (.segment h d) s = .next (if whole then s.takeChunk kept h.crc else s.setStaging h.typ (some kept)))
    ∧ (s.staging h.typ = none → exec (.segment h d) s = .next s)
    ∧ (good → 65536 * (g.chunks + 1) < g.len → ((s.takeChunk g h.crc).rm.img g.typ).spare = { img := old ++ data, st := 1 })
    ∧ (good → g.len ≤ 65536 * (g.chunks + 1) → receivedOk s.rm g.typ (old ++ data) = true → ((s.takeChunk g h.crc).rm.img g.typ).spare = { img := old ++ data, st := 2 })
    ∧ (¬ good → (s.takeChunk g h.crc).rm.imgs = s.rm.imgs ∨ 3 ≤ g.fails)
    ∧ (s.staging t = some g → s.mayStage = true →
        (g.repeats < 8 → exec (.chunkTimeout t) s = .next ((s.setStaging t (some again)).askChunk again))
        ∧ (8 ≤ g.repeats → g.other = none → exec (.chunkTimeout t) s = .next (s.abandonStaging g))
        ∧ (8 ≤ g.repeats → g.other = some p →
            let z : Staging := { g with port := p, other := none, fails := 0, repeats := 0, segs := [] }
            exec (.chunkTimeout t) s = .next ((s.setStaging g.typ (some z)).askChunk z)))
    ∧ (up → isMaintainer src = true → s.locked t = false → img.length ≤ slotSize t → s.rm.start.dip = false → s.staging t = none →
        exec (.imageInject src t img) s = .next ((s.finishSlot t img).answer .ok))
    ∧ (up → isMaintainer src = false → exec (.imageInject src t img) s = .next (s.answer .auth))
    ∧ (up → isMaintainer src = true → s.locked t = true ∨ slotSize t < img.length → exec (.imageInject src t img) s = .next (s.answer .refused))

/-- Activation orders (23 R501 to R508; 21 R458): an order is checked and held, readiness is joined, the first decision is final, and a set activates once, at its time, by restart or on-line. -/
def Obligations.ActivationOrders : Prop :=
  ∀ (s : State) (o : UpdOrder) (h : OrderState) (topo : Word) (oid rdy refd : DWord) (go : Bool) (t : ImgType),
    let held := s.rm.order = some h
    let x := s.lane (s.voting.headD .a)
    let n := fget x Rg.INA_RESULT 13 8
    let all := (List.range n).all (fun i => s.readyMap.getLsbD (i + 1))
    let due := h.st = 3 ∧ s.rm.alive = true ∧ h.ord.actTime ≤ s.now ∧ s.now ≤ h.ord.actTime + 60000000000
    let runs := s.pwrState = 0 ∧ phaseOf s.la = 4 ∧ s.mode ≠ .hold ∧ (h.ord.precond = true → precondOk x = true)
    let switched := (s.switchSet h.ord).activated h
    (s.rm.alive = true → s.orderOk o = true →
      (s.rm.order = none → exec (.order o) s = .next ((((s.setReady 0).setOrder { ord := o, st := 1, topo := s.topo }).fsetAll Rg.UPD_ORDER_STAT 3 3 0).type4All (fun p => .updOrder p o)).readyNow)
      ∧ (held → h.ord.oid = o.oid → exec (.order o) s = .next s)
      ∧ (held → h.live = true → h.final.isSome = true → exec (.order o) s = .next s))
    ∧ (s.orderOk o = false → exec (.order o) s = .next s)
    ∧ (s.orderOk o = true → sigVerifies s.rm false (orderBytes o) o.sig = true ∧ 5000000000 ≤ o.actTime - o.deadline ∧ s.now ≤ o.deadline ∧ o.actTime ≤ s.now + 604800000000000
        ∧ (hasType o .ringmaster = true → orderTypes o = [.ringmaster]))
    ∧ (held → s.rm.alive = true → h.live = true → h.ord.oid = oid →
        (∃ z, exec (.ready topo oid rdy refd) s = .next z ∧ (h.st ≠ 1 → h.topo = s.topo → topo = s.topo → z.readyMap = s.readyMap ||| rdy))
        ∧ exec (.decision oid go) s = .next (s.decide_ h go).showUpd)
    ∧ (s.rm.order = none → exec (.ready topo oid rdy refd) s = .next s ∧ exec (.decision oid go) s = .next s ∧ exec .orderDeadline s = .next s ∧ exec .activation s = .next s)
    ∧ (h.final = none → (s.decide_ h go).rm.order = some { h with final := some go, st := if go then 3 else 5 })
    ∧ (held → h.final.isSome = true → (s.decide_ h go).rm.order = some h)
    ∧ (held → s.rm.alive = true → s.leads = true → h.live = true → h.final = none →
        exec .orderDeadline s = .next (s.decide_ h (0 < n && all && h.refused == 0)).showUpd)
    ∧ (held → due →
        (s.pwrState = 2 ∨ s.pwrState = 3 → exec .activation s = .next (switched.onPwr (fun q => { q with dormantPath := true })))
        ∧ (runs → hasType h.ord .ringmaster = true → exec .activation s = .next (switched.rmDown 3))
        ∧ (runs → hasType h.ord .ringmaster = false → s.onlineOk h.ord = false → exec .activation s = .next (switched.restart 6))
        ∧ (runs → hasType h.ord .ringmaster = false → s.onlineOk h.ord = true → exec .activation s = .next
            (s.mapLanes (holdChange h.ord (s.imageAfter h.ord .vital) (if hasType h.ord .config then some (s.imageAfter h.ord .config) else none))))
        ∧ (s.pwrState = 0 → s.mode = .hold ∨ (h.ord.precond = true ∧ precondOk x = false) → exec .activation s = .next s))
    ∧ (held → h.st ≠ 3 ∨ s.now < h.ord.actTime → exec .activation s = .next s)
    ∧ (held → h.st = 3 → s.migrating = false →
        exec .activationWindowExpiry s = .next
          ((s.mapLanes (fun l => { l with exe := { l.exe with activate := none, migNew := none, migCfg := none } })).setOrder { h with st := 6 }).showUpd)
    ∧ (s.rm.alive = true → t = .ringmaster ∨ (phaseOf s.la = 4 ∧ s.pwrState = 0 ∧ s.safe = false) →
        ∃ z, exec (.confirmTimeExpiry t) s = .next z ∧ (z.rm.img t).provisional = false ∧ (z.rm.img t).selB = (s.rm.img t).selB ∧ ∀ u, u ≠ t → z.rm.img u = s.rm.img u)

/-- On-line change (06 R147 to R152; 23 R506): the switch at the first boundary that is quiet in every voting lane, the work of the migration cycles, the forces carried over, and the change that becomes a restart. -/
def Obligations.OnlineChange : Prop :=
  ∀ (s : State) (l : Lane) (h : OrderState) (m k : Nat) (a : AppImage) (y : LaneState) (e : ForceEnt),
    let x := s.lane l
    let works := x.exe.mig = some (m, k) ∧ execUp x = true ∧ m ≤ x.exe.n ∧ x.exe.n < m + k ∧ x.agree.applied = true
    let loaded := migrateLoad a x
    let moves := s.voting ≠ [] ∧ s.safe = false ∧ ∀ z ∈ s.voting, maySwitch (s.lane z) = true
    (moves → s.rm.order = none → exec .onlineChangeSwitch s = .next (s.mapLanes beginMigration))
    ∧ (moves → s.rm.order = some h → h.st = 3 → s.rm.alive = true → exec .onlineChangeSwitch s = .next (((s.switchSet h.ord).activated h).mapLanes beginMigration))
    ∧ (∀ z ∈ s.voting, maySwitch (s.lane z) = false → exec .onlineChangeSwitch s = .next s)
    ∧ (maySwitch y = true → quietNext y = true ∧ modeOf y ≠ .hold ∧ ∃ t, y.exe.activate = some t ∧ t ≤ tOf y (y.exe.n + 1))
    ∧ (votes y = true → (beginMigration y).exe.mig = some (y.exe.n + 1, migCycles y (migCost (y.exe.migNew.getD {}))) ∧ (beginMigration y).exe.activate = none)
    ∧ (works → x.exe.migNew = some a → x.exe.n + 1 ≠ m + k → LaneBecomes (.migrationCycle l) l s loaded)
    ∧ (works → x.exe.migNew = none → x.exe.n + 1 ≠ m + k → LaneBecomes (.migrationCycle l) l s x)
    ∧ (works → x.exe.migNew = none → x.exe.n + 1 = m + k → x.exe.migDone = false → LaneBecomes (.migrationCycle l) l s (migrateEnd x))
    ∧ (loaded.exe.scratch = (carried a).map (fun g => (g.newAddr, mrd x g.oldAddr g.len)) ∧ loaded.exe.migNew = none)
    ∧ ((migrateEnd y).exe.scratch = [] ∧ (migrateEnd y).exe.migDone = true)
    ∧ (∀ f, movedForce a e = some f → f.f.sym = e.f.sym ∧ f.f.typeHash = e.f.typeHash ∧ f.expiry = e.expiry)
    ∧ (y.forces.all (fun f => (movedForce a f.2).isNone) = true → (reviseForces a y).forces = [])
    ∧ (s.voting.any (fun z => (s.lane z).exe.activate.isSome && (s.lane z).exe.mig.isNone) = true → s.rm.order = some h → h.st = 3 →
        ∃ z, exec .migWaitExpiry s = .next (State.activateRestart z h) ∧ z.la = s.la ∧ z.lb = s.lb ∧ z.lc = s.lc
          ∧ ∃ r, z.rm = { s.rm with evr := { s.rm.evr with reports := s.rm.evr.reports ++ [r] } } ∧ r.code = 0x0210 ∧ r.data = 1)
    ∧ (s.voting.any (fun z => (s.lane z).exe.activate.isSome && (s.lane z).exe.mig.isNone) = false → exec .migWaitExpiry s = .next s)

/-- A step is the meaning of the front command on the module with the queue's rest. With no command waiting it is one 2 ns step of the local clocks of the running Meridian instances, which reaches no memory, no core and no key (the model's choice, log 20; the clocks are 12 R263); no word spells a command (log 134). -/
def Obligations.StepRunsFrontCommand : Prop :=
  (∀ (c : Instr) (s : State), step { s with pending := c :: s.pending } = exec c s)
    ∧ (∀ s : State, s.pending = [] → ∃ t, step s = .next t ∧ t.pending = [] ∧ t.rm.keys = s.rm.keys
      ∧ ∀ x, (t.lane x).mem = (s.lane x).mem ∧ (t.lane x).c0 = (s.lane x).c0 ∧ (t.lane x).c1 = (s.lane x).c1
        ∧ (t.lane x).mer.ltime = (s.lane x).mer.ltime + if (s.lane x).mer.running then 1 else 0)
    ∧ ∀ (s : State) (n w : Nat), decodeTableWord n w = none ∧ s.withFetchWord n w = s

/-- What reset leaves: every register of every lane at its Reset column, SYS_ID at the revision's value, no command waiting, no session, no key revoked, and every lane and the session table in canonical form. -/
def Obligations.ResetState : Prop :=
  State.reset.pending = [] ∧ State.reset.rm.sessions = [] ∧ SessionsOk State.reset.rm
    ∧ (∀ (i : Nat) (k : KeyEnt), State.reset.rm.keys[i]? = some k → k.revoked = false)
    ∧ ∀ x, LaneOk x (State.reset.lane x) ∧ rget (State.reset.lane x) Rg.SYS_ID = 0x0396000A
      ∧ (∀ a, rget (State.reset.lane x) a = resetReg x a)

/-- Every command completes: whatever the state and its operands, it answers a next state, and it leaves the commands that wait after it. So does every step, and a run of any length never stops. -/
def Obligations.EveryCommandCompletes : Prop :=
  (∀ (c : Instr) (s : State), ∃ t, exec c s = .next t ∧ t.pending = s.pending)
    ∧ (∀ s : State, ∃ t, step s = .next t ∧ t.pending = s.pending.tail)
    ∧ ∀ (n : Nat) (s : State), SafeRun n s

/-- A fleet key is written at most once, keys 0 to 3 are never written, and a key once revoked stays revoked: at every step, from every state (21 R457). -/
def Obligations.KeyTableEveryStep : Prop :=
  ∀ (s t : State) (i : Nat) (k : KeyEnt), step s = .next t → s.rm.keys[i]? = some k →
    ∃ z : KeyEnt, t.rm.keys[i]? = some z ∧ (k.written = true → z.key = k.key ∧ z.written = true) ∧ (k.revoked = true → z.revoked = true)
      ∧ (i < 4 → z.key = k.key ∧ z.written = k.written)
      ∧ (z.key ≠ k.key → 4 ≤ i ∧ k.written = false ∧ z.written = true
          ∧ ∃ src sig, s.pending.head? = some (.fleetKeyEnrol src i z.key sig) ∧ isMaintainer src = true
            ∧ sigVerifies s.rm true (Config.enrolText i z.key) sig = true)

/-- A lane's memory and register file: a byte stored reads back and every other byte reads as before, a register or field written reads back and every other register reads as before, and every such write keeps the canonical form. -/
def Obligations.MemoryAndRegisterFile : Prop :=
  ∀ (x : LaneState) (a k i : Nat) (b : Bytes) (v : Word) (hi lo n : Nat),
    ((h : i < b.length) → sget zByte (mwr x a b).mem (a + i) = b[i])
    ∧ (k < a ∨ a + b.length ≤ k → sget zByte (mwr x a b).mem k = sget zByte x.mem k)
    ∧ (Memory.wf x.mem = true → Memory.wf (mwr x a b).mem = true ∧ Memory.wf (zeroMem x a n).mem = true)
    ∧ rget (rset x a v) a = v ∧ (k ≠ a → rget (rset x a v) k = rget x k ∧ ∀ hi' lo', fget (fset x a hi lo n) k hi' lo' = fget x k hi' lo')
    ∧ (lo ≤ hi → hi < 32 → n < 2 ^ (hi + 1 - lo) → fget (fset x a hi lo n) a hi lo = n)
    ∧ (Registers.wf x = true → Registers.wf (rset x a v) = true ∧ Registers.wf (fset x a hi lo n) = true)
end

