-- ==== Sys2Proof/Laws/State.lean ====
section
/-! SUPPORT. One lemma per field per update of the state: what the shared updates leave alone, each true by rfl. -/

namespace Sys2Proof.Machine

/-! Updates of the module. -/

@[simp] theorem State.mapLanes_rm (s : State) (f : LaneState → LaneState) : (s.mapLanes f).rm = s.rm := (rfl)
@[simp] theorem State.mapLanes_freeCtr (s : State) (f : LaneState → LaneState) : (s.mapLanes f).freeCtr = s.freeCtr := (rfl)
@[simp] theorem State.mapLanes_pending (s : State) (f : LaneState → LaneState) : (s.mapLanes f).pending = s.pending := (rfl)
@[simp] theorem State.mapLanes_la (s : State) (f : LaneState → LaneState) : (s.mapLanes f).la = f s.la := (rfl)
@[simp] theorem State.mapLanes_lb (s : State) (f : LaneState → LaneState) : (s.mapLanes f).lb = f s.lb := (rfl)
@[simp] theorem State.mapLanes_lc (s : State) (f : LaneState → LaneState) : (s.mapLanes f).lc = f s.lc := (rfl)
@[simp] theorem State.mapLanes_lane (s : State) (f : LaneState → LaneState) (x : Lane) : (s.mapLanes f).lane x = f (s.lane x) := by cases x <;> rfl
@[simp] theorem State.setLane_rm (s : State) (l : Lane) (x : LaneState) : (s.setLane l x).rm = s.rm := by cases l <;> rfl
@[simp] theorem State.setLane_freeCtr (s : State) (l : Lane) (x : LaneState) : (s.setLane l x).freeCtr = s.freeCtr := by cases l <;> rfl
@[simp] theorem State.setLane_pending (s : State) (l : Lane) (x : LaneState) : (s.setLane l x).pending = s.pending := by cases l <;> rfl
@[simp] theorem State.setLane_same (s : State) (l : Lane) (x : LaneState) : (s.setLane l x).lane l = x := by cases l <;> rfl
@[simp] theorem State.setLane_other (s : State) (l k : Lane) (x : LaneState) (h : k ≠ l) : (s.setLane l x).lane k = s.lane k := by
  cases l <;> cases k <;> first | rfl | exact absurd rfl h
@[simp] theorem State.answer_la (s : State) (c : CmdStatus) : (s.answer c).la = s.la := (rfl)
@[simp] theorem State.answer_lb (s : State) (c : CmdStatus) : (s.answer c).lb = s.lb := (rfl)
@[simp] theorem State.answer_lc (s : State) (c : CmdStatus) : (s.answer c).lc = s.lc := (rfl)
@[simp] theorem State.answer_freeCtr (s : State) (c : CmdStatus) : (s.answer c).freeCtr = s.freeCtr := (rfl)
@[simp] theorem State.answer_pending (s : State) (c : CmdStatus) : (s.answer c).pending = s.pending := (rfl)
@[simp] theorem State.answer_lane (s : State) (c : CmdStatus) (x : Lane) : (s.answer c).lane x = s.lane x := by cases x <;> rfl
@[simp] theorem State.tick4_la (s : State)  : (s.tick4).la = s.la := (rfl)
@[simp] theorem State.tick4_lb (s : State)  : (s.tick4).lb = s.lb := (rfl)
@[simp] theorem State.tick4_lc (s : State)  : (s.tick4).lc = s.lc := (rfl)
@[simp] theorem State.tick4_rm (s : State)  : (s.tick4).rm = s.rm := (rfl)
@[simp] theorem State.tick4_pending (s : State)  : (s.tick4).pending = s.pending := (rfl)
@[simp] theorem State.tick4_lane (s : State)  (x : Lane) : (s.tick4).lane x = s.lane x := by cases x <;> rfl
@[simp] theorem State.onRm_la (s : State) (f : RmState → RmState) : (s.onRm f).la = s.la := (rfl)
@[simp] theorem State.onRm_lb (s : State) (f : RmState → RmState) : (s.onRm f).lb = s.lb := (rfl)
@[simp] theorem State.onRm_lc (s : State) (f : RmState → RmState) : (s.onRm f).lc = s.lc := (rfl)
@[simp] theorem State.onRm_freeCtr (s : State) (f : RmState → RmState) : (s.onRm f).freeCtr = s.freeCtr := (rfl)
@[simp] theorem State.onRm_pending (s : State) (f : RmState → RmState) : (s.onRm f).pending = s.pending := (rfl)
@[simp] theorem State.onRm_lane (s : State) (f : RmState → RmState) (x : Lane) : (s.onRm f).lane x = s.lane x := by cases x <;> rfl
@[simp] theorem State.onPwr_la (s : State) (f : PwrState → PwrState) : (s.onPwr f).la = s.la := (rfl)
@[simp] theorem State.onPwr_lb (s : State) (f : PwrState → PwrState) : (s.onPwr f).lb = s.lb := (rfl)
@[simp] theorem State.onPwr_lc (s : State) (f : PwrState → PwrState) : (s.onPwr f).lc = s.lc := (rfl)
@[simp] theorem State.onPwr_freeCtr (s : State) (f : PwrState → PwrState) : (s.onPwr f).freeCtr = s.freeCtr := (rfl)
@[simp] theorem State.onPwr_pending (s : State) (f : PwrState → PwrState) : (s.onPwr f).pending = s.pending := (rfl)
@[simp] theorem State.onPwr_lane (s : State) (f : PwrState → PwrState) (x : Lane) : (s.onPwr f).lane x = s.lane x := by cases x <;> rfl
@[simp] theorem State.rmEmit_la (s : State) (e : Emit) : (s.rmEmit e).la = s.la := (rfl)
@[simp] theorem State.rmEmit_lb (s : State) (e : Emit) : (s.rmEmit e).lb = s.lb := (rfl)
@[simp] theorem State.rmEmit_lc (s : State) (e : Emit) : (s.rmEmit e).lc = s.lc := (rfl)
@[simp] theorem State.rmEmit_freeCtr (s : State) (e : Emit) : (s.rmEmit e).freeCtr = s.freeCtr := (rfl)
@[simp] theorem State.rmEmit_pending (s : State) (e : Emit) : (s.rmEmit e).pending = s.pending := (rfl)
@[simp] theorem State.rmEmit_lane (s : State) (e : Emit) (x : Lane) : (s.rmEmit e).lane x = s.lane x := by cases x <;> rfl
@[simp] theorem State.rmEvent_la (s : State) (c d : Nat) : (s.rmEvent c d).la = s.la := (rfl)
@[simp] theorem State.rmEvent_lb (s : State) (c d : Nat) : (s.rmEvent c d).lb = s.lb := (rfl)
@[simp] theorem State.rmEvent_lc (s : State) (c d : Nat) : (s.rmEvent c d).lc = s.lc := (rfl)
@[simp] theorem State.rmEvent_freeCtr (s : State) (c d : Nat) : (s.rmEvent c d).freeCtr = s.freeCtr := (rfl)
@[simp] theorem State.rmEvent_pending (s : State) (c d : Nat) : (s.rmEvent c d).pending = s.pending := (rfl)
@[simp] theorem State.rmEvent_lane (s : State) (c d : Nat) (x : Lane) : (s.rmEvent c d).lane x = s.lane x := by cases x <;> rfl
@[simp] theorem State.setStep_la (s : State) (n : Nat) : (s.setStep n).la = s.la := (rfl)
@[simp] theorem State.setStep_lb (s : State) (n : Nat) : (s.setStep n).lb = s.lb := (rfl)
@[simp] theorem State.setStep_lc (s : State) (n : Nat) : (s.setStep n).lc = s.lc := (rfl)
@[simp] theorem State.setStep_freeCtr (s : State) (n : Nat) : (s.setStep n).freeCtr = s.freeCtr := (rfl)
@[simp] theorem State.setStep_pending (s : State) (n : Nat) : (s.setStep n).pending = s.pending := (rfl)
@[simp] theorem State.setStep_lane (s : State) (n : Nat) (x : Lane) : (s.setStep n).lane x = s.lane x := by cases x <;> rfl
@[simp] theorem State.answer_rm_alive (s : State) (c : CmdStatus) : (s.answer c).rm.alive = s.rm.alive := (rfl)
@[simp] theorem State.answer_rm_downBy (s : State) (c : CmdStatus) : (s.answer c).rm.downBy = s.rm.downBy := (rfl)
@[simp] theorem State.answer_rm_took (s : State) (c : CmdStatus) : (s.answer c).rm.took = s.rm.took := (rfl)
@[simp] theorem State.answer_rm_selFwB (s : State) (c : CmdStatus) : (s.answer c).rm.selFwB = s.rm.selFwB := (rfl)
@[simp] theorem State.answer_rm_sessions (s : State) (c : CmdStatus) : (s.answer c).rm.sessions = s.rm.sessions := (rfl)
@[simp] theorem State.answer_rm_nextSid (s : State) (c : CmdStatus) : (s.answer c).rm.nextSid = s.rm.nextSid := (rfl)
@[simp] theorem State.answer_rm_opSeq (s : State) (c : CmdStatus) : (s.answer c).rm.opSeq = s.rm.opSeq := (rfl)
@[simp] theorem State.answer_rm_sensors (s : State) (c : CmdStatus) : (s.answer c).rm.sensors = s.rm.sensors := (rfl)
@[simp] theorem State.answer_rm_reported (s : State) (c : CmdStatus) : (s.answer c).rm.reported = s.rm.reported := (rfl)
@[simp] theorem State.answer_rm_back (s : State) (c : CmdStatus) : (s.answer c).rm.back = s.rm.back := (rfl)
@[simp] theorem State.answer_rm_hist (s : State) (c : CmdStatus) : (s.answer c).rm.hist = s.rm.hist := (rfl)
@[simp] theorem State.answer_rm_life (s : State) (c : CmdStatus) : (s.answer c).rm.life = s.rm.life := (rfl)
@[simp] theorem State.answer_rm_evr (s : State) (c : CmdStatus) : (s.answer c).rm.evr = s.rm.evr := (rfl)
@[simp] theorem State.answer_rm_imgs (s : State) (c : CmdStatus) : (s.answer c).rm.imgs = s.rm.imgs := (rfl)
@[simp] theorem State.answer_rm_stagings (s : State) (c : CmdStatus) : (s.answer c).rm.stagings = s.rm.stagings := (rfl)
@[simp] theorem State.answer_rm_order (s : State) (c : CmdStatus) : (s.answer c).rm.order = s.rm.order := (rfl)
@[simp] theorem State.answer_rm_keys (s : State) (c : CmdStatus) : (s.answer c).rm.keys = s.rm.keys := (rfl)
@[simp] theorem State.answer_rm_pwr (s : State) (c : CmdStatus) : (s.answer c).rm.pwr = s.rm.pwr := (rfl)
@[simp] theorem State.answer_rm_start (s : State) (c : CmdStatus) : (s.answer c).rm.start = s.rm.start := (rfl)
@[simp] theorem State.answer_rm_snet (s : State) (c : CmdStatus) : (s.answer c).rm.snet = s.rm.snet := (rfl)
@[simp] theorem State.answer_rm_selClock (s : State) (c : CmdStatus) : (s.answer c).rm.selClock = s.rm.selClock := (rfl)
@[simp] theorem State.answer_rm_slackHist (s : State) (c : CmdStatus) : (s.answer c).rm.slackHist = s.rm.slackHist := (rfl)
@[simp] theorem State.answer_rm_ops (s : State) (c : CmdStatus) : (s.answer c).rm.ops = s.rm.ops := (rfl)
@[simp] theorem State.answer_rm_sent (s : State) (c : CmdStatus) : (s.answer c).rm.sent = s.rm.sent := (rfl)
@[simp] theorem State.onPwr_rm_alive (s : State) (f : PwrState → PwrState) : (s.onPwr f).rm.alive = s.rm.alive := (rfl)
@[simp] theorem State.onPwr_rm_downBy (s : State) (f : PwrState → PwrState) : (s.onPwr f).rm.downBy = s.rm.downBy := (rfl)
@[simp] theorem State.onPwr_rm_took (s : State) (f : PwrState → PwrState) : (s.onPwr f).rm.took = s.rm.took := (rfl)
@[simp] theorem State.onPwr_rm_selFwB (s : State) (f : PwrState → PwrState) : (s.onPwr f).rm.selFwB = s.rm.selFwB := (rfl)
@[simp] theorem State.onPwr_rm_sessions (s : State) (f : PwrState → PwrState) : (s.onPwr f).rm.sessions = s.rm.sessions := (rfl)
@[simp] theorem State.onPwr_rm_nextSid (s : State) (f : PwrState → PwrState) : (s.onPwr f).rm.nextSid = s.rm.nextSid := (rfl)
@[simp] theorem State.onPwr_rm_opSeq (s : State) (f : PwrState → PwrState) : (s.onPwr f).rm.opSeq = s.rm.opSeq := (rfl)
@[simp] theorem State.onPwr_rm_sensors (s : State) (f : PwrState → PwrState) : (s.onPwr f).rm.sensors = s.rm.sensors := (rfl)
@[simp] theorem State.onPwr_rm_reported (s : State) (f : PwrState → PwrState) : (s.onPwr f).rm.reported = s.rm.reported := (rfl)
@[simp] theorem State.onPwr_rm_back (s : State) (f : PwrState → PwrState) : (s.onPwr f).rm.back = s.rm.back := (rfl)
@[simp] theorem State.onPwr_rm_hist (s : State) (f : PwrState → PwrState) : (s.onPwr f).rm.hist = s.rm.hist := (rfl)
@[simp] theorem State.onPwr_rm_life (s : State) (f : PwrState → PwrState) : (s.onPwr f).rm.life = s.rm.life := (rfl)
@[simp] theorem State.onPwr_rm_evr (s : State) (f : PwrState → PwrState) : (s.onPwr f).rm.evr = s.rm.evr := (rfl)
@[simp] theorem State.onPwr_rm_imgs (s : State) (f : PwrState → PwrState) : (s.onPwr f).rm.imgs = s.rm.imgs := (rfl)
@[simp] theorem State.onPwr_rm_stagings (s : State) (f : PwrState → PwrState) : (s.onPwr f).rm.stagings = s.rm.stagings := (rfl)
@[simp] theorem State.onPwr_rm_order (s : State) (f : PwrState → PwrState) : (s.onPwr f).rm.order = s.rm.order := (rfl)
@[simp] theorem State.onPwr_rm_keys (s : State) (f : PwrState → PwrState) : (s.onPwr f).rm.keys = s.rm.keys := (rfl)
@[simp] theorem State.onPwr_rm_start (s : State) (f : PwrState → PwrState) : (s.onPwr f).rm.start = s.rm.start := (rfl)
@[simp] theorem State.onPwr_rm_snet (s : State) (f : PwrState → PwrState) : (s.onPwr f).rm.snet = s.rm.snet := (rfl)
@[simp] theorem State.onPwr_rm_selClock (s : State) (f : PwrState → PwrState) : (s.onPwr f).rm.selClock = s.rm.selClock := (rfl)
@[simp] theorem State.onPwr_rm_slackHist (s : State) (f : PwrState → PwrState) : (s.onPwr f).rm.slackHist = s.rm.slackHist := (rfl)
@[simp] theorem State.onPwr_rm_ops (s : State) (f : PwrState → PwrState) : (s.onPwr f).rm.ops = s.rm.ops := (rfl)
@[simp] theorem State.onPwr_rm_status (s : State) (f : PwrState → PwrState) : (s.onPwr f).rm.status = s.rm.status := (rfl)
@[simp] theorem State.onPwr_rm_sent (s : State) (f : PwrState → PwrState) : (s.onPwr f).rm.sent = s.rm.sent := (rfl)
@[simp] theorem State.rmEmit_rm_alive (s : State) (e : Emit) : (s.rmEmit e).rm.alive = s.rm.alive := (rfl)
@[simp] theorem State.rmEmit_rm_downBy (s : State) (e : Emit) : (s.rmEmit e).rm.downBy = s.rm.downBy := (rfl)
@[simp] theorem State.rmEmit_rm_took (s : State) (e : Emit) : (s.rmEmit e).rm.took = s.rm.took := (rfl)
@[simp] theorem State.rmEmit_rm_selFwB (s : State) (e : Emit) : (s.rmEmit e).rm.selFwB = s.rm.selFwB := (rfl)
@[simp] theorem State.rmEmit_rm_sessions (s : State) (e : Emit) : (s.rmEmit e).rm.sessions = s.rm.sessions := (rfl)
@[simp] theorem State.rmEmit_rm_nextSid (s : State) (e : Emit) : (s.rmEmit e).rm.nextSid = s.rm.nextSid := (rfl)
@[simp] theorem State.rmEmit_rm_opSeq (s : State) (e : Emit) : (s.rmEmit e).rm.opSeq = s.rm.opSeq := (rfl)
@[simp] theorem State.rmEmit_rm_sensors (s : State) (e : Emit) : (s.rmEmit e).rm.sensors = s.rm.sensors := (rfl)
@[simp] theorem State.rmEmit_rm_reported (s : State) (e : Emit) : (s.rmEmit e).rm.reported = s.rm.reported := (rfl)
@[simp] theorem State.rmEmit_rm_back (s : State) (e : Emit) : (s.rmEmit e).rm.back = s.rm.back := (rfl)
@[simp] theorem State.rmEmit_rm_hist (s : State) (e : Emit) : (s.rmEmit e).rm.hist = s.rm.hist := (rfl)
@[simp] theorem State.rmEmit_rm_life (s : State) (e : Emit) : (s.rmEmit e).rm.life = s.rm.life := (rfl)
@[simp] theorem State.rmEmit_rm_evr (s : State) (e : Emit) : (s.rmEmit e).rm.evr = s.rm.evr := (rfl)
@[simp] theorem State.rmEmit_rm_imgs (s : State) (e : Emit) : (s.rmEmit e).rm.imgs = s.rm.imgs := (rfl)
@[simp] theorem State.rmEmit_rm_stagings (s : State) (e : Emit) : (s.rmEmit e).rm.stagings = s.rm.stagings := (rfl)
@[simp] theorem State.rmEmit_rm_order (s : State) (e : Emit) : (s.rmEmit e).rm.order = s.rm.order := (rfl)
@[simp] theorem State.rmEmit_rm_keys (s : State) (e : Emit) : (s.rmEmit e).rm.keys = s.rm.keys := (rfl)
@[simp] theorem State.rmEmit_rm_pwr (s : State) (e : Emit) : (s.rmEmit e).rm.pwr = s.rm.pwr := (rfl)
@[simp] theorem State.rmEmit_rm_start (s : State) (e : Emit) : (s.rmEmit e).rm.start = s.rm.start := (rfl)
@[simp] theorem State.rmEmit_rm_snet (s : State) (e : Emit) : (s.rmEmit e).rm.snet = s.rm.snet := (rfl)
@[simp] theorem State.rmEmit_rm_selClock (s : State) (e : Emit) : (s.rmEmit e).rm.selClock = s.rm.selClock := (rfl)
@[simp] theorem State.rmEmit_rm_slackHist (s : State) (e : Emit) : (s.rmEmit e).rm.slackHist = s.rm.slackHist := (rfl)
@[simp] theorem State.rmEmit_rm_ops (s : State) (e : Emit) : (s.rmEmit e).rm.ops = s.rm.ops := (rfl)
@[simp] theorem State.rmEmit_rm_status (s : State) (e : Emit) : (s.rmEmit e).rm.status = s.rm.status := (rfl)
@[simp] theorem State.rmEvent_rm_alive (s : State) (c d : Nat) : (s.rmEvent c d).rm.alive = s.rm.alive := (rfl)
@[simp] theorem State.rmEvent_rm_downBy (s : State) (c d : Nat) : (s.rmEvent c d).rm.downBy = s.rm.downBy := (rfl)
@[simp] theorem State.rmEvent_rm_took (s : State) (c d : Nat) : (s.rmEvent c d).rm.took = s.rm.took := (rfl)
@[simp] theorem State.rmEvent_rm_selFwB (s : State) (c d : Nat) : (s.rmEvent c d).rm.selFwB = s.rm.selFwB := (rfl)
@[simp] theorem State.rmEvent_rm_sessions (s : State) (c d : Nat) : (s.rmEvent c d).rm.sessions = s.rm.sessions := (rfl)
@[simp] theorem State.rmEvent_rm_nextSid (s : State) (c d : Nat) : (s.rmEvent c d).rm.nextSid = s.rm.nextSid := (rfl)
@[simp] theorem State.rmEvent_rm_opSeq (s : State) (c d : Nat) : (s.rmEvent c d).rm.opSeq = s.rm.opSeq := (rfl)
@[simp] theorem State.rmEvent_rm_sensors (s : State) (c d : Nat) : (s.rmEvent c d).rm.sensors = s.rm.sensors := (rfl)
@[simp] theorem State.rmEvent_rm_reported (s : State) (c d : Nat) : (s.rmEvent c d).rm.reported = s.rm.reported := (rfl)
@[simp] theorem State.rmEvent_rm_back (s : State) (c d : Nat) : (s.rmEvent c d).rm.back = s.rm.back := (rfl)
@[simp] theorem State.rmEvent_rm_hist (s : State) (c d : Nat) : (s.rmEvent c d).rm.hist = s.rm.hist := (rfl)
@[simp] theorem State.rmEvent_rm_life (s : State) (c d : Nat) : (s.rmEvent c d).rm.life = s.rm.life := (rfl)
@[simp] theorem State.rmEvent_rm_imgs (s : State) (c d : Nat) : (s.rmEvent c d).rm.imgs = s.rm.imgs := (rfl)
@[simp] theorem State.rmEvent_rm_stagings (s : State) (c d : Nat) : (s.rmEvent c d).rm.stagings = s.rm.stagings := (rfl)
@[simp] theorem State.rmEvent_rm_order (s : State) (c d : Nat) : (s.rmEvent c d).rm.order = s.rm.order := (rfl)
@[simp] theorem State.rmEvent_rm_keys (s : State) (c d : Nat) : (s.rmEvent c d).rm.keys = s.rm.keys := (rfl)
@[simp] theorem State.rmEvent_rm_pwr (s : State) (c d : Nat) : (s.rmEvent c d).rm.pwr = s.rm.pwr := (rfl)
@[simp] theorem State.rmEvent_rm_start (s : State) (c d : Nat) : (s.rmEvent c d).rm.start = s.rm.start := (rfl)
@[simp] theorem State.rmEvent_rm_snet (s : State) (c d : Nat) : (s.rmEvent c d).rm.snet = s.rm.snet := (rfl)
@[simp] theorem State.rmEvent_rm_selClock (s : State) (c d : Nat) : (s.rmEvent c d).rm.selClock = s.rm.selClock := (rfl)
@[simp] theorem State.rmEvent_rm_slackHist (s : State) (c d : Nat) : (s.rmEvent c d).rm.slackHist = s.rm.slackHist := (rfl)
@[simp] theorem State.rmEvent_rm_ops (s : State) (c d : Nat) : (s.rmEvent c d).rm.ops = s.rm.ops := (rfl)
@[simp] theorem State.rmEvent_rm_status (s : State) (c d : Nat) : (s.rmEvent c d).rm.status = s.rm.status := (rfl)
@[simp] theorem State.rmEvent_rm_sent (s : State) (c d : Nat) : (s.rmEvent c d).rm.sent = s.rm.sent := (rfl)
@[simp] theorem State.setStep_rm_alive (s : State) (n : Nat) : (s.setStep n).rm.alive = s.rm.alive := (rfl)
@[simp] theorem State.setStep_rm_downBy (s : State) (n : Nat) : (s.setStep n).rm.downBy = s.rm.downBy := (rfl)
@[simp] theorem State.setStep_rm_took (s : State) (n : Nat) : (s.setStep n).rm.took = s.rm.took := (rfl)
@[simp] theorem State.setStep_rm_selFwB (s : State) (n : Nat) : (s.setStep n).rm.selFwB = s.rm.selFwB := (rfl)
@[simp] theorem State.setStep_rm_sessions (s : State) (n : Nat) : (s.setStep n).rm.sessions = s.rm.sessions := (rfl)
@[simp] theorem State.setStep_rm_nextSid (s : State) (n : Nat) : (s.setStep n).rm.nextSid = s.rm.nextSid := (rfl)
@[simp] theorem State.setStep_rm_opSeq (s : State) (n : Nat) : (s.setStep n).rm.opSeq = s.rm.opSeq := (rfl)
@[simp] theorem State.setStep_rm_sensors (s : State) (n : Nat) : (s.setStep n).rm.sensors = s.rm.sensors := (rfl)
@[simp] theorem State.setStep_rm_reported (s : State) (n : Nat) : (s.setStep n).rm.reported = s.rm.reported := (rfl)
@[simp] theorem State.setStep_rm_back (s : State) (n : Nat) : (s.setStep n).rm.back = s.rm.back := (rfl)
@[simp] theorem State.setStep_rm_hist (s : State) (n : Nat) : (s.setStep n).rm.hist = s.rm.hist := (rfl)
@[simp] theorem State.setStep_rm_life (s : State) (n : Nat) : (s.setStep n).rm.life = s.rm.life := (rfl)
@[simp] theorem State.setStep_rm_evr (s : State) (n : Nat) : (s.setStep n).rm.evr = s.rm.evr := (rfl)
@[simp] theorem State.setStep_rm_imgs (s : State) (n : Nat) : (s.setStep n).rm.imgs = s.rm.imgs := (rfl)
@[simp] theorem State.setStep_rm_stagings (s : State) (n : Nat) : (s.setStep n).rm.stagings = s.rm.stagings := (rfl)
@[simp] theorem State.setStep_rm_order (s : State) (n : Nat) : (s.setStep n).rm.order = s.rm.order := (rfl)
@[simp] theorem State.setStep_rm_keys (s : State) (n : Nat) : (s.setStep n).rm.keys = s.rm.keys := (rfl)
@[simp] theorem State.setStep_rm_pwr (s : State) (n : Nat) : (s.setStep n).rm.pwr = s.rm.pwr := (rfl)
@[simp] theorem State.setStep_rm_snet (s : State) (n : Nat) : (s.setStep n).rm.snet = s.rm.snet := (rfl)
@[simp] theorem State.setStep_rm_selClock (s : State) (n : Nat) : (s.setStep n).rm.selClock = s.rm.selClock := (rfl)
@[simp] theorem State.setStep_rm_slackHist (s : State) (n : Nat) : (s.setStep n).rm.slackHist = s.rm.slackHist := (rfl)
@[simp] theorem State.setStep_rm_ops (s : State) (n : Nat) : (s.setStep n).rm.ops = s.rm.ops := (rfl)
@[simp] theorem State.setStep_rm_status (s : State) (n : Nat) : (s.setStep n).rm.status = s.rm.status := (rfl)
@[simp] theorem State.setStep_rm_sent (s : State) (n : Nat) : (s.setStep n).rm.sent = s.rm.sent := (rfl)
@[simp] theorem State.onRm_rm (s : State) (f : RmState → RmState) : (s.onRm f).rm = f s.rm := (rfl)
@[simp] theorem RmState.setImg_alive (r : RmState) (t : ImgType) (x : ImgSel) : (r.setImg t x).alive = r.alive := (rfl)
@[simp] theorem RmState.setImg_downBy (r : RmState) (t : ImgType) (x : ImgSel) : (r.setImg t x).downBy = r.downBy := (rfl)
@[simp] theorem RmState.setImg_took (r : RmState) (t : ImgType) (x : ImgSel) : (r.setImg t x).took = r.took := (rfl)
@[simp] theorem RmState.setImg_selFwB (r : RmState) (t : ImgType) (x : ImgSel) : (r.setImg t x).selFwB = r.selFwB := (rfl)
@[simp] theorem RmState.setImg_sessions (r : RmState) (t : ImgType) (x : ImgSel) : (r.setImg t x).sessions = r.sessions := (rfl)
@[simp] theorem RmState.setImg_nextSid (r : RmState) (t : ImgType) (x : ImgSel) : (r.setImg t x).nextSid = r.nextSid := (rfl)
@[simp] theorem RmState.setImg_opSeq (r : RmState) (t : ImgType) (x : ImgSel) : (r.setImg t x).opSeq = r.opSeq := (rfl)
@[simp] theorem RmState.setImg_sensors (r : RmState) (t : ImgType) (x : ImgSel) : (r.setImg t x).sensors = r.sensors := (rfl)
@[simp] theorem RmState.setImg_reported (r : RmState) (t : ImgType) (x : ImgSel) : (r.setImg t x).reported = r.reported := (rfl)
@[simp] theorem RmState.setImg_back (r : RmState) (t : ImgType) (x : ImgSel) : (r.setImg t x).back = r.back := (rfl)
@[simp] theorem RmState.setImg_hist (r : RmState) (t : ImgType) (x : ImgSel) : (r.setImg t x).hist = r.hist := (rfl)
@[simp] theorem RmState.setImg_life (r : RmState) (t : ImgType) (x : ImgSel) : (r.setImg t x).life = r.life := (rfl)
@[simp] theorem RmState.setImg_evr (r : RmState) (t : ImgType) (x : ImgSel) : (r.setImg t x).evr = r.evr := (rfl)
@[simp] theorem RmState.setImg_stagings (r : RmState) (t : ImgType) (x : ImgSel) : (r.setImg t x).stagings = r.stagings := (rfl)
@[simp] theorem RmState.setImg_order (r : RmState) (t : ImgType) (x : ImgSel) : (r.setImg t x).order = r.order := (rfl)
@[simp] theorem RmState.setImg_keys (r : RmState) (t : ImgType) (x : ImgSel) : (r.setImg t x).keys = r.keys := (rfl)
@[simp] theorem RmState.setImg_pwr (r : RmState) (t : ImgType) (x : ImgSel) : (r.setImg t x).pwr = r.pwr := (rfl)
@[simp] theorem RmState.setImg_start (r : RmState) (t : ImgType) (x : ImgSel) : (r.setImg t x).start = r.start := (rfl)
@[simp] theorem RmState.setImg_snet (r : RmState) (t : ImgType) (x : ImgSel) : (r.setImg t x).snet = r.snet := (rfl)
@[simp] theorem RmState.setImg_selClock (r : RmState) (t : ImgType) (x : ImgSel) : (r.setImg t x).selClock = r.selClock := (rfl)
@[simp] theorem RmState.setImg_slackHist (r : RmState) (t : ImgType) (x : ImgSel) : (r.setImg t x).slackHist = r.slackHist := (rfl)
@[simp] theorem RmState.setImg_ops (r : RmState) (t : ImgType) (x : ImgSel) : (r.setImg t x).ops = r.ops := (rfl)
@[simp] theorem RmState.setImg_status (r : RmState) (t : ImgType) (x : ImgSel) : (r.setImg t x).status = r.status := (rfl)
@[simp] theorem RmState.setImg_sent (r : RmState) (t : ImgType) (x : ImgSel) : (r.setImg t x).sent = r.sent := (rfl)

/-! Updates of a lane: a register, a field, a bit, and what leaves a port. -/

@[simp] theorem rset_id (l : LaneState) (a : Nat) (v : Word) : (rset l a v).id = l.id := (rfl)
@[simp] theorem rset_mem (l : LaneState) (a : Nat) (v : Word) : (rset l a v).mem = l.mem := (rfl)
@[simp] theorem rset_ecc (l : LaneState) (a : Nat) (v : Word) : (rset l a v).ecc = l.ecc := (rfl)
@[simp] theorem rset_c0 (l : LaneState) (a : Nat) (v : Word) : (rset l a v).c0 = l.c0 := (rfl)
@[simp] theorem rset_c1 (l : LaneState) (a : Nat) (v : Word) : (rset l a v).c1 = l.c1 := (rfl)
@[simp] theorem rset_app (l : LaneState) (a : Nat) (v : Word) : (rset l a v).app = l.app := (rfl)
@[simp] theorem rset_aux (l : LaneState) (a : Nat) (v : Word) : (rset l a v).aux = l.aux := (rfl)
@[simp] theorem rset_cfg (l : LaneState) (a : Nat) (v : Word) : (rset l a v).cfg = l.cfg := (rfl)
@[simp] theorem rset_forces (l : LaneState) (a : Nat) (v : Word) : (rset l a v).forces = l.forces := (rfl)
@[simp] theorem rset_exe (l : LaneState) (a : Nat) (v : Word) : (rset l a v).exe = l.exe := (rfl)
@[simp] theorem rset_agree (l : LaneState) (a : Nat) (v : Word) : (rset l a v).agree = l.agree := (rfl)
@[simp] theorem rset_tri (l : LaneState) (a : Nat) (v : Word) : (rset l a v).tri = l.tri := (rfl)
@[simp] theorem rset_reint (l : LaneState) (a : Nat) (v : Word) : (rset l a v).reint = l.reint := (rfl)
@[simp] theorem rset_mer (l : LaneState) (a : Nat) (v : Word) : (rset l a v).mer = l.mer := (rfl)
@[simp] theorem rset_car (l : LaneState) (a : Nat) (v : Word) : (rset l a v).car = l.car := (rfl)
@[simp] theorem rset_ina (l : LaneState) (a : Nat) (v : Word) : (rset l a v).ina = l.ina := (rfl)
@[simp] theorem rset_ecn (l : LaneState) (a : Nat) (v : Word) : (rset l a v).ecn = l.ecn := (rfl)
@[simp] theorem rset_can (l : LaneState) (a : Nat) (v : Word) : (rset l a v).can = l.can := (rfl)
@[simp] theorem rset_fio (l : LaneState) (a : Nat) (v : Word) : (rset l a v).fio = l.fio := (rfl)
@[simp] theorem rset_saf (l : LaneState) (a : Nat) (v : Word) : (rset l a v).saf = l.saf := (rfl)
@[simp] theorem rset_brg (l : LaneState) (a : Nat) (v : Word) : (rset l a v).brg = l.brg := (rfl)
@[simp] theorem rset_prt (l : LaneState) (a : Nat) (v : Word) : (rset l a v).prt = l.prt := (rfl)
@[simp] theorem rset_pwr (l : LaneState) (a : Nat) (v : Word) : (rset l a v).pwr = l.pwr := (rfl)
@[simp] theorem rset_dbg (l : LaneState) (a : Nat) (v : Word) : (rset l a v).dbg = l.dbg := (rfl)
@[simp] theorem rset_pmc0 (l : LaneState) (a : Nat) (v : Word) : (rset l a v).pmc0 = l.pmc0 := (rfl)
@[simp] theorem rset_pmc1 (l : LaneState) (a : Nat) (v : Word) : (rset l a v).pmc1 = l.pmc1 := (rfl)
@[simp] theorem rset_mbx (l : LaneState) (a : Nat) (v : Word) : (rset l a v).mbx = l.mbx := (rfl)
@[simp] theorem rset_rdval (l : LaneState) (a : Nat) (v : Word) : (rset l a v).rdval = l.rdval := (rfl)
@[simp] theorem rset_berr (l : LaneState) (a : Nat) (v : Word) : (rset l a v).berr = l.berr := (rfl)
@[simp] theorem rset_sent (l : LaneState) (a : Nat) (v : Word) : (rset l a v).sent = l.sent := (rfl)
@[simp] theorem fset_id (l : LaneState) (a hi lo v : Nat) : (fset l a hi lo v).id = l.id := (rfl)
@[simp] theorem fset_mem (l : LaneState) (a hi lo v : Nat) : (fset l a hi lo v).mem = l.mem := (rfl)
@[simp] theorem fset_ecc (l : LaneState) (a hi lo v : Nat) : (fset l a hi lo v).ecc = l.ecc := (rfl)
@[simp] theorem fset_c0 (l : LaneState) (a hi lo v : Nat) : (fset l a hi lo v).c0 = l.c0 := (rfl)
@[simp] theorem fset_c1 (l : LaneState) (a hi lo v : Nat) : (fset l a hi lo v).c1 = l.c1 := (rfl)
@[simp] theorem fset_app (l : LaneState) (a hi lo v : Nat) : (fset l a hi lo v).app = l.app := (rfl)
@[simp] theorem fset_aux (l : LaneState) (a hi lo v : Nat) : (fset l a hi lo v).aux = l.aux := (rfl)
@[simp] theorem fset_cfg (l : LaneState) (a hi lo v : Nat) : (fset l a hi lo v).cfg = l.cfg := (rfl)
@[simp] theorem fset_forces (l : LaneState) (a hi lo v : Nat) : (fset l a hi lo v).forces = l.forces := (rfl)
@[simp] theorem fset_exe (l : LaneState) (a hi lo v : Nat) : (fset l a hi lo v).exe = l.exe := (rfl)
@[simp] theorem fset_agree (l : LaneState) (a hi lo v : Nat) : (fset l a hi lo v).agree = l.agree := (rfl)
@[simp] theorem fset_tri (l : LaneState) (a hi lo v : Nat) : (fset l a hi lo v).tri = l.tri := (rfl)
@[simp] theorem fset_reint (l : LaneState) (a hi lo v : Nat) : (fset l a hi lo v).reint = l.reint := (rfl)
@[simp] theorem fset_mer (l : LaneState) (a hi lo v : Nat) : (fset l a hi lo v).mer = l.mer := (rfl)
@[simp] theorem fset_car (l : LaneState) (a hi lo v : Nat) : (fset l a hi lo v).car = l.car := (rfl)
@[simp] theorem fset_ina (l : LaneState) (a hi lo v : Nat) : (fset l a hi lo v).ina = l.ina := (rfl)
@[simp] theorem fset_ecn (l : LaneState) (a hi lo v : Nat) : (fset l a hi lo v).ecn = l.ecn := (rfl)
@[simp] theorem fset_can (l : LaneState) (a hi lo v : Nat) : (fset l a hi lo v).can = l.can := (rfl)
@[simp] theorem fset_fio (l : LaneState) (a hi lo v : Nat) : (fset l a hi lo v).fio = l.fio := (rfl)
@[simp] theorem fset_saf (l : LaneState) (a hi lo v : Nat) : (fset l a hi lo v).saf = l.saf := (rfl)
@[simp] theorem fset_brg (l : LaneState) (a hi lo v : Nat) : (fset l a hi lo v).brg = l.brg := (rfl)
@[simp] theorem fset_prt (l : LaneState) (a hi lo v : Nat) : (fset l a hi lo v).prt = l.prt := (rfl)
@[simp] theorem fset_pwr (l : LaneState) (a hi lo v : Nat) : (fset l a hi lo v).pwr = l.pwr := (rfl)
@[simp] theorem fset_dbg (l : LaneState) (a hi lo v : Nat) : (fset l a hi lo v).dbg = l.dbg := (rfl)
@[simp] theorem fset_pmc0 (l : LaneState) (a hi lo v : Nat) : (fset l a hi lo v).pmc0 = l.pmc0 := (rfl)
@[simp] theorem fset_pmc1 (l : LaneState) (a hi lo v : Nat) : (fset l a hi lo v).pmc1 = l.pmc1 := (rfl)
@[simp] theorem fset_mbx (l : LaneState) (a hi lo v : Nat) : (fset l a hi lo v).mbx = l.mbx := (rfl)
@[simp] theorem fset_rdval (l : LaneState) (a hi lo v : Nat) : (fset l a hi lo v).rdval = l.rdval := (rfl)
@[simp] theorem fset_berr (l : LaneState) (a hi lo v : Nat) : (fset l a hi lo v).berr = l.berr := (rfl)
@[simp] theorem fset_sent (l : LaneState) (a hi lo v : Nat) : (fset l a hi lo v).sent = l.sent := (rfl)
@[simp] theorem bset_id (l : LaneState) (a i : Nat) (b : Bool) : (bset l a i b).id = l.id := (rfl)
@[simp] theorem bset_mem (l : LaneState) (a i : Nat) (b : Bool) : (bset l a i b).mem = l.mem := (rfl)
@[simp] theorem bset_ecc (l : LaneState) (a i : Nat) (b : Bool) : (bset l a i b).ecc = l.ecc := (rfl)
@[simp] theorem bset_c0 (l : LaneState) (a i : Nat) (b : Bool) : (bset l a i b).c0 = l.c0 := (rfl)
@[simp] theorem bset_c1 (l : LaneState) (a i : Nat) (b : Bool) : (bset l a i b).c1 = l.c1 := (rfl)
@[simp] theorem bset_app (l : LaneState) (a i : Nat) (b : Bool) : (bset l a i b).app = l.app := (rfl)
@[simp] theorem bset_aux (l : LaneState) (a i : Nat) (b : Bool) : (bset l a i b).aux = l.aux := (rfl)
@[simp] theorem bset_cfg (l : LaneState) (a i : Nat) (b : Bool) : (bset l a i b).cfg = l.cfg := (rfl)
@[simp] theorem bset_forces (l : LaneState) (a i : Nat) (b : Bool) : (bset l a i b).forces = l.forces := (rfl)
@[simp] theorem bset_exe (l : LaneState) (a i : Nat) (b : Bool) : (bset l a i b).exe = l.exe := (rfl)
@[simp] theorem bset_agree (l : LaneState) (a i : Nat) (b : Bool) : (bset l a i b).agree = l.agree := (rfl)
@[simp] theorem bset_tri (l : LaneState) (a i : Nat) (b : Bool) : (bset l a i b).tri = l.tri := (rfl)
@[simp] theorem bset_reint (l : LaneState) (a i : Nat) (b : Bool) : (bset l a i b).reint = l.reint := (rfl)
@[simp] theorem bset_mer (l : LaneState) (a i : Nat) (b : Bool) : (bset l a i b).mer = l.mer := (rfl)
@[simp] theorem bset_car (l : LaneState) (a i : Nat) (b : Bool) : (bset l a i b).car = l.car := (rfl)
@[simp] theorem bset_ina (l : LaneState) (a i : Nat) (b : Bool) : (bset l a i b).ina = l.ina := (rfl)
@[simp] theorem bset_ecn (l : LaneState) (a i : Nat) (b : Bool) : (bset l a i b).ecn = l.ecn := (rfl)
@[simp] theorem bset_can (l : LaneState) (a i : Nat) (b : Bool) : (bset l a i b).can = l.can := (rfl)
@[simp] theorem bset_fio (l : LaneState) (a i : Nat) (b : Bool) : (bset l a i b).fio = l.fio := (rfl)
@[simp] theorem bset_saf (l : LaneState) (a i : Nat) (b : Bool) : (bset l a i b).saf = l.saf := (rfl)
@[simp] theorem bset_brg (l : LaneState) (a i : Nat) (b : Bool) : (bset l a i b).brg = l.brg := (rfl)
@[simp] theorem bset_prt (l : LaneState) (a i : Nat) (b : Bool) : (bset l a i b).prt = l.prt := (rfl)
@[simp] theorem bset_pwr (l : LaneState) (a i : Nat) (b : Bool) : (bset l a i b).pwr = l.pwr := (rfl)
@[simp] theorem bset_dbg (l : LaneState) (a i : Nat) (b : Bool) : (bset l a i b).dbg = l.dbg := (rfl)
@[simp] theorem bset_pmc0 (l : LaneState) (a i : Nat) (b : Bool) : (bset l a i b).pmc0 = l.pmc0 := (rfl)
@[simp] theorem bset_pmc1 (l : LaneState) (a i : Nat) (b : Bool) : (bset l a i b).pmc1 = l.pmc1 := (rfl)
@[simp] theorem bset_mbx (l : LaneState) (a i : Nat) (b : Bool) : (bset l a i b).mbx = l.mbx := (rfl)
@[simp] theorem bset_rdval (l : LaneState) (a i : Nat) (b : Bool) : (bset l a i b).rdval = l.rdval := (rfl)
@[simp] theorem bset_berr (l : LaneState) (a i : Nat) (b : Bool) : (bset l a i b).berr = l.berr := (rfl)
@[simp] theorem bset_sent (l : LaneState) (a i : Nat) (b : Bool) : (bset l a i b).sent = l.sent := (rfl)
@[simp] theorem finc_id (l : LaneState) (a hi lo n : Nat) : (finc l a hi lo n).id = l.id := (rfl)
@[simp] theorem finc_mem (l : LaneState) (a hi lo n : Nat) : (finc l a hi lo n).mem = l.mem := (rfl)
@[simp] theorem finc_ecc (l : LaneState) (a hi lo n : Nat) : (finc l a hi lo n).ecc = l.ecc := (rfl)
@[simp] theorem finc_c0 (l : LaneState) (a hi lo n : Nat) : (finc l a hi lo n).c0 = l.c0 := (rfl)
@[simp] theorem finc_c1 (l : LaneState) (a hi lo n : Nat) : (finc l a hi lo n).c1 = l.c1 := (rfl)
@[simp] theorem finc_app (l : LaneState) (a hi lo n : Nat) : (finc l a hi lo n).app = l.app := (rfl)
@[simp] theorem finc_aux (l : LaneState) (a hi lo n : Nat) : (finc l a hi lo n).aux = l.aux := (rfl)
@[simp] theorem finc_cfg (l : LaneState) (a hi lo n : Nat) : (finc l a hi lo n).cfg = l.cfg := (rfl)
@[simp] theorem finc_forces (l : LaneState) (a hi lo n : Nat) : (finc l a hi lo n).forces = l.forces := (rfl)
@[simp] theorem finc_exe (l : LaneState) (a hi lo n : Nat) : (finc l a hi lo n).exe = l.exe := (rfl)
@[simp] theorem finc_agree (l : LaneState) (a hi lo n : Nat) : (finc l a hi lo n).agree = l.agree := (rfl)
@[simp] theorem finc_tri (l : LaneState) (a hi lo n : Nat) : (finc l a hi lo n).tri = l.tri := (rfl)
@[simp] theorem finc_reint (l : LaneState) (a hi lo n : Nat) : (finc l a hi lo n).reint = l.reint := (rfl)
@[simp] theorem finc_mer (l : LaneState) (a hi lo n : Nat) : (finc l a hi lo n).mer = l.mer := (rfl)
@[simp] theorem finc_car (l : LaneState) (a hi lo n : Nat) : (finc l a hi lo n).car = l.car := (rfl)
@[simp] theorem finc_ina (l : LaneState) (a hi lo n : Nat) : (finc l a hi lo n).ina = l.ina := (rfl)
@[simp] theorem finc_ecn (l : LaneState) (a hi lo n : Nat) : (finc l a hi lo n).ecn = l.ecn := (rfl)
@[simp] theorem finc_can (l : LaneState) (a hi lo n : Nat) : (finc l a hi lo n).can = l.can := (rfl)
@[simp] theorem finc_fio (l : LaneState) (a hi lo n : Nat) : (finc l a hi lo n).fio = l.fio := (rfl)
@[simp] theorem finc_saf (l : LaneState) (a hi lo n : Nat) : (finc l a hi lo n).saf = l.saf := (rfl)
@[simp] theorem finc_brg (l : LaneState) (a hi lo n : Nat) : (finc l a hi lo n).brg = l.brg := (rfl)
@[simp] theorem finc_prt (l : LaneState) (a hi lo n : Nat) : (finc l a hi lo n).prt = l.prt := (rfl)
@[simp] theorem finc_pwr (l : LaneState) (a hi lo n : Nat) : (finc l a hi lo n).pwr = l.pwr := (rfl)
@[simp] theorem finc_dbg (l : LaneState) (a hi lo n : Nat) : (finc l a hi lo n).dbg = l.dbg := (rfl)
@[simp] theorem finc_pmc0 (l : LaneState) (a hi lo n : Nat) : (finc l a hi lo n).pmc0 = l.pmc0 := (rfl)
@[simp] theorem finc_pmc1 (l : LaneState) (a hi lo n : Nat) : (finc l a hi lo n).pmc1 = l.pmc1 := (rfl)
@[simp] theorem finc_mbx (l : LaneState) (a hi lo n : Nat) : (finc l a hi lo n).mbx = l.mbx := (rfl)
@[simp] theorem finc_rdval (l : LaneState) (a hi lo n : Nat) : (finc l a hi lo n).rdval = l.rdval := (rfl)
@[simp] theorem finc_berr (l : LaneState) (a hi lo n : Nat) : (finc l a hi lo n).berr = l.berr := (rfl)
@[simp] theorem finc_sent (l : LaneState) (a hi lo n : Nat) : (finc l a hi lo n).sent = l.sent := (rfl)
@[simp] theorem rset64_id (l : LaneState) (lo hi : Nat) (v : DWord) : (rset64 l lo hi v).id = l.id := (rfl)
@[simp] theorem rset64_mem (l : LaneState) (lo hi : Nat) (v : DWord) : (rset64 l lo hi v).mem = l.mem := (rfl)
@[simp] theorem rset64_ecc (l : LaneState) (lo hi : Nat) (v : DWord) : (rset64 l lo hi v).ecc = l.ecc := (rfl)
@[simp] theorem rset64_c0 (l : LaneState) (lo hi : Nat) (v : DWord) : (rset64 l lo hi v).c0 = l.c0 := (rfl)
@[simp] theorem rset64_c1 (l : LaneState) (lo hi : Nat) (v : DWord) : (rset64 l lo hi v).c1 = l.c1 := (rfl)
@[simp] theorem rset64_app (l : LaneState) (lo hi : Nat) (v : DWord) : (rset64 l lo hi v).app = l.app := (rfl)
@[simp] theorem rset64_aux (l : LaneState) (lo hi : Nat) (v : DWord) : (rset64 l lo hi v).aux = l.aux := (rfl)
@[simp] theorem rset64_cfg (l : LaneState) (lo hi : Nat) (v : DWord) : (rset64 l lo hi v).cfg = l.cfg := (rfl)
@[simp] theorem rset64_forces (l : LaneState) (lo hi : Nat) (v : DWord) : (rset64 l lo hi v).forces = l.forces := (rfl)
@[simp] theorem rset64_exe (l : LaneState) (lo hi : Nat) (v : DWord) : (rset64 l lo hi v).exe = l.exe := (rfl)
@[simp] theorem rset64_agree (l : LaneState) (lo hi : Nat) (v : DWord) : (rset64 l lo hi v).agree = l.agree := (rfl)
@[simp] theorem rset64_tri (l : LaneState) (lo hi : Nat) (v : DWord) : (rset64 l lo hi v).tri = l.tri := (rfl)
@[simp] theorem rset64_reint (l : LaneState) (lo hi : Nat) (v : DWord) : (rset64 l lo hi v).reint = l.reint := (rfl)
@[simp] theorem rset64_mer (l : LaneState) (lo hi : Nat) (v : DWord) : (rset64 l lo hi v).mer = l.mer := (rfl)
@[simp] theorem rset64_car (l : LaneState) (lo hi : Nat) (v : DWord) : (rset64 l lo hi v).car = l.car := (rfl)
@[simp] theorem rset64_ina (l : LaneState) (lo hi : Nat) (v : DWord) : (rset64 l lo hi v).ina = l.ina := (rfl)
@[simp] theorem rset64_ecn (l : LaneState) (lo hi : Nat) (v : DWord) : (rset64 l lo hi v).ecn = l.ecn := (rfl)
@[simp] theorem rset64_can (l : LaneState) (lo hi : Nat) (v : DWord) : (rset64 l lo hi v).can = l.can := (rfl)
@[simp] theorem rset64_fio (l : LaneState) (lo hi : Nat) (v : DWord) : (rset64 l lo hi v).fio = l.fio := (rfl)
@[simp] theorem rset64_saf (l : LaneState) (lo hi : Nat) (v : DWord) : (rset64 l lo hi v).saf = l.saf := (rfl)
@[simp] theorem rset64_brg (l : LaneState) (lo hi : Nat) (v : DWord) : (rset64 l lo hi v).brg = l.brg := (rfl)
@[simp] theorem rset64_prt (l : LaneState) (lo hi : Nat) (v : DWord) : (rset64 l lo hi v).prt = l.prt := (rfl)
@[simp] theorem rset64_pwr (l : LaneState) (lo hi : Nat) (v : DWord) : (rset64 l lo hi v).pwr = l.pwr := (rfl)
@[simp] theorem rset64_dbg (l : LaneState) (lo hi : Nat) (v : DWord) : (rset64 l lo hi v).dbg = l.dbg := (rfl)
@[simp] theorem rset64_pmc0 (l : LaneState) (lo hi : Nat) (v : DWord) : (rset64 l lo hi v).pmc0 = l.pmc0 := (rfl)
@[simp] theorem rset64_pmc1 (l : LaneState) (lo hi : Nat) (v : DWord) : (rset64 l lo hi v).pmc1 = l.pmc1 := (rfl)
@[simp] theorem rset64_mbx (l : LaneState) (lo hi : Nat) (v : DWord) : (rset64 l lo hi v).mbx = l.mbx := (rfl)
@[simp] theorem rset64_rdval (l : LaneState) (lo hi : Nat) (v : DWord) : (rset64 l lo hi v).rdval = l.rdval := (rfl)
@[simp] theorem rset64_berr (l : LaneState) (lo hi : Nat) (v : DWord) : (rset64 l lo hi v).berr = l.berr := (rfl)
@[simp] theorem rset64_sent (l : LaneState) (lo hi : Nat) (v : DWord) : (rset64 l lo hi v).sent = l.sent := (rfl)
@[simp] theorem emit_id (l : LaneState) (e : Emit) : (emit l e).id = l.id := (rfl)
@[simp] theorem emit_regs (l : LaneState) (e : Emit) : (emit l e).regs = l.regs := (rfl)
@[simp] theorem emit_mem (l : LaneState) (e : Emit) : (emit l e).mem = l.mem := (rfl)
@[simp] theorem emit_ecc (l : LaneState) (e : Emit) : (emit l e).ecc = l.ecc := (rfl)
@[simp] theorem emit_c0 (l : LaneState) (e : Emit) : (emit l e).c0 = l.c0 := (rfl)
@[simp] theorem emit_c1 (l : LaneState) (e : Emit) : (emit l e).c1 = l.c1 := (rfl)
@[simp] theorem emit_app (l : LaneState) (e : Emit) : (emit l e).app = l.app := (rfl)
@[simp] theorem emit_aux (l : LaneState) (e : Emit) : (emit l e).aux = l.aux := (rfl)
@[simp] theorem emit_cfg (l : LaneState) (e : Emit) : (emit l e).cfg = l.cfg := (rfl)
@[simp] theorem emit_forces (l : LaneState) (e : Emit) : (emit l e).forces = l.forces := (rfl)
@[simp] theorem emit_exe (l : LaneState) (e : Emit) : (emit l e).exe = l.exe := (rfl)
@[simp] theorem emit_agree (l : LaneState) (e : Emit) : (emit l e).agree = l.agree := (rfl)
@[simp] theorem emit_tri (l : LaneState) (e : Emit) : (emit l e).tri = l.tri := (rfl)
@[simp] theorem emit_reint (l : LaneState) (e : Emit) : (emit l e).reint = l.reint := (rfl)
@[simp] theorem emit_mer (l : LaneState) (e : Emit) : (emit l e).mer = l.mer := (rfl)
@[simp] theorem emit_car (l : LaneState) (e : Emit) : (emit l e).car = l.car := (rfl)
@[simp] theorem emit_ina (l : LaneState) (e : Emit) : (emit l e).ina = l.ina := (rfl)
@[simp] theorem emit_ecn (l : LaneState) (e : Emit) : (emit l e).ecn = l.ecn := (rfl)
@[simp] theorem emit_can (l : LaneState) (e : Emit) : (emit l e).can = l.can := (rfl)
@[simp] theorem emit_fio (l : LaneState) (e : Emit) : (emit l e).fio = l.fio := (rfl)
@[simp] theorem emit_saf (l : LaneState) (e : Emit) : (emit l e).saf = l.saf := (rfl)
@[simp] theorem emit_brg (l : LaneState) (e : Emit) : (emit l e).brg = l.brg := (rfl)
@[simp] theorem emit_prt (l : LaneState) (e : Emit) : (emit l e).prt = l.prt := (rfl)
@[simp] theorem emit_pwr (l : LaneState) (e : Emit) : (emit l e).pwr = l.pwr := (rfl)
@[simp] theorem emit_dbg (l : LaneState) (e : Emit) : (emit l e).dbg = l.dbg := (rfl)
@[simp] theorem emit_pmc0 (l : LaneState) (e : Emit) : (emit l e).pmc0 = l.pmc0 := (rfl)
@[simp] theorem emit_pmc1 (l : LaneState) (e : Emit) : (emit l e).pmc1 = l.pmc1 := (rfl)
@[simp] theorem emit_mbx (l : LaneState) (e : Emit) : (emit l e).mbx = l.mbx := (rfl)
@[simp] theorem emit_rdval (l : LaneState) (e : Emit) : (emit l e).rdval = l.rdval := (rfl)
@[simp] theorem emit_berr (l : LaneState) (e : Emit) : (emit l e).berr = l.berr := (rfl)

end Sys2Proof.Machine
end

