-- ==== Sys2Proof/Laws/Tables.lean ====
section
/-! SUPPORT. Laws of the sparse tables: read after write, and that every write keeps the canonical form. -/

namespace Sys2Proof.Machine

variable {α : Type}

@[simp] theorem sget_nil (d : Nat → α) (k : Nat) : sget d [] k = d k := rfl

theorem sget_sins_same (d : Nat → α) (l : List (Nat × α)) (k : Nat) (v : α) (h : ∀ e ∈ l, e.1 ≠ k) :
    sget d (sins k v l) k = v := by
  induction l with
  | nil => simp [sins, sget]
  | cons e l ih =>
    have he : e.1 ≠ k := h e (by simp)
    have hl : ∀ x ∈ l, x.1 ≠ k := fun x hx => h x (by simp [hx])
    simp only [sins]
    split
    · simp [sget]
    · simp [sget, he, ih hl]

theorem sget_sins_other (d : Nat → α) (l : List (Nat × α)) (k j : Nat) (v : α) (h : j ≠ k) :
    sget d (sins k v l) j = sget d l j := by
  induction l with
  | nil => simp [sins, sget, Ne.symm h]
  | cons e l ih =>
    simp only [sins]
    split
    · simp [sget, Ne.symm h]
    · simp only [sget]; split <;> simp [ih]

theorem sget_filter_same (d : Nat → α) (l : List (Nat × α)) (k : Nat) :
    sget d (l.filter (fun e => e.1 != k)) k = d k := by
  induction l with
  | nil => rfl
  | cons e l ih =>
    by_cases he : e.1 = k
    · simpa [List.filter_cons, he] using ih
    · simp [List.filter_cons, he, sget, ih]

theorem sget_filter_other (d : Nat → α) (l : List (Nat × α)) (k j : Nat) (h : j ≠ k) :
    sget d (l.filter (fun e => e.1 != k)) j = sget d l j := by
  induction l with
  | nil => rfl
  | cons e l ih =>
    by_cases he : e.1 = k
    · have hj : ¬ k = j := fun x => h x.symm
      simp [List.filter_cons, he, sget, hj, ih]
    · simp [List.filter_cons, he, sget, ih]

/-- Reading the key just written gives the value written. -/
@[simp] theorem sget_sset_same [DecidableEq α] (d : Nat → α) (l : List (Nat × α)) (k : Nat) (v : α) :
    sget d (sset d l k v) k = v := by
  unfold sset
  split
  · rename_i h; rw [sget_filter_same, h]
  · exact sget_sins_same d _ k v (by simp)

/-- Writing one key leaves every other key alone. -/
@[simp] theorem sget_sset_other [DecidableEq α] (d : Nat → α) (l : List (Nat × α)) (k j : Nat) (v : α) (h : j ≠ k) :
    sget d (sset d l k v) j = sget d l j := by
  unfold sset
  split
  · exact sget_filter_other d l k j h
  · rw [sget_sins_other _ _ _ _ _ h, sget_filter_other _ _ _ _ h]

theorem mem_sins (l : List (Nat × α)) (k : Nat) (v : α) (e : Nat × α) : e ∈ sins k v l ↔ e = (k, v) ∨ e ∈ l := by
  induction l with
  | nil => simp [sins]
  | cons x l ih =>
    simp only [sins]
    split
    · simp
    · simp [ih]; tauto

theorem swf_filter [DecidableEq α] (d : Nat → α) (p : Nat × α → Bool) (l : List (Nat × α)) (h : swf d l = true) :
    swf d (l.filter p) = true := by
  induction l with
  | nil => rfl
  | cons e l ih =>
    simp only [swf, Bool.and_eq_true, decide_eq_true_eq, List.all_eq_true] at h
    have hl := ih h.2
    by_cases hp : p e = true
    · simp only [List.filter_cons, hp, if_true, swf, Bool.and_eq_true, decide_eq_true_eq, List.all_eq_true]
      exact ⟨⟨h.1.1, fun x hx => h.1.2 x (List.mem_filter.mp hx).1⟩, hl⟩
    · simpa [List.filter_cons, hp] using hl

theorem swf_sins [DecidableEq α] (d : Nat → α) (l : List (Nat × α)) (k : Nat) (v : α) (hv : v ≠ d k)
    (hk : ∀ e ∈ l, e.1 ≠ k) (h : swf d l = true) : swf d (sins k v l) = true := by
  induction l with
  | nil => simp [sins, swf, hv]
  | cons e l ih =>
    simp only [swf, Bool.and_eq_true, decide_eq_true_eq, List.all_eq_true] at h
    have hke : e.1 ≠ k := hk e (by simp)
    have hkl : ∀ x ∈ l, x.1 ≠ k := fun x hx => hk x (by simp [hx])
    simp only [sins]
    split
    · rename_i hlt
      simp only [swf, Bool.and_eq_true, decide_eq_true_eq, List.all_eq_true]
      refine ⟨⟨hv, ?_⟩, ⟨h.1.1, h.1.2⟩, h.2⟩
      intro x hx
      rcases List.mem_cons.mp hx with rfl | hx
      · exact hlt
      · exact Nat.lt_trans hlt (h.1.2 x hx)
    · simp only [swf, Bool.and_eq_true, decide_eq_true_eq, List.all_eq_true]
      refine ⟨⟨h.1.1, ?_⟩, ih hkl h.2⟩
      intro x hx
      rcases (mem_sins l k v x).mp hx with rfl | hx
      · show e.1 < k; omega
      · exact h.1.2 x hx

/-- Writing one key keeps the canonical form. -/
theorem swf_sset [DecidableEq α] (d : Nat → α) (l : List (Nat × α)) (k : Nat) (v : α) (h : swf d l = true) :
    swf d (sset d l k v) = true := by
  unfold sset
  split
  · exact swf_filter d _ l h
  · rename_i hv; exact swf_sins d _ k v hv (by simp) (swf_filter d _ l h)

end Sys2Proof.Machine
end

