-- ==== Sys2Proof/Laws/Memory.lean ====
section
/-! SUPPORT. Laws of a lane's memory: read after write, and that every memory operation keeps the canonical form. -/

namespace Sys2Proof.Machine

/-! Byte strings in a table. -/

theorem sget_sput_before (m : List (Nat × Byte)) (a k : Nat) (b : Bytes) (h : k < a) : sget zByte (sput m a b) k = sget zByte m k := by
  induction b generalizing m a with
  | nil => rfl
  | cons x b ih =>
    have hk : k ≠ a := by omega
    rw [sput, ih _ _ (by omega), sget_sset_other _ _ _ _ _ hk]

/-- A byte outside the range written keeps its value. -/
theorem sget_sput_outside (m : List (Nat × Byte)) (a k : Nat) (b : Bytes) (h : k < a ∨ a + b.length ≤ k) :
    sget zByte (sput m a b) k = sget zByte m k := by
  induction b generalizing m a with
  | nil => rfl
  | cons x b ih =>
    have hk : k ≠ a := by simp only [List.length_cons] at h; omega
    rw [sput, ih _ _ (by simp only [List.length_cons] at h; omega), sget_sset_other _ _ _ _ _ hk]

/-- A byte inside the range reads what was written there. -/
theorem sget_sput_inside (m : List (Nat × Byte)) (a i : Nat) (b : Bytes) (h : i < b.length) :
    sget zByte (sput m a b) (a + i) = b[i] := by
  induction b generalizing m a i with
  | nil => simp at h
  | cons x b ih =>
    cases i with
    | zero => rw [sput, Nat.add_zero, sget_sput_before _ _ _ _ (by omega)]; simp
    | succ i =>
      have := ih (sset zByte m a x) (a + 1) i (by simpa using h)
      rw [sput, show a + (i + 1) = a + 1 + i by omega, this]
      simp

/-- Writing bytes keeps the canonical form. -/
theorem swf_sput (m : List (Nat × Byte)) (a : Nat) (b : Bytes) (h : swf zByte m = true) : swf zByte (sput m a b) = true := by
  induction b generalizing m a with
  | nil => exact h
  | cons x b ih => exact ih _ _ (swf_sset _ _ _ _ h)

theorem swf_append (d : Nat → Byte) (l m : List (Nat × Byte)) (hl : swf d l = true) (hm : swf d m = true)
    (h : ∀ x ∈ l, ∀ y ∈ m, x.1 < y.1) : swf d (l ++ m) = true := by
  induction l with
  | nil => exact hm
  | cons e l ih =>
    simp only [swf, Bool.and_eq_true, decide_eq_true_eq, List.all_eq_true] at hl
    simp only [List.cons_append, swf, Bool.and_eq_true, decide_eq_true_eq, List.all_eq_true]
    refine ⟨⟨hl.1.1, ?_⟩, ih hl.2 (fun x hx => h x (by simp [hx]))⟩
    intro x hx
    rcases List.mem_append.mp hx with hx | hx
    · exact hl.1.2 x hx
    · exact h e (by simp) x hx

/-- Replacing a region keeps the canonical form. -/
theorem swf_setRegion (m t : List (Nat × Byte)) (a n : Nat) (hm : swf zByte m = true) (ht : swf zByte t = true) :
    swf zByte (setRegion m a n t) = true := by
  refine swf_append _ _ _ (swf_append _ _ _ (swf_filter _ _ _ hm) (swf_filter _ _ _ ht) ?_) (swf_filter _ _ _ hm) ?_
  · intro x hx y hy
    have h1 := (List.mem_filter.mp hx).2
    have h2 := (List.mem_filter.mp hy).2
    simp [inRange] at h1 h2
    omega
  · intro x hx y hy
    have h2 := (List.mem_filter.mp hy).2
    simp at h2
    rcases List.mem_append.mp hx with hx | hx
    · have h1 := (List.mem_filter.mp hx).2
      simp at h1
      omega
    · have h1 := (List.mem_filter.mp hx).2
      simp [inRange] at h1
      omega

/-! Operations on a lane. -/

@[simp] theorem eccWritten_mem (l : LaneState) (a n : Nat) : (eccWritten l a n).mem = l.mem := by
  unfold eccWritten eccInjected eccCleared; dsimp only; (repeat' split) <;> simp

@[simp] theorem prtMark_mem (l : LaneState) (k : Nat) (bs : List Nat) : (prtMark l k bs).mem = l.mem := by
  unfold prtMark; (repeat' split) <;> simp

@[simp] theorem markDirty_mem (l : LaneState) (a n : Nat) : (markDirty l a n).mem = l.mem := by
  unfold markDirty; dsimp only; (repeat' split) <;> simp

@[simp] theorem eccWritten_id (l : LaneState) (a n : Nat) : (eccWritten l a n).id = l.id := by
  unfold eccWritten eccInjected eccCleared; dsimp only; (repeat' split) <;> simp

@[simp] theorem prtMark_id (l : LaneState) (k : Nat) (bs : List Nat) : (prtMark l k bs).id = l.id := by
  unfold prtMark; (repeat' split) <;> simp

@[simp] theorem markDirty_id (l : LaneState) (a n : Nat) : (markDirty l a n).id = l.id := by
  unfold markDirty; dsimp only; (repeat' split) <;> simp

/-- A store changes memory as the table says. -/
@[simp] theorem mwr_mem (l : LaneState) (a : Nat) (b : Bytes) : (mwr l a b).mem = sput l.mem a b := by
  simp [mwr]

/-- A store keeps memory canonical. -/
theorem mwr_wf (l : LaneState) (a : Nat) (b : Bytes) (h : Memory.wf l.mem = true) : Memory.wf (mwr l a b).mem = true := by
  rw [mwr_mem]; exact swf_sput _ _ _ h

/-- Erasing a range keeps memory canonical. -/
theorem zeroMem_wf (l : LaneState) (a n : Nat) (h : Memory.wf l.mem = true) : Memory.wf (zeroMem l a n).mem = true := by
  unfold zeroMem; rw [markDirty_mem]; exact swf_filter _ _ _ h

/-- Writing the input image keeps memory canonical. -/
theorem writeImage_wf (l : LaneState) (img : List (Nat × Byte)) (h : Memory.wf l.mem = true) (hi : Memory.wf img = true) :
    Memory.wf (writeImage l img).mem = true := by
  unfold writeImage; rw [markDirty_mem]; exact swf_setRegion _ _ _ _ h hi

/-- What a decoder leaves in a codeword keeps memory canonical. -/
theorem absorb_wf (l : LaneState) (cw : Nat) (p : ErrPat) (h : Memory.wf l.mem = true) : Memory.wf (absorb l cw p).mem = true := by
  unfold absorb
  induction p generalizing l with
  | nil => exact h
  | cons e p ih =>
    simp only [List.foldl_cons]
    apply ih
    split
    · exact h
    · exact swf_sset _ _ _ _ h

/-- A lane that loses its supply keeps AOM in canonical form. -/
theorem darken_wf (l : LaneState) (h : Memory.wf l.mem = true) : Memory.wf (darken l).mem = true := swf_filter _ _ _ h

/-- A byte outside a store reads as before. -/
theorem mwr_outside (l : LaneState) (a k : Nat) (b : Bytes) (h : k < a ∨ a + b.length ≤ k) :
    sget zByte (mwr l a b).mem k = sget zByte l.mem k := by
  rw [mwr_mem]; exact sget_sput_outside _ _ _ _ h

end Sys2Proof.Machine
end

