-- ==== Sys2Proof/Laws/Registers.lean ====
section
/-! SUPPORT. Laws of the register file: read after write, fields, and the canonical form. -/

namespace Sys2Proof.Machine

/-- A register reads what was written to it. -/
@[simp] theorem rget_rset_same (l : LaneState) (a : Nat) (v : Word) : rget (rset l a v) a = v := by
  simp [rget, rset]

/-- Another register reads as before. -/
theorem rget_rset_other (l : LaneState) (a b : Nat) (v : Word) (h : b ≠ a) : rget (rset l a v) b = rget l b := by
  simp [rget, rset, h]

/-- A write keeps the register file canonical. -/
theorem rset_wf (l : LaneState) (a : Nat) (v : Word) (h : Registers.wf l = true) : Registers.wf (rset l a v) = true :=
  swf_sset _ _ _ _ h

/-- A field write keeps the register file canonical. -/
theorem fset_wf (l : LaneState) (a hi lo v : Nat) (h : Registers.wf l = true) : Registers.wf (fset l a hi lo v) = true :=
  rset_wf _ _ _ h

/-! Bit fields. -/

/-- A field reads the low bits of what was written to it. -/
theorem getBits_putBits_same (w : Word) (hi lo v : Nat) (h : lo ≤ hi) (h2 : hi < 32) :
    getBits (putBits w hi lo v) hi lo = v % 2 ^ (hi + 1 - lo) := by
  have hp : 2 ^ lo * 2 ^ (hi + 1 - lo) = 2 ^ (hi + 1) := by rw [← Nat.pow_add]; congr 1; omega
  have h32 : 2 ^ (hi + 1) * 2 ^ (32 - (hi + 1)) = 2 ^ 32 := by rw [← Nat.pow_add]; congr 1; omega
  have hx : w.toNat % 2 ^ lo < 2 ^ lo := Nat.mod_lt _ (by positivity)
  have hy : v % 2 ^ (hi + 1 - lo) < 2 ^ (hi + 1 - lo) := Nat.mod_lt _ (by positivity)
  have hz : w.toNat / 2 ^ (hi + 1) < 2 ^ (32 - (hi + 1)) := by
    rw [Nat.div_lt_iff_lt_mul (by positivity), Nat.mul_comm, h32]; exact w.isLt
  have hlow : w.toNat % 2 ^ lo + v % 2 ^ (hi + 1 - lo) * 2 ^ lo < 2 ^ (hi + 1) := by
    rw [← hp, Nat.mul_comm (2 ^ lo)]
    calc _ < 2 ^ lo + v % 2 ^ (hi + 1 - lo) * 2 ^ lo := by omega
      _ = (v % 2 ^ (hi + 1 - lo) + 1) * 2 ^ lo := by ring
      _ ≤ _ := Nat.mul_le_mul_right _ hy
  have hsum : w.toNat % 2 ^ lo + v % 2 ^ (hi + 1 - lo) * 2 ^ lo + w.toNat / 2 ^ (hi + 1) * 2 ^ (hi + 1) < 2 ^ 32 := by
    rw [← h32]
    calc _ < 2 ^ (hi + 1) + w.toNat / 2 ^ (hi + 1) * 2 ^ (hi + 1) := by omega
      _ = (w.toNat / 2 ^ (hi + 1) + 1) * 2 ^ (hi + 1) := by ring
      _ ≤ 2 ^ (32 - (hi + 1)) * 2 ^ (hi + 1) := Nat.mul_le_mul_right _ hz
      _ = _ := Nat.mul_comm _ _
  unfold getBits putBits
  simp only [BitVec.toNat_ofNat, Nat.mod_eq_of_lt hsum, Nat.shiftRight_eq_div_pow]
  have e : w.toNat % 2 ^ lo + v % 2 ^ (hi + 1 - lo) * 2 ^ lo + w.toNat / 2 ^ (hi + 1) * 2 ^ (hi + 1)
      = w.toNat % 2 ^ lo + 2 ^ lo * (v % 2 ^ (hi + 1 - lo) + w.toNat / 2 ^ (hi + 1) * 2 ^ (hi + 1 - lo)) := by
    rw [← hp]; ring
  rw [e, Nat.add_mul_div_left _ _ (by positivity), Nat.div_eq_of_lt hx, Nat.zero_add, Nat.add_mul_mod_self_right, Nat.mod_mod]

/-- A field of a register reads what was written to it. -/
theorem fget_fset_same (l : LaneState) (a hi lo v : Nat) (h : lo ≤ hi) (h2 : hi < 32) (hv : v < 2 ^ (hi + 1 - lo)) :
    fget (fset l a hi lo v) a hi lo = v := by
  unfold fget fset
  rw [rget_rset_same, getBits_putBits_same _ _ _ _ h h2, Nat.mod_eq_of_lt hv]

/-- A field of another register reads as before. -/
theorem fget_fset_other (l : LaneState) (a b hi lo hi' lo' v : Nat) (h : b ≠ a) : fget (fset l a hi lo v) b hi' lo' = fget l b hi' lo' := by
  unfold fget fset
  rw [rget_rset_other _ _ _ _ h]

/-- A bit reads what was written to it. -/
theorem bget_bset_same (l : LaneState) (a i : Nat) (b : Bool) (h : i < 32) : bget (bset l a i b) a i = b := by
  unfold bget bset
  rw [fget_fset_same _ _ _ _ _ (Nat.le_refl _) h (by cases b <;> simp [b2n])]
  cases b <;> rfl

/-- A bit of another register reads as before. -/
theorem bget_bset_other (l : LaneState) (a b i j : Nat) (x : Bool) (h : b ≠ a) : bget (bset l a i x) b j = bget l b j := by
  unfold bget bset
  rw [fget_fset_other _ _ _ _ _ _ _ _ h]

end Sys2Proof.Machine
end

