-- ==== Sys2Proof/Laws/Pmc.lean ====
section
/-! SUPPORT. Counting an instruction changes the performance units and their registers alone. -/

namespace Sys2Proof.Machine

/-- A register outside the performance units. -/
def offPmc (a : Nat) : Prop := a < 0x0D0000 ∨ 0x0E0000 ≤ a

/-- A lane that differs from another at most in its performance units and their registers. -/
def OnlyPmc (x y : LaneState) : Prop :=
  y = { x with regs := y.regs, pmc0 := y.pmc0, pmc1 := y.pmc1 } ∧ ∀ a, offPmc a → rget y a = rget x a

theorem onlyPmc_refl (x : LaneState) : OnlyPmc x x := ⟨rfl, fun _ _ => rfl⟩

theorem onlyPmc_trans {x y z : LaneState} (h : OnlyPmc x y) (g : OnlyPmc y z) : OnlyPmc x z := by
  refine ⟨?_, fun a ha => (g.2 a ha).trans (h.2 a ha)⟩
  rw [g.1, h.1]

theorem onlyPmc_rset (x : LaneState) (a : Nat) (v : Word) (h : ¬ offPmc a) : OnlyPmc x (rset x a v) :=
  ⟨rfl, fun _ hb => rget_rset_other _ _ _ _ (fun e => h (e ▸ hb))⟩

theorem onlyPmc_fset (x : LaneState) (a hi lo v : Nat) (h : ¬ offPmc a) : OnlyPmc x (fset x a hi lo v) := onlyPmc_rset x a _ h

theorem onlyPmc_setPmc (x : LaneState) (c : Nat) (p : PmcCore) : OnlyPmc x (setPmc x c p) := by
  unfold setPmc; split <;> exact ⟨rfl, fun _ _ => rfl⟩

theorem onlyPmc_load (x : LaneState) (c n v : Nat) (hc : c ≤ 1) (hn : n ≤ 16) : OnlyPmc x (pmcLoad x c n v) :=
  onlyPmc_trans (onlyPmc_setPmc x c _) (onlyPmc_rset _ _ _ (by unfold offPmc Rg.PMC_CNTc_n_LO; omega))

theorem onlyPmc_add (fuel : Nat) (x : LaneState) (c n k : Nat) (hc : c ≤ 1) (hn : n + fuel ≤ 16) : OnlyPmc x (pmcAdd fuel x c n k) := by
  induction fuel generalizing x n k with
  | zero => exact onlyPmc_refl x
  | succ fuel ih =>
    unfold pmcAdd
    split
    · dsimp only
      have h0 := onlyPmc_load x c n ((pmcCount x c n + k) % 2 ^ 48) hc (by omega)
      split
      · exact h0
      · have h1 := onlyPmc_trans h0 (onlyPmc_fset (pmcLoad x c n ((pmcCount x c n + k) % 2 ^ 48)) (Rg.PMC_OVFc c) n n (b2n true) (by unfold offPmc Rg.PMC_OVFc; omega))
        have h2 : ∀ (p q : Bool) (m : Nat), OnlyPmc x
            (let l1 := if p then pmcAdd fuel (bset (pmcLoad x c n ((pmcCount x c n + k) % 2 ^ 48)) (Rg.PMC_OVFc c) n true) c (n + 1) m
                else bset (pmcLoad x c n ((pmcCount x c n + k) % 2 ^ 48)) (Rg.PMC_OVFc c) n true
             if q then bset l1 (Rg.PMC_CTRLc c) 8 true else l1) := by
          intro p q m
          have h3 := onlyPmc_trans h1 (ih _ (n + 1) m (by omega))
          cases p <;> cases q
          · exact h1
          · exact onlyPmc_trans h1 (onlyPmc_fset _ _ _ _ _ (by unfold offPmc Rg.PMC_CTRLc; omega))
          · exact h3
          · exact onlyPmc_trans h3 (onlyPmc_fset _ _ _ _ _ (by unfold offPmc Rg.PMC_CTRLc; omega))
        exact h2 _ _ _
    · exact onlyPmc_refl x

theorem onlyPmc_foldl {α : Type} (g : LaneState → α → LaneState) (as : List α) (hg : ∀ x, ∀ a ∈ as, OnlyPmc x (g x a)) (x : LaneState) :
    OnlyPmc x (as.foldl g x) := by
  induction as generalizing x with
  | nil => exact onlyPmc_refl x
  | cons a as ih => exact onlyPmc_trans (hg x a (by simp)) (ih (fun x b hb => hg x b (by simp [hb])) _)

theorem onlyPmc_events (x : LaneState) (c : Nat) (evs : List (Nat × Nat)) (hc : c ≤ 1) : OnlyPmc x (pmcEvents x c evs) := by
  unfold pmcEvents
  split
  · exact onlyPmc_refl x
  refine onlyPmc_foldl _ evs (fun y e _ => ?_) x
  unfold pmcEvent
  refine onlyPmc_foldl _ _ (fun z n hn => ?_) y
  rw [List.mem_range] at hn
  split
  · exact onlyPmc_add _ _ _ _ _ hc (by omega)
  · exact onlyPmc_refl z

theorem onlyPmc_interval (x : LaneState) (c : Nat) (hc : c ≤ 1) : OnlyPmc x (newInterval x c) := by
  unfold newInterval
  exact onlyPmc_trans (onlyPmc_rset _ _ _ (by unfold offPmc Rg.PMC_SEEDc; omega)) (onlyPmc_setPmc _ _ _)

theorem onlyPmc_put (x : LaneState) (c : Nat) (e : List Word) (hc : c ≤ 1) : OnlyPmc x (putSample x c e) := by
  unfold putSample
  exact onlyPmc_trans (onlyPmc_trans (onlyPmc_setPmc _ _ _) (onlyPmc_fset _ _ _ _ _ (by unfold offPmc Rg.PMC_SSTATc; omega)))
    (onlyPmc_fset _ _ _ _ _ (by unfold offPmc Rg.PMC_SSTATc; omega))

theorem onlyPmc_sample (x : LaneState) (c : Nat) (ip word : Word) (task : Nat) (retired : Bool) (region : Nat) (hc : c ≤ 1) :
    OnlyPmc x (pmcSample x c ip word task retired region) := by
  unfold pmcSample
  split
  · exact onlyPmc_refl x
  · have h0 : OnlyPmc x (if (pmcOf x c).left = 0 then newInterval x c else x) := by
      split
      · exact onlyPmc_interval x c hc
      · exact onlyPmc_refl x
    generalize (if (pmcOf x c).left = 0 then newInterval x c else x) = y at h0
    dsimp only
    split
    · exact onlyPmc_trans h0 (onlyPmc_setPmc _ _ _)
    · refine onlyPmc_trans h0 (onlyPmc_trans (onlyPmc_interval y c hc) ?_)
      split
      · exact onlyPmc_fset _ _ _ _ _ (by unfold offPmc Rg.PMC_SSKIPc; omega)
      · exact onlyPmc_put _ _ _ hc

theorem onlyPmc_retire (x : LaneState) (c : Nat) (aux : Bool) (slot : Nat) (handler retired : Bool) (ip word : Word) (region : Nat)
    (evs : List (Nat × Nat)) (hc : c ≤ 1) : OnlyPmc x (pmcRetire x c aux slot handler retired ip word region evs) := by
  unfold pmcRetire
  split
  · exact onlyPmc_trans (onlyPmc_events _ _ _ hc) (onlyPmc_sample _ _ _ _ _ _ _ hc)
  · exact onlyPmc_refl x

/-- Counting an instruction of the vital core changes the performance units alone. -/
theorem onlyPmc_vital (x : LaneState) (i : Instance) (handler retired : Bool) (ip word : Word) (region : Nat) (evs : List (Nat × Nat)) :
    OnlyPmc x (pmcVital x i handler retired ip word region evs) := by
  unfold pmcVital
  dsimp only
  split
  · exact onlyPmc_retire _ _ _ _ _ _ _ _ _ _ (by omega)
  · exact onlyPmc_trans (onlyPmc_retire _ _ _ _ _ _ _ _ _ _ (by omega)) (onlyPmc_retire _ _ _ _ _ _ _ _ _ _ (by omega))

end Sys2Proof.Machine
end

