-- ==== Sys2Proof/Laws/Queue.lean ====
section
/-! SUPPORT. No shared operation of the module touches the queue of commands. -/

namespace Sys2Proof.Machine

set_option linter.unusedTactic false
set_option linter.unreachableTactic false
set_option linter.unnecessarySeqFocus false

/-- A fold of steps that keep it keeps it. -/
@[simp] theorem foldl_pending {α : Type} (g : State → α → State) (l : List α) (s : State) (h : ∀ s x, (g s x).pending = s.pending) :
    (l.foldl g s).pending = s.pending := by
  induction l generalizing s with
  | nil => rfl
  | cons x l ih => simp [ih, h]

@[simp] theorem State.rsetAll_pending (s : State) (a : Nat) (v : Word) : (s.rsetAll a v).pending = s.pending := by
  first
  | (unfold State.rsetAll; (repeat' split) <;> simp; done)
  | (unfold State.rsetAll; dsimp only; (repeat' split) <;> simp; done)
@[simp] theorem State.fsetAll_pending (s : State) (a hi lo v : Nat) : (s.fsetAll a hi lo v).pending = s.pending := by
  first
  | (unfold State.fsetAll; (repeat' split) <;> simp; done)
  | (unfold State.fsetAll; dsimp only; (repeat' split) <;> simp; done)
@[simp] theorem State.takeItem_pending (s : State) (x : LaneState) (v : VItem) : (s.takeItem x v).pending = s.pending := by
  first
  | (unfold State.takeItem; (repeat' split) <;> simp; done)
  | (unfold State.takeItem; dsimp only; (repeat' split) <;> simp; done)
@[simp] theorem State.takeItems_pending (s : State) (x : Lane) : (s.takeItems x).pending = s.pending := by
  first
  | (unfold State.takeItems; (repeat' split) <;> simp; done)
  | (unfold State.takeItems; dsimp only; (repeat' split) <;> simp; done)
@[simp] theorem State.takeReports_pending (s : State) : (s.takeReports).pending = s.pending := by
  first
  | (unfold State.takeReports; (repeat' split) <;> simp; done)
  | (unfold State.takeReports; dsimp only; (repeat' split) <;> simp; done)
@[simp] theorem State.onLane_pending (s : State) (l : Lane) (f : LaneState → LaneState) : (s.onLane l f).pending = s.pending := by
  first
  | (unfold State.onLane; (repeat' split) <;> simp; done)
  | (unfold State.onLane; dsimp only; (repeat' split) <;> simp; done)
@[simp] theorem State.onLanes_pending (s : State) (f : LaneState → LaneState) : (s.onLanes f).pending = s.pending := by
  first
  | (unfold State.onLanes; (repeat' split) <;> simp; done)
  | (unfold State.onLanes; dsimp only; (repeat' split) <;> simp; done)
@[simp] theorem State.showEvr_pending (s : State) : (s.showEvr).pending = s.pending := by
  first
  | (unfold State.showEvr; (repeat' split) <;> simp; done)
  | (unfold State.showEvr; dsimp only; (repeat' split) <;> simp; done)
@[simp] theorem State.recordEvent_pending (s : State) (r : Report) : (s.recordEvent r).pending = s.pending := by
  unfold State.recordEvent; dsimp only; (repeat' split) <;> simp only [State.showEvr_pending, State.rsetAll_pending, State.mapLanes_pending]
@[simp] theorem State.record_pending (s : State) (r : Report) (now : Nat) : (s.record r now).pending = s.pending := by
  first
  | (unfold State.record; (repeat' split) <;> simp; done)
  | (unfold State.record; dsimp only; (repeat' split) <;> simp; done)
@[simp] theorem State.recordR_pending (s : State) (code data : Nat) : (s.recordR code data).pending = s.pending := by
  first
  | (unfold State.recordR; (repeat' split) <;> simp; done)
  | (unfold State.recordR; dsimp only; (repeat' split) <;> simp; done)
@[simp] theorem State.unfreeze_pending (s : State) : (s.unfreeze).pending = s.pending := by
  first
  | (unfold State.unfreeze; (repeat' split) <;> simp; done)
  | (unfold State.unfreeze; dsimp only; (repeat' split) <;> simp; done)
@[simp] theorem State.flushDefer_pending (s : State) : (s.flushDefer).pending = s.pending := by
  first
  | (unfold State.flushDefer; (repeat' split) <;> simp; done)
  | (unfold State.flushDefer; dsimp only; (repeat' split) <;> simp; done)
@[simp] theorem State.serveRead_pending (s : State) (x : Lane) : (s.serveRead x).pending = s.pending := by
  first
  | (unfold State.serveRead; (repeat' split) <;> simp; done)
  | (unfold State.serveRead; dsimp only; (repeat' split) <;> simp; done)
@[simp] theorem State.endSessions_pending (s : State) : (s.endSessions).pending = s.pending := by
  first
  | (unfold State.endSessions; (repeat' split) <;> simp; done)
  | (unfold State.endSessions; dsimp only; (repeat' split) <;> simp; done)
@[simp] theorem State.rmDown_pending (s : State) (why : Nat) : (s.rmDown why).pending = s.pending := by
  first
  | (unfold State.rmDown; (repeat' split) <;> simp; done)
  | (unfold State.rmDown; dsimp only; (repeat' split) <;> simp; done)
@[simp] theorem State.showFw_pending (s : State) : (s.showFw).pending = s.pending := by
  first
  | (unfold State.showFw; (repeat' split) <;> simp; done)
  | (unfold State.showFw; dsimp only; (repeat' split) <;> simp; done)
@[simp] theorem State.rmUp_pending (s : State) : (s.rmUp).pending = s.pending := by
  first
  | (unfold State.rmUp; (repeat' split) <;> simp; done)
  | (unfold State.rmUp; dsimp only; (repeat' split) <;> simp; done)
@[simp] theorem State.endSession_pending (s : State) (sid : Nat) : (s.endSession sid).pending = s.pending := by
  first
  | (unfold State.endSession; (repeat' split) <;> simp; done)
  | (unfold State.endSession; dsimp only; (repeat' split) <;> simp; done)
@[simp] theorem State.sendRm_pending (s : State) (m : RmMsg) : (s.sendRm m).pending = s.pending := by
  first
  | (unfold State.sendRm; (repeat' split) <;> simp; done)
  | (unfold State.sendRm; dsimp only; (repeat' split) <;> simp; done)
@[simp] theorem State.limitCheck_pending (s : State) (n : Nat) (v : Int) : (s.limitCheck n v).pending = s.pending := by
  first
  | (unfold State.limitCheck; (repeat' split) <;> simp; done)
  | (unfold State.limitCheck; dsimp only; (repeat' split) <;> simp; done)
@[simp] theorem State.tapCheck_pending (s : State) (l : Lane) (p : Nat) (differs : LaneState → Bool) : (s.tapCheck l p differs).pending = s.pending := by
  unfold State.tapCheck; split
  · apply foldl_pending; intro s x; split <;> simp
  · rfl
@[simp] theorem State.canTaps_pending (s : State) (l : Lane) (k : Nat) : (s.canTaps l k).pending = s.pending := by
  first
  | (unfold State.canTaps; (repeat' split) <;> simp; done)
  | (unfold State.canTaps; dsimp only; (repeat' split) <;> simp; done)
@[simp] theorem State.linkTaps_pending (s : State) (l : Lane) : (s.linkTaps l).pending = s.pending := by
  first
  | (unfold State.linkTaps; (repeat' split) <;> simp; done)
  | (unfold State.linkTaps; dsimp only; (repeat' split) <;> simp; done)
@[simp] theorem State.xcheck_pending (s : State) (c : MerClk) : (s.xcheck c).pending = s.pending := by
  unfold State.xcheck; dsimp only; split
  · apply foldl_pending; intro s x; split <;> simp
  · rfl
@[simp] theorem State.countOk_pending (s : State) : (s.countOk).pending = s.pending := by
  first
  | (unfold State.countOk; (repeat' split) <;> simp; done)
  | (unfold State.countOk; dsimp only; (repeat' split) <;> simp; done)
@[simp] theorem State.xpair_pending (s : State) : (s.xpair).pending = s.pending := by
  first
  | (unfold State.xpair; (repeat' split) <;> simp; done)
  | (unfold State.xpair; dsimp only; (repeat' split) <;> simp; done)
@[simp] theorem State.tick_pending (s : State) : (s.tick).pending = s.pending := by
  first
  | (unfold State.tick; (repeat' split) <;> simp; done)
  | (unfold State.tick; dsimp only; (repeat' split) <;> simp; done)
@[simp] theorem State.slotTaps_pending (s : State) (l : Lane) (entry : Nat) : (s.slotTaps l entry).pending = s.pending := by
  unfold State.slotTaps; simp only [List.foldl]; (repeat' split) <;> simp
@[simp] theorem State.syncTaps_pending (s : State) (l : Lane) : (s.syncTaps l).pending = s.pending := by
  unfold State.syncTaps; simp only [List.foldl]; (repeat' split) <;> simp
@[simp] theorem State.carAgree_pending (s : State) : (s.carAgree).pending = s.pending := by
  unfold State.carAgree; dsimp only; split
  · split
    · apply foldl_pending; intro s x; split <;> simp
    · rfl
  · rfl
@[simp] theorem State.mergeTaps_pending (s : State) (l : Lane) (port : Nat) : (s.mergeTaps l port).pending = s.pending := by
  first
  | (unfold State.mergeTaps; (repeat' split) <;> simp; done)
  | (unfold State.mergeTaps; dsimp only; (repeat' split) <;> simp; done)
@[simp] theorem State.ecnTaps_pending (s : State) (l : Lane) (port : Nat) : (s.ecnTaps l port).pending = s.pending := by
  first
  | (unfold State.ecnTaps; (repeat' split) <;> simp; done)
  | (unfold State.ecnTaps; dsimp only; (repeat' split) <;> simp; done)
@[simp] theorem State.arpTaps_pending (s : State) (l : Lane) (port : Nat) (ip : Word) (mac : Mac48) (sip : Word) : (s.arpTaps l port ip mac sip).pending = s.pending := by
  first
  | (unfold State.arpTaps; (repeat' split) <;> simp; done)
  | (unfold State.arpTaps; dsimp only; (repeat' split) <;> simp; done)
@[simp] theorem State.onVote_pending (s : State) (l : Lane) (f : LaneState → LaneState) : (s.onVote l f).pending = s.pending := by
  first
  | (unfold State.onVote; (repeat' split) <;> simp; done)
  | (unfold State.onVote; dsimp only; (repeat' split) <;> simp; done)
@[simp] theorem State.trapSafe_pending (s : State) : (s.trapSafe).pending = s.pending := by
  first
  | (unfold State.trapSafe; (repeat' split) <;> simp; done)
  | (unfold State.trapSafe; dsimp only; (repeat' split) <;> simp; done)
@[simp] theorem State.inVoting_pending (s : State) (f : LaneState → LaneState) : (s.inVoting f).pending = s.pending := by
  first
  | (unfold State.inVoting; (repeat' split) <;> simp; done)
  | (unfold State.inVoting; dsimp only; (repeat' split) <;> simp; done)
@[simp] theorem State.modeCmd_pending (s : State) (need : Bool) (src : CmdSrc) (goal : Mode) (from_ : List Mode) (f : LaneState → LaneState) : (s.modeCmd need src goal from_ f).pending = s.pending := by
  first
  | (unfold State.modeCmd; (repeat' split) <;> simp; done)
  | (unfold State.modeCmd; dsimp only; (repeat' split) <;> simp; done)
@[simp] theorem State.applyOp_pending (s : State) (o : RmOp) : (s.applyOp o).pending = s.pending := by cases o <;> simp [State.applyOp]
@[simp] theorem State.sendOp_pending (s : State) (o : RmOp) : (s.sendOp o).pending = s.pending := by
  first
  | (unfold State.sendOp; (repeat' split) <;> simp; done)
  | (unfold State.sendOp; dsimp only; (repeat' split) <;> simp; done)
@[simp] theorem State.runOps_pending (s : State) : (s.runOps).pending = s.pending := by
  unfold State.runOps; dsimp only; split
  · rfl
  · rw [foldl_pending]; intro s x; split <;> simp
@[simp] theorem State.serviceOnly_pending (s : State) (src : CmdSrc) (o : RmOp) : (s.serviceOnly src o).pending = s.pending := by
  first
  | (unfold State.serviceOnly; (repeat' split) <;> simp; done)
  | (unfold State.serviceOnly; dsimp only; (repeat' split) <;> simp; done)
@[simp] theorem State.forceCmd_pending (s : State) (src : CmdSrc) (o : RmOp) : (s.forceCmd src o).pending = s.pending := by
  first
  | (unfold State.forceCmd; (repeat' split) <;> simp; done)
  | (unfold State.forceCmd; dsimp only; (repeat' split) <;> simp; done)
@[simp] theorem State.askAgain_pending (s : State) (j : Lane) (b : Nat) : (s.askAgain j b).pending = s.pending := by
  first
  | (unfold State.askAgain; (repeat' split) <;> simp; done)
  | (unfold State.askAgain; dsimp only; (repeat' split) <;> simp; done)
theorem execFreeze_pending (fs : FreezeSrc) (c : CmdSrc) (s : State) : (resOr s (execFreeze fs c s)).pending = s.pending := by
  unfold execFreeze
  split
  · rfl
  · split
    · rw [resOr, State.answer_pending]
    · split
      · rw [resOr, State.answer_pending, State.showEvr_pending]; dsimp only; rw [State.fsetAll_pending]
      · rw [resOr, State.answer_pending]

theorem execUnfreeze_pending (fs : FreezeSrc) (s : State) : (resOr s (execUnfreeze fs s)).pending = s.pending := by
  unfold execUnfreeze; (repeat' split) <;> simp [resOr]

theorem execEvrReadStart_pending (l : Lane) (ag : Agent) (v : Word) (s : State) : (resOr s (execEvrReadStart l ag v s)).pending = s.pending := by
  unfold execEvrReadStart; dsimp only; (repeat' split) <;> simp [resOr]

@[simp] theorem execEvrReadNext_pending (l : Lane) (ag : Agent) (s : State) : (resOr s (execEvrReadNext l ag s)).pending = s.pending := by
  unfold execEvrReadNext; dsimp only; (repeat' split) <;> simp [resOr]

/-- The registers that act beyond a lane keep it too. -/
theorem State.auxReg_pending (s : State) (l : Lane) (o : Nat) (v : Word) (t : State) (h : s.auxReg l o v = some t) : t.pending = s.pending := by
  unfold State.auxReg at h
  split at h
  · cases h; simp [resOr, execEcnAuxKick]
  split at h
  · cases h; exact execEvrReadStart_pending l .x v s
  split at h
  · cases h
    have h1 : (if v.getLsbD 0 = true then resOr s (execFreeze .aux {} s) else s).pending = s.pending := by
      split
      · exact execFreeze_pending _ _ _
      · rfl
    split
    · rw [execUnfreeze_pending, h1]
    · exact h1
  split at h
  · cases h; simp [resOr, execAuxMessageSend]
  split at h
  · cases h; simp [resOr, execMbxAuxinAck]
  · cases h

/-- An auxiliary instruction keeps it when its effect within the lane does. -/
theorem State.auxActs_pending (s : State) (l : Lane) (i : Instr) (plain : State) (o : Op) (h : plain.pending = s.pending) :
    (s.auxActs l i plain o).pending = s.pending := by
  cases o with
  | load ea n k =>
    unfold State.auxActs
    dsimp only
    split
    · rw [State.onLane_pending, execEvrReadNext_pending]
    · exact h
  | store ea n v a =>
    unfold State.auxActs
    dsimp only
    split
    · rename_i g
      obtain ⟨r, _, hr⟩ := Option.bind_eq_some_iff.mp g
      rw [State.onLane_pending, State.auxReg_pending _ _ _ _ _ hr]
    · exact h
  | _ => exact h

@[simp] theorem State.auxRun_pending (s : State) (l : Lane) (i : Instr) (sem : Sem) : (s.auxRun l i sem).pending = s.pending := by
  unfold State.auxRun; exact State.auxActs_pending _ _ _ _ _ (State.onVote_pending _ _ _)
@[simp] theorem State.runJfi_pending (s : State) (u : CoreId) (i : Instr) (sem : Sem) : (s.runJfi u i sem).pending = s.pending := by
  first
  | (unfold State.runJfi; (repeat' split) <;> simp; done)
  | (unfold State.runJfi; dsimp only; (repeat' split) <;> simp; done)
@[simp] theorem State.lanesDown_pending (s : State) (hold : Bool) : (s.lanesDown hold).pending = s.pending := by
  first
  | (unfold State.lanesDown; (repeat' split) <;> simp; done)
  | (unfold State.lanesDown; dsimp only; (repeat' split) <;> simp; done)
@[simp] theorem State.switchSlot_pending (s : State) (t : ImgType) : (s.switchSlot t).pending = s.pending := by
  first
  | (unfold State.switchSlot; (repeat' split) <;> simp; done)
  | (unfold State.switchSlot; dsimp only; (repeat' split) <;> simp; done)
@[simp] theorem State.showBoot_pending (s : State) : (s.showBoot).pending = s.pending := by
  first
  | (unfold State.showBoot; (repeat' split) <;> simp; done)
  | (unfold State.showBoot; dsimp only; (repeat' split) <;> simp; done)
@[simp] theorem State.bootSlot_pending (s : State) : (s.bootSlot).pending = s.pending := by
  first
  | (unfold State.bootSlot; (repeat' split) <;> simp; done)
  | (unfold State.bootSlot; dsimp only; (repeat' split) <;> simp; done)
@[simp] theorem State.bootRm_pending (s : State) : (s.bootRm).pending = s.pending := by
  first
  | (unfold State.bootRm; (repeat' split) <;> simp; done)
  | (unfold State.bootRm; dsimp only; (repeat' split) <;> simp; done)
@[simp] theorem State.fallBackProv_pending (s : State) : (s.fallBackProv).pending = s.pending := by
  unfold State.fallBackProv; dsimp only; split
  · rfl
  · rw [foldl_pending]; intro s x; split <;> simp
@[simp] theorem State.setPwr_pending (s : State) (st idx : Nat) : (s.setPwr st idx).pending = s.pending := by
  first
  | (unfold State.setPwr; (repeat' split) <;> simp; done)
  | (unfold State.setPwr; dsimp only; (repeat' split) <;> simp; done)
@[simp] theorem State.setPhase_pending (s : State) (p : Nat) : (s.setPhase p).pending = s.pending := by
  first
  | (unfold State.setPhase; (repeat' split) <;> simp; done)
  | (unfold State.setPhase; dsimp only; (repeat' split) <;> simp; done)
@[simp] theorem State.setFail_pending (s : State) (code blk : Nat) : (s.setFail code blk).pending = s.pending := by
  first
  | (unfold State.setFail; (repeat' split) <;> simp; done)
  | (unfold State.setFail; dsimp only; (repeat' split) <;> simp; done)
@[simp] theorem State.startLanes_pending (s : State) : (s.startLanes).pending = s.pending := by
  first
  | (unfold State.startLanes; (repeat' split) <;> simp; done)
  | (unfold State.startLanes; dsimp only; (repeat' split) <;> simp; done)
@[simp] theorem State.beginStart_pending (s : State) (cause : Nat) : (s.beginStart cause).pending = s.pending := by
  first
  | (unfold State.beginStart; (repeat' split) <;> simp; done)
  | (unfold State.beginStart; dsimp only; (repeat' split) <;> simp; done)
@[simp] theorem State.restart_pending (s : State) (cause : Nat) : (s.restart cause).pending = s.pending := by
  first
  | (unfold State.restart; (repeat' split) <;> simp; done)
  | (unfold State.restart; dsimp only; (repeat' split) <;> simp; done)
@[simp] theorem State.startFailed_pending (s : State) (code blk : Nat) : (s.startFailed code blk).pending = s.pending := by
  first
  | (unfold State.startFailed; (repeat' split) <;> simp; done)
  | (unfold State.startFailed; dsimp only; (repeat' split) <;> simp; done)
@[simp] theorem State.enterSnet_pending (s : State) (cause : Nat) : (s.enterSnet cause).pending = s.pending := by
  first
  | (unfold State.enterSnet; (repeat' split) <;> simp; done)
  | (unfold State.enterSnet; dsimp only; (repeat' split) <;> simp; done)
@[simp] theorem State.countUp_pending (s : State) (ts : List ImgType) : (s.countUp ts).pending = s.pending := by
  first
  | (unfold State.countUp; (repeat' split) <;> simp; done)
  | (unfold State.countUp; dsimp only; (repeat' split) <;> simp; done)
@[simp] theorem State.failSlots_pending (s : State) (ts others : List ImgType) (code cause : Nat) : (s.failSlots ts others code cause).pending = s.pending := by
  first
  | (unfold State.failSlots; (repeat' split) <;> simp; done)
  | (unfold State.failSlots; dsimp only; (repeat' split) <;> simp; done)
@[simp] theorem State.imagesFail_pending (s : State) (ts : List ImgType) (code : Nat) : (s.imagesFail ts code).pending = s.pending := by
  first
  | (unfold State.imagesFail; (repeat' split) <;> simp; done)
  | (unfold State.imagesFail; dsimp only; (repeat' split) <;> simp; done)
@[simp] theorem State.recordRestart_pending (s : State) : (s.recordRestart).pending = s.pending := by
  first
  | (unfold State.recordRestart; (repeat' split) <;> simp; done)
  | (unfold State.recordRestart; dsimp only; (repeat' split) <;> simp; done)
@[simp] theorem State.testsEnded_pending (s : State) : (s.testsEnded).pending = s.pending := by
  first
  | (unfold State.testsEnded; (repeat' split) <;> simp; done)
  | (unfold State.testsEnded; dsimp only; (repeat' split) <;> simp; done)
@[simp] theorem State.imagePasses_pending (s : State) (t : ImgType) : (s.imagePasses t).pending = s.pending := by
  first
  | (unfold State.imagePasses; (repeat' split) <;> simp; done)
  | (unfold State.imagePasses; dsimp only; (repeat' split) <;> simp; done)
@[simp] theorem State.reachStop_pending (s : State) : (s.reachStop).pending = s.pending := by
  first
  | (unfold State.reachStop; (repeat' split) <;> simp; done)
  | (unfold State.reachStop; dsimp only; (repeat' split) <;> simp; done)
@[simp] theorem State.noSupply_pending (s : State) : (s.noSupply).pending = s.pending := by
  first
  | (unfold State.noSupply; (repeat' split) <;> simp; done)
  | (unfold State.noSupply; dsimp only; (repeat' split) <;> simp; done)
@[simp] theorem State.flushPending_pending (s : State) : (s.flushPending).pending = s.pending := by
  first
  | (unfold State.flushPending; (repeat' split) <;> simp; done)
  | (unfold State.flushPending; dsimp only; (repeat' split) <;> simp; done)
@[simp] theorem State.sendSnet_pending (s : State) (op : Nat) (m : SnetMsg) : (s.sendSnet op m).pending = s.pending := by
  first
  | (unfold State.sendSnet; (repeat' split) <;> simp; done)
  | (unfold State.sendSnet; dsimp only; (repeat' split) <;> simp; done)
@[simp] theorem State.sendRead_pending (s : State) (o : SnetOffer) : (s.sendRead o).pending = s.pending := by
  first
  | (unfold State.sendRead; (repeat' split) <;> simp; done)
  | (unfold State.sendRead; dsimp only; (repeat' split) <;> simp; done)
@[simp] theorem State.writeSnet_pending (s : State) (t : ImgType) (img : Bytes) : (s.writeSnet t img).pending = s.pending := by
  first
  | (unfold State.writeSnet; (repeat' split) <;> simp; done)
  | (unfold State.writeSnet; dsimp only; (repeat' split) <;> simp; done)
@[simp] theorem State.leaveSnet_pending (s : State) : (s.leaveSnet).pending = s.pending := by
  first
  | (unfold State.leaveSnet; (repeat' split) <;> simp; done)
  | (unfold State.leaveSnet; dsimp only; (repeat' split) <;> simp; done)
@[simp] theorem State.outcome_pending (s : State) (kind blk cause target : Nat) : (s.outcome kind blk cause target).pending = s.pending := by
  first
  | (unfold State.outcome; (repeat' split) <;> simp; done)
  | (unfold State.outcome; dsimp only; (repeat' split) <;> simp; done)
@[simp] theorem State.toOff_pending (s : State) : (s.toOff).pending = s.pending := by
  first
  | (unfold State.toOff; (repeat' split) <;> simp; done)
  | (unfold State.toOff; dsimp only; (repeat' split) <;> simp; done)
@[simp] theorem State.toDormant_pending (s : State) (r436 : Bool) : (s.toDormant r436).pending = s.pending := by
  first
  | (unfold State.toDormant; (repeat' split) <;> simp; done)
  | (unfold State.toDormant; dsimp only; (repeat' split) <;> simp; done)
@[simp] theorem State.setPending_pending (s : State) (t : Option Nat) : (s.setPending t).pending = s.pending := by
  first
  | (unfold State.setPending; (repeat' split) <;> simp; done)
  | (unfold State.setPending; dsimp only; (repeat' split) <;> simp; done)
@[simp] theorem State.request_pending (s : State) (t : Nat) : (s.request t).pending = s.pending := by
  first
  | (unfold State.request; (repeat' split) <;> simp; done)
  | (unfold State.request; dsimp only; (repeat' split) <;> simp; done)
@[simp] theorem State.evalPending_pending (s : State) : (s.evalPending).pending = s.pending := by
  first
  | (unfold State.evalPending; (repeat' split) <;> simp; done)
  | (unfold State.evalPending; dsimp only; (repeat' split) <;> simp; done)
@[simp] theorem State.endAbort_pending (s : State) : (s.endAbort).pending = s.pending := by
  first
  | (unfold State.endAbort; (repeat' split) <;> simp; done)
  | (unfold State.endAbort; dsimp only; (repeat' split) <;> simp; done)
@[simp] theorem State.endEntry_pending (s : State) (blk cause : Nat) (lane : Lane) : (s.endEntry blk cause lane).pending = s.pending := by
  first
  | (unfold State.endEntry; (repeat' split) <;> simp; done)
  | (unfold State.endEntry; dsimp only; (repeat' split) <;> simp; done)
@[simp] theorem State.gatePart_pending (s : State) (p : Nat) : (s.gatePart p).pending = s.pending := by
  first
  | (unfold State.gatePart; (repeat' split) <;> simp; done)
  | (unfold State.gatePart; dsimp only; (repeat' split) <;> simp; done)
@[simp] theorem State.startWake_pending (s : State) : (s.startWake).pending = s.pending := by
  first
  | (unfold State.startWake; (repeat' split) <;> simp; done)
  | (unfold State.startWake; dsimp only; (repeat' split) <;> simp; done)
@[simp] theorem State.wake_pending (s : State) (bit : Nat) : (s.wake bit).pending = s.pending := by
  first
  | (unfold State.wake; (repeat' split) <;> simp; done)
  | (unfold State.wake; dsimp only; (repeat' split) <;> simp; done)
@[simp] theorem State.type4_pending (s : State) (port : Nat) (e : Emit) : (s.type4 port e).pending = s.pending := by
  first
  | (unfold State.type4; (repeat' split) <;> simp; done)
  | (unfold State.type4; dsimp only; (repeat' split) <;> simp; done)
@[simp] theorem State.type4All_pending (s : State) (e : Nat → Emit) : (s.type4All e).pending = s.pending := by
  first
  | (unfold State.type4All; (repeat' split) <;> simp; done)
  | (unfold State.type4All; dsimp only; (repeat' split) <;> simp; done)
@[simp] theorem State.showUpd_pending (s : State) : (s.showUpd).pending = s.pending := by
  first
  | (unfold State.showUpd; (repeat' split) <;> simp; done)
  | (unfold State.showUpd; dsimp only; (repeat' split) <;> simp; done)
@[simp] theorem State.setStaging_pending (s : State) (t : ImgType) (g : Option Staging) : (s.setStaging t g).pending = s.pending := by
  first
  | (unfold State.setStaging; (repeat' split) <;> simp; done)
  | (unfold State.setStaging; dsimp only; (repeat' split) <;> simp; done)
@[simp] theorem State.setSpare_pending (s : State) (t : ImgType) (v : Slot) : (s.setSpare t v).pending = s.pending := by
  first
  | (unfold State.setSpare; (repeat' split) <;> simp; done)
  | (unfold State.setSpare; dsimp only; (repeat' split) <;> simp; done)
@[simp] theorem State.askChunk_pending (s : State) (g : Staging) : (s.askChunk g).pending = s.pending := by
  first
  | (unfold State.askChunk; (repeat' split) <;> simp; done)
  | (unfold State.askChunk; dsimp only; (repeat' split) <;> simp; done)
@[simp] theorem State.abandonStaging_pending (s : State) (g : Staging) : (s.abandonStaging g).pending = s.pending := by
  first
  | (unfold State.abandonStaging; (repeat' split) <;> simp; done)
  | (unfold State.abandonStaging; dsimp only; (repeat' split) <;> simp; done)
@[simp] theorem State.turnAway_pending (s : State) (g : Staging) : (s.turnAway g).pending = s.pending := by
  first
  | (unfold State.turnAway; (repeat' split) <;> simp; done)
  | (unfold State.turnAway; dsimp only; (repeat' split) <;> simp; done)
@[simp] theorem State.finishSlot_pending (s : State) (t : ImgType) (img : Bytes) : (s.finishSlot t img).pending = s.pending := by
  first
  | (unfold State.finishSlot; (repeat' split) <;> simp; done)
  | (unfold State.finishSlot; dsimp only; (repeat' split) <;> simp; done)
@[simp] theorem State.takeChunk_pending (s : State) (g : Staging) (crc : Word) : (s.takeChunk g crc).pending = s.pending := by
  first
  | (unfold State.takeChunk; (repeat' split) <;> simp; done)
  | (unfold State.takeChunk; dsimp only; (repeat' split) <;> simp; done)
@[simp] theorem State.setReady_pending (s : State) (v : DWord) : (s.setReady v).pending = s.pending := by
  first
  | (unfold State.setReady; (repeat' split) <;> simp; done)
  | (unfold State.setReady; dsimp only; (repeat' split) <;> simp; done)
@[simp] theorem State.setOrder_pending (s : State) (o : OrderState) : (s.setOrder o).pending = s.pending := by
  first
  | (unfold State.setOrder; (repeat' split) <;> simp; done)
  | (unfold State.setOrder; dsimp only; (repeat' split) <;> simp; done)
@[simp] theorem State.ownReady_pending (s : State) (o : OrderState) : (s.ownReady o).pending = s.pending := by
  first
  | (unfold State.ownReady; (repeat' split) <;> simp; done)
  | (unfold State.ownReady; dsimp only; (repeat' split) <;> simp; done)
@[simp] theorem State.decide__pending (s : State) (o : OrderState) (go : Bool) : (s.decide_ o go).pending = s.pending := by
  first
  | (unfold State.decide_; (repeat' split) <;> simp; done)
  | (unfold State.decide_; dsimp only; (repeat' split) <;> simp; done)
@[simp] theorem State.readyNow_pending (s : State) : (s.readyNow).pending = s.pending := by
  first
  | (unfold State.readyNow; (repeat' split) <;> simp; done)
  | (unfold State.readyNow; dsimp only; (repeat' split) <;> simp; done)
@[simp] theorem State.orderCycle_pending (s : State) : (s.orderCycle).pending = s.pending := by
  first
  | (unfold State.orderCycle; (repeat' split) <;> simp; done)
  | (unfold State.orderCycle; dsimp only; (repeat' split) <;> simp; done)
@[simp] theorem State.switchSet_pending (s : State) (o : UpdOrder) : (s.switchSet o).pending = s.pending := by
  first
  | (unfold State.switchSet; (repeat' split) <;> simp; done)
  | (unfold State.switchSet; dsimp only; (repeat' split) <;> simp; done)
@[simp] theorem State.activated_pending (s : State) (o : OrderState) : (s.activated o).pending = s.pending := by
  first
  | (unfold State.activated; (repeat' split) <;> simp; done)
  | (unfold State.activated; dsimp only; (repeat' split) <;> simp; done)
@[simp] theorem State.activateRestart_pending (s : State) (o : OrderState) : (s.activateRestart o).pending = s.pending := by
  first
  | (unfold State.activateRestart; (repeat' split) <;> simp; done)
  | (unfold State.activateRestart; dsimp only; (repeat' split) <;> simp; done)

end Sys2Proof.Machine
end

