-- ==== Sys2Proof/Laws/Frame.lean ====
section
/-! SUPPORT. What a command that reaches one lane leaves alone, and what Ringmaster's taking of reports changes. -/

namespace Sys2Proof.Machine

theorem sameButMail_refl (x : LaneState) : SameButMail x x := ⟨rfl, fun _ _ => rfl⟩

theorem sameButMail_trans {x y z : LaneState} (h : SameButMail x y) (g : SameButMail y z) : SameButMail x z := by
  refine ⟨?_, fun a ha => (g.2 a ha).trans (h.2 a ha)⟩
  rw [g.1, h.1]

theorem sameButReports_refl (r : RmState) : SameButReports r r := rfl

theorem sameButReports_trans {r p q : RmState} (h : SameButReports r p) (g : SameButReports p q) : SameButReports r q := by
  unfold SameButReports at *
  rw [g, h]

/-- Taking one item changes Ringmaster alone. -/
theorem State.takeItem_lane (s : State) (x : LaneState) (v : VItem) (y : Lane) : (s.takeItem x v).lane y = s.lane y := by
  cases y <;> (unfold State.takeItem; dsimp only; (repeat' split) <;> rfl)

theorem State.takeItem_rm (s : State) (x : LaneState) (v : VItem) : SameButReports s.rm (s.takeItem x v).rm := by
  unfold State.takeItem; dsimp only; (repeat' split) <;> rfl

theorem foldl_takeItem (vs : List VItem) (x : LaneState) (s : State) :
    (∀ y, (vs.foldl (fun s v => s.takeItem x v) s).lane y = s.lane y) ∧ SameButReports s.rm (vs.foldl (fun s v => s.takeItem x v) s).rm := by
  induction vs generalizing s with
  | nil => exact ⟨fun _ => rfl, sameButReports_refl _⟩
  | cons v vs ih =>
    obtain ⟨h, g⟩ := ih (s.takeItem x v)
    refine ⟨fun y => ?_, sameButReports_trans (State.takeItem_rm s x v) g⟩
    simp only [List.foldl_cons]
    rw [h, State.takeItem_lane]

theorem State.takeItems_lane (s : State) (x y : Lane) : SameButMail (s.lane y) ((s.takeItems x).lane y) := by
  unfold State.takeItems
  rw [(foldl_takeItem _ _ _).1]
  by_cases h : y = x
  · subst h; rw [State.setLane_same]; exact ⟨rfl, fun _ _ => rfl⟩
  · rw [State.setLane_other _ _ _ _ h]; exact sameButMail_refl _

theorem State.takeItems_rm (s : State) (x : Lane) : SameButReports s.rm (s.takeItems x).rm := by
  unfold State.takeItems
  have := (foldl_takeItem ((s.lane x).mbx.itq.filter (fun v => v.q.stream == 0x600)) (s.lane x)
    (s.setLane x { s.lane x with mbx := { (s.lane x).mbx with itq := (s.lane x).mbx.itq.filter (fun v => v.q.stream != 0x600) } })).2
  rwa [State.setLane_rm] at this

/-- Emptying the queue of reports changes the mailbox block alone. -/
theorem mail_taken (l : LaneState) : SameButMail l (fset { l with mbx := { l.mbx with evq := [] } } Rg.MBX_STATUS 11 4 0) := by
  refine ⟨rfl, fun a ha => ?_⟩
  unfold fset
  rw [rget_rset_other _ _ _ _ ha]
  rfl

/-- Taking reports leaves of a lane everything but its mailbox block. -/
theorem State.takeReports_lane (s : State) (y : Lane) : SameButMail (s.lane y) (s.takeReports.lane y) := by
  unfold State.takeReports
  split
  · simp only [allLanes, List.foldl_cons, List.foldl_nil]
    refine sameButMail_trans ?_ (State.takeItems_lane _ _ _)
    refine sameButMail_trans ?_ (State.takeItems_lane _ _ _)
    refine sameButMail_trans ?_ (State.takeItems_lane _ _ _)
    cases y
    · exact mail_taken s.la
    · exact mail_taken s.lb
    · exact mail_taken s.lc
  · exact sameButMail_refl _

/-- Taking reports leaves of Ringmaster everything but its reports, what it took and its status. -/
theorem State.takeReports_rm (s : State) : SameButReports s.rm s.takeReports.rm := by
  unfold State.takeReports
  split
  · simp only [allLanes, List.foldl_cons, List.foldl_nil]
    refine sameButReports_trans ?_ (State.takeItems_rm _ _)
    refine sameButReports_trans ?_ (State.takeItems_rm _ _)
    refine sameButReports_trans ?_ (State.takeItems_rm _ _)
    rfl
  · exact sameButReports_refl _

theorem State.takeItem_freeCtr (s : State) (x : LaneState) (v : VItem) : (s.takeItem x v).freeCtr = s.freeCtr := by
  unfold State.takeItem; dsimp only; (repeat' split) <;> rfl

theorem State.takeItems_freeCtr (s : State) (x : Lane) : (s.takeItems x).freeCtr = s.freeCtr := by
  unfold State.takeItems
  have h : ∀ (vs : List VItem) (z : LaneState) (s : State), (vs.foldl (fun s v => s.takeItem z v) s).freeCtr = s.freeCtr := by
    intro vs z
    induction vs with
    | nil => intro s; rfl
    | cons v vs ih => intro s; rw [List.foldl_cons, ih, State.takeItem_freeCtr]
  rw [h, State.setLane_freeCtr]

theorem State.takeReports_freeCtr (s : State) : s.takeReports.freeCtr = s.freeCtr := by
  unfold State.takeReports
  split
  · simp only [allLanes, List.foldl_cons, List.foldl_nil, State.takeItems_freeCtr]; rfl
  · rfl

/-- A command that reaches one lane changes only that lane, and that lane as its effect says. -/
theorem State.onLane_only (s : State) (l : Lane) (f : LaneState → LaneState) :
    OnlyLane l s (s.onLane l f) ∧ SameButMail (f (s.lane l)) ((s.onLane l f).lane l) := by
  unfold State.onLane
  refine ⟨⟨fun x hx => ?_, ?_, ?_, ?_⟩, ?_⟩
  · have := State.takeReports_lane (s.setLane l (f (s.lane l))) x
    rwa [State.setLane_other _ _ _ _ hx] at this
  · have := State.takeReports_rm (s.setLane l (f (s.lane l)))
    rwa [State.setLane_rm] at this
  · rw [State.takeReports_freeCtr, State.setLane_freeCtr]
  · rw [State.takeReports_pending, State.setLane_pending]
  · have := State.takeReports_lane (s.setLane l (f (s.lane l))) l
    rwa [State.setLane_same] at this

end Sys2Proof.Machine
end

