-- ==== Sys2Proof/Laws/Vote.lean ====
section
/-! SUPPORT. What a command that may release vote items leaves alone, and what it comes to where none waits. -/

namespace Sys2Proof.Machine

/-- With no item waiting the voter leaves a lane as it is. -/
theorem settleAll_calm (sends : Nat → Bool) (l : LaneState) (h : Calm l) : settleAll sends l = l := by
  obtain ⟨h1, h2, h3⟩ := h
  unfold settleAll
  simp only [h1, h2, h3, List.length_nil]
  unfold settle
  simp [h1, nextApply, h2, heldStreams, h3, addNew, releaseFirst]

/-- A lane whose taps took more differs from what it was in its taps alone. -/
theorem tapped_only (y w : LaneState) (ts : List (Nat × Word)) (h : SameButMail { y with tri := { y.tri with taps := ts } } w) :
    SameButMail { y with tri := w.tri } w ∧ w.tri = { y.tri with taps := w.tri.taps } := by
  obtain ⟨h1, h2⟩ := h
  have ht : w.tri = { y.tri with taps := ts } := congrArg LaneState.tri h1
  rw [ht]
  exact ⟨⟨h1, h2⟩, rfl⟩

/-- Passing on what left changes a lane's taps alone. -/
theorem passTaps_only (l : Lane) (new : List (Nat × Word)) (y w : LaneState) (h : SameButMail (passTaps l new y) w) :
    SameButMail { y with tri := w.tri } w ∧ w.tri = { y.tri with taps := w.tri.taps } := by
  unfold passTaps at h
  split at h
  · exact tapped_only y w y.tri.taps h
  · exact tapped_only y w _ h

/-- A command that may release items reaches its own lane alone, but for the taps of the others. -/
theorem State.onVote_only (s : State) (l : Lane) (f : LaneState → LaneState) : OnlyVoter l s (s.onVote l f) := by
  unfold State.onVote
  dsimp only
  generalize settleAll (s.sends l) (f (s.lane l)) = z
  generalize z.tri.taps.filter (fun t => !(s.lane l).tri.taps.contains t) = new
  refine ⟨fun x hx => ?_, ?_, ?_, ?_⟩
  · have h := State.takeReports_lane ((s.setLane l z).mapLanes (passTaps l new)) x
    rw [State.mapLanes_lane, State.setLane_other _ _ _ _ hx] at h
    exact passTaps_only l new _ _ h
  · have := State.takeReports_rm ((s.setLane l z).mapLanes (passTaps l new))
    rwa [State.mapLanes_rm, State.setLane_rm] at this
  · rw [State.takeReports_freeCtr, State.mapLanes_freeCtr, State.setLane_freeCtr]
  · rw [State.takeReports_pending, State.mapLanes_pending, State.setLane_pending]

/-- With nothing to settle the lane becomes what the effect says. -/
theorem State.onVote_calm (s : State) (l : Lane) (f : LaneState → LaneState) (h : Calm (f (s.lane l))) (hi : (f (s.lane l)).id = l) :
    SameButMail (f (s.lane l)) ((s.onVote l f).lane l) := by
  unfold State.onVote
  rw [settleAll_calm _ _ h]
  have := State.takeReports_lane ((s.setLane l (f (s.lane l))).mapLanes
    (passTaps l ((f (s.lane l)).tri.taps.filter (fun t => !(s.lane l).tri.taps.contains t)))) l
  rwa [State.mapLanes_lane, State.setLane_same, passTaps, if_pos hi] at this

end Sys2Proof.Machine
end

