-- ==== Sys2Proof/Laws/Core.lean ====
section
/-! SUPPORT. What one instruction does to its lane when it retires: beside its own result the fetch, the comparison, the counters and the vote change the performance units and the mailbox block alone. -/

namespace Sys2Proof.Machine

theorem groups_equal (g n v : Nat) : (groupsFrom g n v v).find? (fun x => x.2.1 != x.2.2) = none := by
  rw [List.find?_eq_none]
  intro x hx
  simp only [groupsFrom, List.mem_map] at hx
  obtain ⟨j, _, rfl⟩ := hx
  simp

/-- Cores that send out the same agree (08 R177). -/
theorem opDiff_same (ip : Addr40) (a : Sig) : opDiff ip ip a a = none := by
  unfold opDiff
  simp only [Option.map_eq_none_iff, List.find?_append, groups_equal]
  simp

/-- A range without errors reads without effect. -/
theorem eccRange_clean (l : LaneState) (a n src : Nat) (h : l.ecc.errs = [] ∧ l.ecc.poison = []) : eccRange l a n src = (l, false) := by
  simp [eccRange, h.1, h.2, addNew]

/-- Letting the running instance past a breakpoint changes instances alone. -/
theorem passed_insts (x : LaneState) : passed x = { x with exe := { x.exe with insts := (passed x).exe.insts } } := by
  unfold passed updRun updInst
  split <;> rfl

/-- The running instance stays the one it is. -/
theorem passed_run (x : LaneState) : runInst (passed x) = (runInst x).map (fun i => { i with resumed := false }) := by
  unfold runInst passed updRun
  cases hr : x.exe.running with
  | none => simp [hr]
  | some t =>
    simp only [updInst, hr, Option.bind_some, instOf, List.find?_map]
    generalize x.exe.insts = is
    induction is with
    | nil => rfl
    | cons i is ih =>
      simp only [List.find?_cons, Function.comp]
      by_cases hi : (i.slot == t && !i.done && !i.ended) = true
      · rw [if_pos hi, hi]
        simp only [Option.map_some, if_pos hi]
      · rw [Bool.not_eq_true] at hi
        simp only [hi, Bool.false_eq_true, if_false]
        exact ih

/-- Whether ARITH traps stays as it is. -/
theorem passed_arith (x : LaneState) : arithTrap (passed x) = arithTrap x := by
  unfold arithTrap
  rw [passed_run, passed_insts]
  cases runInst x <;> rfl

/-- An instruction of the vital core that comes to a next lane and next registers retires so. -/
theorem vitalStep_done (i : Instr) (sem : Sem) (x z : LaneState) (inst : Instance) (c a : CoreCtx) (o : Op) (e : Bool) (h : VitalAt x inst c)
    (hs : sem (vitalEnv x false) c = o) (hop : vitalOp (passed x) inst o o = .done z a a e) (ha : e = true → arithTrap x = false) :
    OnlyPmc (setCtx z (withE e a) (withE e a)) (vitalStep i sem false x) := by
  have hz := passed_arith x
  unfold vitalStep
  simp only [h.inst, h.clear, Bool.false_eq_true, if_false]
  change OnlyPmc _ (match opDiff (passed x).c0.ctx.ip _ _ _ with | some d => _ | none => _)
  have hu := passed_insts x
  generalize hx : passed x = y at hop hz hu ⊢
  have c0 : y.c0.ctx = c := by rw [hu, h.ctx0]
  have c1 : y.c1 = x.c1 := by rw [hu]
  have ec : y.ecc = x.ecc := by rw [hu]
  have hv : vitalEnv y false = vitalEnv x false := by rw [hu]; rfl
  have ho : outOfComparison y = outOfComparison x := by rw [hu]; rfl
  have hp : isSplit y = isSplit x := by rw [hu]; rfl
  have hf : vitalFetch y c.ip.toNat = vitalFetch x c.ip.toNat := by rw [hu]; rfl
  have h0 : sem (vitalEnv y false) c = o := by rw [hv, hs]
  have h1 : (if (isSplit y || outOfComparison y) = true then o else sem (vitalEnv y false) y.c1.ctx) = o := by
    rw [hp, ho, hv, c1]
    split
    · rfl
    · rename_i hn
      rw [h.ctx1 (by simpa using hn), hs]
  have h2 : (if (isSplit y || outOfComparison y) = true then c.ip else y.c1.ctx.ip) = c.ip := by
    rw [hp, ho, c1]
    split
    · rfl
    · rename_i hn
      rw [h.ctx1 (by simpa using hn)]
  have h3 : (e && arithTrap y) = false := by
    cases e
    · rfl
    · rw [hz, ha rfl]; rfl
  unfold passed at hx
  simp only [hx, c0, h0, h1, h2, opDiff_same, hf, h.code, Bool.not_true, Bool.false_eq_true, if_false,
    eccRange_clean y _ _ _ (by rw [ec]; exact h.clean), hop, vitalRetire, h3, h.idle, Option.isSome_none]
  exact onlyPmc_vital _ _ _ _ _ _ _ _

/-- An instruction of the auxiliary core that comes to a next lane and next registers retires so. -/
theorem auxStep_done (i : Instr) (sem : Sem) (own : Bool) (x z : LaneState) (c a b : CoreCtx) (o : Op) (e : Bool) (h : AuxAt x c)
    (hs : sem (auxEnv x) c = o) (hop : auxOp x own o = .done z a b e) :
    OnlyPmc { z with c1 := { z.c1 with ctx := withE e a } } (auxStep i sem own x) := by
  unfold auxStep
  simp only [h.ctx, hs, h.code, Bool.not_true, Bool.false_eq_true, if_false, eccRange_clean x _ _ _ h.clean, hop, auxRetire]
  exact onlyPmc_retire _ _ _ _ _ _ _ _ _ _ (by omega)

/-- Counting and the passing on of reports together. -/
theorem counted_of {x y z : LaneState} (h : OnlyPmc x y) (g : SameButMail y z) : Counted x z := by
  refine ⟨by rw [g.1, h.1], fun a ha => ?_⟩
  unfold counterReg at ha
  simp only [Bool.or_eq_false_iff, beq_eq_false_iff_ne, Bool.and_eq_false_iff, decide_eq_false_iff_not] at ha
  rw [g.2 a ha.1, h.2 a (by unfold offPmc; omega)]

/-- An instruction whose effect is a lane `z` and registers `a` retires so, on either core. -/
theorem runJfi_done (s : State) (u : CoreId) (i : Instr) (sem : Sem) (inst : Instance) (z : LaneState) (c a : CoreCtx) (o : Op) (e : Bool)
    (h : CoreAt u inst c s) (hs : sem (coreEnv u (s.lane u.lane)) c = o)
    (hv : u.core1 = false → vitalOp (passed (s.lane u.lane)) inst o o = .done (passed z) a a e)
    (hx : u.core1 = true → auxOp (s.lane u.lane) (s.sends u.lane 7) o = .done z a a e ∧ ∀ p, s.auxActs u.lane i p o = p)
    (htri : z.tri = (s.lane u.lane).tri) (hid : z.id = (s.lane u.lane).id) (he : e = true → SetsE u s) :
    ∃ t, s.runJfi u i sem = t ∧ OnlyVoter u.lane s t ∧ Counted (afterCore u z (withE e a)) (t.lane u.lane) := by
  obtain ⟨l, k⟩ := u
  obtain ⟨h0, h1⟩ := h
  have key : ∀ (g : LaneState → LaneState) (y : LaneState), OnlyPmc y (g (s.lane l)) → y.tri = (s.lane l).tri → y.id = l → Calm (s.lane l) →
      OnlyVoter l s (s.onVote l g) ∧ Counted y ((s.onVote l g).lane l) := by
    intro g y hy ht hi hc
    refine ⟨State.onVote_only s l g, counted_of hy (State.onVote_calm s l g ?_ ?_)⟩
    · have : (g (s.lane l)).tri = (s.lane l).tri := by rw [hy.1, ← ht]
      unfold Calm at *
      rw [this]; exact hc
    · rw [hy.1, ← hi]
  cases k with
  | true =>
    simp only [if_true] at h1
    obtain ⟨hop, hact⟩ := hx rfl
    have hr : s.runJfi ⟨l, true⟩ i sem = s.onVote l (auxStep i sem (s.sends l 7)) := by
      unfold State.runJfi
      have hs' : sem (auxEnv (s.lane l)) c = o := hs
      simp only [h1.runs, h1.free, Bool.not_false, Bool.and_self, if_true, State.auxRun, h1.ctx, hs', hact]
    have hd := auxStep_done i sem (s.sends l 7) (s.lane l) z c a a o e h1 hs hop
    exact ⟨_, hr, key _ _ hd htri (hid.trans h0) h1.calm⟩
  | false =>
    simp only [Bool.false_eq_true, if_false] at h1
    have hr : s.runJfi ⟨l, false⟩ i sem = s.onVote l (vitalStep i sem false) := by
      unfold State.runJfi
      simp [h1.runs, h1.free]
    have hd := vitalStep_done i sem (s.lane l) (passed z) inst c a o e h1 hs (hv rfl) (fun q => (he q).resolve_left (by simp))
    refine ⟨_, hr, key _ _ hd ?_ ?_ h1.calm⟩
    · change (passed z).tri = _
      rw [passed_insts]; exact htri
    · change (passed z).id = _
      rw [passed_insts]; exact hid.trans h0

/-- An instruction that changes registers of its core alone retires with them, on either core. -/
theorem runJfi_fin (s : State) (u : CoreId) (i : Instr) (sem : Sem) (inst : Instance) (c a : CoreCtx) (e : Bool)
    (h : CoreAt u inst c s) (hs : sem (coreEnv u (s.lane u.lane)) c = .fin a e) (he : e = true → SetsE u s) :
    ∃ t, s.runJfi u i sem = t ∧ OnlyVoter u.lane s t ∧ Counted (afterCore u (s.lane u.lane) (withE e a)) (t.lane u.lane) :=
  runJfi_done s u i sem inst (s.lane u.lane) c a (.fin a e) e h hs (fun _ => rfl) (fun _ => ⟨rfl, fun _ => rfl⟩) rfl rfl he

end Sys2Proof.Machine
end

