-- ==== Sys2Proof/Laws/Instr.lean ====
section
/-! SUPPORT. How an instruction's meaning on its core gives what the statements say of it. -/

namespace Sys2Proof.Machine

/-! Flags. -/

theorem putFlag_same (w : Word) (i : Nat) (b : Bool) (h : i < 32) : (putFlag w i b).getLsbD i = b := by
  unfold putFlag
  cases b <;> simp [h]

theorem putFlag_other (w : Word) (i j : Nat) (b : Bool) (h : j ≠ i) : (putFlag w i b).getLsbD j = w.getLsbD j := by
  unfold putFlag
  by_cases hj : j < 32
  · by_cases hl : j < i
    · cases b <;> simp [hl, hj]
    · have : j - i ≠ 0 := by omega
      cases b <;> simp [hl, hj, this]
  · rw [BitVec.getLsbD_of_ge _ _ (by omega), BitVec.getLsbD_of_ge _ _ (by omega)]

theorem putFlag_high (w : Word) (i : Nat) (b : Bool) (h : i < 5) : putFlag w i b >>> 5 = w >>> 5 := by
  ext j hj
  simp only [BitVec.getElem_ushiftRight]
  exact putFlag_other _ _ _ _ (by omega)

@[simp] theorem setFlag_ip (c : CoreCtx) (i : Nat) (b : Bool) : (setFlag c i b).ip = c.ip := rfl

/-- Setting the flags an operation lists. -/
theorem setFlags_sf (c : CoreCtx) (z n cy v : Option Bool) : ∃ f : Word, setFlags c z n cy v = { c with sf := f }
    ∧ f.getLsbD 0 = z.getD (flagZ c) ∧ f.getLsbD 1 = n.getD (flagN c) ∧ f.getLsbD 2 = cy.getD (flagC c) ∧ f.getLsbD 3 = v.getD (flagV c)
    ∧ f.getLsbD 4 = flagE c ∧ f >>> 5 = c.sf >>> 5 := by
  have key : ∀ (c : CoreCtx) (i : Nat) (b : Option Bool), i < 4 →
      ∃ f : Word, b.elim c (setFlag c i) = { c with sf := f } ∧ f.getLsbD i = b.getD (c.sf.getLsbD i)
        ∧ (∀ j, j ≠ i → f.getLsbD j = c.sf.getLsbD j) ∧ f >>> 5 = c.sf >>> 5 := by
    intro c i b hi
    cases b with
    | none => exact ⟨c.sf, rfl, rfl, fun _ _ => rfl, rfl⟩
    | some b => exact ⟨putFlag c.sf i b, rfl, putFlag_same _ _ _ (by omega), fun j hj => putFlag_other _ _ _ _ hj, putFlag_high _ _ _ (by omega)⟩
  have un : setFlags c z n cy v = v.elim (cy.elim (n.elim (z.elim c (setFlag c 0)) (setFlag (z.elim c (setFlag c 0)) 1))
      (setFlag (n.elim (z.elim c (setFlag c 0)) (setFlag (z.elim c (setFlag c 0)) 1)) 2))
      (setFlag (cy.elim (n.elim (z.elim c (setFlag c 0)) (setFlag (z.elim c (setFlag c 0)) 1))
      (setFlag (n.elim (z.elim c (setFlag c 0)) (setFlag (z.elim c (setFlag c 0)) 1)) 2)) 3) := by
    cases z <;> cases n <;> cases cy <;> cases v <;> rfl
  rw [un]
  obtain ⟨f0, e0, a0, b0, h0⟩ := key c 0 z (by omega)
  obtain ⟨f1, e1, a1, b1, h1⟩ := key { c with sf := f0 } 1 n (by omega)
  obtain ⟨f2, e2, a2, b2, h2⟩ := key { c with sf := f1 } 2 cy (by omega)
  obtain ⟨f3, e3, a3, b3, h3⟩ := key { c with sf := f2 } 3 v (by omega)
  dsimp only at *
  refine ⟨f3, ?_, ?_, ?_, ?_, a3.trans ?_, ?_, ?_⟩
  · rw [e0, e1, e2, e3]
  · rw [b3 0 (by omega), b2 0 (by omega), b1 0 (by omega), a0]; rfl
  · rw [b3 1 (by omega), b2 1 (by omega), a1, b0 1 (by omega)]; rfl
  · rw [b3 2 (by omega), a2, b1 2 (by omega), b0 2 (by omega)]; rfl
  · rw [b2 3 (by omega), b1 3 (by omega), b0 3 (by omega)]; rfl
  · rw [b3 4 (by omega), b2 4 (by omega), b1 4 (by omega), b0 4 (by omega)]; rfl
  · rw [h3, h2, h1, h0]

/-- Setting E keeps everything else. -/
theorem withE_sf (e : Bool) (c : CoreCtx) : ∃ f : Word, withE e c = { c with sf := f } ∧ (∀ j, j ≠ 4 → f.getLsbD j = c.sf.getLsbD j)
    ∧ f.getLsbD 4 = (e || flagE c) ∧ f >>> 5 = c.sf >>> 5 := by
  cases e with
  | false => exact ⟨c.sf, rfl, fun _ _ => rfl, rfl, rfl⟩
  | true => exact ⟨putFlag c.sf 4 true, rfl, fun j hj => putFlag_other _ _ _ _ hj, putFlag_same _ _ _ (by omega), putFlag_high _ _ _ (by omega)⟩

theorem wset_sf (c : CoreCtx) (r : Nat) (v f : Word) : wset { c with sf := f } r v = { wset c r v with sf := f } := by
  unfold wset; split <;> rfl

theorem dset_sf (c : CoreCtx) (r : Nat) (v : DWord) (f : Word) : dset { c with sf := f } r v = { dset c r v with sf := f } := by
  unfold dset wset; split <;> split <;> rfl

theorem putNext_sf (d : Bool) (c : CoreCtx) (r : Reg) (v : Nat) (f : Word) : putNext d { c with sf := f } r v = { putNext d c r v with sf := f } := by
  unfold putNext advance
  cases d
  · simp only [Bool.false_eq_true, if_false, wset_sf]
  · simp only [if_true, dset_sf]

@[simp] theorem wset_sf_same (c : CoreCtx) (r : Nat) (v : Word) : (wset c r v).sf = c.sf := by
  unfold wset; split <;> rfl

@[simp] theorem dset_sf_same (c : CoreCtx) (r : Nat) (v : DWord) : (dset c r v).sf = c.sf := by
  unfold dset; rw [wset_sf_same, wset_sf_same]

@[simp] theorem putNext_sf_same (d : Bool) (c : CoreCtx) (r : Reg) (v : Nat) : (putNext d c r v).sf = c.sf := by
  cases d
  · exact wset_sf_same _ _ _
  · exact dset_sf_same _ _ _

/-- Flags set and then E, over registers `b`. -/
theorem flagsOf_set (b : CoreCtx) (z n cy v : Option Bool) (e : Bool) :
    FlagsOf (z.getD (flagZ b)) (n.getD (flagN b)) (cy.getD (flagC b)) (v.getD (flagV b)) (e || flagE b) b (withE e (setFlags b z n cy v)) := by
  obtain ⟨f, hf, h0, h1, h2, h3, h4, h5⟩ := setFlags_sf b z n cy v
  obtain ⟨g, hg, k0, k1, k2⟩ := withE_sf e (setFlags b z n cy v)
  rw [hf] at hg k0 k1 k2 ⊢
  rw [hg]
  refine ⟨rfl, (k0 0 (by omega)).trans h0, (k0 1 (by omega)).trans h1, (k0 2 (by omega)).trans h2, (k0 3 (by omega)).trans h3, ?_, k2.trans h5⟩
  refine k1.trans ?_
  show (e || f.getLsbD 4) = _
  rw [h4]

/-! From a meaning to what the instruction does. -/

/-- A meaning that changes registers alone. -/
theorem retiresTo_of (i : Instr) (u : CoreId) (s : State) (sem : Sem) (inst : Instance) (c a : CoreCtx) (e : Bool)
    (hx : exec i s = .next (s.runJfi u i sem)) (h : CoreAt u inst c s) (hs : sem (coreEnv u (s.lane u.lane)) c = .fin a e)
    (he : e = true → SetsE u s) : RetiresTo i u s (withE e a) := by
  obtain ⟨t, h1, h2, h3⟩ := runJfi_fin s u i sem inst c a e h hs he
  exact ⟨t, by rw [hx, h1], h2, h3⟩

/-- A meaning that writes an integer result with its flags. -/
theorem intRetires_of (i : Instr) (u : CoreId) (s : State) (sem : Sem) (inst : Instance) (c : CoreCtx) (d : Bool) (rd : Reg) (r : AluRes)
    (hx : exec i s = .next (s.runJfi u i sem)) (h : CoreAt u inst c s) (hs : sem (coreEnv u (s.lane u.lane)) c = finAlu c d rd r) :
    IntRetires i u s c d rd r.val r.cy r.v r.e := by
  intro he
  refine ⟨_, ?_, retiresTo_of i u s sem inst c _ r.e hx h (hs.trans rfl) he⟩
  obtain ⟨f, hf, h0, h1, h2, h3, h4, h5⟩ := setFlags_sf c (some (r.val == 0)) (some (decide (2 ^ (widthOf d - 1) ≤ r.val))) r.cy r.v
  have e1 : setFlags (setZN c (if d then 64 else 32) r.val) none none r.cy r.v = { c with sf := f } := by
    rw [← hf]; unfold setZN widthOf setFlags; rfl
  have e2 : advance (if d then dset { c with sf := f } rd (BitVec.ofNat 64 r.val) else wset { c with sf := f } rd (BitVec.ofNat 32 r.val)) = { putNext d c rd r.val with sf := f } := by
    rw [← putNext_sf]; rfl
  rw [e1, e2]
  obtain ⟨g, hg, k0, k1, k2⟩ := withE_sf r.e { putNext d c rd r.val with sf := f }
  rw [hg]
  refine ⟨rfl, (k0 0 (by omega)).trans h0, (k0 1 (by omega)).trans h1, (k0 2 (by omega)).trans h2, (k0 3 (by omega)).trans h3, ?_, ?_⟩
  · refine k1.trans ?_
    show (r.e || f.getLsbD 4) = _
    rw [h4]
  · rw [putNext_sf_same]; exact k2.trans h5

/-- A meaning that sets flags and writes no register. -/
theorem flagsRetire_of (i : Instr) (u : CoreId) (s : State) (sem : Sem) (inst : Instance) (c : CoreCtx) (z n cy v e : Bool)
    (hx : exec i s = .next (s.runJfi u i sem)) (h : CoreAt u inst c s)
    (hs : sem (coreEnv u (s.lane u.lane)) c = .fin (advance (setFlags c (some z) (some n) (some cy) (some v))) e) :
    FlagsRetire i u s c z n cy v e := by
  intro he
  refine ⟨_, ?_, retiresTo_of i u s sem inst c _ e hx h hs he⟩
  have := flagsOf_set (advance c) (some z) (some n) (some cy) (some v) e
  have e1 : setFlags (advance c) (some z) (some n) (some cy) (some v) = advance (setFlags c (some z) (some n) (some cy) (some v)) := rfl
  rw [e1] at this
  exact this

/-- A meaning that writes a register and changes no flag but E. -/
theorem putRetires_of (i : Instr) (u : CoreId) (s : State) (sem : Sem) (inst : Instance) (c : CoreCtx) (d : Bool) (rd : Reg) (v : Nat) (e : Bool)
    (hx : exec i s = .next (s.runJfi u i sem)) (h : CoreAt u inst c s) (hs : sem (coreEnv u (s.lane u.lane)) c = .fin (putNext d c rd v) e) :
    PutRetires i u s c d rd v e :=
  fun he => retiresTo_of i u s sem inst c _ e hx h hs he

/-- The checks of an instruction on words or pairs pass. -/
theorem checks_pass (d : Bool) (rd : Reg) (rs : List Reg) (k : Op) (h : destOk rd) (hp : pairsOk d rs) :
    withPairs (if d then rs.map Fin.val else []) (withDest rd k) = k := by
  unfold withPairs withDest
  have : isBase rd.val = false := h
  rw [this]
  cases d with
  | false => simp
  | true =>
    have hq : (rs.map Fin.val).any badPair = false := by
      rw [List.any_eq_false]; intro x hx
      obtain ⟨r, hr, rfl⟩ := List.mem_map.1 hx
      simpa using hp rfl r hr
    simp only [if_true, hq, Bool.false_eq_true, if_false]

end Sys2Proof.Machine
end

