-- ==== Sys2Proof/Laws/Access.lean ====
section
/-! SUPPORT. What an instruction that reaches SRAM, and one that traps, does to its lane. -/

namespace Sys2Proof.Machine

/-! A store and the executive's state do not meet. -/

/-- A lane with its executive's state replaced. -/
def exeSet (e : ExecState) (l : LaneState) : LaneState := { l with exe := e }

theorem eccCleared_exe (l : LaneState) (e : ExecState) (a n : Nat) : eccCleared (exeSet e l) a n = exeSet e (eccCleared l a n) := by
  unfold eccCleared
  dsimp only
  simp only [apply_ite (exeSet e)]
  rfl

theorem eccInjected_exe (l : LaneState) (e : ExecState) (a n : Nat) : eccInjected (exeSet e l) a n = exeSet e (eccInjected l a n) := by
  unfold eccInjected
  dsimp only
  simp only [apply_ite (exeSet e)]
  rfl

theorem prtMark_exe (l : LaneState) (e : ExecState) (k : Nat) (bs : List Nat) : prtMark (exeSet e l) k bs = exeSet e (prtMark l k bs) := by
  unfold prtMark
  simp only [apply_ite (exeSet e)]
  rfl

theorem markDirty_exe (l : LaneState) (e : ExecState) (a n : Nat) : markDirty (exeSet e l) a n = exeSet e (markDirty l a n) := by
  unfold markDirty eccWritten
  dsimp only
  rw [eccCleared_exe, eccInjected_exe]
  simp only [apply_ite (exeSet e), ← prtMark_exe]
  rfl

theorem mwr_exeSet (l : LaneState) (e : ExecState) (a : Nat) (b : Bytes) : mwr (exeSet e l) a b = exeSet e (mwr l a b) := by
  unfold mwr
  rw [← markDirty_exe]
  rfl

/-- A lane that differs from another at most in memory, its code, the registers and the maps of reintegration and of the partner link. -/
def OnlyMem (x y : LaneState) : Prop := y = { x with mem := y.mem, ecc := y.ecc, regs := y.regs, reint := y.reint, prt := y.prt }

theorem onlyMem_trans {x y z : LaneState} (h : OnlyMem x y) (g : OnlyMem y z) : OnlyMem x z := by
  unfold OnlyMem at *
  rw [g, h]

theorem onlyMem_cleared (l : LaneState) (a n : Nat) : OnlyMem l (eccCleared l a n) := by
  unfold eccCleared; dsimp only; (repeat' split) <;> rfl

theorem onlyMem_injected (l : LaneState) (a n : Nat) : OnlyMem l (eccInjected l a n) := by
  unfold eccInjected; dsimp only; (repeat' split) <;> rfl

theorem onlyMem_written (l : LaneState) (a n : Nat) : OnlyMem l (eccWritten l a n) :=
  onlyMem_trans (onlyMem_cleared l a n) (onlyMem_injected _ a n)

theorem onlyMem_mark (l : LaneState) (k : Nat) (bs : List Nat) : OnlyMem l (prtMark l k bs) := by
  unfold prtMark; split <;> rfl

theorem onlyMem_dirty (l : LaneState) (a n : Nat) : OnlyMem l (markDirty l a n) := by
  unfold markDirty
  dsimp only
  split
  · exact onlyMem_written l a n
  · refine onlyMem_trans ?_ (onlyMem_mark _ _ _)
    refine onlyMem_trans ?_ (onlyMem_mark _ _ _)
    split
    · exact onlyMem_trans (onlyMem_written l a n) rfl
    · exact onlyMem_written l a n

/-- A store changes memory, its code, the registers and the maps of reintegration and of the partner link alone. -/
theorem mwr_only (l : LaneState) (a : Nat) (b : Bytes) : OnlyMem l (mwr l a b) := by
  have h : OnlyMem l { l with mem := sput l.mem a b } := rfl
  exact onlyMem_trans h (onlyMem_dirty _ _ _)

theorem mwr_exe (l : LaneState) (a : Nat) (b : Bytes) : (mwr l a b).exe = l.exe := by
  have h : mwr l a b = _ := mwr_only l a b
  rw [h]
theorem mwr_tri (l : LaneState) (a : Nat) (b : Bytes) : (mwr l a b).tri = l.tri := by
  have h : mwr l a b = _ := mwr_only l a b
  rw [h]
theorem mwr_id (l : LaneState) (a : Nat) (b : Bytes) : (mwr l a b).id = l.id := by
  have h : mwr l a b = _ := mwr_only l a b
  rw [h]

theorem passed_eq (x : LaneState) : passed x = exeSet (passed x).exe x := by
  unfold exeSet passed updRun updInst
  split <;> rfl

theorem passed_exe (x y : LaneState) (h : y.exe = x.exe) : (passed y).exe = (passed x).exe := by
  unfold passed updRun updInst
  rw [h]
  split
  · dsimp only
  · exact h

/-- Letting the running instance past a breakpoint and a store do not meet. -/
theorem passed_mwr (x : LaneState) (a : Nat) (b : Bytes) : passed (mwr x a b) = mwr (passed x) a b := by
  have h := passed_exe _ _ (mwr_exe x a b)
  rw [passed_eq, h]
  conv_rhs => rw [passed_eq x, mwr_exeSet]

theorem vitalSram_passed (x : LaneState) (i : Instance) (a n : Nat) (wr : Bool) : vitalSram (passed x) i a n wr = vitalSram x i a n wr := by
  rw [passed_eq]; rfl

theorem sramBoth_passed (x : LaneState) (i : Instance) (a n : Nat) (wr : Bool) : sramBoth (passed x) i a n wr = sramBoth x i a n wr := by
  unfold sramBoth; rw [vitalSram_passed, vitalSram_passed]

theorem sramBytes_passed (x : LaneState) (i : Instance) (a n : Nat) : sramBytes (passed x) i a n = sramBytes x i a n := by
  rw [passed_eq]; rfl

theorem mrd_passed (x : LaneState) (a n : Nat) : mrd (passed x) a n = mrd x a n := by
  rw [passed_eq]; rfl

theorem passed_clean (x : LaneState) (h : x.ecc.errs = [] ∧ x.ecc.poison = []) : (passed x).ecc.errs = [] ∧ (passed x).ecc.poison = [] := by
  rw [passed_eq]; exact h

/-- A range without errors is written in part without effect on the code's bookkeeping. -/
theorem eccPartial_clean (l : LaneState) (a n : Nat) (h : l.ecc.errs = [] ∧ l.ecc.poison = []) : eccPartial l a n = (l, false) := by
  have key : ∀ x, eccEdge a n (l, false) x = (l, false) := by
    intro x
    unfold eccEdge eccTouch
    cases cwOf x with
    | none => rfl
    | some cw => dsimp only; simp only [h.1, h.2, List.find?_nil, List.contains_nil, Bool.false_eq_true, if_false, ite_self]
  unfold eccPartial
  rw [key, key]

/-- What may be written lies above the private input copies. -/
theorem sramBoth_high (x : LaneState) (i : Instance) (a n : Nat) (h : sramBoth x i a n true = true) : 0x10000 ≤ a ∧ a + n ≤ 0x400000 := by
  unfold sramBoth at h
  simp only [Bool.and_eq_true, decide_eq_true_eq, Bool.not_true, Bool.false_or] at h
  refine ⟨?_, h.1.1⟩
  by_contra hc
  have := h.2
  unfold vitalSram at this
  simp [show a < 0x10000 by omega] at this

theorem regionOf_none (a : Nat) (h : a < 0x4000000000) : regionOf a = none := by
  unfold regionOf winBase
  rw [if_neg (by simp; omega)]

theorem inRegs_none (a : Nat) (h : a < 0x10000000) : inRegs a = false := by
  unfold inRegs; simp; omega

/-- The auxiliary core reads SRAM past its data cache. -/
theorem auxBytes_sram (x : LaneState) (a n : Nat) (hc : ∀ b ∈ x.c1.dcache, 0x100000000 ≤ b.1) (h : a + n ≤ 0x400000) : auxBytes x a n = mrd x a n := by
  unfold auxBytes mrd sbytes
  apply List.map_congr_left
  intro j hj
  rw [List.mem_range] at hj
  have : x.c1.dcache.find? (fun e => e.1 == a + j) = none := by
    rw [List.find?_eq_none]
    intro e he
    have := hc e he
    simp; omega
  rw [this]

/-! Retiring with an access. -/

/-- A meaning whose effect is a lane `z` and registers `a`. -/
theorem retires_of (i : Instr) (u : CoreId) (s : State) (sem : Sem) (inst : Instance) (z : LaneState) (c a : CoreCtx) (o : Op) (e : Bool)
    (hx : exec i s = .next (s.runJfi u i sem)) (h : CoreAt u inst c s) (hs : sem (coreEnv u (s.lane u.lane)) c = o)
    (hv : u.core1 = false → vitalOp (passed (s.lane u.lane)) inst o o = .done (passed z) a a e)
    (ha : u.core1 = true → auxOp (s.lane u.lane) (s.sends u.lane 7) o = .done z a a e ∧ ∀ p, s.auxActs u.lane i p o = p)
    (htri : z.tri = (s.lane u.lane).tri) (hid : z.id = (s.lane u.lane).id) (he : e = true → SetsE u s) : Retires i u s z (withE e a) := by
  obtain ⟨t, h1, h2, h3⟩ := runJfi_done s u i sem inst z c a o e h hs hv ha htri hid he
  exact ⟨t, by rw [hx, h1], h2, h3⟩

theorem coreAt_clean {u : CoreId} {inst : Instance} {c : CoreCtx} {s : State} (h : CoreAt u inst c s) :
    (s.lane u.lane).ecc.errs = [] ∧ (s.lane u.lane).ecc.poison = [] := by
  obtain ⟨_, h⟩ := h
  cases hk : u.core1 with
  | true => rw [hk] at h; exact h.clean
  | false => rw [hk] at h; exact h.clean

theorem coreAt_aux {u : CoreId} {inst : Instance} {c : CoreCtx} {s : State} (h : CoreAt u inst c s) (hk : u.core1 = true) : AuxAt (s.lane u.lane) c := by
  have := h.2; rwa [if_pos hk] at this

theorem coreAt_vital {u : CoreId} {inst : Instance} {c : CoreCtx} {s : State} (h : CoreAt u inst c s) (hk : u.core1 = false) : VitalAt (s.lane u.lane) inst c := by
  have := h.2; rwa [if_neg (by simp [hk])] at this

/-- A load from SRAM. -/
theorem loads_of (i : Instr) (u : CoreId) (s : State) (sem : Sem) (inst : Instance) (c : CoreCtx) (d : Bool) (rd : Reg) (ea n : Nat) (hn : 0 < n)
    (hx : exec i s = .next (s.runJfi u i sem)) (h : CoreAt u inst c s)
    (hs : sem (coreEnv u (s.lane u.lane)) c = .load ea n (fun v => putNext d c rd v)) : Loads i u s inst c d rd ea n := by
  intro hal hm
  have hcl := coreAt_clean h
  refine retires_of i u s sem inst (s.lane u.lane) c (putNext d c rd (leNat (bytesAt u (s.lane u.lane) inst ea n))) _ false hx h hs ?_ ?_ rfl rfl (fun q => by simp at q)
  · intro hk
    unfold mayReach at hm
    simp only [hk, Bool.false_eq_true, if_false] at hm
    have hb := hm
    unfold sramBoth at hb
    simp only [Bool.and_eq_true, decide_eq_true_eq] at hb
    have hlt : ea < 0x400000 := by omega
    have hacc : vitalAcc (passed (s.lane u.lane)) inst ea n false = 0 := by
      unfold vitalAcc
      rw [if_pos hlt, vitalSram_passed, if_pos hb.1.2]
    simp only [vitalOp, vitalLoad, hal, ne_eq, not_true, if_false, regionOf_none ea (by omega), hacc, inRegs_none ea (by omega), Bool.false_eq_true,
      eccRange_clean _ _ _ _ (passed_clean _ hcl), bytesAt, hk]
    unfold sramBytes
    split
    · rfl
    · rw [if_neg (by unfold inRom; simp; omega), mrd_passed]
  · intro hk
    have hx := coreAt_aux h hk
    unfold mayReach at hm
    simp only [hk, if_true, Bool.and_eq_true, decide_eq_true_eq] at hm
    constructor
    · simp only [auxOp, hal, ne_eq, not_true, if_false, regionOf_none ea (by omega), hm.2, Bool.not_true, Bool.false_eq_true, inRegs_none ea (by omega),
        eccRange_clean _ _ _ _ hcl, bytesAt, hk, if_true, auxBytes_sram _ _ _ hx.cache hm.1]
      rw [if_neg (by unfold inRom; simp; omega), if_neg (by unfold inRom; simp; omega)]
    · intro p
      unfold State.auxActs auxLastWord
      have : (ea == 0x10000000 + Rg.EVR_RD_DATAk 15) = false := by simp; omega
      simp [this]

/-- A store to SRAM. -/
theorem stores_of (i : Instr) (u : CoreId) (s : State) (sem : Sem) (inst : Instance) (c : CoreCtx) (ea n v : Nat) (hn : 0 < n)
    (hx : exec i s = .next (s.runJfi u i sem)) (h : CoreAt u inst c s)
    (hs : sem (coreEnv u (s.lane u.lane)) c = .store ea n v (advance c)) : Stores i u s inst c ea n v := by
  intro hal hm
  have hcl := coreAt_clean h
  refine retires_of i u s sem inst (mwr (s.lane u.lane) ea (leBytes n v)) c (advance c) _ false hx h hs ?_ ?_ (mwr_tri _ _ _) (mwr_id _ _ _) (fun q => by simp at q)
  · intro hk
    unfold mayReach at hm
    simp only [hk, Bool.false_eq_true, if_false] at hm
    have hb := hm
    have hr := sramBoth_high _ _ _ _ hm
    unfold sramBoth at hb
    simp only [Bool.and_eq_true, decide_eq_true_eq, Bool.not_true, Bool.false_or] at hb
    have hacc : vitalAcc (passed (s.lane u.lane)) inst ea n true = 0 := by
      unfold vitalAcc
      rw [if_pos (by omega), vitalSram_passed, if_pos hb.2]
    simp only [vitalOp, vitalStore, hal, ne_eq, not_true, if_false, regionOf_none ea (by omega), hacc, inRegs_none ea (by omega), Bool.false_eq_true,
      eccPartial_clean _ _ _ (passed_clean _ hcl), passed_mwr]
  · intro hk
    unfold mayReach at hm
    simp only [hk, if_true, Bool.and_eq_true, decide_eq_true_eq] at hm
    constructor
    · simp only [auxOp, hal, ne_eq, not_true, if_false, regionOf_none ea (by omega), hm.2, Bool.not_true, Bool.false_eq_true, inRegs_none ea (by omega),
        eccPartial_clean _ _ _ hcl, auxWrite]
      rw [if_pos (by omega), if_pos (by omega)]
    · intro p
      unfold State.auxActs auxActing
      simp [inRegs_none ea (by omega)]

/-- A bit operation that writes, SWAPW and the function blocks: bytes of SRAM read and written back. -/
theorem updates_of (i : Instr) (u : CoreId) (s : State) (sem : Sem) (inst : Instance) (c : CoreCtx) (ea n : Nat) (o : Op)
    (f : Bytes → Bytes) (g : Bytes → CoreCtx) (e : Bytes → Bool) (hn : 0 < n)
    (hx : exec i s = .next (s.runJfi u i sem)) (h : CoreAt u inst c s)
    (hs : ea + n ≤ 0x400000 → sem (coreEnv u (s.lane u.lane)) c = o)
    (ho : o = .block ea n (fun b => (g b, f b, e b))) : Updates i u s inst ea n f g e := by
  intro hm he
  subst ho
  have hcl := coreAt_clean h
  have hle : ea + n ≤ 0x400000 := by
    unfold mayReach at hm
    split at hm
    · simp only [Bool.and_eq_true, decide_eq_true_eq] at hm; exact hm.1
    · exact (sramBoth_high _ _ _ _ hm).2
  refine retires_of i u s sem inst _ c _ _ _ hx h (hs hle) ?_ ?_ (mwr_tri _ _ _) (mwr_id _ _ _) he
  · intro hk
    unfold mayReach at hm
    simp only [hk, Bool.false_eq_true, if_false] at hm
    have ha : (e (mrd (s.lane u.lane) ea n) && arithTrap (passed (s.lane u.lane))) = false := by
      rw [passed_arith]
      cases hq : e (mrd (s.lane u.lane) ea n) with
      | false => rfl
      | true => rw [(he hq).resolve_left (by simp [hk])]; rfl
    simp only [vitalOp, sramBoth_passed, hm, Bool.not_true, Bool.false_eq_true, if_false, eccRange_clean _ _ _ _ (passed_clean _ hcl), mrd_passed,
      groups_equal, ha, passed_mwr]
  · intro hk
    unfold mayReach at hm
    simp only [hk, if_true, Bool.and_eq_true, decide_eq_true_eq] at hm
    constructor
    · simp only [auxOp, hm.2, Bool.not_true, Bool.false_eq_true, if_false, inRegs_none ea (by omega), eccRange_clean _ _ _ _ hcl]
      rw [if_neg (by omega), if_neg (by unfold inRom; simp; omega)]
    · intro p; rfl

/-- A bit operation that writes. -/
theorem bit_write_of (i : Instr) (u : CoreId) (s : State) (sem : Sem) (inst : Instance) (c : CoreCtx) (ea : Nat)
    (k : Byte → CoreCtx × Byte) (f : Bytes → Bytes) (g : Bytes → CoreCtx)
    (hx : exec i s = .next (s.runJfi u i sem)) (h : CoreAt u inst c s) (hs : sem (coreEnv u (s.lane u.lane)) c = .bit ea true k)
    (hf : ∀ b, f [b] = [(k b).2]) (hg : ∀ b, g [b] = (k b).1) : Updates i u s inst ea 1 f g (fun _ => false) := by
  intro hm he
  have hcl := coreAt_clean h
  have hone : mrd (s.lane u.lane) ea 1 = [sget zByte (s.lane u.lane).mem ea] := rfl
  change Retires i u s (mwr (s.lane u.lane) ea (f (mrd (s.lane u.lane) ea 1))) (withE false (g (mrd (s.lane u.lane) ea 1)))
  refine retires_of i u s sem inst (mwr (s.lane u.lane) ea (f (mrd (s.lane u.lane) ea 1))) c (g (mrd (s.lane u.lane) ea 1)) _ false hx h hs ?_ ?_
    (mwr_tri _ _ _) (mwr_id _ _ _) (fun q => by simp at q)
  · intro hk
    unfold mayReach at hm
    simp only [hk, Bool.false_eq_true, if_false] at hm
    have hr := sramBoth_high _ _ _ _ hm
    have hb : (sramBytes (passed (s.lane u.lane)) inst ea 1).headD 0 = sget zByte (s.lane u.lane).mem ea := by
      rw [sramBytes_passed]; unfold sramBytes; rw [if_neg (by omega), hone]; rfl
    simp only [vitalOp, sramBoth_passed, hm, Bool.not_true, Bool.false_eq_true, if_false, if_neg (show ¬ ea < 0x10000 by omega),
      eccRange_clean _ _ _ _ (passed_clean _ hcl), hb, bne_self_eq_false, Bool.and_false, if_true, passed_mwr, hone, hf, hg]
  · intro hk
    unfold mayReach at hm
    simp only [hk, if_true, Bool.and_eq_true, decide_eq_true_eq] at hm
    constructor
    · simp only [auxOp, hm.2, Bool.not_true, Bool.false_eq_true, if_false, if_true, inRegs_none ea (by omega), eccRange_clean _ _ _ _ hcl, hone, hf, hg]
      rw [if_neg (by omega), if_neg (by unfold inRom; simp; omega)]
    · intro p; rfl

/-- A bit operation that reads. -/
theorem bit_read_of (i : Instr) (u : CoreId) (s : State) (sem : Sem) (inst : Instance) (c : CoreCtx) (ea : Nat)
    (k : Byte → CoreCtx × Byte)
    (hx : exec i s = .next (s.runJfi u i sem)) (h : CoreAt u inst c s) (hs : sem (coreEnv u (s.lane u.lane)) c = .bit ea false k)
    (hm : mayReach u (s.lane u.lane) inst ea 1 false = true) :
    RetiresTo i u s (k ((bytesAt u (s.lane u.lane) inst ea 1).headD 0)).1 := by
  have hcl := coreAt_clean h
  refine retires_of i u s sem inst (s.lane u.lane) c (k ((bytesAt u (s.lane u.lane) inst ea 1).headD 0)).1 _ false hx h hs ?_ ?_ rfl rfl (fun q => by simp at q)
  · intro hk
    unfold mayReach at hm
    simp only [hk, Bool.false_eq_true, if_false] at hm
    have hq : (if ea < 0x10000 then (passed (s.lane u.lane), false) else eccRange (passed (s.lane u.lane)) ea 1 0) = (passed (s.lane u.lane), false) := by
      rw [eccRange_clean _ _ _ _ (passed_clean _ hcl)]; split <;> rfl
    simp only [vitalOp, sramBoth_passed, hm, Bool.not_true, Bool.false_eq_true, if_false, hq, Bool.false_and, sramBytes_passed, bytesAt, hk]
  · intro hk
    unfold mayReach at hm
    simp only [hk, if_true, Bool.and_eq_true, decide_eq_true_eq] at hm
    have hb : (bytesAt u (s.lane u.lane) inst ea 1).headD 0 = sget zByte (s.lane u.lane).mem ea := by
      unfold bytesAt; rw [hk]; rfl
    constructor
    · simp only [auxOp, hm.2, Bool.not_true, Bool.false_eq_true, if_false, inRegs_none ea (by omega), eccRange_clean _ _ _ _ hcl, hb]
      rw [if_neg (by omega), if_neg (by unfold inRom; simp; omega)]
    · intro p; rfl

/-- SWAPW on SRAM. -/
theorem swap_of (i : Instr) (u : CoreId) (s : State) (sem : Sem) (inst : Instance) (c : CoreCtx) (ea : Nat) (v : Word) (g : Bytes → CoreCtx)
    (hx : exec i s = .next (s.runJfi u i sem)) (h : CoreAt u inst c s) (hal : ea % 4 = 0) (k : Word → CoreCtx)
    (hs : sem (coreEnv u (s.lane u.lane)) c = .swap ea v k) (hg : ∀ b, k (BitVec.ofNat 32 (leNat b)) = g b) :
    Updates i u s inst ea 4 (fun _ => leBytes 4 v.toNat) g (fun _ => false) := by
  intro hm he
  have hcl := coreAt_clean h
  change Retires i u s (mwr (s.lane u.lane) ea (leBytes 4 v.toNat)) (withE false (g (mrd (s.lane u.lane) ea 4)))
  refine retires_of i u s sem inst (mwr (s.lane u.lane) ea (leBytes 4 v.toNat)) c (g (mrd (s.lane u.lane) ea 4)) _ false hx h hs ?_ ?_
    (mwr_tri _ _ _) (mwr_id _ _ _) (fun q => by simp at q)
  · intro hk
    unfold mayReach at hm
    simp only [hk, Bool.false_eq_true, if_false] at hm
    simp only [vitalOp, hal, ne_eq, not_true, if_false, sramBoth_passed, hm, Bool.not_true, Bool.false_eq_true, eccRange_clean _ _ _ _ (passed_clean _ hcl),
      mrd_passed, passed_mwr, hg]
  · intro hk
    unfold mayReach at hm
    simp only [hk, if_true, Bool.and_eq_true, decide_eq_true_eq] at hm
    constructor
    · simp only [auxOp, hal, ne_eq, not_true, if_false, hm.2, Bool.not_true, Bool.false_eq_true, inRegs_none ea (by omega), eccRange_clean _ _ _ _ hcl, hg]
      rw [if_neg (by omega), if_neg (by unfold inRom; simp; omega)]
    · intro p; rfl

/-! Traps. -/

theorem updRun_comp (l : LaneState) (f g : Instance → Instance) (h : ∀ i, (f i).slot = i.slot ∧ (f i).done = i.done ∧ (f i).ended = i.ended) :
    updRun (updRun l f) g = updRun l (fun i => g (f i)) := by
  unfold updRun
  cases hr : l.exe.running with
  | none => simp only [hr]
  | some t =>
    simp only [updInst, hr, List.map_map]
    congr 2
    apply List.map_congr_left
    intro i _
    simp only [Function.comp]
    by_cases hi : (i.slot == t && !i.done && !i.ended) = true
    · rw [if_pos hi, if_pos hi, if_pos (by rw [(h i).1, (h i).2.1, (h i).2.2]; exact hi)]
    · rw [if_neg hi, if_neg hi, if_neg hi]

theorem handlerCtx_eq (e : TaskEnt) (cause addr : Nat) (c : CoreCtx) : handlerCtx e cause addr c = handlerEntry c e.handler (some e.frame) cause addr := by
  have h : ∀ (w : Vector Word 32) (a b d f : Word), (((w.setIfInBounds 31 f).setIfInBounds 1 a).setIfInBounds 2 b).setIfInBounds 3 d
      = (((w.setIfInBounds 1 a).setIfInBounds 2 b).setIfInBounds 3 d).setIfInBounds 31 f := by
    intro w a b d f
    ext i hi
    simp only [Vector.getElem_setIfInBounds]
    (repeat' split) <;> first | rfl | omega
  unfold handlerCtx handlerEntry
  simp only [wset]
  have hw := h c.w (BitVec.ofNat 32 cause) (BitVec.ofNat 32 c.ip.toNat) (BitVec.ofNat 32 addr) (BitVec.ofNat 32 e.frame)
  simp only [show (31 : Nat) ≠ 0 by omega, show (1 : Nat) ≠ 0 by omega, show (2 : Nat) ≠ 0 by omega, show (3 : Nat) ≠ 0 by omega, if_false]
  rw [← hw]
  rfl

/-- Taking a trap on a lane that differs from another in its counters alone. -/
theorem vitalTrap_only (x y : LaneState) (inst : Instance) (c : CoreCtx) (cause addr : Nat) (h : VitalAt x inst c) (hy : OnlyPmc (passed x) y)
    (hh : (taskEnt x inst.slot).handler ≠ 0) (hc : c.inHandler = false) :
    OnlyPmc (setCtx (updRun (passed x) (fun j => { j with items := j.items ++ [⟨0x600, .event 0x0240 (BitVec.ofNat 32 cause) inst.slot c.ip.toNat⟩], susp := none }))
      (handlerEntry c (taskEnt x inst.slot).handler (some (taskEnt x inst.slot).frame) cause addr)
      (handlerEntry c (taskEnt x inst.slot).handler (some (taskEnt x inst.slot).frame) cause addr)) (vitalTrap y cause addr) := by
  have ec0 : (passed x).c0 = x.c0 := by rw [passed_eq]; rfl
  have ec1 : (passed x).c1 = x.c1 := by rw [passed_eq]; rfl
  have y0 : y.c0 = x.c0 := by rw [hy.1, ← ec0]
  have y1 : y.c1 = x.c1 := by rw [hy.1, ← ec1]
  have ysp : isSplit y = isSplit x := by
    have : rget y Rg.TRP_MODE = rget (passed x) Rg.TRP_MODE := hy.2 _ (by unfold offPmc Rg.TRP_MODE; omega)
    unfold isSplit bget fget
    rw [this, passed_eq]; rfl
  have yoc : outOfComparison y = outOfComparison x := by
    have : rget y Rg.TRP_STATUS = rget (passed x) Rg.TRP_STATUS := hy.2 _ (by unfold offPmc Rg.TRP_STATUS; omega)
    unfold outOfComparison fget
    rw [this, passed_eq]; rfl
  have yrun : runInst y = some { inst with resumed := false } := by
    have : runInst y = runInst (passed x) := by
      unfold runInst instOf; rw [hy.1]
    rw [this, passed_run, h.inst]; rfl
  have yent : taskEnt y inst.slot = taskEnt x inst.slot := by
    unfold taskEnt; rw [hy.1, passed_eq]; rfl
  have upd : ∀ f, updRun y f = { updRun (passed x) f with regs := y.regs, pmc0 := y.pmc0, pmc1 := y.pmc1 } := by
    intro f
    unfold updRun updInst
    rw [hy.1]
    dsimp only
    split <;> rfl
  have keep : ∀ (l : LaneState) f, (updRun l f).c0 = l.c0 ∧ (updRun l f).c1 = l.c1 ∧ (updRun l f).regs = l.regs ∧ (updRun l f).id = l.id := by
    intro l f; unfold updRun updInst; split <;> exact ⟨rfl, rfl, rfl, rfl⟩
  unfold vitalTrap
  simp only [yrun, yent, queueItem]
  rw [updRun_comp _ _ _ (by intro j; exact ⟨rfl, rfl, rfl⟩)]
  unfold enterHandler
  simp only [y0, h.ctx0, (keep y _).1]
  rw [if_neg (by simp [hh, hc])]
  rw [handlerCtx_eq, handlerCtx_eq, upd]
  generalize hz : updRun (passed x) _ = z
  have z1 : z.c1 = x.c1 := by rw [← hz, (keep _ _).2.1, ec1]
  have zr : z.regs = (passed x).regs := by rw [← hz, (keep _ _).2.2.1]
  have zi : z.id = (passed x).id := by rw [← hz, (keep _ _).2.2.2]
  have zsp : isSplit z = isSplit x := by
    unfold isSplit bget fget rget; rw [zr, zi, passed_eq]; rfl
  have wsp : isSplit { z with regs := y.regs, pmc0 := y.pmc0, pmc1 := y.pmc1 } = isSplit x := by
    rw [← ysp]; unfold isSplit bget fget rget
    rw [show y.id = z.id by rw [hy.1, zi]]
  have woc : outOfComparison { z with regs := y.regs, pmc0 := y.pmc0, pmc1 := y.pmc1 } = outOfComparison x := by
    rw [← yoc]; unfold outOfComparison fget rget
    rw [show y.id = z.id by rw [hy.1, zi]]
  unfold setCtx
  rw [wsp, woc, zsp]
  have hctx : isSplit x = false → (if outOfComparison x = true then c else z.c1.ctx) = c := by
    intro hs
    split
    · rfl
    · rename_i ho
      rw [z1]; exact h.ctx1 (by simp [hs, ho])
  refine ⟨?_, fun a ha => ?_⟩
  · cases hs : isSplit x with
    | true => rfl
    | false => simp only [Bool.false_eq_true, if_false]; rw [hctx hs]
  · have := hy.2 a ha
    unfold rget at *
    rw [show y.id = z.id by rw [hy.1, zi]] at this
    rw [zr, zi]
    exact (by rw [zi] at this; exact this)

/-- Taking a trap on an auxiliary core. -/
theorem auxTrap_only (x y : LaneState) (c : CoreCtx) (cause addr : Nat) (hx : x.c1.ctx = c) (hy : OnlyPmc x y)
    (hh : (x.aux.getD {}).auxTrap ≠ 0) (hc : c.inHandler = false) :
    OnlyPmc { x with c1 := { x.c1 with ctx := handlerEntry c ((x.aux.getD {}).loadAddr + (x.aux.getD {}).auxTrap) none cause addr } } (auxTrap y cause addr) := by
  have y1 : y.c1 = x.c1 := by rw [hy.1]
  have ya : y.aux = x.aux := by rw [hy.1]
  unfold auxTrap
  simp only [y1, ya, hx]
  rw [if_neg (by rw [hc, Bool.or_false, decide_eq_true_eq]; exact hh)]
  refine ⟨?_, fun a ha => ?_⟩
  · rw [hy.1]; rfl
  · have := hy.2 a ha
    unfold rget at *
    rw [show y.id = x.id by rw [hy.1]] at *
    exact this

/-- A meaning that traps: by itself, or on the vital core by an event that sets E with ARITH_TRAP. -/
theorem traps_of (i : Instr) (u : CoreId) (s : State) (sem : Sem) (inst : Instance) (c : CoreCtx) (o : Op) (cause fault : Nat)
    (hx : exec i s = .next (s.runJfi u i sem)) (h : CoreAt u inst c s) (hs : sem (coreEnv u (s.lane u.lane)) c = o)
    (hv : u.core1 = false → vitalOp (passed (s.lane u.lane)) inst o o = .trap (passed (s.lane u.lane)) cause fault
      ∨ (∃ a, vitalOp (passed (s.lane u.lane)) inst o o = .done (passed (s.lane u.lane)) a a true) ∧ arithTrap (s.lane u.lane) = true ∧ cause = 8 ∧ fault = 0)
    (ha : u.core1 = true → auxOp (s.lane u.lane) (s.sends u.lane 7) o = .trap (s.lane u.lane) cause fault ∧ ∀ p, s.auxActs u.lane i p o = p) :
    Traps i u s inst c cause fault := by
  obtain ⟨l, k⟩ := u
  have h' := h
  obtain ⟨h0, h1⟩ := h
  have hcl := coreAt_clean h'
  intro hc
  have key : ∀ (g : LaneState → LaneState) (y : LaneState), OnlyPmc y (g (s.lane l)) → y.tri = (s.lane l).tri → y.id = l → Calm (s.lane l) →
      OnlyVoter l s (s.onVote l g) ∧ Counted y ((s.onVote l g).lane l) := by
    intro g y hy ht hi hc
    refine ⟨State.onVote_only s l g, counted_of hy (State.onVote_calm s l g ?_ ?_)⟩
    · have : (g (s.lane l)).tri = (s.lane l).tri := by rw [hy.1, ← ht]
      unfold Calm at *
      rw [this]; exact hc
    · rw [hy.1, ← hi]
  constructor
  · intro hk hh
    change k = false at hk
    subst hk
    have hvi := coreAt_vital h' rfl
    have hr : s.runJfi ⟨l, false⟩ i sem = s.onVote l (vitalStep i sem false) := by
      unfold State.runJfi
      simp [hvi.runs, hvi.free]
    refine ⟨_, hx.trans (congrArg _ hr), ?_⟩
    refine key _ _ ?_ ?_ ?_ hvi.calm
    · have hz := passed_arith (s.lane l)
      unfold vitalStep
      simp only [hvi.inst, hvi.clear, Bool.false_eq_true, if_false]
      change OnlyPmc _ (match opDiff (passed (s.lane l)).c0.ctx.ip _ _ _ with | some d => _ | none => _)
      have e0 : (passed (s.lane l)).c0.ctx = c := by rw [passed_eq]; exact hvi.ctx0
      have e1 : (passed (s.lane l)).c1 = (s.lane l).c1 := by rw [passed_eq]; rfl
      have hve : vitalEnv (passed (s.lane l)) false = vitalEnv (s.lane l) false := by rw [passed_eq]; rfl
      have ho : outOfComparison (passed (s.lane l)) = outOfComparison (s.lane l) := by rw [passed_eq]; rfl
      have hp : isSplit (passed (s.lane l)) = isSplit (s.lane l) := by rw [passed_eq]; rfl
      have hf : vitalFetch (passed (s.lane l)) c.ip.toNat = vitalFetch (s.lane l) c.ip.toNat := by rw [passed_eq]; rfl
      have hs' : sem (vitalEnv (s.lane l) false) c = o := hs
      have q0 : sem (vitalEnv (passed (s.lane l)) false) c = o := by rw [hve, hs']
      have q1 : (if (isSplit (passed (s.lane l)) || outOfComparison (passed (s.lane l))) = true then o
          else sem (vitalEnv (passed (s.lane l)) false) (passed (s.lane l)).c1.ctx) = o := by
        rw [hp, ho, hve, e1]
        split
        · rfl
        · rename_i hn
          rw [hvi.ctx1 (by simpa using hn), hs']
      have q2 : (if (isSplit (passed (s.lane l)) || outOfComparison (passed (s.lane l))) = true then c.ip else (passed (s.lane l)).c1.ctx.ip) = c.ip := by
        rw [hp, ho, e1]
        split
        · rfl
        · rename_i hn
          rw [hvi.ctx1 (by simpa using hn)]
      have w := hv rfl
      change vitalOp (passed (s.lane l)) inst o o = .trap (passed (s.lane l)) cause fault ∨ _ at w
      have uf : updRun (s.lane l) (fun i => { i with resumed := false }) = passed (s.lane l) := rfl
      simp only [uf, e0, q0, q1, q2, opDiff_same, hf, hvi.code, Bool.not_true, Bool.false_eq_true, if_false,
        eccRange_clean _ _ _ _ (passed_clean _ hcl)]
      rcases w with w | ⟨⟨a, w⟩, w1, rfl, rfl⟩
      · rw [w]
        exact vitalTrap_only (s.lane l) _ inst c cause fault hvi (onlyPmc_vital _ _ _ _ _ _ _ _) hh hc
      · change vitalOp (passed (s.lane l)) inst o o = .done (passed (s.lane l)) a a true at w
        change arithTrap (s.lane l) = true at w1
        rw [w]
        simp only [vitalRetire, hz, w1, Bool.and_self, if_true]
        exact vitalTrap_only (s.lane l) _ inst c 8 0 hvi (onlyPmc_vital _ _ _ _ _ _ _ _) hh hc
    · unfold setCtx
      have : ∀ f, (updRun (passed (s.lane l)) f).tri = (passed (s.lane l)).tri := by
        intro f; unfold updRun updInst; split <;> rfl
      change (updRun (passed (s.lane l)) _).tri = _
      rw [this, passed_eq]; rfl
    · have : ∀ f, (updRun (passed (s.lane l)) f).id = (passed (s.lane l)).id := by
        intro f; unfold updRun updInst; split <;> rfl
      change (updRun (passed (s.lane l)) _).id = _
      rw [this, passed_eq]; exact h0
  · intro hk hh
    change k = true at hk
    subst hk
    have hax := coreAt_aux h' rfl
    obtain ⟨hop, hact⟩ := ha rfl
    have hr : s.runJfi ⟨l, true⟩ i sem = s.onVote l (auxStep i sem (s.sends l 7)) := by
      unfold State.runJfi
      have hs' : sem (auxEnv (s.lane l)) c = o := hs
      simp only [hax.runs, hax.free, Bool.not_false, Bool.and_self, if_true, State.auxRun, hax.ctx, hs', hact]
    refine ⟨_, hx.trans (congrArg _ hr), ?_⟩
    refine key _ _ ?_ rfl h0 hax.calm
    have hs' : sem (auxEnv (s.lane l)) c = o := hs
    unfold auxStep
    simp only [hax.ctx, hs', hax.code, Bool.not_true, Bool.false_eq_true, if_false, eccRange_clean _ _ _ _ hcl]
    change auxOp (s.lane l) (s.sends l 7) o = _ at hop
    rw [hop]
    exact auxTrap_only (s.lane l) _ c cause fault hax.ctx (onlyPmc_retire _ _ _ _ _ _ _ _ _ _ (by omega)) hh hc

end Sys2Proof.Machine
end

