-- ==== Sys2Proof/Laws/Block.lean ====
section
/-! SUPPORT. A command that reaches one lane answers a next state in which that lane is what its effect makes of it. -/

namespace Sys2Proof.Machine

/-- A command of one lane. -/
theorem laneBecomes_of {i : Instr} {l : Lane} {s : State} {f : LaneState → LaneState} {y : LaneState} (hx : exec i s = .next (s.onLane l f))
    (h : f (s.lane l) = y) : LaneBecomes i l s y :=
  ⟨_, hx, (State.onLane_only s l f).1, h ▸ (State.onLane_only s l f).2⟩

/-- Adding what is there adds nothing. -/
theorem addNew_there {α : Type} [BEq α] [LawfulBEq α] (xs ys : List α) (h : ∀ y ∈ ys, y ∈ xs) : addNew xs ys = xs := by
  unfold addNew
  induction ys with
  | nil => rfl
  | cons y ys ih =>
    rw [List.foldl_cons, if_pos (by simpa using h y (by simp)), ih (fun z hz => h z (by simp [hz]))]

/-- A lane that may release items ends as its voter settles it. -/
theorem State.onVote_settles (s : State) (l : Lane) (f : LaneState → LaneState) :
    SameButMail (settleAll (s.sends l) (f (s.lane l))) ((s.onVote l f).lane l) := by
  unfold State.onVote
  dsimp only
  generalize settleAll (s.sends l) (f (s.lane l)) = z
  have := State.takeReports_lane ((s.setLane l z).mapLanes (passTaps l (z.tri.taps.filter (fun t => !(s.lane l).tri.taps.contains t)))) l
  rw [State.mapLanes_lane, State.setLane_same] at this
  have hp : passTaps l (z.tri.taps.filter (fun t => !(s.lane l).tri.taps.contains t)) z = z := by
    unfold passTaps
    split
    · rfl
    · rw [addNew_there _ _ (by intro y hy; exact (List.mem_filter.1 hy).1)]
  rwa [hp] at this

/-- A command that may release items. -/
theorem voterSettles_of {i : Instr} {l : Lane} {s : State} {f : LaneState → LaneState} {y : LaneState} (hx : exec i s = .next (s.onVote l f))
    (h : f (s.lane l) = y) : VoterSettles i l s y := by
  subst h
  exact ⟨_, hx, State.onVote_only s l f, State.onVote_settles s l f⟩

/-- A command of every lane. -/
theorem State.onLanes_only (s : State) (f : LaneState → LaneState) :
    (∀ l, SameButMail (f (s.lane l)) ((s.onLanes f).lane l)) ∧ SameButReports s.rm (s.onLanes f).rm ∧ (s.onLanes f).freeCtr = s.freeCtr
      ∧ (s.onLanes f).pending = s.pending := by
  unfold State.onLanes
  refine ⟨fun l => ?_, ?_, ?_, ?_⟩
  · have := State.takeReports_lane (s.mapLanes f) l
    rwa [State.mapLanes_lane] at this
  · have := State.takeReports_rm (s.mapLanes f)
    rwa [State.mapLanes_rm] at this
  · rw [State.takeReports_freeCtr, State.mapLanes_freeCtr]
  · rw [State.takeReports_pending, State.mapLanes_pending]

theorem lanesBecome_of {i : Instr} {s : State} {f : LaneState → LaneState} (hx : exec i s = .next (s.onLanes f)) : LanesBecome i s f :=
  ⟨_, hx, State.onLanes_only s f⟩

/-- Taps that see what their lanes compute withdraw nothing (01 R17). -/
theorem State.tapCheck_agree (s : State) (l : Lane) (p : Nat) (differs : LaneState → Bool) (h : ∀ y, differs (s.lane y) = false) :
    s.tapCheck l p differs = s := by
  unfold State.tapCheck
  split
  · simp [allLanes, h]
  · rfl

end Sys2Proof.Machine
end

