-- ==== Sys2Proof/Laws/Keys.lean ====
section
/-! SUPPORT. No shared operation of the module touches the key table. -/

namespace Sys2Proof.Machine

set_option linter.unusedTactic false
set_option linter.unreachableTactic false
set_option linter.unnecessarySeqFocus false

/-- A fold of steps that keep it keeps it. -/
@[simp] theorem foldl_keys {α : Type} (g : State → α → State) (l : List α) (s : State) (h : ∀ s x, (g s x).rm.keys = s.rm.keys) :
    (l.foldl g s).rm.keys = s.rm.keys := by
  induction l generalizing s with
  | nil => rfl
  | cons x l ih => simp [ih, h]

@[simp] theorem State.rsetAll_keys (s : State) (a : Nat) (v : Word) : (s.rsetAll a v).rm.keys = s.rm.keys := by
  first
  | (unfold State.rsetAll; (repeat' split) <;> simp; done)
  | (unfold State.rsetAll; dsimp only; (repeat' split) <;> simp; done)
@[simp] theorem State.fsetAll_keys (s : State) (a hi lo v : Nat) : (s.fsetAll a hi lo v).rm.keys = s.rm.keys := by
  first
  | (unfold State.fsetAll; (repeat' split) <;> simp; done)
  | (unfold State.fsetAll; dsimp only; (repeat' split) <;> simp; done)
@[simp] theorem State.takeItem_keys (s : State) (x : LaneState) (v : VItem) : (s.takeItem x v).rm.keys = s.rm.keys := by
  first
  | (unfold State.takeItem; (repeat' split) <;> simp; done)
  | (unfold State.takeItem; dsimp only; (repeat' split) <;> simp; done)
@[simp] theorem State.takeItems_keys (s : State) (x : Lane) : (s.takeItems x).rm.keys = s.rm.keys := by
  first
  | (unfold State.takeItems; (repeat' split) <;> simp; done)
  | (unfold State.takeItems; dsimp only; (repeat' split) <;> simp; done)
@[simp] theorem State.takeReports_keys (s : State) : (s.takeReports).rm.keys = s.rm.keys := by
  first
  | (unfold State.takeReports; (repeat' split) <;> simp; done)
  | (unfold State.takeReports; dsimp only; (repeat' split) <;> simp; done)
@[simp] theorem State.onLane_keys (s : State) (l : Lane) (f : LaneState → LaneState) : (s.onLane l f).rm.keys = s.rm.keys := by
  first
  | (unfold State.onLane; (repeat' split) <;> simp; done)
  | (unfold State.onLane; dsimp only; (repeat' split) <;> simp; done)
@[simp] theorem State.onLanes_keys (s : State) (f : LaneState → LaneState) : (s.onLanes f).rm.keys = s.rm.keys := by
  first
  | (unfold State.onLanes; (repeat' split) <;> simp; done)
  | (unfold State.onLanes; dsimp only; (repeat' split) <;> simp; done)
@[simp] theorem State.showEvr_keys (s : State) : (s.showEvr).rm.keys = s.rm.keys := by
  first
  | (unfold State.showEvr; (repeat' split) <;> simp; done)
  | (unfold State.showEvr; dsimp only; (repeat' split) <;> simp; done)
@[simp] theorem State.recordEvent_keys (s : State) (r : Report) : (s.recordEvent r).rm.keys = s.rm.keys := by
  unfold State.recordEvent; dsimp only; (repeat' split) <;> simp
@[simp] theorem State.record_keys (s : State) (r : Report) (now : Nat) : (s.record r now).rm.keys = s.rm.keys := by
  first
  | (unfold State.record; (repeat' split) <;> simp; done)
  | (unfold State.record; dsimp only; (repeat' split) <;> simp; done)
@[simp] theorem State.recordR_keys (s : State) (code data : Nat) : (s.recordR code data).rm.keys = s.rm.keys := by
  first
  | (unfold State.recordR; (repeat' split) <;> simp; done)
  | (unfold State.recordR; dsimp only; (repeat' split) <;> simp; done)
@[simp] theorem State.unfreeze_keys (s : State) : (s.unfreeze).rm.keys = s.rm.keys := by
  first
  | (unfold State.unfreeze; (repeat' split) <;> simp; done)
  | (unfold State.unfreeze; dsimp only; (repeat' split) <;> simp; done)
@[simp] theorem State.flushDefer_keys (s : State) : (s.flushDefer).rm.keys = s.rm.keys := by
  first
  | (unfold State.flushDefer; (repeat' split) <;> simp; done)
  | (unfold State.flushDefer; dsimp only; (repeat' split) <;> simp; done)
@[simp] theorem State.serveRead_keys (s : State) (x : Lane) : (s.serveRead x).rm.keys = s.rm.keys := by
  first
  | (unfold State.serveRead; (repeat' split) <;> simp; done)
  | (unfold State.serveRead; dsimp only; (repeat' split) <;> simp; done)
@[simp] theorem State.endSessions_keys (s : State) : (s.endSessions).rm.keys = s.rm.keys := by
  first
  | (unfold State.endSessions; (repeat' split) <;> simp; done)
  | (unfold State.endSessions; dsimp only; (repeat' split) <;> simp; done)
@[simp] theorem State.rmDown_keys (s : State) (why : Nat) : (s.rmDown why).rm.keys = s.rm.keys := by
  first
  | (unfold State.rmDown; (repeat' split) <;> simp; done)
  | (unfold State.rmDown; dsimp only; (repeat' split) <;> simp; done)
@[simp] theorem State.showFw_keys (s : State) : (s.showFw).rm.keys = s.rm.keys := by
  first
  | (unfold State.showFw; (repeat' split) <;> simp; done)
  | (unfold State.showFw; dsimp only; (repeat' split) <;> simp; done)
@[simp] theorem State.rmUp_keys (s : State) : (s.rmUp).rm.keys = s.rm.keys := by
  first
  | (unfold State.rmUp; (repeat' split) <;> simp; done)
  | (unfold State.rmUp; dsimp only; (repeat' split) <;> simp; done)
@[simp] theorem State.endSession_keys (s : State) (sid : Nat) : (s.endSession sid).rm.keys = s.rm.keys := by
  first
  | (unfold State.endSession; (repeat' split) <;> simp; done)
  | (unfold State.endSession; dsimp only; (repeat' split) <;> simp; done)
@[simp] theorem State.sendRm_keys (s : State) (m : RmMsg) : (s.sendRm m).rm.keys = s.rm.keys := by
  first
  | (unfold State.sendRm; (repeat' split) <;> simp; done)
  | (unfold State.sendRm; dsimp only; (repeat' split) <;> simp; done)
@[simp] theorem State.limitCheck_keys (s : State) (n : Nat) (v : Int) : (s.limitCheck n v).rm.keys = s.rm.keys := by
  first
  | (unfold State.limitCheck; (repeat' split) <;> simp; done)
  | (unfold State.limitCheck; dsimp only; (repeat' split) <;> simp; done)
@[simp] theorem State.tapCheck_keys (s : State) (l : Lane) (p : Nat) (differs : LaneState → Bool) : (s.tapCheck l p differs).rm.keys = s.rm.keys := by
  unfold State.tapCheck; split
  · apply foldl_keys; intro s x; split <;> simp
  · rfl
@[simp] theorem State.canTaps_keys (s : State) (l : Lane) (k : Nat) : (s.canTaps l k).rm.keys = s.rm.keys := by
  first
  | (unfold State.canTaps; (repeat' split) <;> simp; done)
  | (unfold State.canTaps; dsimp only; (repeat' split) <;> simp; done)
@[simp] theorem State.linkTaps_keys (s : State) (l : Lane) : (s.linkTaps l).rm.keys = s.rm.keys := by
  first
  | (unfold State.linkTaps; (repeat' split) <;> simp; done)
  | (unfold State.linkTaps; dsimp only; (repeat' split) <;> simp; done)
@[simp] theorem State.xcheck_keys (s : State) (c : MerClk) : (s.xcheck c).rm.keys = s.rm.keys := by
  unfold State.xcheck; dsimp only; split
  · apply foldl_keys; intro s x; split <;> simp
  · rfl
@[simp] theorem State.countOk_keys (s : State) : (s.countOk).rm.keys = s.rm.keys := by
  first
  | (unfold State.countOk; (repeat' split) <;> simp; done)
  | (unfold State.countOk; dsimp only; (repeat' split) <;> simp; done)
@[simp] theorem State.xpair_keys (s : State) : (s.xpair).rm.keys = s.rm.keys := by
  first
  | (unfold State.xpair; (repeat' split) <;> simp; done)
  | (unfold State.xpair; dsimp only; (repeat' split) <;> simp; done)
@[simp] theorem State.tick_keys (s : State) : (s.tick).rm.keys = s.rm.keys := by
  first
  | (unfold State.tick; (repeat' split) <;> simp; done)
  | (unfold State.tick; dsimp only; (repeat' split) <;> simp; done)
@[simp] theorem State.slotTaps_keys (s : State) (l : Lane) (entry : Nat) : (s.slotTaps l entry).rm.keys = s.rm.keys := by
  unfold State.slotTaps; simp only [List.foldl]; (repeat' split) <;> simp
@[simp] theorem State.syncTaps_keys (s : State) (l : Lane) : (s.syncTaps l).rm.keys = s.rm.keys := by
  unfold State.syncTaps; simp only [List.foldl]; (repeat' split) <;> simp
@[simp] theorem State.carAgree_keys (s : State) : (s.carAgree).rm.keys = s.rm.keys := by
  unfold State.carAgree; dsimp only; split
  · split
    · apply foldl_keys; intro s x; split <;> simp
    · rfl
  · rfl
@[simp] theorem State.mergeTaps_keys (s : State) (l : Lane) (port : Nat) : (s.mergeTaps l port).rm.keys = s.rm.keys := by
  first
  | (unfold State.mergeTaps; (repeat' split) <;> simp; done)
  | (unfold State.mergeTaps; dsimp only; (repeat' split) <;> simp; done)
@[simp] theorem State.ecnTaps_keys (s : State) (l : Lane) (port : Nat) : (s.ecnTaps l port).rm.keys = s.rm.keys := by
  first
  | (unfold State.ecnTaps; (repeat' split) <;> simp; done)
  | (unfold State.ecnTaps; dsimp only; (repeat' split) <;> simp; done)
@[simp] theorem State.arpTaps_keys (s : State) (l : Lane) (port : Nat) (ip : Word) (mac : Mac48) (sip : Word) : (s.arpTaps l port ip mac sip).rm.keys = s.rm.keys := by
  first
  | (unfold State.arpTaps; (repeat' split) <;> simp; done)
  | (unfold State.arpTaps; dsimp only; (repeat' split) <;> simp; done)
@[simp] theorem State.onVote_keys (s : State) (l : Lane) (f : LaneState → LaneState) : (s.onVote l f).rm.keys = s.rm.keys := by
  first
  | (unfold State.onVote; (repeat' split) <;> simp; done)
  | (unfold State.onVote; dsimp only; (repeat' split) <;> simp; done)
@[simp] theorem State.trapSafe_keys (s : State) : (s.trapSafe).rm.keys = s.rm.keys := by
  first
  | (unfold State.trapSafe; (repeat' split) <;> simp; done)
  | (unfold State.trapSafe; dsimp only; (repeat' split) <;> simp; done)
@[simp] theorem State.inVoting_keys (s : State) (f : LaneState → LaneState) : (s.inVoting f).rm.keys = s.rm.keys := by
  first
  | (unfold State.inVoting; (repeat' split) <;> simp; done)
  | (unfold State.inVoting; dsimp only; (repeat' split) <;> simp; done)
@[simp] theorem State.modeCmd_keys (s : State) (need : Bool) (src : CmdSrc) (goal : Mode) (from_ : List Mode) (f : LaneState → LaneState) : (s.modeCmd need src goal from_ f).rm.keys = s.rm.keys := by
  first
  | (unfold State.modeCmd; (repeat' split) <;> simp; done)
  | (unfold State.modeCmd; dsimp only; (repeat' split) <;> simp; done)
@[simp] theorem State.applyOp_keys (s : State) (o : RmOp) : (s.applyOp o).rm.keys = s.rm.keys := by cases o <;> simp [State.applyOp]
@[simp] theorem State.sendOp_keys (s : State) (o : RmOp) : (s.sendOp o).rm.keys = s.rm.keys := by
  first
  | (unfold State.sendOp; (repeat' split) <;> simp; done)
  | (unfold State.sendOp; dsimp only; (repeat' split) <;> simp; done)
@[simp] theorem State.runOps_keys (s : State) : (s.runOps).rm.keys = s.rm.keys := by
  unfold State.runOps; dsimp only; split
  · rfl
  · rw [foldl_keys]; intro s x; split <;> simp
@[simp] theorem State.serviceOnly_keys (s : State) (src : CmdSrc) (o : RmOp) : (s.serviceOnly src o).rm.keys = s.rm.keys := by
  first
  | (unfold State.serviceOnly; (repeat' split) <;> simp; done)
  | (unfold State.serviceOnly; dsimp only; (repeat' split) <;> simp; done)
@[simp] theorem State.forceCmd_keys (s : State) (src : CmdSrc) (o : RmOp) : (s.forceCmd src o).rm.keys = s.rm.keys := by
  first
  | (unfold State.forceCmd; (repeat' split) <;> simp; done)
  | (unfold State.forceCmd; dsimp only; (repeat' split) <;> simp; done)
@[simp] theorem State.askAgain_keys (s : State) (j : Lane) (b : Nat) : (s.askAgain j b).rm.keys = s.rm.keys := by
  first
  | (unfold State.askAgain; (repeat' split) <;> simp; done)
  | (unfold State.askAgain; dsimp only; (repeat' split) <;> simp; done)
theorem execFreeze_keys (fs : FreezeSrc) (c : CmdSrc) (s : State) : (resOr s (execFreeze fs c s)).rm.keys = s.rm.keys := by
  unfold execFreeze
  split
  · rfl
  · split
    · rw [resOr, State.answer_rm_keys]
    · split
      · rw [resOr, State.answer_rm_keys, State.showEvr_keys]; dsimp only; rw [State.fsetAll_keys]
      · rw [resOr, State.answer_rm_keys]

theorem execUnfreeze_keys (fs : FreezeSrc) (s : State) : (resOr s (execUnfreeze fs s)).rm.keys = s.rm.keys := by
  unfold execUnfreeze; (repeat' split) <;> simp [resOr]

theorem execEvrReadStart_keys (l : Lane) (ag : Agent) (v : Word) (s : State) : (resOr s (execEvrReadStart l ag v s)).rm.keys = s.rm.keys := by
  unfold execEvrReadStart; dsimp only; (repeat' split) <;> simp [resOr]

@[simp] theorem execEvrReadNext_keys (l : Lane) (ag : Agent) (s : State) : (resOr s (execEvrReadNext l ag s)).rm.keys = s.rm.keys := by
  unfold execEvrReadNext; dsimp only; (repeat' split) <;> simp [resOr]

/-- The registers that act beyond a lane keep it too. -/
theorem State.auxReg_keys (s : State) (l : Lane) (o : Nat) (v : Word) (t : State) (h : s.auxReg l o v = some t) : t.rm.keys = s.rm.keys := by
  unfold State.auxReg at h
  split at h
  · cases h; simp [resOr, execEcnAuxKick]
  split at h
  · cases h; exact execEvrReadStart_keys l .x v s
  split at h
  · cases h
    have h1 : (if v.getLsbD 0 = true then resOr s (execFreeze .aux {} s) else s).rm.keys = s.rm.keys := by
      split
      · exact execFreeze_keys _ _ _
      · rfl
    split
    · rw [execUnfreeze_keys, h1]
    · exact h1
  split at h
  · cases h; simp [resOr, execAuxMessageSend]
  split at h
  · cases h; simp [resOr, execMbxAuxinAck]
  · cases h

/-- An auxiliary instruction keeps it when its effect within the lane does. -/
theorem State.auxActs_keys (s : State) (l : Lane) (i : Instr) (plain : State) (o : Op) (h : plain.rm.keys = s.rm.keys) :
    (s.auxActs l i plain o).rm.keys = s.rm.keys := by
  cases o with
  | load ea n k =>
    unfold State.auxActs
    dsimp only
    split
    · rw [State.onLane_keys, execEvrReadNext_keys]
    · exact h
  | store ea n v a =>
    unfold State.auxActs
    dsimp only
    split
    · rename_i g
      obtain ⟨r, _, hr⟩ := Option.bind_eq_some_iff.mp g
      rw [State.onLane_keys, State.auxReg_keys _ _ _ _ _ hr]
    · exact h
  | _ => exact h

@[simp] theorem State.auxRun_keys (s : State) (l : Lane) (i : Instr) (sem : Sem) : (s.auxRun l i sem).rm.keys = s.rm.keys := by
  unfold State.auxRun; exact State.auxActs_keys _ _ _ _ _ (State.onVote_keys _ _ _)
@[simp] theorem State.runJfi_keys (s : State) (u : CoreId) (i : Instr) (sem : Sem) : (s.runJfi u i sem).rm.keys = s.rm.keys := by
  first
  | (unfold State.runJfi; (repeat' split) <;> simp; done)
  | (unfold State.runJfi; dsimp only; (repeat' split) <;> simp; done)
@[simp] theorem State.lanesDown_keys (s : State) (hold : Bool) : (s.lanesDown hold).rm.keys = s.rm.keys := by
  first
  | (unfold State.lanesDown; (repeat' split) <;> simp; done)
  | (unfold State.lanesDown; dsimp only; (repeat' split) <;> simp; done)
@[simp] theorem State.switchSlot_keys (s : State) (t : ImgType) : (s.switchSlot t).rm.keys = s.rm.keys := by
  first
  | (unfold State.switchSlot; (repeat' split) <;> simp; done)
  | (unfold State.switchSlot; dsimp only; (repeat' split) <;> simp; done)
@[simp] theorem State.showBoot_keys (s : State) : (s.showBoot).rm.keys = s.rm.keys := by
  first
  | (unfold State.showBoot; (repeat' split) <;> simp; done)
  | (unfold State.showBoot; dsimp only; (repeat' split) <;> simp; done)
@[simp] theorem State.bootSlot_keys (s : State) : (s.bootSlot).rm.keys = s.rm.keys := by
  first
  | (unfold State.bootSlot; (repeat' split) <;> simp; done)
  | (unfold State.bootSlot; dsimp only; (repeat' split) <;> simp; done)
@[simp] theorem State.bootRm_keys (s : State) : (s.bootRm).rm.keys = s.rm.keys := by
  unfold State.bootRm; simp [freshRm]
@[simp] theorem State.fallBackProv_keys (s : State) : (s.fallBackProv).rm.keys = s.rm.keys := by
  unfold State.fallBackProv; dsimp only; split
  · rfl
  · rw [foldl_keys]; intro s x; split <;> simp
@[simp] theorem State.setPwr_keys (s : State) (st idx : Nat) : (s.setPwr st idx).rm.keys = s.rm.keys := by
  first
  | (unfold State.setPwr; (repeat' split) <;> simp; done)
  | (unfold State.setPwr; dsimp only; (repeat' split) <;> simp; done)
@[simp] theorem State.setPhase_keys (s : State) (p : Nat) : (s.setPhase p).rm.keys = s.rm.keys := by
  first
  | (unfold State.setPhase; (repeat' split) <;> simp; done)
  | (unfold State.setPhase; dsimp only; (repeat' split) <;> simp; done)
@[simp] theorem State.setFail_keys (s : State) (code blk : Nat) : (s.setFail code blk).rm.keys = s.rm.keys := by
  first
  | (unfold State.setFail; (repeat' split) <;> simp; done)
  | (unfold State.setFail; dsimp only; (repeat' split) <;> simp; done)
@[simp] theorem State.startLanes_keys (s : State) : (s.startLanes).rm.keys = s.rm.keys := by
  first
  | (unfold State.startLanes; (repeat' split) <;> simp; done)
  | (unfold State.startLanes; dsimp only; (repeat' split) <;> simp; done)
@[simp] theorem State.beginStart_keys (s : State) (cause : Nat) : (s.beginStart cause).rm.keys = s.rm.keys := by
  first
  | (unfold State.beginStart; (repeat' split) <;> simp; done)
  | (unfold State.beginStart; dsimp only; (repeat' split) <;> simp; done)
@[simp] theorem State.restart_keys (s : State) (cause : Nat) : (s.restart cause).rm.keys = s.rm.keys := by
  first
  | (unfold State.restart; (repeat' split) <;> simp; done)
  | (unfold State.restart; dsimp only; (repeat' split) <;> simp; done)
@[simp] theorem State.startFailed_keys (s : State) (code blk : Nat) : (s.startFailed code blk).rm.keys = s.rm.keys := by
  first
  | (unfold State.startFailed; (repeat' split) <;> simp; done)
  | (unfold State.startFailed; dsimp only; (repeat' split) <;> simp; done)
@[simp] theorem State.enterSnet_keys (s : State) (cause : Nat) : (s.enterSnet cause).rm.keys = s.rm.keys := by
  first
  | (unfold State.enterSnet; (repeat' split) <;> simp; done)
  | (unfold State.enterSnet; dsimp only; (repeat' split) <;> simp; done)
@[simp] theorem State.countUp_keys (s : State) (ts : List ImgType) : (s.countUp ts).rm.keys = s.rm.keys := by
  first
  | (unfold State.countUp; (repeat' split) <;> simp; done)
  | (unfold State.countUp; dsimp only; (repeat' split) <;> simp; done)
@[simp] theorem State.failSlots_keys (s : State) (ts others : List ImgType) (code cause : Nat) : (s.failSlots ts others code cause).rm.keys = s.rm.keys := by
  first
  | (unfold State.failSlots; (repeat' split) <;> simp; done)
  | (unfold State.failSlots; dsimp only; (repeat' split) <;> simp; done)
@[simp] theorem State.imagesFail_keys (s : State) (ts : List ImgType) (code : Nat) : (s.imagesFail ts code).rm.keys = s.rm.keys := by
  first
  | (unfold State.imagesFail; (repeat' split) <;> simp; done)
  | (unfold State.imagesFail; dsimp only; (repeat' split) <;> simp; done)
@[simp] theorem State.recordRestart_keys (s : State) : (s.recordRestart).rm.keys = s.rm.keys := by
  first
  | (unfold State.recordRestart; (repeat' split) <;> simp; done)
  | (unfold State.recordRestart; dsimp only; (repeat' split) <;> simp; done)
@[simp] theorem State.testsEnded_keys (s : State) : (s.testsEnded).rm.keys = s.rm.keys := by
  first
  | (unfold State.testsEnded; (repeat' split) <;> simp; done)
  | (unfold State.testsEnded; dsimp only; (repeat' split) <;> simp; done)
@[simp] theorem State.imagePasses_keys (s : State) (t : ImgType) : (s.imagePasses t).rm.keys = s.rm.keys := by
  first
  | (unfold State.imagePasses; (repeat' split) <;> simp; done)
  | (unfold State.imagePasses; dsimp only; (repeat' split) <;> simp; done)
@[simp] theorem State.reachStop_keys (s : State) : (s.reachStop).rm.keys = s.rm.keys := by
  first
  | (unfold State.reachStop; (repeat' split) <;> simp; done)
  | (unfold State.reachStop; dsimp only; (repeat' split) <;> simp; done)
@[simp] theorem State.noSupply_keys (s : State) : (s.noSupply).rm.keys = s.rm.keys := by
  first
  | (unfold State.noSupply; (repeat' split) <;> simp; done)
  | (unfold State.noSupply; dsimp only; (repeat' split) <;> simp; done)
@[simp] theorem State.flushPending_keys (s : State) : (s.flushPending).rm.keys = s.rm.keys := by
  first
  | (unfold State.flushPending; (repeat' split) <;> simp; done)
  | (unfold State.flushPending; dsimp only; (repeat' split) <;> simp; done)
@[simp] theorem State.sendSnet_keys (s : State) (op : Nat) (m : SnetMsg) : (s.sendSnet op m).rm.keys = s.rm.keys := by
  first
  | (unfold State.sendSnet; (repeat' split) <;> simp; done)
  | (unfold State.sendSnet; dsimp only; (repeat' split) <;> simp; done)
@[simp] theorem State.sendRead_keys (s : State) (o : SnetOffer) : (s.sendRead o).rm.keys = s.rm.keys := by
  first
  | (unfold State.sendRead; (repeat' split) <;> simp; done)
  | (unfold State.sendRead; dsimp only; (repeat' split) <;> simp; done)
@[simp] theorem State.writeSnet_keys (s : State) (t : ImgType) (img : Bytes) : (s.writeSnet t img).rm.keys = s.rm.keys := by
  first
  | (unfold State.writeSnet; (repeat' split) <;> simp; done)
  | (unfold State.writeSnet; dsimp only; (repeat' split) <;> simp; done)
@[simp] theorem State.leaveSnet_keys (s : State) : (s.leaveSnet).rm.keys = s.rm.keys := by
  first
  | (unfold State.leaveSnet; (repeat' split) <;> simp; done)
  | (unfold State.leaveSnet; dsimp only; (repeat' split) <;> simp; done)
@[simp] theorem State.outcome_keys (s : State) (kind blk cause target : Nat) : (s.outcome kind blk cause target).rm.keys = s.rm.keys := by
  first
  | (unfold State.outcome; (repeat' split) <;> simp; done)
  | (unfold State.outcome; dsimp only; (repeat' split) <;> simp; done)
@[simp] theorem State.toOff_keys (s : State) : (s.toOff).rm.keys = s.rm.keys := by
  first
  | (unfold State.toOff; (repeat' split) <;> simp; done)
  | (unfold State.toOff; dsimp only; (repeat' split) <;> simp; done)
@[simp] theorem State.toDormant_keys (s : State) (r436 : Bool) : (s.toDormant r436).rm.keys = s.rm.keys := by
  first
  | (unfold State.toDormant; (repeat' split) <;> simp; done)
  | (unfold State.toDormant; dsimp only; (repeat' split) <;> simp; done)
@[simp] theorem State.setPending_keys (s : State) (t : Option Nat) : (s.setPending t).rm.keys = s.rm.keys := by
  first
  | (unfold State.setPending; (repeat' split) <;> simp; done)
  | (unfold State.setPending; dsimp only; (repeat' split) <;> simp; done)
@[simp] theorem State.request_keys (s : State) (t : Nat) : (s.request t).rm.keys = s.rm.keys := by
  first
  | (unfold State.request; (repeat' split) <;> simp; done)
  | (unfold State.request; dsimp only; (repeat' split) <;> simp; done)
@[simp] theorem State.evalPending_keys (s : State) : (s.evalPending).rm.keys = s.rm.keys := by
  first
  | (unfold State.evalPending; (repeat' split) <;> simp; done)
  | (unfold State.evalPending; dsimp only; (repeat' split) <;> simp; done)
@[simp] theorem State.endAbort_keys (s : State) : (s.endAbort).rm.keys = s.rm.keys := by
  first
  | (unfold State.endAbort; (repeat' split) <;> simp; done)
  | (unfold State.endAbort; dsimp only; (repeat' split) <;> simp; done)
@[simp] theorem State.endEntry_keys (s : State) (blk cause : Nat) (lane : Lane) : (s.endEntry blk cause lane).rm.keys = s.rm.keys := by
  first
  | (unfold State.endEntry; (repeat' split) <;> simp; done)
  | (unfold State.endEntry; dsimp only; (repeat' split) <;> simp; done)
@[simp] theorem State.gatePart_keys (s : State) (p : Nat) : (s.gatePart p).rm.keys = s.rm.keys := by
  first
  | (unfold State.gatePart; (repeat' split) <;> simp; done)
  | (unfold State.gatePart; dsimp only; (repeat' split) <;> simp; done)
@[simp] theorem State.startWake_keys (s : State) : (s.startWake).rm.keys = s.rm.keys := by
  first
  | (unfold State.startWake; (repeat' split) <;> simp; done)
  | (unfold State.startWake; dsimp only; (repeat' split) <;> simp; done)
@[simp] theorem State.wake_keys (s : State) (bit : Nat) : (s.wake bit).rm.keys = s.rm.keys := by
  first
  | (unfold State.wake; (repeat' split) <;> simp; done)
  | (unfold State.wake; dsimp only; (repeat' split) <;> simp; done)
@[simp] theorem State.type4_keys (s : State) (port : Nat) (e : Emit) : (s.type4 port e).rm.keys = s.rm.keys := by
  first
  | (unfold State.type4; (repeat' split) <;> simp; done)
  | (unfold State.type4; dsimp only; (repeat' split) <;> simp; done)
@[simp] theorem State.type4All_keys (s : State) (e : Nat → Emit) : (s.type4All e).rm.keys = s.rm.keys := by
  first
  | (unfold State.type4All; (repeat' split) <;> simp; done)
  | (unfold State.type4All; dsimp only; (repeat' split) <;> simp; done)
@[simp] theorem State.showUpd_keys (s : State) : (s.showUpd).rm.keys = s.rm.keys := by
  first
  | (unfold State.showUpd; (repeat' split) <;> simp; done)
  | (unfold State.showUpd; dsimp only; (repeat' split) <;> simp; done)
@[simp] theorem State.setStaging_keys (s : State) (t : ImgType) (g : Option Staging) : (s.setStaging t g).rm.keys = s.rm.keys := by
  first
  | (unfold State.setStaging; (repeat' split) <;> simp; done)
  | (unfold State.setStaging; dsimp only; (repeat' split) <;> simp; done)
@[simp] theorem State.setSpare_keys (s : State) (t : ImgType) (v : Slot) : (s.setSpare t v).rm.keys = s.rm.keys := by
  first
  | (unfold State.setSpare; (repeat' split) <;> simp; done)
  | (unfold State.setSpare; dsimp only; (repeat' split) <;> simp; done)
@[simp] theorem State.askChunk_keys (s : State) (g : Staging) : (s.askChunk g).rm.keys = s.rm.keys := by
  first
  | (unfold State.askChunk; (repeat' split) <;> simp; done)
  | (unfold State.askChunk; dsimp only; (repeat' split) <;> simp; done)
@[simp] theorem State.abandonStaging_keys (s : State) (g : Staging) : (s.abandonStaging g).rm.keys = s.rm.keys := by
  first
  | (unfold State.abandonStaging; (repeat' split) <;> simp; done)
  | (unfold State.abandonStaging; dsimp only; (repeat' split) <;> simp; done)
@[simp] theorem State.turnAway_keys (s : State) (g : Staging) : (s.turnAway g).rm.keys = s.rm.keys := by
  first
  | (unfold State.turnAway; (repeat' split) <;> simp; done)
  | (unfold State.turnAway; dsimp only; (repeat' split) <;> simp; done)
@[simp] theorem State.finishSlot_keys (s : State) (t : ImgType) (img : Bytes) : (s.finishSlot t img).rm.keys = s.rm.keys := by
  first
  | (unfold State.finishSlot; (repeat' split) <;> simp; done)
  | (unfold State.finishSlot; dsimp only; (repeat' split) <;> simp; done)
@[simp] theorem State.takeChunk_keys (s : State) (g : Staging) (crc : Word) : (s.takeChunk g crc).rm.keys = s.rm.keys := by
  first
  | (unfold State.takeChunk; (repeat' split) <;> simp; done)
  | (unfold State.takeChunk; dsimp only; (repeat' split) <;> simp; done)
@[simp] theorem State.setReady_keys (s : State) (v : DWord) : (s.setReady v).rm.keys = s.rm.keys := by
  first
  | (unfold State.setReady; (repeat' split) <;> simp; done)
  | (unfold State.setReady; dsimp only; (repeat' split) <;> simp; done)
@[simp] theorem State.setOrder_keys (s : State) (o : OrderState) : (s.setOrder o).rm.keys = s.rm.keys := by
  first
  | (unfold State.setOrder; (repeat' split) <;> simp; done)
  | (unfold State.setOrder; dsimp only; (repeat' split) <;> simp; done)
@[simp] theorem State.ownReady_keys (s : State) (o : OrderState) : (s.ownReady o).rm.keys = s.rm.keys := by
  first
  | (unfold State.ownReady; (repeat' split) <;> simp; done)
  | (unfold State.ownReady; dsimp only; (repeat' split) <;> simp; done)
@[simp] theorem State.decide__keys (s : State) (o : OrderState) (go : Bool) : (s.decide_ o go).rm.keys = s.rm.keys := by
  first
  | (unfold State.decide_; (repeat' split) <;> simp; done)
  | (unfold State.decide_; dsimp only; (repeat' split) <;> simp; done)
@[simp] theorem State.readyNow_keys (s : State) : (s.readyNow).rm.keys = s.rm.keys := by
  first
  | (unfold State.readyNow; (repeat' split) <;> simp; done)
  | (unfold State.readyNow; dsimp only; (repeat' split) <;> simp; done)
@[simp] theorem State.orderCycle_keys (s : State) : (s.orderCycle).rm.keys = s.rm.keys := by
  first
  | (unfold State.orderCycle; (repeat' split) <;> simp; done)
  | (unfold State.orderCycle; dsimp only; (repeat' split) <;> simp; done)
@[simp] theorem State.switchSet_keys (s : State) (o : UpdOrder) : (s.switchSet o).rm.keys = s.rm.keys := by
  first
  | (unfold State.switchSet; (repeat' split) <;> simp; done)
  | (unfold State.switchSet; dsimp only; (repeat' split) <;> simp; done)
@[simp] theorem State.activated_keys (s : State) (o : OrderState) : (s.activated o).rm.keys = s.rm.keys := by
  first
  | (unfold State.activated; (repeat' split) <;> simp; done)
  | (unfold State.activated; dsimp only; (repeat' split) <;> simp; done)
@[simp] theorem State.activateRestart_keys (s : State) (o : OrderState) : (s.activateRestart o).rm.keys = s.rm.keys := by
  first
  | (unfold State.activateRestart; (repeat' split) <;> simp; done)
  | (unfold State.activateRestart; dsimp only; (repeat' split) <;> simp; done)

end Sys2Proof.Machine
end

