-- ==== Sys2Proof/Laws/Vital.lean ====
section
/-! SUPPORT. What a vital task's store to a register that acts comes to. -/

namespace Sys2Proof.Machine

/-- A store the register accepts is its effect. -/
theorem vitalCmd_ok (x y : LaneState) (o : Nat) (v : Word) (h1 : vitalRuns x = true) (h2 : x.c0.dbgHalted = false) (h3 : writeOk x .v o = true)
    (h4 : vitalPut x o v = .ok y) : vitalCmd o v x = y := by
  unfold vitalCmd
  rw [h1, h2, h3, h4]
  rfl

/-- A register of a CAN controller is none of the others that act. -/
theorem vitalPut_can (x : LaneState) (k : CanNo) (o : Nat) (v : Word) (ho : o < 16384) :
    vitalPut x (0x090000 + 16384 * k.val + o) v =
      if o = 0x40 then canQqackStore x k 0 v
      else if o = 0x44 then canQqackStore x k 1 v
      else if o = 0x60 then canTxreqStore x k v
      else if o = 0x64 then canTxcancelStore x k v
      else .ok (plainWrite x (0x090000 + 16384 * k.val + o) v) := by
  have h := k.isLt
  have h1 : (0x090000 + 16384 * k.val + o - 0x090000) / 16384 = k.val := by omega
  have h2 : (0x090000 + 16384 * k.val + o - 0x090000) % 16384 = o := by omega
  unfold vitalPut Rg.SAF_SEND Rg.CAR_CAB Rg.CAR_COMMIT Rg.FIO_SOE_ACK Rg.PWR_REQ
  rw [if_neg (by simp only [Bool.and_eq_true, decide_eq_true_eq]; omega), if_neg (by simp only [Bool.and_eq_true, decide_eq_true_eq]; omega),
    if_neg (by omega), if_neg (by omega), if_neg (by omega), if_neg (by omega), if_neg (by omega),
    if_pos (by simp only [Bool.and_eq_true, decide_eq_true_eq]; omega)]
  dsimp only
  rw [h1, h2]

theorem vitalPut_canTxreq (x : LaneState) (k : CanNo) (v : Word) : vitalPut x (Rg.CAN_TXREQ k) v = canTxreqStore x k v := by
  have h := vitalPut_can x k 0x60 v (by omega)
  rwa [Nat.add_right_comm] at h

theorem vitalPut_canTxcancel (x : LaneState) (k : CanNo) (v : Word) : vitalPut x (Rg.CAN_TXCANCEL k) v = canTxcancelStore x k v := by
  have h := vitalPut_can x k 0x64 v (by omega)
  rwa [Nat.add_right_comm] at h

theorem vitalPut_canQqack (x : LaneState) (k : CanNo) (q : Bool) (v : Word) : vitalPut x (Rg.CAN_QqACK k (b2n q)) v = canQqackStore x k (b2n q) v := by
  cases q
  · have h := vitalPut_can x k 0x40 v (by omega)
    rwa [Nat.add_right_comm] at h
  · have h := vitalPut_can x k 0x44 v (by omega)
    rw [show Rg.CAN_QqACK k (b2n true) = 0x090000 + 16384 * k.val + 0x44 by unfold Rg.CAN_QqACK b2n; simp only [if_true]; omega]
    exact h

end Sys2Proof.Machine
end

