-- ==== Sys2Proof/Tests/Slice0.lean ====
section
/-! SUPPORT. Tests: ill-formed commands refused, worked examples of the manual, and states and operands that meet the statements' hypotheses. -/

namespace Sys2Proof.Tests

open Sys2Proof Sys2Proof.Machine

/-! States small enough to compute with. -/

/-- A lane after start-up, in RUN, all three lanes voting, with the registers given before those. -/
def lane (x : Lane) (regs : List (Nat × Word)) : LaneState :=
  { id := x, regs := regs ++ [(Rg.SYS_STATUS, 4), (Rg.CYC_STATUS, 0x10), (Rg.TRI_STATUS, 0x70)]
    c0 := { halted := false }, c1 := { halted := false } }

/-- The module of three lanes, Ringmaster up. -/
def mods (a b c : LaneState) : State := { la := a, lb := b, lc := c, rm := { alive := true } }

/-- The module with those lanes, Ringmaster up. -/
def module (regs : List (Nat × Word)) : State :=
  { la := lane .a regs, lb := lane .b regs, lc := lane .c regs, rm := { alive := true } }

/-- Registers of a core at an instruction of vital code, two of them set. -/
def ctx (a b : Word) : CoreCtx := { ip := 0x20000, w := ((Vector.replicate 32 0).set 4 a).set 6 b }

/-- The instance that runs. -/
def inst : Instance := { slot := 1 }

/-- Lane A stands at an instruction of a task. -/
def standing (e : TaskEnt) (c : CoreCtx) : State :=
  let m := module []
  { m with la := { m.la with
    c0 := { halted := false, ctx := c }, c1 := { halted := false, ctx := c }, exe := { insts := [inst], running := some 1 }
    app := some { loadAddr := 0x10000, tasks := [e], blocks := [(0x100, 0x20)] } } }

/-- The auxiliary core of lane A stands at an instruction of its bank 1. -/
def auxStanding (c : CoreCtx) : State :=
  let m := module [(Rg.TRP_MODE, 1), (Rg.TRP_AUX_BANKS, 2), (Rg.TRP_AUX_STATUS, 1)]
  { m with la := { m.la with c1 := { halted := false, ctx := c }, aux := some { loadAddr := 0x40000, auxTrap := 0x80, blocks := [(0x100, 0x20)] } } }

/-- The vital core of lane A and its auxiliary core. -/
def vital : CoreId := ⟨.a, false⟩
/-- The auxiliary core. -/
def auxil : CoreId := ⟨.a, true⟩

theorem test_stands (e : TaskEnt) (c : CoreCtx) (h : c.ip = 0x20000) : CoreAt vital inst c (standing e c) := by
  have hr : vitalRuns ((standing e c).lane .a) = vitalRuns ((standing {} {}).lane .a) := rfl
  have hf : vitalFetch ((standing e c).lane .a) 0x20000 = vitalFetch ((standing {} {}).lane .a) 0x20000 := rfl
  refine ⟨rfl, ?_⟩
  simp only [vital, Bool.false_eq_true, if_false]
  exact
    { runs := by rw [hr]; decide
      inst := rfl
      free := rfl
      clear := rfl
      ctx0 := rfl
      ctx1 := fun _ => rfl
      code := by rw [h]; exact hf.trans (by decide)
      clean := ⟨rfl, rfl⟩
      calm := ⟨rfl, rfl, rfl⟩
      idle := rfl }

theorem test_aux_stands (c : CoreCtx) (i : Instance) (h : c.ip = 0x40000) : CoreAt auxil i c (auxStanding c) := by
  have hr : auxRuns ((auxStanding c).lane .a) = auxRuns ((auxStanding {}).lane .a) := rfl
  have hf : auxFetch ((auxStanding c).lane .a) 0x40000 = auxFetch ((auxStanding {}).lane .a) 0x40000 := rfl
  refine ⟨rfl, ?_⟩
  simp only [auxil, if_true]
  exact
    { runs := by rw [hr]; decide
      free := rfl
      ctx := rfl
      cache := by intro b hb; cases hb
      code := by rw [h]; exact hf.trans (by decide)
      clean := ⟨rfl, rfl⟩
      calm := ⟨rfl, rfl, rfl⟩ }

/-! Ill-formed commands, one for each check of WellFormed. -/

theorem test_wf_port : Instr.wellFormed (.pcieLinkReady .a 4) = false ∧ Instr.wellFormed (.pcieLinkReady .a 3) = true := by decide
theorem test_wf_below : Instr.wellFormed (.keyRevoke {} 8) = false ∧ Instr.wellFormed (.keyRevoke {} 7) = true := by decide
theorem test_wf_between : Instr.wellFormed (.powerStateRequest .vital 0) = false ∧ Instr.wellFormed (.powerStateRequest .vital 3) = true := by decide
theorem test_wf_distinct : Instr.wellFormed (.linkFailure .a .a) = false ∧ Instr.wellFormed (.linkFailure .a .b) = true := by decide
theorem test_wf_channels : Instr.wellFormed (.offPulseEnd .a 0 true [96]) = false ∧ Instr.wellFormed (.offPulseEnd .a 0 true [95]) = true := by decide
theorem test_wf_data : Instr.wellFormed (.operatorMessage {} 0 (List.replicate 57 0)) = false
    ∧ Instr.wellFormed (.operatorMessage {} 0 (List.replicate 56 0)) = true := by decide
theorem test_wf_plain_register : Instr.wellFormed (.registerWrite .a .x Rg.BRG_XFER 0) = false ∧ Instr.wellFormed (.registerWrite .a .x 1 0) = false
    ∧ Instr.wellFormed (.registerWrite .a .x Rg.MER_CFG 0) = true := by decide
theorem test_wf_rc_register : Instr.wellFormed (.rcRegisterRead .a .x Rg.MER_CFG) = false
    ∧ Instr.wellFormed (.rcRegisterRead .a .x Rg.CYC_SLACK_MIN) = true := by decide
theorem test_wf_can_frame : Instr.wellFormed (.canFrameReceive .a 0 { dlc := 16 }) = false ∧ Instr.wellFormed (.canFrameReceive .a 0 { data := List.replicate 9 0 }) = false
    ∧ Instr.wellFormed (.canFrameReceive .a 0 { id := 0x20000000, dlc := 15, data := List.replicate 64 0 }) = true := by decide
theorem test_wf_ethernet_frame : Instr.wellFormed (.auxTxRequest .a { tag := some (4096, 0) }) = false
    ∧ Instr.wellFormed (.auxTxRequest .a { tag := some (4095, 7), etype := 0x800 }) = true := by decide
theorem test_wf_carousel_frame : Instr.wellFormed (.scheduledFrameReceive .a { payload := List.replicate 1477 0 }) = false
    ∧ Instr.wellFormed (.scheduledFrameReceive .a { port := 3 }) = true := by decide +kernel
theorem test_wf_sync : Instr.wellFormed (.syncReceive .a { pos := 0 }) = false ∧ Instr.wellFormed (.syncReceive .a { pos := 63 }) = true := by decide
theorem test_wf_set : Instr.wellFormed (.agreeSetReceive .a .b { fb := { cross := [(0, 96)] } }) = false
    ∧ Instr.wellFormed (.agreeSetReceive .a .b { fb := { cross := [(0, 95)] } }) = true := by decide
theorem test_wf_order : Instr.wellFormed (.order { tags := List.replicate 6 0 }) = false ∧ Instr.wellFormed (.order { tags := List.replicate 5 0 }) = true := by decide

/-! Worked examples of the manual. -/

/-- The words of chapters 04 and 05: TRAP 3, ADD.SS w5, w6, w7, LDXW w8, d3, w9, LUI w6, 0x41F0, F2I w4, w3, F2I.T w4, w3. -/
theorem test_decode_values : decodeJfi vital 0x00001801 = some (.trap vital 3) ∧ decodeJfi vital 0x04A63A00 = some (.add vital .ss false 5 6 7)
    ∧ decodeJfi vital 0x05064842 = some (.ldxw vital 8 6 9) ∧ decodeJfi vital 0x18C041F0 = some (.lui vital 6 0x41F0)
    ∧ decodeJfi vital 0x28830000 = some (.f2i vital false 4 3) ∧ decodeJfi vital 0x28830100 = some (.f2i vital true 4 3) := by decide
/-- BC RZ w2, +4, BR +3, RET, a CALL of 16 instructions back, MUX w9 with n = 3, and the erased flash word. -/
theorem test_decode_control : decodeJfi vital 0x64500004 = some (.bc vital 16 2 4) ∧ decodeJfi vital 0x60000003 = some (.br vital 3)
    ∧ decodeJfi vital 0x74000000 = some (.ret vital) ∧ decodeJfi vital 0x6FFFFFF0 = some (.call vital (-16))
    ∧ decodeJfi vital 0x91290000 = some (.mux vital 1 9) ∧ decodeJfi vital 0xFFFFFFFF = none ∧ decodeJfi vital 0x74000001 = none := by decide
/-- The SRAM code's example in chapter 07: check symbols of 0x0000_0410, and the correction of c₅ by 0x2. -/
theorem test_ecc_example : eccCheck codeSram [0, 1, 4, 0, 0, 0, 0, 0] = (8, 7, 0xA) ∧ eccDecode codeSram [(5, 2)] = .corrected 5 2
    ∧ eccDecode codeSram [(5, 2), (6, 1)] = .bad := by decide
/-- Table CVU-2: "123456789" in CRC-16/IBM-3740 and in the CRC-32 of IEEE 802.3, whose VALUE reads 0x9B63_D02C. -/
theorem test_crc_examples :
    let text := [0x31, 0x32, 0x33, 0x34, 0x35, 0x36, 0x37, 0x38, 0x39]
    let p : CrcPar := { width := 16, poly := 0x1021, init := 0xFFFF, refIn := false, refOut := false, xorOut := 0 }
    let q : CrcPar := { width := 32, poly := 0x04C11DB7, init := 0xFFFFFFFF, refIn := true, refOut := true, xorOut := 0xFFFFFFFF }
    crcResult p (text.foldl (crcByte p) p.init) = 0x29B1 ∧ text.foldl (crcByte q) q.init = 0x9B63D02C ∧ crcResult q 0x9B63D02C = 0xCBF43926 := by decide +kernel
/-- Table JFM-7: ∞ - ∞, a quiet and a signalling NaN, 1 / 0, a tie to even below the smallest number; 3.5 to nearest and truncated. -/
theorem test_float_examples : faddB f32 0x7F800000 0xFF800000 = (0x7FC00000, true) ∧ fmulB f32 0x7FC01234 0x3F800000 = (0x7FC00000, false)
    ∧ faddB f32 0x7F800001 0 = (0x7FC00000, true) ∧ fdivB f32 0x3F800000 0 = (0x7F800000, false) ∧ fmulB f32 1 0x3F000000 = (0, false)
    ∧ f2int f32 32 true false 0x40600000 = (4, false) ∧ f2int f32 32 true true 0x40600000 = (3, false) := by decide
/-- No word spells a command. -/
theorem test_fetch_word (s : State) (n w : Nat) : s.withFetchWord n w = s := rfl

/-! Instructions: states and operands that meet the hypotheses. -/

/-- The auxiliary core's registers at an instruction of its bank. -/
def actx (a b : Word) : CoreCtx := { ctx a b with ip := 0x40000 }
/-- Lane A stands at an instruction; pair 4 and word 4 hold `a`, pair 6 and word 6 hold `b`. -/
abbrev at2 (a b : Word) : State := standing {} (ctx a b)
/-- The same where the task has ARITH_TRAP and a handler. -/
abbrev trapping (a b : Word) : State := standing { slot := 1, arith := true, handler := 0x10200 } (ctx a b)

theorem meets_IntegerArithmetic : CoreAt vital inst (ctx 7 2) (at2 7 2) ∧ CoreAt auxil inst (actx 7 2) (auxStanding (actx 7 2)) ∧ destOk 8 ∧ pairsOk true [8, 4, 6] :=
  ⟨test_stands _ _ rfl, test_aux_stands _ _ rfl, rfl, fun _ => by decide⟩

/-- By 0; the corner; an ordinary division; ABS of the least number; E may be set; under ARITH_TRAP it traps. -/
theorem meets_DivisionAndAbsolute : CoreAt vital inst (ctx 7 0) (at2 7 0) ∧ opnd false (ctx 7 0) 6 = 0 ∧ SetsE vital (at2 7 0) ∧ SetsE auxil (at2 7 0)
    ∧ CoreAt vital inst (ctx 7 0) (trapping 7 0) ∧ arithTrap ((trapping 7 0).lane .a) = true
    ∧ CoreAt vital inst (ctx 0x80000000 (-1)) (at2 0x80000000 (-1)) ∧ sxI 32 (opnd false (ctx 0x80000000 (-1)) 4) = -(2 ^ 31) ∧ sxI 32 (opnd false (ctx 0x80000000 (-1)) 6) = -1
    ∧ opnd false (ctx 0x80000000 3) 4 = 2 ^ 31 ∧ opnd false (ctx 0x80000000 3) 6 ≠ 0 :=
  ⟨test_stands _ _ rfl, rfl, .inr (by decide), .inl rfl, test_stands _ _ rfl, by decide, test_stands _ _ rfl, by decide, by decide, by decide, by decide⟩

/-- Amounts at the width and below it. -/
theorem meets_LogicAndShifts : CoreAt vital inst (ctx 7 32) (at2 7 32) ∧ 32 ≤ opnd false (ctx 7 32) 6 % 2 ^ 32 ∧ CoreAt vital inst (ctx 7 31) (at2 7 31)
    ∧ opnd false (ctx 7 31) 6 % 2 ^ 32 < 32 ∧ destOk 8 ∧ pairsOk true [8, 4, 6] :=
  ⟨test_stands _ _ rfl, by decide, test_stands _ _ rfl, by decide, rfl, fun _ => by decide⟩

theorem meets_ComparesAndSelections : CoreAt vital inst (ctx 7 2) (at2 7 2) ∧ pairsOk true [4, 6] ∧ destOk 8 ∧ (15 : Reg).val < 16 ∧ pairsOk true [8, 4, 6] :=
  ⟨test_stands _ _ rfl, fun _ => by decide, rfl, by decide, fun _ => by decide⟩

theorem meets_MovesAndSpecialRegisters : CoreAt auxil inst (actx 7 2) (auxStanding (actx 7 2)) ∧ CoreAt vital inst (ctx 7 2) (at2 7 2) ∧ destOk 8 ∧ badPair 8 = false ∧ auxil.core1 = true ∧ badPair 4 = false :=
  ⟨test_aux_stands _ _ rfl, test_stands _ _ rfl, rfl, rfl, rfl, rfl⟩

/-- A quiet NaN, and a signalling one. -/
theorem meets_FloatArithmetic : CoreAt vital inst (ctx 0x7FC00000 0x7F800001) (at2 0x7FC00000 0x7F800001) ∧ destOk 8 ∧ pairsOk true [8, 4, 6]
    ∧ (unpackF f32 (opnd false (ctx 0x7FC00000 0x7F800001) 4)).isNan = true ∧ (unpackF f32 (opnd false (ctx 0x7FC00000 0x7F800001) 6)).isSnan = true
    ∧ SetsE vital (at2 0x7FC00000 0x7F800001) :=
  ⟨test_stands _ _ rfl, rfl, fun _ => by decide, by decide, by decide, .inr (by decide)⟩

/-- A NaN operand, and the zeros of either sign. -/
theorem meets_FloatComparesAndSigns : CoreAt vital inst (ctx 0x80000000 0) (at2 0x80000000 0) ∧ pairsOk true [4, 6] ∧ destOk 8
    ∧ (unpackF f32 (opnd false (ctx 0x80000000 0) 4)).isNan = false ∧ (unpackF f32 (opnd false (ctx 0x7FC00000 0) 4)).isNan = true :=
  ⟨test_stands _ _ rfl, fun _ => by decide, rfl, by decide, by decide⟩

theorem meets_Conversions : CoreAt vital inst (ctx 0x7FC00000 0) (at2 0x7FC00000 0) ∧ destOk 8 ∧ badPair 8 = false ∧ badPair 4 = false ∧ SetsE vital (at2 0x7FC00000 0)
    ∧ (unpackF f32 0x7FC00000).isNan = true :=
  ⟨test_stands _ _ rfl, rfl, rfl, rfl, .inr (by decide), by decide⟩

/-- A bit of vital SRAM above the image areas, by an index register. -/
theorem meets_BitInstructions : CoreAt vital inst (ctx 0x30 0) (at2 0x30 0) ∧ bitRefOk (.indexed 4 .gp 3) = true
    ∧ mayReach vital ((at2 0x30 0).lane .a) inst 0x30000 1 true = true ∧ mayReach vital ((at2 0x30 0).lane .a) inst 0x30000 1 false = true ∧ destOk 8 :=
  ⟨test_stands _ _ rfl, rfl, by decide, by decide, rfl⟩

/-- Aligned bytes of vital SRAM, the last ones before the input image among them, and of the auxiliary core's bank. -/
theorem meets_LoadsFromSram : CoreAt vital inst (ctx 0x30000 8) (at2 0x30000 8) ∧ destOk 8 ∧ badPair 8 = false ∧ badPair 4 = false ∧ 0x30008 % 8 = 0
    ∧ mayReach vital ((at2 0x30000 8).lane .a) inst 0x30008 8 false = true ∧ mayReach vital ((at2 0x30000 8).lane .a) inst (inBase - 8) 8 false = true
    ∧ CoreAt auxil inst (actx 0x40100 8) (auxStanding (actx 0x40100 8)) ∧ mayReach auxil ((auxStanding (actx 0x40100 8)).lane .a) inst 0x40108 8 false = true :=
  ⟨test_stands _ _ rfl, rfl, rfl, rfl, rfl, by decide, by decide, test_aux_stands _ _ rfl, by decide⟩

theorem meets_StoresToSram : CoreAt vital inst (ctx 0x30000 8) (at2 0x30000 8) ∧ badPair 8 = false ∧ badPair 4 = false
    ∧ mayReach vital ((at2 0x30000 8).lane .a) inst 0x30008 8 true = true ∧ destOk 8 ∧ (wget (ctx 0x30000 8) 4 + (8 : Half).signExtend 32).toNat % 4 = 0
    ∧ CoreAt auxil inst (actx 0x40100 8) (auxStanding (actx 0x40100 8)) ∧ mayReach auxil ((auxStanding (actx 0x40100 8)).lane .a) inst 0x7FFF8 8 true = true :=
  ⟨test_stands _ _ rfl, rfl, rfl, by decide, rfl, by decide, test_aux_stands _ _ rfl, by decide⟩

/-- Forward branches; a counter that ends and one that goes on; room on the stack; a block type of the image; an entry to return to. -/
theorem meets_ControlTransfer : CoreAt vital inst (ctx 1 2) (at2 1 2) ∧ 0 < (1 : BitVec 26).toInt ∧ 0 < (1 : Half).toInt ∧ (16 : Reg).val < 20
    ∧ destOk 4 ∧ (4 : Reg).val ≠ 0 ∧ wget (ctx 1 2) 4 - 1 = 0 ∧ wget (ctx 1 2) 6 - 1 ≠ 0 ∧ (ctx 1 2).lnest.length < 16 ∧ (ctx 1 2).rstack.length < 64
    ∧ (((at2 1 2).lane .a).app.getD {}).blocks[0]? = some (0x100, 0x20)
    ∧ CoreAt vital inst { ctx 1 2 with rstack := [{ ret := 0x20100 }] } (standing {} { ctx 1 2 with rstack := [{ ret := 0x20100 }] }) :=
  ⟨test_stands _ _ rfl, by decide, by decide, by decide, rfl, by decide, by decide, by decide, by decide, by decide, by decide, test_stands _ _ rfl⟩

/-! Function blocks. -/

theorem meets_TimerBlocks : CoreAt vital inst (ctx 1 2) (at2 1 2) ∧ windowOk 4 3 [4] [6] ∧ mayReach vital ((at2 1 2).lane .a) inst 0x30000 24 true = true ∧ SetsE vital (at2 1 2) :=
  ⟨test_stands _ _ rfl, ⟨by decide, by decide, by decide⟩, by decide, .inr (by decide)⟩

theorem meets_EdgesCountersBistables : CoreAt vital inst (ctx 1 2) (at2 1 2) ∧ windowOk 4 1 [] [4] ∧ windowOk 4 3 [] [4, 6] ∧ windowOk 27 1 [] [27]
    ∧ mayReach vital ((at2 1 2).lane .a) inst 0x30000 8 true = true :=
  ⟨test_stands _ _ rfl, ⟨by decide, by decide, by decide⟩, ⟨by decide, by decide, by decide⟩, ⟨by decide, by decide, by decide⟩, by decide⟩

/-- K below and at n; windows of each size; limits in order and crossed. -/
theorem meets_SelectionsAndLimiters : CoreAt vital inst (ctx 1 2) (at2 1 2) ∧ windowOk 4 3 [] [4] ∧ windowOk 4 5 [4, 6] [4, 5] ∧ windowOk 4 6 [] [4] ∧ windowOk 4 11 [4] [4, 5]
    ∧ windowOk 4 6 [4] [4, 5] ∧ SetsE vital (at2 1 2) ∧ (unpackF f32 0x7FC00000).isNan = true ∧ ltZ (unpackF f32 0x80000000) (unpackF f32 0) = true :=
  ⟨test_stands _ _ rfl, ⟨by decide, by decide, by decide⟩, ⟨by decide, by decide, by decide⟩, ⟨by decide, by decide, by decide⟩, ⟨by decide, by decide, by decide⟩,
    ⟨by decide, by decide, by decide⟩, .inr (by decide), by decide, by decide⟩

theorem meets_HysteresisAndDebounce : CoreAt vital inst (ctx 1 2) (at2 1 2) ∧ windowOk 4 3 [] [4] ∧ windowOk 4 3 [4] [6] ∧ nan32 0x7FC00000 = true ∧ SetsE vital (at2 1 2)
    ∧ mayReach vital ((at2 1 2).lane .a) inst 0x30000 16 true = true :=
  ⟨test_stands _ _ rfl, ⟨by decide, by decide, by decide⟩, ⟨by decide, by decide, by decide⟩, by decide, .inr (by decide), by decide⟩

theorem meets_PidAndRamp : CoreAt vital inst (ctx 1 2) (at2 1 2) ∧ windowOk 4 4 [] [4, 7] ∧ windowOk 4 1 [] [4] ∧ nan32 0x7FC00000 = true ∧ flt32 0 0x3F800000 = true ∧ SetsE vital (at2 1 2)
    ∧ mayReach vital ((at2 1 2).lane .a) inst 0x30000 56 true = true :=
  ⟨test_stands _ _ rfl, ⟨by decide, by decide, by decide⟩, ⟨by decide, by decide, by decide⟩, by decide, by decide, .inr (by decide), by decide⟩

/-- A base register, a bad pair, a misaligned address, a full stack, a LOOP at its bound, and division by zero, under a handler. -/
theorem meets_TrapEntry : CoreAt vital inst (ctx 3 0) (trapping 3 0) ∧ isBase (28 : Reg) = true ∧ badPair (5 : Reg) = true ∧ destOk 8
    ∧ (wget (ctx 3 0) 4 + (0 : Half).signExtend 32).toNat % 4 ≠ 0 ∧ arithTrap ((trapping 3 0).lane .a) = true ∧ wget (ctx 3 0) 6 = 0 ∧ (ctx 3 0).inHandler = false
    ∧ (taskEnt ((trapping 3 0).lane .a) 1).handler ≠ 0 ∧ (((auxStanding (actx 3 0)).lane .a).aux.getD {}).auxTrap ≠ 0
    ∧ CoreAt vital inst { ctx 3 0 with rstack := List.replicate 64 {}, lnest := [⟨0x20000, 64, 7⟩] } (standing {} { ctx 3 0 with rstack := List.replicate 64 {}, lnest := [⟨0x20000, 64, 7⟩] })
    ∧ (List.replicate 64 ({} : RetEntry)).length = 64 :=
  ⟨test_stands _ _ rfl, by decide, by decide, rfl, by decide, by decide, by decide, rfl, by decide, by decide, test_stands _ _ rfl, rfl⟩

theorem meets_EventsCachesBreakpoints : CoreAt vital inst (ctx 3 0) (at2 3 0) ∧ inst.evts < 32 ∧ SetsE vital (at2 3 0) ∧ CoreAt auxil { inst with evts := 32 } (actx 3 0) (auxStanding (actx 3 0))
    ∧ ((auxStanding (actx 3 0)).lane .a).mbx.evq.length < 256 ∧ badPair (4 : Reg) = false ∧ ((auxStanding (actx 3 0)).lane .a).c1.swBrk = false :=
  ⟨test_stands _ _ rfl, by decide, .inr (by decide), test_aux_stands _ _ rfl, by decide, by decide, rfl⟩

/-! Registers, counters and check values. -/

/-- Agents that the Who column lists and does not list; a register of each access kind, in STOP and in RUN. -/
theorem meets_RegisterAccess : writeOk (lane .a []) .v Rg.MER_CFG = false ∧ readOk (lane .a []) .v Rg.CYC_STATUS = false ∧ cmpUnit Rg.MER_CFG = none
    ∧ plainReg Rg.MEM_SCRUB_CFG = true ∧ writeOk (lane .a []) .m Rg.MEM_SCRUB_CFG = true ∧ (regRow Rg.MEM_SCRUB_CFG).map (·.acc) = some .rws ∧ modeOf (lane .a []) = .run
    ∧ modeOf (lane .a [(Rg.CYC_STATUS, 0)]) = .stop ∧ plainReg (Rg.PMC_OVFc 1) = true ∧ writeOk (lane .a []) .m (Rg.PMC_OVFc 1) = true
    ∧ (regRow (Rg.PMC_OVFc 1)).map (·.acc) = some .w1c ∧ plainReg Rg.CAR_ATLAS_IDX = true ∧ writeOk (lane .a []) .m Rg.CAR_ATLAS_IDX = true
    ∧ (regRow Rg.CAR_ATLAS_IDX).map (·.acc) = some .rw ∧ plainReg Rg.CYC_SLACK_MIN = true ∧ readOk (lane .a []) .m Rg.CYC_SLACK_MIN = true
    ∧ writeOk (lane .a []) .m Rg.CYC_SLACK_MIN = true ∧ (regRow Rg.CYC_SLACK_MIN).map (·.acc) = some .rc := by decide

theorem meets_PerformanceUnits : Agent.m ≠ .v ∧ writeOk (lane .a []) .m (Rg.PMC_CTRLc 1) = true ∧ readOk (lane .a []) .m (Rg.PMC_CNTc_n_LO 1 7) = true
    ∧ writeOk (lane .a []) .m (Rg.PMC_CNTc_n_HI 1 7) = true ∧ writeOk (lane .a []) .m (Rg.PMC_CNTc_n_LO 0 0) = true ∧ writeOk (lane .a []) .m (Rg.PMC_SEEDc 0) = true
    ∧ writeOk (lane .a []) .m (Rg.PMC_SCTRLc 0) = true := by decide

/-- A context that the auxiliary core owns; one that nobody owns. -/
theorem meets_CheckValueContexts :
    let x := lane .a [(Rg.TRP_MODE, 1), (Rg.CVU_CTXk_CFG 7, 0x2000F)]
    writeOk x .x (Rg.CVU_CTXk_FEED8 7) = true ∧ writeOk x .x (Rg.CVU_CTXk_FEED16 7) = true ∧ writeOk x .x (Rg.CVU_CTXk_FEED32 7) = true ∧ writeOk x .x (Rg.CVU_CTXk_RESTART 7) = true
    ∧ writeOk x .x (Rg.CVU_CTXk_VALUE_HI 7) = true ∧ readOk x .x (Rg.CVU_CTXk_RESULT_LO 7) = true ∧ writeOk x .x (Rg.CVU_CTXk_FEED8 0) = false ∧ cvuWidth x 7 ≤ 64 := by decide

/-! The cycle, modes, voting and memory. -/

/-- Lane A with an agreement set of its own and the others' sets given. -/
def agreeing (sets : List (Lane × AgreeSet)) (w : Bool) : LaneState := { lane .a [] with agree := { own := some {}, sets := sets, waitOver := w } }
/-- A set that differs from the empty one. -/
def otherSet : AgreeSet := { items := [{}] }

theorem meets_SnapshotAndAgreement : execUp (lane .a []) = true ∧ (lane .a []).exe.snapped = false ∧ (module []).rm.ops = [] ∧ Lane.b ≠ (lane .a []).id ∧ sees (lane .a []) .b = true
    ∧ closeCase (agreeing [(.b, {})] false) = some ⟨0, none, 2, [.a, .b]⟩ ∧ closeCase (agreeing [(.b, otherSet)] true) = some ⟨0, some .c, 3, [.a, .b]⟩
    ∧ heldSets (agreeing [(.b, otherSet)] false) = [(.a, {}), (.b, otherSet)] ∧ sameSet otherSet {} = false ∧ heldSets (agreeing [] false) = [(.a, {})]
    ∧ heldSets (agreeing [(.b, otherSet), (.c, {})] false) = [(.a, {}), (.b, otherSet), (.c, {})] := by decide

/-- A set closed and not yet applied. -/
theorem meets_AgreeApply : let x := { agreeing [(.b, {})] false with agree := { own := some {}, closed := some {}, applied := false } }
    x.agree.closed = some {} ∧ x.agree.applied = false ∧ execUp x = true := by decide

/-- Lane A in RUN at the commit of its cycle, one instance due. -/
def committing (i : Instance) : LaneState :=
  { lane .a [] with exe := { insts := [i], owed := [0] }, app := some { tasks := [{ slot := 1 }], wsets := [(1, 8, 11)] } }

theorem meets_CommitAndCommitPoint : commitReady (committing { slot := 1, done := true }) 0 = true ∧ isStandby (committing inst) = false ∧ paired (committing inst) = false
    ∧ execUp (committing inst) = true ∧ isSafe (committing inst) = false ∧ migBehind (committing inst) = false ∧ lateSlots (committing inst) 0 = [1] ∧ pointResult (committing inst) 0 = .overrun
    ∧ (committing inst).exe.abandoned ≠ some 0 ∧ (committing inst).exe.parked = none ∧ (committing inst).exe.mig = none
    ∧ (wsetOf (committing inst) 1).any (fun w => decide (w.1 ≤ 8) && decide (8 < w.1 + w.2)) = true ∧ (wsetOf (committing inst) 1).any (fun w => decide (w.1 ≤ 12) && decide (12 < w.1 + w.2)) = false
    ∧ stopsTask (committing inst) inst = false := by decide

/-- Two overruns at one commit point. -/
theorem meets_AbandonedCycle : let x := { lane .a [] with exe := { ovr := [(.a, 3, .overrun), (.b, 3, .overrun), (.c, 2, .overrun)] } }
    modeOf x = .run ∧ isSafe x = false ∧ x.exe.abandoned ≠ some 3 ∧ (x.exe.ovr.filter (fun o => o.2.1 == 3 && sees x o.1)).map (·.2.2) = [.overrun, .overrun] := by decide

/-- The module at a snapshot, in a mode. -/
def atSnap (mode : Word) : State :=
  let f (x : Lane) : LaneState := { lane x [(Rg.CYC_STATUS, mode), (Rg.SYS_STATUS, 0x84)] with exe := { snapped := true }, agree := { own := some {} }, cfg := { autoRun := true } }
  { la := f .a, lb := f .b, lc := f .c, rm := { alive := true } }

theorem meets_ModeCommands : (atSnap 0).rm.alive = true ∧ (atSnap 0).bringup = false ∧ (atSnap 0).safe = false ∧ (atSnap 0).migrating = false ∧ (atSnap 0).atSnapshot = true
    ∧ (atSnap 0).mode = .stop ∧ (atSnap 0).heldInStop = false ∧ (atSnap 0).autoReady true = true ∧ (atSnap 0x10).mode = .run ∧ (atSnap 0x20).mode = .hold
    ∧ isMaintainer { level := .maintainer } = true ∧ isMaintainer {} = false ∧ (module []).atSnapshot = false ∧ (module [(Rg.TRI_STATUS, 0x270)]).safe = true := by decide

/-- A force operation that applies and one that does not; an entry that expires. -/
theorem meets_ForcesAndBreakpoints : (atSnap 0x10).atSnapshot = true ∧ forceStatusOf (atSnap 0x10).la {} 1 .clearAll ≠ 0
    ∧ (let x := { lane .a [] with app := some {} }; forceStatusOf x { level := .maintainer } 0 .clearAll = 0 ∧ forceStatusOf x { level := .maintainer } 0 (.set { width := 1 }) = 0
      ∧ x.forces.any (fun f => sameKey f.2.f { width := 1 }) = false)
    ∧ (let y := { lane .a [] with app := some {}, forces := [(0, ⟨{ sym := 7 }, false, 5⟩)] }; forceStatusOf y { level := .maintainer } 0 (.clear 7) = 0)
    ∧ (atSnap 0x10).la.exe.snapped = true := by decide

/-- A lane in split mode with debugging enabled and an auxiliary image. -/
def split (regs : List (Nat × Word)) : LaneState := { lane .a (regs ++ [(Rg.TRP_MODE, 3)]) with aux := some {} }

theorem meets_SplitCoreAndDebug : phaseOf (split []) = 4 ∧ votes (split []) = true ∧ isSplit (split []) = true ∧ fget (split []) Rg.TRP_AUX_STATUS 1 0 ≠ 1
    ∧ fget (split [(Rg.TRP_AUX_STATUS, 2)]) Rg.TRP_AUX_STATUS 1 0 = 2 ∧ fget (lane .a []) Rg.TRP_STATUS 1 0 = 0 ∧ (lane .a []).c0.halted = false
    ∧ attachReason (lane .a []) {} false false = 1 ∧ attachReason (split []) {} false false = 2 ∧ attachReason (split []) { level := .maintainer } false false = 0
    ∧ (lane .a []).exe.mig = none ∧ ((voters (lane .a [])).filter (· != Lane.a)).length = 2 := by decide

/-- An attached core, halted: core 1, and core 0 out of comparison with an instance. -/
theorem meets_Attached :
    let x := { split [(Rg.TRP_STATUS, 0x80), (Rg.TRP_DBG_STATUS, 3), (Rg.TRP_AUX_STATUS, 1)] with dbg := { core1 := true } }
    let y := { lane .a [(Rg.TRP_STATUS, 0x82), (Rg.TRP_DBG_STATUS, 3)] with exe := { insts := [inst], running := some 1 } }
    attached x = true ∧ bget x Rg.TRP_DBG_STATUS 1 = true ∧ auxRuns x = true ∧ attached y = true ∧ vitalRuns y = true ∧ y.dbg.core1 = false
    ∧ (decodeJfi ⟨.a, false⟩ 0).isSome = true ∧ (semOf (.nop ⟨.a, false⟩)).isSome = true := by decide

theorem meets_VotingRecords : recOk (lane .a []) { typ := 1, sender := .b } 1 = true ∧ recOk (lane .a []) { typ := 6, sender := .b } 6 = true ∧ recOk (lane .a []) { typ := 2, sender := .b } 2 = true
    ∧ recOk (lane .a []) { typ := 3, sender := .b } 3 = true ∧ recOk (lane .a []) { typ := 4, sender := .b } 4 = true ∧ recOk (lane .a []) { typ := 5, sender := .c } 5 = true
    ∧ recOk (lane .a []) { typ := 1, sender := .a } 1 = false ∧ 0 < ({ lane .a [] with exe := { n := 1 } } : LaneState).exe.n := by decide

/-- Two equal digests: an item leaves. -/
theorem meets_ReleaseNeedsTwo :
    let x := { lane .a [] with tri := { digs := [{ stream := 0x500, digest := 7 }, { sender := .b, stream := 0x500, digest := 7 }] } }
    (releaseOne x 0x500).isSome = true ∧ bget x Rg.TRI_STATUS 10 = false := by decide

theorem meets_ExclusionAndTimers : (∀ p q : Lane, (bget ((module []).lane p) Rg.TRI_REINT_STATUS 5 && bget ((module []).lane q) Rg.TRI_REINT_STATUS 4) = false)
    ∧ Lane.b ≠ (lane .a []).id ∧ (lane .a []).tri.linksDown.contains .b = false ∧ sees (lane .a []) .b = true ∧ sees (lane .a []) .c = true
    ∧ (lane .a []).tri.asserts.contains (.b, .c) = false ∧ votes (lane .a []) = true ∧ (lane .a []).tri.latch = false ∧ isSafe (lane .a []) = false
    ∧ ({ lane .a [] with tri := { degAt := some 0 } } : LaneState).tri.degAt.isSome = true :=
  ⟨by intro p q; cases p <;> cases q <;> decide, by decide⟩

/-- A module with lane C excluded, in a phase of its reintegration from A and B. -/
def joining (phase own : Word) (r : ReintState) : State :=
  let f (x : Lane) : LaneState :=
    { lane x [(Rg.TRI_STATUS, if x = .c then 0x30 + own else 0x30), (Rg.TRI_REINT_STATUS, (if x = .c then 0x20 else 0x10) + phase + 0x80), (Rg.CYC_STATUS, 0)] with
      reint := r, mer := { joinOk := 3 }, exe := { undo := some { n := 0 } } }
  { la := f .a, lb := f .b, lc := f .c, rm := { alive := true } }

theorem meets_Reintegration : toStart (joining 1 2 {}).lc = true ∧ (joining 1 2 {}).mayJoin .c = true ∧ 3 ≤ (joining 1 2 {}).lc.mer.joinOk
    ∧ isJoiner (joining 2 1 {}).lc = true ∧ reintPhase (joining 2 1 {}).lc = 2 ∧ maySend (joining 4 1 { dirty := [9] }).la 9 = true
    ∧ fget (joining 4 1 { dirty := [9] }).la Rg.TRI_REINT_STATUS 7 6 = laneNo .c ∧ (joining 4 1 { dirty := [9] }).la.ecc.errs = []
    ∧ reintPhase (joining 5 1 { inbox := [(.a, 9, [1]), (.b, 9, [1])] }).lc = 5 ∧ (joining 5 1 {}).sources .c = [.a, .b] ∧ (joining 5 1 {}).la.reint.dirty.contains 9 = false
    ∧ reintPhase (joining 4 1 {}).la = 4 ∧ quietNext (joining 4 1 {}).lb = true ∧ digested (joining 4 1 {}).la = true ∧ (joining 4 1 {}).mayJoin .c = true
    ∧ (joining 4 1 {}).la.reint.dirty.length ≤ fget (joining 4 1 {}).lc Rg.TRI_CFG 29 16 ∧ mayWrite (lane .a [(Rg.TRI_STATUS, 0x61)]) .m Rg.TRI_REINT_CTRL = true
    ∧ fget (lane .a [(Rg.TRI_STATUS, 0x61)]) Rg.TRI_STATUS 2 0 = 1 ∧ bget (lane .a [(Rg.TRI_CFG, 0)]) Rg.TRI_CFG 0 = false
    ∧ fget (lane .a [(Rg.TRI_LANEL_STAT 0, 5)]) (Rg.TRI_LANEL_STAT 0) 2 0 = 5 := by decide

theorem meets_ReintegrationBlock : (List.replicate 256 (0 : Byte)).length = 256 := by decide +kernel

/-- The ends of the range of symbols, a scrubber that may run, a pending error, an injection that can be armed. -/
theorem meets_MemoryErrors : codeDram ∈ [codeSram, codeDram] ∧ 18 < codeDram.n ∧ 255 < 2 ^ codeDram.bits
    ∧ (let x := { lane .a [(Rg.CYC_STATUS, 0), (Rg.MEM_ECC_INJ_ADDR_LO, 0x1000)] with pwr := { supply := true }, ecc := { uePending := true } }
      x.pwr.supply = true ∧ 4 ≤ phaseOf x ∧ x.pwr.gated.contains 0xB = false ∧ bget x Rg.MEM_STATUS 3 = false ∧ x.ecc.errs = [] ∧ x.ecc.poison = []
      ∧ fget x Rg.MEM_SCRUB_POS_SRAM 20 0 + 1 < 1114112 ∧ x.ecc.uePending = true ∧ mayWrite x .m Rg.MEM_ECC_INJ = true ∧ modeOf x = .stop ∧ injOk x 0x80000101 = true) := by decide

/-! Time and the Carousel. -/

theorem meets_ClocksAndSources :
    (let x := lane .a [(Rg.MER_Dd_STATUS 0, 4), (Rg.MER_Dd_STATUS 1, 3), (Rg.MER_STATUS, 1), (Rg.MER_CLASS, 6)];
      follow x = 1 ∧ domSt x 0 = 4 ∧ domSt x 1 = 3 ∧ classOf x ≠ 1 ∧ nextSource x = 2 ∧ nextSource x ≠ follow x ∧ 1 ≤ domSt x 1 ∧ domSt x 1 ≤ 3 ∧ mayWrite x .m Rg.MER_ADJ_CTRL = true)
    ∧ classOf (lane .a [(Rg.MER_CLASS, 1)]) = 1
    ∧ (let x := lane .a [(Rg.MER_Dd_STATUS 0, 3), (Rg.MER_STATUS, 2)]; domSt x (fget x Rg.MER_CFG 0 0) = 3 ∧ follow x ≠ fget x Rg.MER_CFG 0 0 + 1 ∧ follow x ≠ 3)
    ∧ (let x := { lane .a [(Rg.MER_STATUS, 1)] with mer := { slew := 1, gmStood := 8, gmCand := ((5, 6), (7, 6)) } };
      x.mer.slew ≠ 0 ∧ follow x = 1 ∧ 8 ≤ x.mer.gmStood ∧ fget x (Rg.MER_Dd_STATUS 0) 13 8 ≠ 5 ∧ fget (setGm x 0 (5, 6)) (Rg.MER_Dd_STATUS 1) 13 8 ≠ 7) := by decide

/-- Three instances that agree at an epoch; two requests of three. -/
theorem meets_CheckEpoch :
    (let s := mods { lane .a [] with mer := { running := true, ltime := 5 } } { lane .b [] with mer := { running := true } } { lane .c [] with mer := { running := true } };
      s.rm.alive = true ∧ [Lane.a, .b, .c].all (fun k => (s.lane k).mer.running && (s.lane k).mer.cmds == []
        && [MerClk.w, .d0, .d1].all (fun m => clkReq (s.lane k) m == none && clkNs (s.lane k) m == clkNs s.la m)) = true)
    ∧ (let s := mods { lane .a [] with mer := { running := true, wreq := some (8, 3) } } { lane .b [] with mer := { running := true, wreq := some (4, 3) } }
          { lane .c [] with mer := { running := true } };
      s.merRunning = [.a, .b, .c] ∧ clkReq s.la .w = some (8, 3) ∧ clkReq s.lb .w = some (4, 3) ∧ clkReq s.lc .w = none) := by decide

theorem meets_TimeInputsAndOutputs :
    (let x := lane .a [(Rg.MER_CMPu_CTRL 15, 1)]; bget x (Rg.MER_CMPu_CTRL 15) 0 = true ∧ bget x (Rg.MER_CMPu_CTRL 15) 1 = false)
    ∧ Agent.m ≠ .v ∧ writeOk (lane .a []) .m (Rg.MER_CMPu_CTRL 15) = true ∧ bget (lane .a []) (Rg.MER_CMPu_CTRL 15) 0 = false
    ∧ (let x := lane .a [(Rg.MER_CMPu_CTRL 3, 3), (Rg.MER_CMPu_PERIOD 3, 999)]; armOk x 3 = false)
    ∧ (let x := lane .a [(Rg.MER_CMPu_CTRL 15, 1), (Rg.MER_CMPu_NS 15, 1)]; armOk x 15 = true ∧ unitDist x 15 < 0)
    ∧ (let x := lane .a [(Rg.MER_PPSOUT_CFG, 1), (Rg.MER_TCAPk_CFG 3, 7), (Rg.MER_GNSS_CFG, 1), (Rg.MER_UTC, 0x10000), (Rg.ECN_PORTp_CFG 3, 8)];
      bget x Rg.MER_PPSOUT_CFG 0 = true ∧ bget x Rg.MER_PPSOUT_CFG 1 = false ∧ x.mer.ppsOut ≠ true ∧ bget x (Rg.MER_TCAPk_CFG 3) 0 = true ∧ fget x (Rg.MER_TCAPk_CFG 3) 2 1 = 3
      ∧ tcapHeld x 3 < 64 ∧ mayRead x .m Rg.MER_WT_NS = true ∧ bget x Rg.MER_GNSS_CFG 0 = true ∧ x.mer.ppsGood = false ∧ bget x Rg.MER_GNSS_STAT 0 = false
      ∧ bget x Rg.MER_UTC 16 = true ∧ consistPtp x 7 = true) := by decide

/-- A line up, two lanes enabling it, lane A its owner; an entry of the own position and one buffer. -/
def running (regs : List (Nat × Word)) (c : CarState) : State :=
  let own : TriState := { owns := [0, 1, 2, 7], enables := [0, 1, 2, 3, 7] }
  let f (x : Lane) : LaneState := { lane x (regs ++ [(Rg.CAR_STATUS, 0x203), (Rg.CAR_PORTp_STAT 0, 1), (Rg.CAR_GUARD, 0x271000FA)]) with car := c, tri := own }
  { la := f .a, lb := f .b, lc := f .c, rm := { alive := true } }

theorem meets_CarouselTraffic :
    (let s := running [(Rg.CAR_SHEETs_RANGE 0, 0x10000)] { atlas := [(0, (0x01000000, 0x00200031, 9))], txb := [{ b := 9, matched := true }] };
      let x := s.la;
      (sheetEnts x (sheetNow x)).getD 0 (0, 0, 0) = (0x01000000, 0x00200031, 9) ∧
      carSt x ≠ 0 ∧ carSt x = 3 ∧ portUsable x 0 = true ∧ s.sends .a 0 = true ∧ ownPos x = 2 ∧ entKind (0x01000000, 0x00200031, 9) = 0
      ∧ entSender (0x01000000, 0x00200031, 9) = ownPos x ∧ pairSlot x 2 = false ∧ eligible x (entBuf (0x01000000, 0x00200031, 9)) 0 = some { b := 9, matched := true }
      ∧ headerGood { state := 0x80 } = false ∧ headerGood {} = true ∧ (1 : Word) ≠ topoOf x ∧ x.car.unschedQ = [] ∧ x.car.csQ.any (fun q => q.1 == 1) = false
      ∧ bget x (Rg.INA_PORTp_STAT 0) 2 = false)
    ∧ (let s := running [] { unschedQ := [(0, 1, .pdelayReq 0 0)] };
      s.la.car.unschedQ = [(0, 1, .pdelayReq 0 0)] ∧ unschedNs (.pdelayReq 0 0) ≤ 2736 - guardNs s.la false)
    ∧ (let x := lane .a [(Rg.CAR_STATUS, 0)]; carSt x = 0 ∧ x.car.cabNext = none)
    ∧ (let s := running [(Rg.CAR_STATUS, 2)] { csQ := [(0, {})] };
      carSt s.la = 2 ∧ s.la.car.csQ.any (fun q => q.1 == 0) = true ∧ coldBetter { cab := true } (coldFrame s.la) = true ∧ s.la.car.csQ = [(0, {})] ∧ s.sends .a (lineOf 0) = true) := by decide

theorem meets_CarouselStates : isLeader (running [] {}).la = false ∧ (let x := lane .a [(Rg.CAR_STATUS, 1), (Rg.CAR_CFG, 2)]; carSt x = 1 ∧ bget x Rg.CAR_CFG 1 = true)
    ∧ carSt (lane .a [(Rg.CAR_STATUS, 2)]) = 2
    ∧ (let x := lane .a [(Rg.CAR_STATUS, 0xB), (Rg.CAR_SHEETs_CFG 0, 4000), (Rg.CAR_SHEETs_CFG 1, 8000)];
      mayWrite x .m Rg.CAR_SHEET_CTRL = true ∧ isLeader x = true ∧ x.car.prop = none ∧ switchCycle x 1 3 = some 4 ∧ switchCycle x 1 255 = some 256)
    ∧ mayRead (lane .a []) .m Rg.CAR_ATLAS_W2 = true ∧ mayWrite (lane .a []) .m Rg.CAR_ATLAS_W2 = true ∧ modeOf (lane .a [(Rg.CYC_STATUS, 0)]) = .stop
    ∧ writeOk (lane .a []) .m Rg.CAR_CAB = true := by decide

/-! Trains, networks and the backplane. -/

theorem meets_InaugurationRounds :
    (let x := lane .a [(Rg.INA_PORTp_STAT 3, 4), (Rg.INA_STATUS, 3), (Rg.CAR_STATUS, 3), (Rg.CAR_PORTp_STAT 0, 1)];
      bget x (Rg.INA_PORTp_STAT 3) 2 = true ∧ bget x (Rg.INA_PORTp_STAT 3) 3 = false ∧ peerOf x 3 = none ∧ phaseOf x ≠ 6 ∧ inWaves x = true ∧ inaSt x = 3 ∧ openPort x 0 = false
      ∧ x.ina.res.complete = false ∧ mayWrite x .m Rg.INA_CTRL = true)
    ∧ (let x := lane .a [(Rg.INA_STATUS, 2), (Rg.CAR_STATUS, 3)]; inWaves x = true ∧ inaSt x = 2 ∧ bget x Rg.INA_STATUS 3 = false)
    ∧ fget (setTrigger (bset (lane .a []) (Rg.INA_PORTp_STAT 3) 1 true)) Rg.INA_STATUS 2 0 ≠ 1
    ∧ oneTrain { topo := 5 } { topo := 5 } = true ∧ oneTrain { topo := 5 } { topo := 6 } = false ∧ ranksBelow { count := 2 } { count := 3 } = true ∧ ranksBelow { count := 3, topo := 5 } { count := 2, yield := true } = false
    ∧ (let x := { lane .a [(Rg.INA_STATUS, 3), (Rg.CAR_STATUS, 3)] with ina := { res := { complete := true }, adopt := some {} } };
      confirmsOn x 0 = true ∧ changedOwn x = true ∧ x.ina.adopt = some {})
    ∧ (63 : Nat) < 64 ∧ (15 : Nat) < 16 := by decide

theorem meets_ConsistSwitch :
    (let x := lane .a [(Rg.ECN_CFG, 0x60001), (Rg.ECN_PORTp_CFG 3, 1), (Rg.ECN_VLANv 0, 0x80408064), (Rg.ECN_STATIC_IDX, 126), (Rg.TRP_MODE, 1), (Rg.TRP_AUX_WIN_LEN, 1), (Rg.CYC_STATUS, 0)];
      ecnUp x = true ∧ bget x Rg.ECN_CFG 0 = true ∧ bget x (Rg.ECN_PORTp_CFG 3) 0 = true ∧ terminated {} = false ∧ vlanOf x 101 = none
      ∧ vlanClass x (vitalIdx x) = 1 ∧ isMember x (vitalIdx x) 3 = true ∧ isSplit x = true
      ∧ ringBaseOk x (ringBase x Rg.ECN_AUX_TX_BASE_LO Rg.ECN_AUX_TX_BASE_HI) = true ∧ mayWrite x .x Rg.ECN_AUX_KICK = true
      ∧ mayRead x .m Rg.ECN_STATIC_PORT = true ∧ mayWrite x .m Rg.ECN_STATIC_PORT = true ∧ modeOf x = .stop ∧ fget x Rg.ECN_STATIC_IDX 6 0 < 127)
    ∧ (running [] {}).sends .a 2 = true := by decide

/-- A controller that is error active, with one filter and frames in mailboxes 4 and 9. -/
def canLane (regs : List (Nat × Word)) (c : CanState) : LaneState :=
  { lane .a (regs ++ [(Rg.CAN_CFG 3, 1), (Rg.CAN_STATUS 3, 1), (Rg.CAN_FLTiCTRL 3 63, 1), (Rg.CAN_QqCFG 3 0, 1)]) with can := (Vector.replicate 4 {}).set 3 c }

theorem meets_CanControllers :
    (let x := canLane [] { mbs := [(4, { frame := some { id := 8 } }), (9, { frame := some { id := 0x40000 } })] };
      canOn x 3 = true ∧ bget x (Rg.CAN_CFG 3) 1 = false ∧ canSt x 3 ≠ 4 ∧ fltFor x 3 0 = some 63 ∧ fget x (Rg.CAN_FLTiCTRL 3 63) 1 0 = 1 ∧ bget x (Rg.CAN_QqCFG 3 0) 0 = true
      ∧ staged x 3 < 256 ∧ (canOf x 3).onBus = none ∧ modeOf x = .run ∧ isSafe x = false ∧ chooseMb x 3 = some 4 ∧ bget x (Rg.CAN_CFG 3) 3 = false ∧ bget x (Rg.CAN_CTRL 3) 0 = false)
    ∧ fltFor (canLane [(Rg.CAN_FLTiCTRL 3 63, 0)] {}) 3 0 = none
    ∧ (let x := canLane [(Rg.CAN_CFG 3, 9)] { mbs := [(4, { frame := some { id := 8 } }), (9, { frame := some {} })] }; bget x (Rg.CAN_CFG 3) 3 = true ∧ chooseMb x 3 = some 4)
    ∧ (let x := canLane [] { onBus := some 4, mbs := [(4, { frame := some {} })] };
      (canOf x 3).onBus = some 4 ∧ (mbOf x 3 4).frame = some {} ∧ (mbOf x 3 4).waiting = none ∧ (mbOf x 3 4).cancel = false ∧ bget x (Rg.CAN_MBmCFG 3 4) 1 = false)
    ∧ (let x := canLane [] { onBus := some 4, mbs := [(4, { frame := some {}, waiting := some {} })] }; (mbOf x 3 4).waiting = some {})
    ∧ canSt (canLane [(Rg.CAN_STATUS 3, 3)] {}) 3 = 3 ∧ isMaintainer { level := .maintainer } = true ∧ isMaintainer {} = false := by decide

/-- A transmitter near bus-off, and one that is not. -/
theorem meets_CanBusOff :
    canSt (showErr (setCan (canLane [] {}) 3 { tec := 256 }) 3) 3 = 3 ∧ canSt (showErr (setCan (canLane [] {}) 3 { tec := 8 }) 3) 3 ≠ 3
    ∧ canSt (showErr (setCan (canLane [] {}) 3 { rec_ := 128 }) 3) 3 = 2 := by decide

/-- Lane A runs an instance of slot 1, which owns a connection, a mailbox, a CAN ring, the SOE ring, a transmit buffer and region 2. -/
def asking (i : Instance) (c : CoreCtx) (m : List (Nat × Byte)) : LaneState :=
  let regs := [(Rg.SAF_CONNc_CFG 7, 0x10080001), (Rg.CAN_MBmCFG 3 31, 0x11), (Rg.CAN_MBmADDR 3 31, 0x30000), (Rg.CAN_QqCFG 3 1, 0x11), (Rg.CAN_QqADDR 3 1, 0x100), (Rg.FIO_SOE_CFG, 0x101),
    (Rg.FIO_SOE_ADDR, 0x200), (Rg.CAR_BUFb_CFG 9, 0x10200001), (Rg.BRG_REGr_CFG 2, 0x13)]
  { lane .a regs with
    c0 := { halted := false, ctx := c }, c1 := { halted := false, ctx := c }, exe := { insts := [i], running := some 1 }, mem := m, app := some { tasks := [{ slot := 1, inLast := 0xFFFF }] } }

theorem meets_VitalRequests :
    let x := asking inst (ctx 1 2) [];
    vitalRuns x = true ∧ x.c0.dbgHalted = false ∧ runInst x = some inst ∧ writeOk x .v Rg.SAF_SEND = true ∧ sendsConn x 7 = true ∧ connCfg x 7 31 28 = 1 ∧ inst.safCnt.length < 8
    ∧ writeOk x .v (Rg.CAN_TXREQ 3) = true ∧ mbAllowed x 3 31 inst = true ∧ mbAllowed x 3 0 inst = false ∧ canQueued inst 3 < 64 ∧ (descriptor x 3 0x30000).isSome = true
    ∧ descriptor (asking inst (ctx 1 2) [(0x30004, 9)]) 3 0x30000 = none ∧ arithTrap x = false ∧ writeOk x .v (Rg.CAN_TXCANCEL 3) = true
    ∧ writeOk x .v (Rg.CAN_QqACK 3 1) = true ∧ fget x (Rg.CAN_QqCFG 3 1) 7 4 = 1 ∧ writeOk x .v Rg.FIO_SOE_ACK = true ∧ bget x Rg.FIO_SOE_CFG 0 = true ∧ fget x Rg.FIO_SOE_CFG 11 8 = 1
    ∧ ((0 : Word) - wordAt (instIn x inst 0x100 8) 4).toNat ≤ (wordAt (instIn x inst 0x100 8) 0 - wordAt (instIn x inst 0x100 8) 4).toNat
    ∧ writeOk x .v Rg.PWR_REQ = true ∧ modeOf x = .run ∧ writeOk x .v Rg.CAR_COMMIT = true ∧ bget x (Rg.CAR_BUFb_CFG 9) 0 = true ∧ bget x (Rg.CAR_BUFb_CFG 9) 1 = false
    ∧ fget x (Rg.CAR_BUFb_CFG 9) 31 28 = 1 ∧ waitsBus x = false ∧ waitsBus (asking { inst with susp := some {} } (ctx 1 2) []) = true := by decide

/-- A descriptor at 0x30000: bus address, memory address 0x20000, length and direction. -/
def xferMem (len dir : Byte) : List (Nat × Byte) := [(0x30003, 0x20), (0x30004, 0x40), (0x3000A, 0x02), (0x3000C, len), (0x3000E, dir)]

theorem meets_BlockTransfers :
    let y := asking inst (ctx 1 2) (xferMem 0x40 0);
    xferDesc y 0x30000 = (winBase + 2 * regionLen, 0x20000, 0x40, 0) ∧ y.id = .a ∧ writeOk y .v Rg.BRG_XFER = true ∧ vitalSram y inst 0x30000 16 false = true
    ∧ vitalSram y inst 0x20000 0x40 true = true ∧ ((regionCut (winBase + 2 * regionLen) 0x40).map (·.1)).all (brgMay y inst) = true ∧ regAttr y 2 9 9 ≠ 1
    ∧ (xferDesc (asking inst (ctx 1 2) (xferMem 0x40 1)) 0x30000).2.2.2 = 1 ∧ y.brg.held = []
    ∧ (let z := { asking { inst with susp := some { region := 2 } } (ctx 1 2) (xferMem 0x40 1) with brg := { held := [{ region := 2, ok := true }] } };
      z.brg.held.find? (fun h => h.region == 2 && h.seq == 0) = some { region := 2 }) := by decide

/-- That lane stands at the instruction, also while its instance waits for a completion. -/
theorem meets_BlockTransfers_stands : VitalAt (asking inst (ctx 1 2) (xferMem 0x40 0)) inst (ctx 1 2)
    ∧ VitalStands (asking { inst with susp := some { region := 2 } } (ctx 1 2) (xferMem 0x40 1)) { inst with susp := some { region := 2 } } (ctx 1 2) := by
  have h (i : Instance) (m : List (Nat × Byte)) (hi : i = inst ∨ i = { inst with susp := some { region := 2 } }) : VitalStands (asking i (ctx 1 2) m) i (ctx 1 2) := by
    have hr : vitalRuns (asking i (ctx 1 2) m) = vitalRuns (asking i (ctx 1 2) []) := rfl
    have hf : vitalFetch (asking i (ctx 1 2) m) 0x20000 = vitalFetch (asking inst (ctx 1 2) []) 0x20000 := rfl
    exact
      { runs := by rw [hr]; rcases hi with rfl | rfl <;> decide
        inst := by rcases hi with rfl | rfl <;> rfl
        free := rfl
        clear := by rcases hi with rfl | rfl <;> rfl
        ctx0 := rfl
        ctx1 := fun _ => rfl
        code := hf.trans (by decide)
        clean := ⟨rfl, rfl⟩
        calm := ⟨rfl, rfl, rfl⟩ }
  exact ⟨{ toVitalStands := h _ _ (.inl rfl), idle := rfl }, h _ _ (.inr rfl)⟩

/-- The other lanes compute what the owner sends: no tap withdraws anything. -/
theorem meets_TapsAgree :
    (let s := running [(Rg.CAR_SHEETs_RANGE 0, 0x10000)] { atlas := [(0, (0x01000000, 0x00200031, 9))], txb := [{ b := 9, matched := true }] };
      s.slotTaps .a 0 = s ∧ s.syncTaps .a = s ∧ s.mergeTaps .a 3 = s ∧ (s.rm.order = none))
    ∧ (let f (x : Lane) : LaneState := { canLane [] { mbs := [(4, { frame := some { id := 8 } })] } with id := x };
      let s := mods (f .a) (f .b) (f .c); s.canTaps .a 3 = s ∧ isStandby s.la = false) := ⟨⟨rfl, rfl, rfl, rfl⟩, ⟨rfl, by decide⟩⟩

/-- A cycle start after which the three lanes show one Carousel state. -/
theorem meets_CycleAgreed : ((running [] {}).onLane .a (fun z => carCycleStart z ((running [] {}).sends .a) 5)).carAgree =
    (running [] {}).onLane .a (fun z => carCycleStart z ((running [] {}).sends .a) 5) := rfl

/-- A lane whose buffer holds other bytes sees the owner's frame differ, and withdraws its enable of Line X; the third lane keeps it (01 R17). -/
theorem test_tap_withdraws :
    let s := running [(Rg.CAR_SHEETs_RANGE 0, 0x10000)] { atlas := [(0, (0x01000000, 0x00200031, 9))], txb := [{ b := 9, matched := true, bytes := [1] }] };
    let s := { s with lb := { s.lb with car := { s.lb.car with txb := [{ b := 9, matched := true, bytes := [2] }] } } };
    (s.slotTaps .a 0).lb.tri.enables.contains 0 = false ∧ (s.slotTaps .a 0).lc.tri.enables.contains 0 = true := by decide

/-- Three lanes on the vital VLAN, lane A the owner of the consist port. -/
def onVlan : State :=
  let f (x : Lane) : LaneState := { lane x [(Rg.ECN_VITAL_IP, 0), (Rg.ECN_MAC_LO, 2), (Rg.ECN_MAC_HI, 0), (Rg.ECN_CFG, 0x60001), (Rg.ECN_PORTp_CFG 3, 1), (Rg.ECN_VLANv 0, 0x80408064)] with tri := { owns := [2], enables := [2] } }
  mods (f .a) (f .b) (f .c)

/-- Every lane there computes lane A's answer. -/
theorem onVlan_answers (y : Lane) : arpAnswer (onVlan.lane y) 3 0 5 6 = arpAnswer (onVlan.lane .a) 3 0 5 6 := by
  cases y <;> decide +kernel

/-- An address request that the other lanes would answer as the owner does. -/
theorem meets_ArpAgree : onVlan.sends .a 2 = true ∧ ecnUp onVlan.la = true ∧ (arpAnswer onVlan.la 3 0 5 6).isSome = true ∧ onVlan.arpTaps .a 3 0 5 6 = onVlan := by
  refine ⟨by decide, by decide, by decide, ?_⟩
  unfold State.arpTaps
  split
  · rename_i f hf
    refine State.tapCheck_agree _ _ _ _ (fun y => ?_)
    have h : arpAnswer (onVlan.lane y) 3 0 5 6 = some f := (onVlan_answers y).trans hf
    rw [h]; exact bne_self_eq_false _
  · rfl

/-- Lane A with a configured channel 95 (group 5) in a mode, driven and with its supply present. -/
def fieldLane (regs : List (Nat × Word)) (md : Nat) (f : FioState) : LaneState :=
  { lane .a (regs ++ [(Rg.FIO_CHi_CFG 95, 0x78), (Rg.FIO_CMDw 2, 0x80000000), (Rg.FIO_GRPg_STAT 5, 4), (Rg.FIO_GSS, 4)]) with
    fio := { f with mode := [(95, md)] }, tri := { drivers := true }, mer := { running := true } }

theorem meets_FieldSamplingAndTests :
    (let x := fieldLane [] 1 {};
      x.mer.running = true ∧ x.pwr.gated.contains 2 = false ∧ chMode x 95 = 1 ∧ chCfg x 95 2 2 = 0 ∧ chCfg x 95 3 3 = 1 ∧ chCfg x 95 4 4 = 1 ∧ chCfg x 95 5 5 = 1 ∧ soeHeld x < 4096)
    ∧ (let x := fieldLane [] 3 { gss := 0x20 };
      chMode x 95 = 3 ∧ chCfg x 95 6 6 = 1 ∧ (cmdBits x).getLsbD 95 = true ∧ mayTest x (95 / 16) = true ∧ pairIdle x 95 = false
      ∧ fget x Rg.FIO_GSS 11 0 ≠ 0 ∧ 8 % fget x Rg.FIO_GSS 11 0 = 0 ∧ mayTest x 5 = true ∧ x.fio.gss.getLsbD 5 = true)
    ∧ supplyOk (fieldLane [(Rg.FIO_GRPg_STAT 5, 0)] 3 {}) (95 / 16) = false ∧ isSafe (fieldLane [(Rg.TRI_STATUS, 0x270)] 3 {}) = true
    ∧ (let x := fieldLane [] 3 { pulse := some ⟨95, 0⟩, gssPulse := some ⟨5, 2⟩ };
      x.fio.pulse = some ⟨95, laneNo x.id⟩ ∧ sees x x.id = true ∧ x.fio.gssPulse = some ⟨5, 2⟩) := by decide

/-- A full sequence-of-events FIFO. -/
theorem meets_FieldSamplingAndTests_full :
    4096 ≤ soeHeld { fieldLane [] 1 {} with agree := { inbox := List.replicate 4096 ⟨.soe 3 true, 0⟩ } } := by decide +kernel

theorem meets_OutputProtection :
    (let x := fieldLane [] 3 { deg := [(95, 7)] };
      x.fio.deg.any (fun d => d.1 == 95) = true ∧ x.fio.tripPend.contains (95 / 16) = false ∧ chMode x 95 = 3 ∧ (cmdBits x).getLsbD 95 = true ∧ chStat x 95 3 = false
      ∧ mayWrite x .m Rg.FIO_CLEAR = true ∧ mayWrite x .m Rg.SAF_DEG_CLEAR = true ∧ safetyAssigned { x with berr := false } (getBits 95 6 0) = false)
    ∧ (let x := fieldLane [] 3 { oc := 0x800000000000000000000000 }; x.fio.oc.getLsbD 95 = true ∧ x.fio.ocNew.getLsbD 95 = false ∧ chStat x 95 3 = false)
    ∧ chStat (fieldLane [(Rg.FIO_CHi_DIAG 95, 8)] 3 {}) 95 3 = true
    ∧ (let x := { fieldLane [] 3 {} with cfg := { safeOut := [95] } };
      safetyAssigned x 95 = true ∧ safeCh x 95 = true ∧ chStat x 95 6 = false ∧ isMaintainer { level := .maintainer } = true ∧ isMaintainer {} = false)
    ∧ (let x := fieldLane [] 3 {}; heldOff x 95 = false ∧ isSafe x = false ∧ x.tri.drivers = true ∧ heldOff x 94 = true) := by decide

/-- Lane A with both backplane links up, bus region 2 on link 1 (one 4 KiB page at page 0), inbound window 7 and the mirror open. -/
def bridge (regs : List (Nat × Word)) (b : BrgState) : State :=
  let m := running (regs ++ [(Rg.BRG_CFG, 3), (Rg.BRG_INB_EN, 0x180), (Rg.BRG_INB_BASE_LO, 0x1000000)]) {}
  { m with la := { m.la with brg := b } }

theorem meets_BackplaneBridge :
    (let s := bridge [] { opens := [(2, 5, 0x100, 4)] };
      let x := s.la;
      s.sends .a 7 = true ∧ x.brg.opens.find? (fun q => q.1 == 2 && q.2.1 == 5) = some (2, 5, 0x100, 4) ∧ regAttr x 2 8 8 ≠ 1 ∧ x.brg.opens = [(2, 5, 0x100, 4)]
      ∧ x.brg.opens.find? (fun q => q.1 == 3 && q.2.1 == 5) = none ∧ x.brg.posted = [] ∧ x.pwr.gated.contains 4 = false
      ∧ bget x Rg.BRG_CFG 0 = true ∧ bget x Rg.BRG_CFG 1 = true
      ∧ inbBase x ≤ 0x17FFFFF ∧ (0x17FFFFF - inbBase x) / 0x100000 = 7 ∧ bget x Rg.BRG_INB_EN 7 = true ∧ landed x 7 < 1024
      ∧ bget x Rg.BRG_INB_EN 6 = false ∧ bget x Rg.BRG_INB_EN 8 = true ∧ inbBase x + 0x800000 ≤ 0x1800000 ∧ 0x1800000 + 0x10000 ≤ inbBase x + 0x800000 + 0x10000)
    ∧ (let x := (bridge [] {}).la;
      x.brg.posted = [] ∧ x.brg.opens = [] ∧ x.brg.opens.find? (fun q => q.1 == 2 && q.2.1 == 5) = none ∧ mayRead x .m Rg.BRG_CFGACC_DATA = true ∧ mayWrite x .m Rg.BRG_CFGACC_DATA = true
      ∧ mayRead x .m Rg.BRG_PWLOG_INFO = true ∧ mayWrite x .m Rg.BRG_PWLOG_CLR = true)
    ∧ (let x := (bridge [] { posted := [(2, 1, 0x1000, 8)] }).la;
      x.brg.posted.find? (fun q => coversAddr q.2.2.1 q.2.2.2 0x1007) = some (2, 1, 0x1000, 8) ∧ x.brg.posted.find? (fun q => coversAddr q.2.2.1 q.2.2.2 0x1008) = none)
    ∧ (bridge [] { pwlog := List.replicate 64 {} }).la.brg.pwlog.length = 64 := by decide

/-- A lane of a pair in a role (HB_LOSS 3), the partner silent for three heartbeats on both paths, the backbone regular. -/
def pairLane (r : Word) (p : PrtState) : LaneState :=
  { lane .a [(Rg.PRT_CFG, 0x301), (Rg.PRT_STATUS, r), (Rg.PRT_HB_MISS, 0x0303), (Rg.CAR_STATUS, 3)] with prt := p, exe := { n := 9 } }

theorem meets_ActiveAndStandby :
    (let x := pairLane 2 { lastHb := some { role := 4 }, txSilent := 3, handN := 10 };
      paired x = true ∧ x.pwr.gated.contains 3 = false ∧ roleOf x = 2 ∧ x.prt.resigned = false ∧ hbLoss x ≤ fget x Rg.PRT_HB_MISS 7 0 ∧ hbLoss x ≤ x.prt.txSilent
      ∧ (x.prt.lastHb.map (·.role)).getD 0 = 4 ∧ 0 < x.prt.handN ∧ x.prt.handN ≤ x.exe.n + 1)
    ∧ (let x := pairLane 2 { lastHb := some { role := 3 }, handN := 1 }; (x.prt.lastHb.map (·.role)).getD 0 ≠ 4 ∧ 0 < x.prt.handN)
    ∧ (let x := pairLane 4 { handN := 10, consistent := some 9 };
      roleOf x = 4 ∧ hbLoss x ≤ fget x Rg.PRT_HB_MISS 7 0 ∧ hbLoss x ≤ fget x Rg.PRT_HB_MISS 15 8 ∧ fget x Rg.CAR_STATUS 2 0 = 3 ∧ x.prt.consistent = some (x.prt.handN - 1) ∧ isSafe x = false)
    ∧ (let x := pairLane 3 { handN := 1 }; roleOf x = 3 ∧ 0 < x.prt.handN)
    ∧ (let x := pairLane 1 { lastHb := some { role := 2 } }; roleOf x = 1 ∧ (x.prt.lastHb.map (·.role)).getD 0 = 2)
    ∧ (let x := pairLane 1 { lastHb := some { role := 1 } }; (x.prt.lastHb.map (·.role)).getD 0 = 1 ∧ x.prt.slotAgo = none ∧ bget x Rg.PRT_CFG 1 = false)
    ∧ bget (lane .a [(Rg.PRT_CFG, 3)]) Rg.PRT_CFG 1 = true
    ∧ (let x := pairLane 1 {}; x.prt.lastHb = none ∧ x.prt.slotAgo = none ∧ mayWrite x .m Rg.PRT_CTRL = true)
    ∧ (let s := mods (pairLane 2 {}) (lane .b []) (lane .c []); s.rm.alive = true ∧ s.bringup = false)
    ∧ (let z := rset64 (bset (bset (pairLane 2 {}) Rg.PRT_STATUS 3 true) Rg.PRT_STATUS 4 true) Rg.PRT_PARTNER_EUI_LO Rg.PRT_PARTNER_EUI_HI 7;
      roleOf z ≠ 5 ∧ (z.app.map (·.build)).getD 0 = 0 ∧ ({ build := 1 } : Heartbeat).build ≠ 0 ∧ true ≠ bget z Rg.PRT_CFG 1 ∧ false = bget z Rg.PRT_CFG 1) := by decide

/-- The module in a power state: PWR_STATUS in every lane, and Ringmaster's own record of it. -/
def powered (w : Word) (regs : List (Nat × Word)) (q : PwrState) (st : StartState) : State :=
  let m := module (regs ++ [(Rg.PWR_STATUS, w)])
  { m with rm := { alive := true, pwr := q, start := st } }

/-- A released vital request for STANDBY, held by Ringmaster's mailbox. -/
def vitalAsk : VItem := { q := { stream := 0x500, pay := .power 1 }, seq := 7 }

theorem meets_PowerStateEntry :
    (let s := powered 0 [] {} {};
      s.rm.alive = true ∧ s.bringup = false ∧ s.pwrState = 0 ∧ s.pendingReq = none ∧ isMaintainer { level := .maintainer } = true ∧ mayWrite s.la .m Rg.PWR_WAKE_TX = true)
    ∧ (let s := powered 0 [] { req := some 1 } {}; s.rm.pwr.req = some 1 ∧ s.pwrState = 0 ∧ phaseOf s.la = 4 ∧ s.voting ≠ [])
    ∧ (powered 2 [] {} {}).pwrState = 2 ∧ (powered 3 [] {} {}).pwrState = 3 ∧ (powered 4 [] {} {}).pwrState = 4
    ∧ (let s := powered 0x1011 [] {} {}; s.partNow = some 1 ∧ votes s.la = true ∧ s.rm.pwr.quiesced.contains .a = false ∧ refuses 1 s.la = false
      ∧ coresDone { s.la with exe := { parked := some 3, undo := some { n := 3 } } } = true
      ∧ refuses 1 { s.la with exe := { mig := some (3, 2) } } = true)
    ∧ (let s := powered 0x2011 [] {} {}; s.partNow = some 2 ∧ refuses 2 s.la = false)
    ∧ (let s := powered 0xC011 [] {} {}; s.partNow = some 12 ∧ votes s.lc = true)
    ∧ (let s := powered 0xD011 [] { gated := [1] } {}; s.pwrState = 1 ∧ s.pwrIndex = 13 ∧ s.rm.pwr.wakePending = false ∧ s.pendingReq = none ∧ s.pwrTarget = 1 ∧ s.rm.pwr.gated ≠ [])
    ∧ (powered 0xD021 [] {} {}).pwrTarget = 2 ∧ (powered 0xD031 [] {} {}).pwrTarget = 3
    ∧ (let s := powered 0x2015 [] { restart := [1] } {}; s.rm.pwr.restart = [1] ∧ s.pwrState = 5)
    ∧ fget (powered 2 [(Rg.PWR_WAKE_CFG, 0x10000)] {} {}).la Rg.PWR_WAKE_CFG 31 16 ≠ 0
    ∧ (powered 0 [] {} { stby := true }).rm.start.stby = true := by decide

theorem meets_PowerStateEntry_vital :
    ((powered 0 [] {} {}).onLane .a (fun x => { x with mbx := { x.mbx with itq := [vitalAsk] } })).takeVital.1 = some 1 := by decide

theorem meets_WakeSourcesAndSteps :
    (let s := powered 2 [(Rg.PWR_WAKE_EN, 0x1F)] { armed := true, wakeEcn := [3], wakeCan := [3], wakeFio := [95] } {};
      s.rm.alive = true ∧ s.pwrState = 2 ∧ s.rm.pwr.armed = true ∧ [0, 1, 2, 3, 4].all (fun b => bget s.la Rg.PWR_WAKE_EN b) = true ∧ bget s.la Rg.PWR_WAKE_CFG 0 = false
      ∧ s.rm.pwr.wakeEcn.contains 3 = true ∧ s.rm.pwr.wakeCan.contains 3 = true ∧ s.rm.pwr.wakeFio.contains 95 = true ∧ s.rm.pwr.dormantPath = false)
    ∧ (let s := powered 3 [(Rg.PWR_WAKE_CFG, 1), (Rg.PWR_WAKE_ID, 77)] { off := false, r436 := true } { stby := true };
      s.pwrState = 3 ∧ bget s.la Rg.PWR_WAKE_CFG 0 = true ∧ rget s.la Rg.PWR_WAKE_ID = 77 ∧ s.rm.pwr.r436 = true ∧ s.rm.pwr.off = false ∧ s.rm.pwr.armed = false ∧ s.rm.start.stby = true)
    ∧ (let s := powered 0x3011 [] { entering := true } {}; s.pwrState = 1 ∧ s.rm.pwr.entering = true)
    ∧ (powered 5 [] {} {}).pwrState = 5
    ∧ (let s := powered 0xE004 [] {} { step := 8 }; s.pwrState = 4 ∧ s.rm.start.step = 8 ∧ phaseOf s.la = 4 ∧ s.pwrIndex ≠ 0 ∧ s.pwrIndex ≠ 5 ∧ s.pwrIndex < 15)
    ∧ (let s := powered 0x5004 [] {} { step := 7 }; s.pwrState = 4 ∧ s.rm.start.step = 7 ∧ 5 ≤ s.pwrIndex ∧ s.pwrIndex < 15)
    ∧ (powered 0xF004 [] {} { step := 7 }).pwrIndex = 15 := by decide

/-- Ringmaster's image slots with type 3, the vital application, at a selection. -/
def imgsOf (v : ImgSel) : Vector ImgSel 5 := (Vector.replicate 5 {}).set 2 v

theorem meets_StartUp :
    (let s := powered 4 [] { off := false } { step := 1 }; s.rm.start.stby = false ∧ s.rm.pwr.off = false ∧ s.rm.alive = true ∧ s.rm.start.input = false ∧ s.rm.start.step = 1 ∧ s.rm.start.periph = false)
    ∧ (let s := powered 0 [] {} {}; s.rm.start.stby = false ∧ s.rm.pwr.off = true ∧ s.inStartup = false)
    ∧ (powered 0 [] {} { periph := true, stby := true }).rm.start.periph = true
    ∧ (let st := (powered 4 [] {} { step := 3, tests := [(.a, true)] }).rm.start;
      st.step = 3 ∧ st.tests.any (fun t => t.1 == .b) = false ∧ st.tests.length < 2 ∧ bistCode {} = none ∧ bistCode { bootRom := false } = some 1)
    ∧ (let st := (powered 4 [] {} { step := 3, tests := [(.a, true), (.b, true)] }).rm.start; st.tests.any (fun t => t.1 == .c) = false ∧ st.tests.length = 2)
    ∧ (let s := powered 0x6004 [] {} { step := 8 }; s.pwrState = 4 ∧ s.rm.start.step = 8 ∧ s.pwrIndex = 6 ∧ votes s.lc = true)
    ∧ (let s := powered 4 [] {} { step := 3, tests := [(.a, true), (.b, true)], linkLost := [.a] };
      (allLanes.filter (fun x => s.rm.start.tests.contains (x, true) && !s.rm.start.linkLost.contains x)).length < 2)
    ∧ (let s := powered 4 [] {} { step := 6 }; s.rm.start.step = 6 ∧ s.nextImage = some .executive ∧ s.imageCode .executive = some (0x10, [.executive]) ∧ s.inStartup = true
      ∧ laneTypes.filter (fun t => (s.rm.img t).changed) = [])
    ∧ (let s := powered 0x4004 [] {} { step := 7 }; s.rm.start.step = 7 ∧ s.pwrIndex ≠ 5)
    ∧ (let s := powered 4 [] {} { step := 2 }; let t : State := { s with rm := { s.rm with imgs := imgsOf { changed := true } } }; t.inStartup = true ∧ laneTypes.filter (fun q => (t.rm.img q).changed) ≠ []) := by decide

theorem meets_SupplyRestartAndKeys :
    (let s := powered 0 [] {} { stby := true, dip := true }; s.rm.start.dip = true ∧ s.rm.start.stby = true ∧ s.rm.pwr.off = true ∧ s.rm.alive = true ∧ s.bringup = false ∧ s.idleMode = false
      ∧ phaseOf s.la = 4 ∧ s.pwrState = 0 ∧ isMaintainer { level := .maintainer } = true ∧ isMaintainer {} = false)
    ∧ (let s := powered 0 [] { off := false } {}; s.rm.start.dip = false ∧ s.rm.start.stby = false ∧ ¬ (s.rm.pwr.off = true ∨ s.pwrState = 3))
    ∧ (let s := powered 0 [(Rg.TRI_STATUS, 0x270)] { off := false } { stby := true }; s.idleMode = true ∧ phaseOf s.la ≠ 6 ∧ s.rm.start.stby = true)
    ∧ (let s := powered 0 [(Rg.SYS_STATUS, 0)] {} {}; s.rm.alive = true ∧ s.bringup = true)
    ∧ (module []).rm.keys[7]? = some ({} : KeyEnt) ∧ (module []).rm.keys[3]? = some ({} : KeyEnt) := by decide

/-- Whatever text and signature a maintainer gives, a signature that verifies meets the enrolment's remaining hypotheses in the module with an empty key table, at both ends of the fleet keys. -/
theorem meets_SupplyRestartAndKeys_enrol (key sig : Bytes) (i : Nat) (hi : i = 4 ∨ i = 7) (h : sigVerifies (module []).rm true (Config.enrolText i key) sig = true) :
    (module []).rm.alive = true ∧ (module []).bringup = false ∧ (module []).rm.keys[i]? = some ({} : KeyEnt) ∧ 4 ≤ i ∧ ({} : KeyEnt).written = false
      ∧ sigVerifies (module []).rm true (Config.enrolText i key) sig = true := by
  refine ⟨rfl, by decide, ?_, by omega, rfl, h⟩
  rcases hi with rfl | rfl <;> decide

/-- The module in Safety Net, with offers under way. -/
def netted (os : List SnetOffer) : State :=
  let m := module [(Rg.SYS_STATUS, 6)]
  { m with rm := { m.rm with snet := { offers := os } } }

theorem meets_SafetyNetProtocol :
    (netted []).inSnet = true ∧ (netted []).hasImage .vital = false ∧ (netted []).provides = false ∧ (module []).inSnet = false
    ∧ (netted []).rm.snet.offers.any (fun z => z.typ == .vital) = false
    ∧ ({ len := 8388608 } : SnetMsg).len ≤ slotSize .vital ∧ ¬ ({ len := 8388609 } : SnetMsg).len ≤ slotSize .vital ∧ (netted []).wanted .vital = 0
    ∧ (let s := netted [{ typ := .vital, len := 4 }];
      s.rm.snet.offers.find? (fun z => z.typ == .vital && z.seq == 0 && z.off == 0 && readLen z == ([1, 2, 3, 4] : Bytes).length) = some { typ := .vital, len := 4 })
    ∧ (let s := netted [{ typ := .vital, len := 2000, repeats := 8 }];
      s.inSnet = true ∧ s.rm.snet.offers.find? (fun z => z.typ == .vital && z.seq == 0 && z.off == 0 && readLen z == (List.replicate 1024 (1 : Byte)).length) = some { typ := .vital, len := 2000, repeats := 8 })
    ∧ (module []).provides = true ∧ (module []).imageWith .vital 5 = none ∧ leNat ((([0, 0, 0, 0, 0, 0, 0, 0, 0, 0, 0, 0, 0, 4] : Bytes).drop 13).take 1) = 2 ^ (imgNo .vital - 1) := by
  decide +kernel

/-- A frame that names the module reaches it, and a type without an image is missing. -/
theorem meets_SafetyNetProtocol_missing :
    (netted []).forMe { eui := Config.eui } = true ∧ (netted []).missing.contains .vital = true ∧ (netted []).forMe { okHdr := false } = false := by
  have h : (netted []).hasImage .vital = false := by decide
  have i : (netted []).inSnet = true := by decide
  refine ⟨by simp [State.forMe, i], ?_, by simp [State.forMe]⟩
  simp [State.missing, State.requiredTypes, h]

/-- With images that verify in every type nothing is missing, and each is served: the hypotheses that rest on a signature. -/
theorem meets_SafetyNetProtocol_verified (s : State) (h : ∀ t x, s.slotGood t x = true) (t : ImgType) :
    s.missing = [] ∧ s.imageOf t = some (s.rm.img t).selected.img ∧ s.imageWith t (imgBuild (s.rm.img t).selected.img) = some (s.rm.img t).selected.img := by
  refine ⟨by simp [State.missing, State.hasImage, h], by simp [State.imageOf, h], by simp [State.imageWith, h]⟩

theorem meets_RingmasterServices :
    (let s := module []; s.rm.alive = true ∧ s.bringup = false ∧ s.rm.sessions.length < 2 ∧ bandOf s.la.cfg 0 = some (-273, 115) ∧ s.certLevel { keyIdx := some 3, role := some .maintainer, notAfter := 0 } = some .maintainer
      ∧ s.certLevel { keyIdx := some 4, role := some .operator } = none ∧ votes s.la = true)
    ∧ (let s : State := { module [] with rm := { alive := true, sessions := [{}, {}] } }; 2 ≤ s.rm.sessions.length)
    ∧ (let s : State := { module [] with rm := { downBy := 1, imgs := (Vector.replicate 5 {}).set 0 { provisional := true } } };
      s.rm.alive = false ∧ s.rm.downBy = 1 ∧ (s.rm.img .ringmaster).provisional = true)
    ∧ (let x := { lane .a [(Rg.CYC_SLACK, 99)] with cfg := { steerEn := true } }; x.cfg.steerEn = true ∧ bget x Rg.CYC_STATUS 9 = false ∧ fget x Rg.CYC_SLACK 9 0 < 100)
    ∧ (let x := { lane .a [(Rg.CYC_SLACK, 201)] with cfg := { steerEn := true } };
      let mine := (List.replicate 63 (Lane.a, 201)).filter (fun e => e.1 == .a);
      100 ≤ fget x Rg.CYC_SLACK 9 0 ∧ mine.length + 1 = 64 ∧ 200 < ((((Lane.a, 201) :: mine).take 16).map (·.2)).foldl min 1000)
    ∧ bget (lane .a [(Rg.CYC_STATUS, 0x210)]) Rg.CYC_STATUS 9 = true
    ∧ (let x := (auxStanding {}).la; isSplit x = true ∧ mayWrite x .x Rg.MBX_AUXOUT_CTRL = true ∧ bget x Rg.MBX_AUX_STAT 0 = false ∧ bget x Rg.MBX_AUX_STAT 1 = false ∧ mayWrite x .x Rg.MBX_AUXIN_ACK = true
      ∧ getBits 0x100 8 0 = 256 ∧ getBits 1 8 0 = 1 ∧ (auxStanding {}).rm.alive = true) := by decide

/-- The module with an event recorder in a given state. -/
def recorder (e : EvrState) : State :=
  let m := module []
  { m with rm := { m.rm with evr := e } }

theorem meets_EventRecorder :
    (let s := recorder { reports := [{ code := 0x0E03 }, { code := 0x0802 }], buckets := [(0x0802, 999, 0)] };
      s.rm.alive = true ∧ s.rm.evr.frozenBy = none ∧ s.rm.start.dip = false ∧ exemptCodes.contains 0x0E03 = true ∧ codeKnown 0x0E03 = true ∧ codeKnown 0x7FFF = false
      ∧ codeKnown 0x0802 = true ∧ exemptCodes.contains 0x0802 = false ∧ tokens s.rm.evr s.la.cfg 0x0802 0 < 1000 ∧ 1000 ≤ tokens s.rm.evr s.la.cfg 0x0802 1 ∧ s.recNamed s.la = none
      ∧ mayWrite s.la .d Rg.EVR_RD_IDX_HI = true ∧ mayRead s.la .d (Rg.EVR_RD_DATAk 15) = true ∧ mayRead s.la .m Rg.EVR_RATE_VAL = true ∧ s.mayFreeze .debug = true ∧ s.mayFreeze .aux = false)
    ∧ (let s := recorder { frozenBy := some .debug, supp := [(0x0802, 3, 0)], lastArea := [{ index := 5 }] };
      s.rm.evr.frozenBy = some .debug ∧ s.rm.evr.hold.length < 256 ∧ s.rm.evr.supp.find? (fun q => q.1 == 0x0802) = some (0x0802, 3, 0) ∧ 60000 ≤ 60000 - 0
      ∧ s.recNamed (lane .a [(Rg.EVR_RD_IDX_LO, 5)]) = some { index := 5 } ∧ FreezeSrc.debug ≠ .session 3)
    ∧ 256 ≤ (recorder { frozenBy := some .debug, hold := List.replicate 256 {} }).rm.evr.hold.length := by decide +kernel

/-- The module with an image of the vital application, a staging of it and an order. -/
def updating (regs : List (Nat × Word)) (v : ImgSel) (gs : List Staging) (o : Option OrderState) : State :=
  let m := module regs
  { m with rm := { m.rm with imgs := imgsOf v, stagings := gs, order := o } }

theorem meets_ImageStaging :
    (let s := updating [(Rg.UPD_CFG, 0x10000)] { a := { img := [1, 2], st := 2 } } [] none;
      s.rm.alive = true ∧ bget s.la Rg.UPD_CFG 16 = true ∧ (s.rm.img .vital).a.st = 2 ∧ (s.rm.img .vital).b.st ≠ 2 ∧ allTypes.all (fun z => z == .vital || ((s.rm.img z).a.st != 2 && (s.rm.img z).b.st != 2)) = true
      ∧ s.bringup = false ∧ s.locked .vital = false ∧ s.rm.start.dip = false ∧ s.staging .vital = none ∧ 8388608 ≤ slotSize .vital ∧ s.mayStage = true)
    ∧ (let s := updating [] {} [] none; (s.rm.img .vital).a.img = [] ∧ (s.rm.img .vital).b.img = [] ∧ bget (lane .a [(Rg.UPD_CFG, 0)]) Rg.UPD_CFG 16 = false)
    ∧ (let s := updating [] {} [] (some { ord := { types := 4 }, st := 1 }); s.locked .vital = true ∧ slotSize .vital < 8388609)
    ∧ (let g : Staging := { typ := .vital, len := 65537, port := 1, other := some 0, repeats := 8 };
      let s := updating [] {} [g] none;
      s.mayStage = true ∧ s.staging .vital = some g ∧ g.port ≠ 0 ∧ 65536 * (g.chunks + 1) < g.len ∧ 8 ≤ g.repeats ∧ g.other = some 0 ∧ ¬ g.len ≤ 65536 * (g.chunks + 1))
    ∧ (let g : Staging := { len := 2, segs := [(0, [1, 2])] };
      let data := (List.range ((chunkLen g + 1023) / 1024)).flatMap (fun i => sget (fun _ => ([] : Bytes)) g.segs i);
      data.length = chunkLen g ∧ crc32c 0xFFFFFFFF#32 data = crc32c 0xFFFFFFFF#32 [1, 2] ∧ g.len ≤ 65536 * (g.chunks + 1)) := by decide

/-- A provider holds the image that a request names by its tag. -/
theorem meets_ImageStaging_tag :
    let v : Slot := { img := [1, 2], st := 2 }
    let x := (updating [] { a := v } [] none).rm.img .vital
    [x.a, x.b].find? (fun z => z.st == 2 && imgTag z.img == imgTag [1, 2]) = some v := by
  simp [updating, imgsOf, RmState.img, imgNo]

/-- The module with an order held, READY from every position, as the leader. -/
def ordered (regs : List (Nat × Word)) (h : OrderState) : State :=
  updating (regs ++ [(Rg.CAR_STATUS, 0x20B), (Rg.INA_RESULT, 0x100), (Rg.UPD_READY_LO, 2)]) {} [] (some h)

theorem meets_ActivationOrders :
    (let h : OrderState := { ord := { types := 4, oid := 7 }, st := 2 };
      let s := ordered [] h;
      s.rm.order = some h ∧ s.rm.alive = true ∧ h.live = true ∧ s.leads = true ∧ h.final = none ∧ h.topo = s.topo ∧ h.st ≠ 1 ∧ fget s.la Rg.INA_RESULT 13 8 = 1
      ∧ (List.range 1).all (fun i => s.readyMap.getLsbD (i + 1)) = true ∧ s.migrating = false)
    ∧ (let h : OrderState := { ord := { types := 4, oid := 7 }, st := 3, final := some true };
      let s := ordered [] h;
      h.final.isSome = true ∧ s.rm.order = some h ∧ h.ord.actTime ≤ s.now ∧ s.now ≤ h.ord.actTime + 60000000000 ∧ s.pwrState = 0 ∧ phaseOf s.la = 4 ∧ s.mode ≠ .hold ∧ h.ord.precond ≠ true
      ∧ hasType h.ord .ringmaster = false ∧ s.onlineOk h.ord = false ∧ s.safe = false)
    ∧ hasType ({ types := 1 } : UpdOrder) .ringmaster = true
    ∧ (ordered [(Rg.PWR_STATUS, 3)] { st := 3 }).pwrState = 3 ∧ (ordered [(Rg.CYC_STATUS, 0x20)] { st := 3 }).mode = .hold
    ∧ precondOk (lane .a [(Rg.UPD_PRECONDk 7, 0x80080000)]) = false
    ∧ (ordered [] { ord := { actTime := 1 }, st := 3 }).now < 1 ∧ (module []).rm.order = none := by decide

/-- An order is kept only with a signature that verifies; with it, and times and types as the rules ask, it is. -/
theorem meets_ActivationOrders_signed (o : UpdOrder) (s : State) (hs : sigVerifies s.rm false (orderBytes o) o.sig = true) (ht : orderTypes o = []) (ha : o.actTime = s.now + 5000000000)
    (hd : o.deadline = s.now) (hr : hasType o .ringmaster = false) : s.orderOk o = true := by
  simp [State.orderOk, hs, ht, hr, ha, hd]

/-- An application whose map carries two bytes and one force. -/
def newApp : AppImage := { migr := [{ oldAddr := 0x20000, newAddr := 0x20010, len := 2, kind := 1, matched := true }, { sym := 9, typeHash := 3, newAddr := 0x30, kind := 5, width := 1 }] }

/-- Lane A in a migration that began at cycle 5 and takes k cycles. -/
def moving (k : Nat) (new : Option AppImage) : LaneState :=
  { lane .a [] with c0 := { halted := false }, exe := { n := 5, mig := some (5, k), migNew := new }, agree := { applied := true } }

theorem meets_OnlineChange :
    (let x := moving 2 (some newApp); x.exe.mig = some (5, 2) ∧ execUp x = true ∧ 5 ≤ x.exe.n ∧ x.exe.n < 5 + 2 ∧ x.agree.applied = true ∧ x.exe.migNew = some newApp ∧ x.exe.n + 1 ≠ 5 + 2 ∧ carried newApp ≠ [])
    ∧ (let x := moving 2 none; x.exe.migNew = none ∧ x.exe.n + 1 ≠ 5 + 2)
    ∧ (let x := moving 1 none; x.exe.migNew = none ∧ x.exe.n + 1 = 5 + 1 ∧ x.exe.migDone = false)
    ∧ (let f (x : Lane) : LaneState := { lane x [] with exe := { activate := some 0 } };
      let s := mods (f .a) (f .b) (f .c);
      s.voting ≠ [] ∧ s.safe = false ∧ s.voting.all (fun z => maySwitch (s.lane z)) = true ∧ s.rm.order = none ∧ s.rm.alive = true
      ∧ s.voting.any (fun z => (s.lane z).exe.activate.isSome && (s.lane z).exe.mig.isNone) = true)
    ∧ (module []).voting.all (fun z => !maySwitch ((module []).lane z)) = true
    ∧ (movedForce newApp { f := { sym := 9, typeHash := 3 } }).isSome = true ∧ movedForce newApp { f := { sym := 8, typeHash := 3 } } = none := by decide

/-- A command that may change a key stands in front of the queue, and the key table has the entry. -/
theorem meets_KeyTableEveryStep :
    (let s : State := { module [] with pending := [.fleetKeyEnrol { level := .maintainer } 4 [1] [2], .keyRevoke {} 3] };
      s.pending.head? = some (.fleetKeyEnrol { level := .maintainer } 4 [1] [2]) ∧ s.rm.keys[4]? = some ({} : KeyEnt) ∧ s.rm.keys[7]? = some ({} : KeyEnt))
    ∧ (let k : KeyEnt := { written := true, revoked := true }; k.written = true ∧ k.revoked = true) := by decide

theorem meets_MemoryAndRegisterFile :
    (0 : Nat) < ([1, 2] : Bytes).length ∧ (0x100 : Nat) < 0x101 ∧ 0x101 + ([1, 2] : Bytes).length ≤ 0x103 ∧ Memory.wf [(0x100, 1), (0x101, 2)] = true ∧ Memory.wf [(0x101, 2), (0x100, 1)] = false
    ∧ Memory.wf [(0x100, 0)] = false ∧ (7 : Nat) < 2 ^ (31 + 1 - 29) ∧ Registers.wf (LaneState.init .a) = true := by decide

end Sys2Proof.Tests
end

/-! SUPPORT. Integer division and absolute value, and the floating-point compares, selections and sign operations: what their operations come to, and the two statements about them. -/

namespace Sys2Proof.Machine

/-! Operands. -/

theorem opnd_lt (d : Bool) (c : CoreCtx) (r : Reg) : opnd d c r < 2 ^ widthOf d := by
  cases d
  · exact (wget c r).isLt
  · exact (dget c r).isLt

theorem widthOf_pos (d : Bool) : 0 < widthOf d := by cases d <;> decide

/-- An instruction that names fewer of some pairs names pairs alone. -/
theorem pairsOk_subset {d : Bool} {rs qs : List Reg} (h : pairsOk d rs) (hq : qs ⊆ rs) : pairsOk d qs :=
  fun hd r hr => h hd r (hq hr)

/-! Integer instructions: a meaning whose checks pass finishes with the result of its operation. -/

/-- A two-operand integer meaning computes its operation on the operands' values. -/
theorem alu2_pass (d : Bool) (rd ra rb : Reg) (f : Nat → Nat → Nat → AluRes) (e : Env) (c : CoreCtx) (h : destOk rd) (hp : pairsOk d [rd, ra, rb]) :
    alu2 d rd ra rb f e c = finAlu c d rd (f (widthOf d) (opnd d c ra) (opnd d c rb)) := by
  refine (checks_pass d rd [rd, ra, rb] _ h hp).trans ?_
  cases d <;> rfl

/-- DIV computes its operation in the two forms it has. -/
theorem semDiv_pass (o : Ovf) (d : Bool) (rd ra rb : Reg) (e : Env) (c : CoreCtx) (ho : o ≠ .us) (h : destOk rd) (hp : pairsOk d [rd, ra, rb]) :
    semDiv o d rd ra rb e c = finAlu c d rd (aluDiv o (widthOf d) (opnd d c ra) (opnd d c rb)) :=
  (if_neg ho).trans (alu2_pass d rd ra rb (aluDiv o) e c h hp)

/-- ABS computes its operation in the two forms it has. -/
theorem semAbs_pass (o : Ovf) (d : Bool) (rd ra : Reg) (e : Env) (c : CoreCtx) (ho : o ≠ .us) (h : destOk rd) (hp : pairsOk d [rd, ra]) :
    semAbs o d rd ra e c = finAlu c d rd (aluAbs o (widthOf d) (opnd d c ra)) := by
  refine (if_neg ho).trans ((checks_pass d rd [rd, ra] _ h hp).trans ?_)
  cases d <;> rfl

/-- An integer meaning whose operation comes to `r` retires with the value and flags of `r`. -/
theorem intRetires_eq {i : Instr} {u : CoreId} {s : State} {sem : Sem} {inst : Instance} {c : CoreCtx} {d : Bool} {rd : Reg} {q r : AluRes}
    (hx : exec i s = .next (s.runJfi u i sem)) (h : CoreAt u inst c s) (hs : ∀ e, sem e c = finAlu c d rd q) (hr : q = r) :
    IntRetires i u s c d rd r.val r.cy r.v r.e :=
  hr ▸ intRetires_of i u s sem inst c d rd q hx h (hs _)

/-- On a vital core with ARITH_TRAP an integer operation that sets E traps with cause ARITH instead (03 R85). -/
theorem traps_arith {i : Instr} {u : CoreId} {s : State} {sem : Sem} {inst : Instance} {c : CoreCtx} {d : Bool} {rd : Reg} {q : AluRes}
    (hx : exec i s = .next (s.runJfi u i sem)) (h : CoreAt u inst c s) (hs : ∀ e, sem e c = finAlu c d rd q) (hq : q.e = true)
    (hk : u.core1 = false) (ht : arithTrap (s.lane u.lane) = true) : Traps i u s inst c 8 0 :=
  traps_of i u s sem inst c _ 8 0 hx h (hs _)
    (fun _ => .inr ⟨⟨_, congrArg (JOut.done _ _ _) hq⟩, ht, rfl, rfl⟩)
    (fun h1 => absurd (hk.symm.trans h1) Bool.false_ne_true)

/-! Signed values. -/

/-- A signed value lies in the range of its width, and is 0 for 0 alone. -/
theorem sxI_range {w x : Nat} (hw : 0 < w) (hx : x < 2 ^ w) : -(2 ^ (w - 1)) ≤ sxI w x ∧ sxI w x < 2 ^ (w - 1) ∧ (sxI w x = 0 → x = 0) := by
  have hp : (2 : Int) ^ w = ((2 ^ w : Nat) : Int) := by simp
  have hq : (2 : Int) ^ (w - 1) = ((2 ^ (w - 1) : Nat) : Int) := by simp
  have h2 := Nat.two_pow_pred_add_two_pow_pred hw
  unfold sxI
  rw [hp, hq]
  split <;> omega

/-- A truncated quotient of values from −b to b − 1 reaches b for −b / −1 alone (03 R78). -/
theorem tdiv_eq_bound_iff {b x y : Int} (hb : 0 < b) (hl : -b ≤ x) (hu : x < b) (hy : y ≠ 0) : x.tdiv y = b ↔ x = -b ∧ y = -1 := by
  constructor
  · intro h
    have habs : x.natAbs / y.natAbs = b.natAbs := by rw [← h, Int.natAbs_tdiv]; rfl
    have hy1 : y.natAbs < 2 := by
      by_contra hge
      have hle : x.natAbs / y.natAbs ≤ x.natAbs / 2 := Nat.div_le_div_left (by omega) (by omega)
      omega
    obtain rfl | rfl : y = 1 ∨ y = -1 := by omega
    · rw [Int.tdiv_one] at h
      omega
    · rw [Int.tdiv_neg, Int.tdiv_one] at h
      exact ⟨by omega, rfl⟩
  · rintro ⟨rfl, rfl⟩
    simp

/-! Results of the divisions and of ABS (03 R78; 04 R103). -/

theorem aluDiv_zero (o : Ovf) (w x : Nat) {y : Nat} (hy : y = 0) : aluDiv o w x y = { val := 0, v := some false, e := true } := if_pos hy
theorem aluDivu_zero (x : Nat) {y : Nat} (hy : y = 0) : aluDivu x y = { val := 0, e := true } := if_pos hy
theorem aluRem_zero (w x : Nat) {y : Nat} (hy : y = 0) : aluRem w x y = { val := 0, e := true } := if_pos hy
theorem aluRemu_zero (x : Nat) {y : Nat} (hy : y = 0) : aluRemu x y = { val := 0, e := true } := if_pos hy

/-- The signed quotient of the corner −2^(w−1) / −1. -/
theorem aluDiv_corner (o : Ovf) {w x y : Nat} (hy : y ≠ 0) (h1 : sxI w x = -(2 ^ (w - 1))) (h2 : sxI w y = -1) :
    aluDiv o w x y = { val := if o = .ss then 2 ^ (w - 1) - 1 else 2 ^ (w - 1), v := some true } := by
  unfold aluDiv
  rw [if_neg hy, h1, h2]
  exact if_pos (by simp)

/-- Elsewhere the signed quotient is the truncated one. -/
theorem aluDiv_inRange (o : Ovf) {w x y : Nat} (hw : 0 < w) (hx : x < 2 ^ w) (hyw : y < 2 ^ w) (hy : y ≠ 0) (hc : ¬(sxI w x = -(2 ^ (w - 1)) ∧ sxI w y = -1)) :
    aluDiv o w x y = { val := wrapI w ((sxI w x).tdiv (sxI w y)), v := some false } := by
  obtain ⟨hl, hu, -⟩ := sxI_range hw hx
  obtain ⟨-, -, hz⟩ := sxI_range hw hyw
  have hq : (sxI w x).tdiv (sxI w y) ≠ 2 ^ (w - 1) := fun h => hc ((tdiv_eq_bound_iff (by positivity) hl hu (fun h0 => hy (hz h0))).1 h)
  unfold aluDiv
  rw [if_neg hy]
  exact if_neg hq

theorem aluDivu_pos (x : Nat) {y : Nat} (hy : y ≠ 0) : aluDivu x y = { val := x / y } := if_neg hy
theorem aluRem_pos (w x : Nat) {y : Nat} (hy : y ≠ 0) : aluRem w x y = { val := wrapI w ((sxI w x).tmod (sxI w y)) } := if_neg hy
theorem aluRemu_pos (x : Nat) {y : Nat} (hy : y ≠ 0) : aluRemu x y = { val := x % y } := if_neg hy

/-- ABS of the minimum overflows. -/
theorem aluAbs_min (o : Ovf) {w x : Nat} (hx : x = 2 ^ (w - 1)) : aluAbs o w x = { val := if o = .ss then 2 ^ (w - 1) - 1 else 2 ^ (w - 1), v := some true } := by
  subst hx
  exact if_pos rfl

theorem aluAbs_ne (o : Ovf) {w x : Nat} (hx : x ≠ 2 ^ (w - 1)) : aluAbs o w x = { val := (sxI w x).natAbs, v := some false } := if_neg hx

/-- Settles O2: each instruction retires with the result of its operation, by the cases of the divisor (zero, the corner, the rest) and of ABS (the minimum, the rest); under ARITH_TRAP a zero divisor traps. -/
theorem divisionAndAbsolute : Obligations.DivisionAndAbsolute := by
  unfold Obligations.DivisionAndAbsolute
  intro u i c s d rd ra rb h hd hp x y w q
  have hw : 0 < w := widthOf_pos d
  have hx : x < 2 ^ w := opnd_lt d c ra
  have hyw : y < 2 ^ w := opnd_lt d c rb
  have sDiv (o : Ovf) (ho : o ≠ .us) (e : Env) : semDiv o d rd ra rb e c = finAlu c d rd (aluDiv o w x y) := semDiv_pass o d rd ra rb e c ho hd hp
  have sDivu (e : Env) : semDivu d rd ra rb e c = finAlu c d rd (aluDivu x y) := alu2_pass d rd ra rb _ e c hd hp
  have sRem (e : Env) : semRem d rd ra rb e c = finAlu c d rd (aluRem w x y) := alu2_pass d rd ra rb _ e c hd hp
  have sRemu (e : Env) : semRemu d rd ra rb e c = finAlu c d rd (aluRemu x y) := alu2_pass d rd ra rb _ e c hd hp
  have rDiv (o : Ovf) (ho : o ≠ .us) {r : AluRes} (hr : aluDiv o w x y = r) : IntRetires (.div u o d rd ra rb) u s c d rd r.val r.cy r.v r.e :=
    intRetires_eq rfl h (sDiv o ho) hr
  have rAbs (o : Ovf) (ho : o ≠ .us) {r : AluRes} (hr : aluAbs o w x = r) : IntRetires (.abs u o d rd ra) u s c d rd r.val r.cy r.v r.e :=
    intRetires_eq rfl h (fun e => semAbs_pass o d rd ra e c ho hd (pairsOk_subset hp (by simp))) hr
  refine ⟨fun h0 => ?_, fun h0 hk ht o ho => ?_, fun hy h1 h2 => ?_, fun hy hc o ho => ?_, fun hy => ?_, fun hm => ?_, fun hm o ho => ?_⟩
  · exact ⟨rDiv .w (by decide) (aluDiv_zero .w w x h0), rDiv .ss (by decide) (aluDiv_zero .ss w x h0), intRetires_eq rfl h sDivu (aluDivu_zero x h0),
      intRetires_eq rfl h sRem (aluRem_zero w x h0), intRetires_eq rfl h sRemu (aluRemu_zero x h0)⟩
  · simp only [List.forall_mem_cons]
    exact ⟨traps_arith rfl h (sDiv o ho) (by rw [aluDiv_zero o w x h0]) hk ht, traps_arith rfl h sDivu (by rw [aluDivu_zero x h0]) hk ht,
      traps_arith rfl h sRem (by rw [aluRem_zero w x h0]) hk ht, traps_arith rfl h sRemu (by rw [aluRemu_zero x h0]) hk ht, by simp⟩
  · exact ⟨rDiv .w (by decide) (aluDiv_corner .w hy h1 h2), rDiv .ss (by decide) (aluDiv_corner .ss hy h1 h2)⟩
  · exact rDiv o ho (aluDiv_inRange o hw hx hyw hy hc)
  · exact ⟨intRetires_eq rfl h sDivu (aluDivu_pos x hy), intRetires_eq rfl h sRem (aluRem_pos w x hy), intRetires_eq rfl h sRemu (aluRemu_pos x hy)⟩
  · exact ⟨rAbs .w (by decide) (aluAbs_min .w hm), rAbs .ss (by decide) (aluAbs_min .ss hm)⟩
  · exact rAbs o ho (aluAbs_ne o hm)

/-! Floating-point instructions of both formats: `i` in binary32 and `j` in binary64, with one operation `f`. -/

/-- The meaning of an instruction in the format of its operands. -/
theorem exec_format {i j : Instr} {u : CoreId} {s : State} (sem : Bool → Sem) (hi : exec i s = .next (s.runJfi u i (sem false)))
    (hj : exec j s = .next (s.runJfi u j (sem true))) (d : Bool) : exec (if d then j else i) s = .next (s.runJfi u (if d then j else i) (sem d)) := by
  cases d
  · exact hi
  · exact hj

/-- An operation on one operand that comes to value `v` and event `e` puts `v`, and with `e` sets E. -/
theorem putRetires_op1 {i j : Instr} {u : CoreId} {s : State} {inst : Instance} {c : CoreCtx} {d : Bool} {rd ra : Reg} {v : Nat} {e : Bool} (f : Fmt → Nat → FRes)
    (hi : exec i s = .next (s.runJfi u i (fop false rd [ra] (fun m x => f m (x 0))))) (hj : exec j s = .next (s.runJfi u j (fop true rd [ra] (fun m x => f m (x 0)))))
    (h : CoreAt u inst c s) (hd : destOk rd) (hp : pairsOk d [rd, ra]) (hf : f (fmtOf d) (opnd d c ra) = (v, e)) :
    PutRetires (if d then j else i) u s c d rd v e := by
  have hs (env : Env) : fop d rd [ra] (fun m x => f m (x 0)) env c = .fin (putNext d c rd (f (fmtOf d) (opnd d c ra)).1) (f (fmtOf d) (opnd d c ra)).2 :=
    checks_pass d rd [rd, ra] _ hd hp
  rw [hf] at hs
  exact putRetires_of _ u s _ inst c d rd v e (exec_format (fun d => fop d rd [ra] (fun m x => f m (x 0))) hi hj d) h (hs _)

/-- The same of an operation on two operands. -/
theorem putRetires_op2 {i j : Instr} {u : CoreId} {s : State} {inst : Instance} {c : CoreCtx} {d : Bool} {rd ra rb : Reg} {v : Nat} {e : Bool} (f : Fmt → Nat → Nat → FRes)
    (hi : exec i s = .next (s.runJfi u i (fop2 false rd ra rb f))) (hj : exec j s = .next (s.runJfi u j (fop2 true rd ra rb f)))
    (h : CoreAt u inst c s) (hd : destOk rd) (hp : pairsOk d [rd, ra, rb]) (hf : f (fmtOf d) (opnd d c ra) (opnd d c rb) = (v, e)) :
    PutRetires (if d then j else i) u s c d rd v e := by
  have hs (env : Env) : fop2 d rd ra rb f env c
      = .fin (putNext d c rd (f (fmtOf d) (opnd d c ra) (opnd d c rb)).1) (f (fmtOf d) (opnd d c ra) (opnd d c rb)).2 := checks_pass d rd [rd, ra, rb] _ hd hp
  rw [hf] at hs
  exact putRetires_of _ u s _ inst c d rd v e (exec_format (fun d => fop2 d rd ra rb f) hi hj d) h (hs _)

/-- A compare sets flags and writes no register: its checks are those of an instruction that writes w0. -/
theorem flagsRetire_fcmp {i j : Instr} {u : CoreId} {s : State} {inst : Instance} {c : CoreCtx} {d : Bool} {ra rb : Reg} {z n v e : Bool}
    (hi : exec i s = .next (s.runJfi u i (fcmpS false ra rb))) (hj : exec j s = .next (s.runJfi u j (fcmpS true ra rb)))
    (h : CoreAt u inst c s) (hp : pairsOk d [ra, rb]) (hf : fcmpB (fmtOf d) (opnd d c ra) (opnd d c rb) = (z, n, v, e)) :
    FlagsRetire (if d then j else i) u s c z n false v e := by
  have hw0 : destOk 0 := rfl
  have hs (env : Env) : fcmpS d ra rb env c = let r := fcmpB (fmtOf d) (opnd d c ra) (opnd d c rb)
      .fin (advance (setFlags c (some r.1) (some r.2.1) (some false) (some r.2.2.1))) r.2.2.2 := checks_pass d 0 [ra, rb] _ hw0 hp
  rw [hf] at hs
  exact flagsRetire_of _ u s _ inst c z n false v e (exec_format (fun d => fcmpS d ra rb) hi hj d) h (hs _)

/-! Compares, minima and maxima (03 R81, R82; 04 R107). -/

theorem isSnan_of_not_isNan {v : FVal} (h : v.isNan = false) : v.isSnan = false := by
  cases v with
  | nan _ => cases h
  | inf _ => rfl
  | num _ _ _ => rfl

/-- The flags of a compare, with and without a NaN operand. -/
theorem fcmpB_eq (m : Fmt) (x y : Nat) :
    let vx := unpackF m x
    let vy := unpackF m y
    let nan := vx.isNan || vy.isNan
    fcmpB m x y = (!nan && !ltV vx vy && !ltV vy vx, !nan && ltV vx vy, nan, vx.isSnan || vy.isSnan) := by
  unfold fcmpB
  dsimp only
  cases hn : (unpackF m x).isNan || (unpackF m y).isNan with
  | true => simp
  | false =>
    obtain ⟨hx, hy⟩ := Bool.or_eq_false_iff.1 hn
    simp [isSnan_of_not_isNan hx, isSnan_of_not_isNan hy]

/-- A minimum or maximum with a NaN operand. -/
theorem fminmaxB_nan (m : Fmt) (mx : Bool) (x y : Nat) (h : ((unpackF m x).isNan || (unpackF m y).isNan) = true) :
    fminmaxB m mx x y = (qnan m, (unpackF m x).isSnan || (unpackF m y).isSnan) := if_pos h

/-- A minimum or maximum of two numbers, by the order that puts −0 below +0. -/
theorem fminmaxB_ordered (m : Fmt) (mx : Bool) (x y : Nat) (h : ((unpackF m x).isNan || (unpackF m y).isNan) = false) :
    fminmaxB m mx x y = (if (if mx then ltZ (unpackF m x) (unpackF m y) else ltZ (unpackF m y) (unpackF m x)) then y else x, false) :=
  if_neg (ne_true_of_eq_false h)

/-! Signs (03 R82): the sign of a value is the top bit of its word or pair. -/

/-- A sign put in place of another stands above the other bits. -/
theorem withSign_fmtOf (d : Bool) (x : Nat) (neg : Bool) : withSign (fmtOf d) x neg = x % 2 ^ (widthOf d - 1) + if neg then 2 ^ (widthOf d - 1) else 0 := by
  cases d <;> rfl

/-- The sign is set in the upper half of the range of a value's bits. -/
theorem signOf_fmtOf {d : Bool} {x : Nat} (hx : x < 2 ^ widthOf d) : signOf (fmtOf d) x = !decide (x < 2 ^ (widthOf d - 1)) := by
  have h2 := Nat.two_pow_pred_add_two_pow_pred (widthOf_pos d)
  have hs : signOf (fmtOf d) x = (x / 2 ^ (widthOf d - 1) % 2 == 1) := by cases d <;> rfl
  rw [hs]
  by_cases h : x < 2 ^ (widthOf d - 1)
  · simp [h, Nat.div_eq_of_lt h]
  · have h1 : x / 2 ^ (widthOf d - 1) = 1 := Nat.div_eq_of_lt_le (by omega) (by omega)
    simp [h, h1]

/-- The sign of another value put in place of a value's own. -/
theorem withSign_signOf {d : Bool} (x : Nat) {y : Nat} (hy : y < 2 ^ widthOf d) :
    withSign (fmtOf d) x (signOf (fmtOf d) y) = x % 2 ^ (widthOf d - 1) + if y < 2 ^ (widthOf d - 1) then 0 else 2 ^ (widthOf d - 1) := by
  rw [withSign_fmtOf, signOf_fmtOf hy]
  by_cases h : y < 2 ^ (widthOf d - 1) <;> simp [h]

/-- Inverting the sign moves a value's bits by half their range. -/
theorem withSign_inverted {d : Bool} {x : Nat} (hx : x < 2 ^ widthOf d) :
    withSign (fmtOf d) x (!signOf (fmtOf d) x) = if x < 2 ^ (widthOf d - 1) then x + 2 ^ (widthOf d - 1) else x - 2 ^ (widthOf d - 1) := by
  have h2 := Nat.two_pow_pred_add_two_pow_pred (widthOf_pos d)
  rw [withSign_fmtOf, signOf_fmtOf hx, Bool.not_not]
  by_cases h : x < 2 ^ (widthOf d - 1)
  · simp [h, Nat.mod_eq_of_lt h]
  · rw [Nat.mod_eq_sub_mod (by omega), Nat.mod_eq_of_lt (by omega)]
    simp [h]

/-- Settles O7: each instruction retires with the result of its operation in the format of its operands. -/
theorem floatComparesAndSigns : Obligations.FloatComparesAndSigns := by
  unfold Obligations.FloatComparesAndSigns
  intro u i c s d rd ra rb h hp m x y vx vy nan top
  have hx : x < 2 ^ widthOf d := opnd_lt d c ra
  have hy : y < 2 ^ widthOf d := opnd_lt d c rb
  have hpc : pairsOk d [ra, rb] := pairsOk_subset hp (by simp)
  refine ⟨?_, fun hd => ?_⟩
  · exact flagsRetire_fcmp rfl rfl h hpc (fcmpB_eq _ x y)
  have hp1 : pairsOk d [rd, ra] := pairsOk_subset hp (by simp)
  refine ⟨fun hn => ⟨?min, ?max⟩, fun hn => ⟨?minOrdered, ?maxOrdered⟩, ?neg, ?abs, ?cpys⟩
  case min => exact putRetires_op2 (fun m => fminmaxB m false) rfl rfl h hd hp (fminmaxB_nan _ _ x y hn)
  case max => exact putRetires_op2 (fun m => fminmaxB m true) rfl rfl h hd hp (fminmaxB_nan _ _ x y hn)
  case minOrdered => exact putRetires_op2 (fun m => fminmaxB m false) rfl rfl h hd hp (fminmaxB_ordered _ _ x y hn)
  case maxOrdered => exact putRetires_op2 (fun m => fminmaxB m true) rfl rfl h hd hp (fminmaxB_ordered _ _ x y hn)
  case neg => exact putRetires_op1 (fun m v => (withSign m v (!signOf m v), false)) rfl rfl h hd hp1 (congrArg (·, false) (withSign_inverted hx))
  case abs => exact putRetires_op1 (fun m v => (withSign m v false, false)) rfl rfl h hd hp1 (congrArg (·, false) (withSign_fmtOf d x false))
  case cpys => exact putRetires_op2 (fun m v w => (withSign m v (signOf m w), false)) rfl rfl h hd hp (congrArg (·, false) (withSign_signOf x hy))

end Sys2Proof.Machine

/-! SUPPORT. Function blocks: what a register window that is in order lets through, what updates of instances and limiters come to, and the two statements about edges, counters and bistables, and about selections and limiters. -/

namespace Sys2Proof.Machine

/-! Windows and instances (05 R117, R118). -/

/-- The checks of a register window pass. -/
theorem window_pass {r : Reg} {len : Nat} {pairs writes : List Nat} (hw : windowOk r len pairs writes) (k : Op) : window r len pairs writes k = k := by
  obtain ⟨hlen, hpairs, hwrites⟩ := hw
  have hp : pairs.any badPair = false := List.any_eq_false.2 fun p h => Bool.eq_false_iff.1 (hpairs p h)
  have hb : writes.any isBase = false := List.any_eq_false.2 fun w h => Bool.eq_false_iff.1 (hwrites w h)
  unfold window withPairs
  rw [if_neg (by omega), hp, hb]
  rfl

/-- Instances below 4 GiB lie at the exact sum. -/
theorem instEa_exact {c : CoreCtx} {fo : Half} (h : (wget c 31).toNat + 8 * fo.toNat < 2 ^ 32) : instEa c fo = (wget c 31).toNat + 8 * fo.toNat := by
  unfold instEa
  rw [BitVec.toNat_add, BitVec.toNat_ofNat, Nat.add_mod_mod, Nat.mod_eq_of_lt h]

/-- A function block whose window is in order updates the `n` bytes it keeps, at the address of R118. -/
theorem updates_instance {i : Instr} {u : CoreId} {s : State} {sem : Sem} {inst : Instance} {c : CoreCtx} {r : Reg} {fo : Half} {len n : Nat} {pairs writes : List Nat}
    {f : Bytes → Bytes} {g : Bytes → CoreCtx} {e : Bytes → Bool} (hn : 0 < n) (hw : windowOk r len pairs writes)
    (hx : exec i s = .next (s.runJfi u i sem)) (h : CoreAt u inst c s)
    (hs : ∀ env, sem env c = window r len pairs writes (.block (instEa c fo) n (fun b => (g b, f b, e b)))) :
    Updates i u s inst ((wget c 31).toNat + 8 * fo.toNat) n f g e := by
  refine updates_of i u s sem inst c _ n _ f g e hn hx h (fun hle => ?_) rfl
  rw [hs, window_pass hw, instEa_exact (by omega)]

/-- Settles O14: each block's meaning is a window of registers and an update of the bytes it keeps, so that it retires with the output and the bytes computed from those read. -/
theorem edgesCountersBistables : Obligations.EdgesCountersBistables := by
  unfold Obligations.EdgesCountersBistables
  intro u i c s r fo e1 h ea w clk pv edge was cv up dn inc dec counts holds
  refine ⟨fun hw falling => ?_, fun hw => ⟨?ctu, ?ctd, ?ctud⟩, fun hw => ⟨?sr, ?rs⟩⟩
  · cases falling with
    | false => exact updates_instance (sem := edgeFb false e1 r fo) (by decide) hw rfl h (fun _ => rfl)
    | true => exact updates_instance (sem := edgeFb true e1 r fo) (by decide) hw rfl h (fun _ => rfl)
  case ctu => exact updates_instance (sem := counterFb .up e1 r fo) (by decide) hw rfl h (fun _ => rfl)
  case ctd => exact updates_instance (sem := counterFb .down e1 r fo) (by decide) hw rfl h (fun _ => rfl)
  case ctud => exact updates_instance (sem := counterFb .both e1 r fo) (by decide) hw rfl h (fun _ => rfl)
  case sr => exact updates_instance (sem := semSr r fo) (by decide) hw rfl h (fun _ => rfl)
  case rs => exact updates_instance (sem := semRs r fo) (by decide) hw rfl h (fun _ => rfl)

/-! Selections (05 R127). -/

theorem putNext_word (c : CoreCtx) (r : Reg) (v : Word) : putNext false c r v.toNat = advance (wset c r v) := by
  simp [putNext]

theorem putNext_pair (c : CoreCtx) (r : Reg) (v : DWord) : putNext true c r v.toNat = advance (dset c r v) := by
  simp [putNext]

/-- A meaning whose window is in order and that puts a word. -/
theorem putRetires_word {i : Instr} {u : CoreId} {s : State} {sem : Sem} {inst : Instance} {c : CoreCtx} {r : Reg} {len : Nat} {pairs writes : List Nat} {v : Word} {e : Bool}
    (hw : windowOk r len pairs writes) (hx : exec i s = .next (s.runJfi u i sem)) (h : CoreAt u inst c s)
    (hs : ∀ env, sem env c = window r len pairs writes (.fin (advance (wset c r v)) e)) : PutRetires i u s c false r v.toNat e :=
  putRetires_of i u s sem inst c false r v.toNat e hx h (by rw [hs, window_pass hw, putNext_word])

/-- The same of a pair. -/
theorem putRetires_pair {i : Instr} {u : CoreId} {s : State} {sem : Sem} {inst : Instance} {c : CoreCtx} {r : Reg} {len : Nat} {pairs writes : List Nat} {v : DWord} {e : Bool}
    (hw : windowOk r len pairs writes) (hx : exec i s = .next (s.runJfi u i sem)) (h : CoreAt u inst c s)
    (hs : ∀ env, sem env c = window r len pairs writes (.fin (advance (dset c r v)) e)) : PutRetires i u s c true r v.toNat e :=
  putRetires_of i u s sem inst c true r v.toNat e hx h (by rw [hs, window_pass hw, putNext_pair])

/-! Limiters (05 R128). -/

/-- A meaning that puts a value and sets V. -/
theorem limitRetires_of {i : Instr} {u : CoreId} {s : State} {sem : Sem} {inst : Instance} {c : CoreCtx} {d : Bool} {r : Reg} {v : Nat} {out e : Bool}
    (hx : exec i s = .next (s.runJfi u i sem)) (h : CoreAt u inst c s)
    (hs : ∀ env, sem env c = .fin (setFlag (putNext d c r v) 3 out) e) : LimitRetires i u s c d r v out e := by
  intro he
  have hf := flagsOf_set (putNext d c r v) none none none (some out) e
  simp only [Option.getD, flagZ, flagN, flagC, flagE, putNext_sf_same] at hf
  exact ⟨_, hf, retiresTo_of i u s sem inst c _ e hx h (hs _) he⟩

/-- The limit of an integer, with the conditions of V and E. -/
theorem limitInt_eq (x mn mx : Int) : limitInt x mn mx = (min (max x mn) mx, decide (mx < mn ∨ x < mn ∨ mx < x), decide (mx < mn)) := by
  unfold limitInt
  by_cases hc : mx < mn
  · have hv : min (max x mn) mx = mx := by omega
    simp [hc, hv]
  by_cases hl : x < mn
  · have hv : min (max x mn) mx = mn := by omega
    simp [hc, hl, hv]
  by_cases hu : mx < x
  · have hv : min (max x mn) mx = mx := by omega
    simp [hc, hl, hu, hv]
  · have hv : min (max x mn) mx = x := by omega
    simp [hc, hl, hu, hv]

/-- What holds of the limit of a floating-point value, by the cases of R128: a NaN among the limits, a NaN input, crossed limits, and the rest. -/
theorem limitFp_cases {m : Fmt} {x lo hi : Nat} {P : Nat → Bool → Bool → Prop} (h : P (limitFp m x lo hi).1 (limitFp m x lo hi).2.1 (limitFp m x lo hi).2.2) :
    let va := unpackF m x
    let vl := unpackF m lo
    let vh := unpackF m hi
    ((vl.isNan || vh.isNan) = true → P (qnan m) true true)
    ∧ ((vl.isNan || vh.isNan) = false → va.isNan = true → P lo true true)
    ∧ ((vl.isNan || vh.isNan) = false → va.isNan = false → ltZ vh vl = true → P hi true true)
    ∧ ((vl.isNan || vh.isNan) = false → va.isNan = false → ltZ vh vl = false →
        P (if ltZ va vl then lo else if ltZ vh va then hi else x) (ltZ va vl || ltZ vh va) false) := by
  intro va vl vh
  refine ⟨fun hn => ?_, fun hn ha => ?_, fun hn ha hc => ?_, fun hn ha hc => ?_⟩
  · have hr : limitFp m x lo hi = (qnan m, true, true) := if_pos hn
    rwa [hr] at h
  · have hr : limitFp m x lo hi = (lo, true, true) := (if_neg (ne_true_of_eq_false hn)).trans (if_pos ha)
    rwa [hr] at h
  · have hr : limitFp m x lo hi = (hi, true, true) := (if_neg (ne_true_of_eq_false hn)).trans ((if_neg (ne_true_of_eq_false ha)).trans (if_pos hc))
    rwa [hr] at h
  · have hr : limitFp m x lo hi = if ltZ va vl then (lo, true, false) else if ltZ vh va then (hi, true, false) else (x, false, false) :=
      (if_neg (ne_true_of_eq_false hn)).trans ((if_neg (ne_true_of_eq_false ha)).trans (if_neg (ne_true_of_eq_false hc)))
    rw [hr] at h
    cases hl : ltZ va vl <;> cases hh : ltZ vh va <;> simpa [hl, hh] using h

/-- Settles O15: each instruction retires with the value selected, and a limiter with the value, V and E of its case. -/
theorem selectionsAndLimiters : Obligations.SelectionsAndLimiters := by
  unfold Obligations.SelectionsAndLimiters
  intro u i c s r o h n w k kd sIn sMn sMx uIn uMn uMx fp
  refine ⟨fun hw => ?sel, fun hw => ?seld, fun hw => ?mux, fun hw => ?muxd, fun hw => ⟨?dint, ?udint, ?real⟩, fun hw => ?lreal⟩
  case sel => exact putRetires_word hw rfl h (fun _ => rfl)
  case seld => exact retiresTo_of _ u s (semSeld r) i c _ false rfl h (window_pass hw _) (by simp)
  case mux =>
    have hidx : r.val + (1 + min k (n - 1)) = r + 1 + min k (n - 1) := (Nat.add_assoc _ _ _).symm
    exact putRetires_word hw rfl h (fun _ => by simp only [w, hidx]; rfl)
  case muxd => exact putRetires_pair hw rfl h (fun _ => rfl)
  case dint =>
    refine limitRetires_of (sem := semLimitDint r) rfl h (fun _ => (window_pass hw _).trans ?_)
    dsimp only
    rw [limitInt_eq, putNext_word]
    rfl
  case udint =>
    refine limitRetires_of (sem := semLimitUdint r) rfl h (fun _ => (window_pass hw _).trans ?_)
    dsimp only
    rw [limitInt_eq]
    norm_cast
  case real => exact limitFp_cases (limitRetires_of (sem := semLimitReal r) rfl h (fun _ => window_pass hw _))
  case lreal => exact limitFp_cases (limitRetires_of (sem := semLimitLreal r) rfl h (fun _ => window_pass hw _))

end Sys2Proof.Machine

/-! SUPPORT. Check-value contexts: what VALUE holds after it is set, what a permitted access to a context does, and the statement about them. -/

namespace Sys2Proof.Machine

/-! Values held in two registers. -/

/-- Two registers read the 64-bit value written to them. -/
theorem rget64_rset64_same (l : LaneState) {lo hi : Nat} (v : DWord) (h : lo ≠ hi) : rget64 (rset64 l lo hi v) lo hi = v := by
  unfold rget64 rset64
  rw [rget_rset_same, rget_rset_other _ _ _ _ h, rget_rset_same]
  refine BitVec.eq_of_getLsbD_eq fun i hi => BitVec.getLsbD_append.trans ?_
  by_cases hlow : i < 32
  · simp [hlow]
  · simp [hlow, show i - 32 < 32 by omega, show 32 + (i - 32) = i by omega]

/-- A field of a third register reads as before. -/
theorem fget_rset64_other (l : LaneState) {lo hi a : Nat} (v : DWord) (i j : Nat) (hlo : a ≠ lo) (hhi : a ≠ hi) :
    fget (rset64 l lo hi v) a i j = fget l a i j := by
  unfold fget rset64
  rw [rget_rset_other _ _ _ _ hhi, rget_rset_other _ _ _ _ hlo]

/-! VALUE (11 R254). -/

/-- Setting VALUE leaves WIDTH. -/
theorem cvuWidth_cvuSet (l : LaneState) (k n : Nat) : cvuWidth (cvuSet l k n) k = cvuWidth l k := by
  refine fget_rset64_other l _ 6 0 ?_ ?_
  · simp
  · simp

/-- VALUE reads the bits below WIDTH of what it was set to. -/
theorem cvuValue_cvuSet (l : LaneState) (k n : Nat) (hw : cvuWidth l k ≤ 64) : cvuValue (cvuSet l k n) k = n % 2 ^ cvuWidth l k := by
  have hlt : n % 2 ^ cvuWidth l k < 2 ^ 64 := (Nat.mod_lt _ (Nat.two_pow_pos _)).trans_le (Nat.pow_le_pow_right (by decide) hw)
  have hheld : (rget64 (cvuSet l k n) (Rg.CVU_CTXk_VALUE_LO k) (Rg.CVU_CTXk_VALUE_HI k)).toNat = n % 2 ^ cvuWidth l k := by
    unfold cvuSet
    rw [rget64_rset64_same l _ (by simp), BitVec.toNat_ofNat, Nat.mod_eq_of_lt hlt]
  unfold cvuValue cvuPar
  rw [cvuWidth_cvuSet, hheld, Nat.mod_mod]

/-! The registers of a context: context k occupies the 64 offsets from 0x40 × k of the block (11 R262). -/

theorem cvu_offset {k o : Nat} (ho : o < 64) : (0x0C0000 + o + 64 * k) % 64 = o := by omega

theorem cvu_context {k o : Nat} (ho : o < 64) : (0x0C0000 + o + 64 * k - 0x0C0000) / 64 = k := by omega

theorem cvu_range (k : Ctr) {o : Nat} (ho : o < 64) : (decide (0x0C0000 ≤ 0x0C0000 + o + 64 * k) && decide (0x0C0000 + o + 64 * k < 0x0C0200)) = true := by
  simp only [Bool.and_eq_true, decide_eq_true_eq]
  omega

/-! Writes (11 R256, R258). -/

theorem cvuPut_restart (l : LaneState) (k : Nat) (v : Word) : cvuPut l (Rg.CVU_CTXk_RESTART k) v = cvuRestart l k := by
  unfold cvuPut
  rw [cvu_offset (o := 0x1C) (by decide), cvu_context (o := 0x1C) (by decide)]
  rfl

theorem cvuPut_valueLo (l : LaneState) (k : Nat) (v : Word) : cvuPut l (Rg.CVU_CTXk_VALUE_LO k) v = cvuWriteHalf l k false v := by
  unfold cvuPut
  rw [cvu_offset (o := 0x20) (by decide), cvu_context (o := 0x20) (by decide)]
  rfl

theorem cvuPut_valueHi (l : LaneState) (k : Nat) (v : Word) : cvuPut l (Rg.CVU_CTXk_VALUE_HI k) v = cvuWriteHalf l k true v := by
  unfold cvuPut
  rw [cvu_offset (o := 0x24) (by decide), cvu_context (o := 0x24) (by decide)]
  rfl

theorem cvuPut_feed8 (l : LaneState) (k : Nat) (v : Word) : cvuPut l (Rg.CVU_CTXk_FEED8 k) v = cvuFeedWord l k 1 v := by
  unfold cvuPut
  rw [cvu_offset (o := 0x30) (by decide), cvu_context (o := 0x30) (by decide)]
  rfl

theorem cvuPut_feed16 (l : LaneState) (k : Nat) (v : Word) : cvuPut l (Rg.CVU_CTXk_FEED16 k) v = cvuFeedWord l k 2 v := by
  unfold cvuPut
  rw [cvu_offset (o := 0x34) (by decide), cvu_context (o := 0x34) (by decide)]
  rfl

theorem cvuPut_feed32 (l : LaneState) (k : Nat) (v : Word) : cvuPut l (Rg.CVU_CTXk_FEED32 k) v = cvuFeedWord l k 4 v := by
  unfold cvuPut
  rw [cvu_offset (o := 0x38) (by decide), cvu_context (o := 0x38) (by decide)]
  rfl

/-- The bus-error mark plays no part in setting VALUE. -/
theorem cvuSet_withBerr (l : LaneState) (k n : Nat) (b : Bool) : { cvuSet l k n with berr := b } = cvuSet { l with berr := b } k n := by
  unfold cvuSet rset64
  rfl

/-- The bus-error mark plays no part in a plain write. -/
theorem plainWrite_withBerr (l : LaneState) (a : Nat) (v : Word) (b : Bool) : { plainWrite l a v with berr := b } = plainWrite { l with berr := b } a v := by
  unfold plainWrite
  cases regRow a with
  | none => rfl
  | some r =>
    obtain ⟨_, _, _, acc, _, _, _, _, _⟩ := r
    have hmode : modeOf { l with berr := b } = modeOf l := rfl
    cases acc <;> simp only [hmode, apply_ite (fun x : LaneState => { x with berr := b })] <;> rfl

/-- The bus-error mark plays no part in any write to a context. -/
theorem cvuPut_withBerr (l : LaneState) (a : Nat) (v : Word) (b : Bool) : { cvuPut l a v with berr := b } = cvuPut { l with berr := b } a v := by
  unfold cvuPut
  dsimp only
  split
  case h_7 => exact plainWrite_withBerr _ _ _ _
  all_goals exact cvuSet_withBerr _ _ _ _

/-- A permitted write of any agent to a context does what the register does, without a bus error. -/
theorem writeCmd_cvu {x : LaneState} {ag : Agent} {k : Ctr} {o : Nat} {v : Word} (ho : o < 64) (h : writeOk x ag (0x0C0000 + o + 64 * k) = true) :
    writeCmd x ag (0x0C0000 + o + 64 * k) v = cvuPut { x with berr := false } (0x0C0000 + o + 64 * k) v := by
  have hin := cvu_range k ho
  by_cases hv : ag = .v
  · have hput : vitalPut x (0x0C0000 + o + 64 * k) v = .ok (cvuPut x (0x0C0000 + o + 64 * k) v) := if_pos hin
    unfold writeCmd
    rw [h, if_pos hv, hput]
    exact cvuPut_withBerr _ _ _ _
  · have hput : regPut { x with berr := false } (0x0C0000 + o + 64 * k) v = cvuPut { x with berr := false } (0x0C0000 + o + 64 * k) v := if_pos hin
    unfold writeCmd
    rw [h, if_neg hv, hput]
    rfl

/-- A write that is not permitted ends in a bus error and changes nothing else. -/
theorem writeCmd_refused {x : LaneState} {ag : Agent} {a : Nat} {v : Word} (h : writeOk x ag a = false) : writeCmd x ag a v = { x with berr := true } := by
  unfold writeCmd
  rw [h]
  rfl

/-- A command that is a permitted write to a context. -/
theorem cvuWrite_becomes {i : Instr} {l : Lane} {s : State} {ag : Agent} {k : Ctr} {o : Nat} {v : Word} {y : LaneState} (ho : o < 64)
    (hx : exec i s = .next (s.onLane l (fun x => writeCmd x ag (0x0C0000 + o + 64 * k) v))) (h : writeOk (s.lane l) ag (0x0C0000 + o + 64 * k) = true)
    (hput : cvuPut { s.lane l with berr := false } (0x0C0000 + o + 64 * k) v = y) : LaneBecomes i l s y :=
  laneBecomes_of hx ((writeCmd_cvu ho h).trans hput)

/-! Reads of RESULT (11 R255). -/

/-- A read of a context's register has no effect beyond its access kind's. -/
theorem regReadEff_cvu (l : LaneState) (k : Ctr) {o : Nat} (ho : o < 64) : regReadEff l (0x0C0000 + o + 64 * k) = plainRead l (0x0C0000 + o + 64 * k) := by
  have hpmc : pmcLoCounter (0x0C0000 + o + 64 * k) = none := by
    have hlow : ¬ 0x0D0000 ≤ 0x0C0000 + o + 64 * k.val := by omega
    simp [pmcLoCounter, hlow]
  have hne : ∀ r, r < 0x0C0000 ∨ 0x0C0200 ≤ r → 0x0C0000 + o + 64 * k.val ≠ r := by omega
  unfold regReadEff
  rw [hpmc]
  dsimp only
  rw [if_neg (hne _ (by decide)), if_neg (hne _ (by decide)), if_neg (hne _ (by decide)), if_neg (hne _ (by decide)), if_neg (hne _ (by decide))]

/-- The registers of a context lie outside the sample buffers. -/
theorem sampleWord_cvu (l : LaneState) (k : Ctr) {o : Nat} (ho : o < 64) : sampleWord l (0x0C0000 + o + 64 * k) = none :=
  if_neg (by omega)

/-- A plain read of a read-only register changes nothing. -/
theorem plainRead_ro (l : LaneState) {a : Nat} (h : (regRow a).map (·.acc) = some .ro) : plainRead l a = l := by
  obtain ⟨r, hr, hro⟩ := Option.map_eq_some_iff.1 h
  simp [plainRead, hr, hro]

/-- The offset of a half of RESULT in its context. -/
def resultOffset (hi : Bool) : Nat := if hi then 0x2C else 0x28

theorem resultOffset_lt (hi : Bool) : resultOffset hi < 64 := by cases hi <;> decide

/-- The register of a half of RESULT. -/
theorem resultReg_eq (k : Nat) (hi : Bool) : (if hi then Rg.CVU_CTXk_RESULT_HI k else Rg.CVU_CTXk_RESULT_LO k) = 0x0C0000 + resultOffset hi + 64 * k := by
  cases hi <;> rfl

/-- RESULT is read-only. -/
theorem regRow_result (k : Ctr) (hi : Bool) : (regRow (0x0C0000 + resultOffset hi + 64 * k)).map (·.acc) = some .ro := by
  revert k hi
  decide

/-- RESULT is computed from VALUE at the read. -/
theorem regVal_result (l : LaneState) (k : Ctr) (hi : Bool) : regVal l (0x0C0000 + resultOffset hi + 64 * k) = cvuResultHalf l k hi := by
  have ho := resultOffset_lt hi
  unfold regVal
  rw [sampleWord_cvu l k ho, cvu_range k ho, cvu_offset ho, cvu_context ho]
  cases hi <;> rfl

/-- A permitted read of RESULT returns the half computed and changes nothing else. -/
theorem readCmd_result {x : LaneState} {ag : Agent} {k : Ctr} {hi : Bool} (h : readOk x ag (0x0C0000 + resultOffset hi + 64 * k) = true) :
    readCmd x ag (0x0C0000 + resultOffset hi + 64 * k) = { x with berr := false, rdval := cvuResultHalf x k hi } := by
  unfold readCmd
  rw [if_pos h, regReadEff_cvu _ k (resultOffset_lt hi), plainRead_ro _ (regRow_result k hi), regVal_result]

/-- Settles O22: each access is one write or read command, whose effect on the context is its register's, and VALUE reads below WIDTH what it was set to. -/
theorem checkValueContexts : Obligations.CheckValueContexts := by
  unfold Obligations.CheckValueContexts
  intro s l ag k hi v x y old fed res
  refine ⟨fun h => ?feed8, fun h => ?feed16, fun h => ?feed32, fun h => ?restart, fun h => ?value, fun h => ?result, fun h => ?refused, fun n hw => ?width⟩
  case feed8 => exact cvuWrite_becomes (k := k) (o := 0x30) (by decide) rfl h (cvuPut_feed8 y k v)
  case feed16 => exact cvuWrite_becomes (k := k) (o := 0x34) (by decide) rfl h (cvuPut_feed16 y k v)
  case feed32 => exact cvuWrite_becomes (k := k) (o := 0x38) (by decide) rfl h (cvuPut_feed32 y k v)
  case restart => exact cvuWrite_becomes (k := k) (o := 0x1C) (by decide) rfl h (cvuPut_restart y k 0)
  case value =>
    cases hi with
    | false => exact cvuWrite_becomes (k := k) (o := 0x20) (by decide) rfl h (cvuPut_valueLo y k v)
    | true => exact cvuWrite_becomes (k := k) (o := 0x24) (by decide) rfl h (cvuPut_valueHi y k v)
  case result =>
    have hres : res = 0x0C0000 + resultOffset hi + 64 * k := resultReg_eq k hi
    exact laneBecomes_of rfl ((congrArg (readCmd x ag) hres).trans (readCmd_result (hres ▸ h)))
  case refused => exact laneBecomes_of rfl (writeCmd_refused h)
  case width => exact cvuValue_cvuSet x k n hw

end Sys2Proof.Machine

/-! SUPPORT. Every command completes, and which commands reach the queue and the key table. -/

namespace Sys2Proof.Machine

/-- A state has the queue and the key table of another. -/
def Steady (s t : State) : Prop := t.pending = s.pending ∧ t.rm.keys = s.rm.keys

theorem Steady.refl (s : State) : Steady s s := ⟨rfl, rfl⟩

theorem Steady.trans {s t u : State} (h : Steady s t) (g : Steady t u) : Steady s u := ⟨g.1.trans h.1, g.2.trans h.2⟩

theorem Steady.ite {c : Prop} [Decidable c] {s t u : State} (h : Steady s t) (g : Steady s u) : Steady s (if c then t else u) := by
  split
  · exact h
  · exact g

theorem Steady.foldl {α : Type} {g : State → α → State} (hg : ∀ s x, Steady s (g s x)) (l : List α) (s : State) : Steady s (l.foldl g s) :=
  ⟨foldl_pending g l s fun s x => (hg s x).1, foldl_keys g l s fun s x => (hg s x).2⟩

/-- A command completes: it answers a next state with the same queue and key table. -/
def Passes (s : State) (o : Res) : Prop := ∃ t, o = .next t ∧ Steady s t

theorem passes_next {s t : State} (h : Steady s t) : Passes s (.next t) := ⟨t, rfl, h⟩

theorem Passes.ite {c : Prop} [Decidable c] {s : State} {o p : Res} (h : Passes s o) (g : Passes s p) : Passes s (if c then o else p) := by
  split
  · exact h
  · exact g

theorem passes_jfi (s : State) (u : CoreId) (i : Instr) (sem : Sem) : Passes s (.next (s.runJfi u i sem)) := passes_next ⟨by simp, by simp⟩

theorem passes_lane (s : State) (l : Lane) (f : LaneState → LaneState) : Passes s (.next (s.onLane l f)) := passes_next ⟨by simp, by simp⟩

theorem passes_vote (s : State) (l : Lane) (f : LaneState → LaneState) : Passes s (.next (s.onVote l f)) := passes_next ⟨by simp, by simp⟩

theorem takeVital_steady (s : State) : Steady s s.takeVital.2 := by
  unfold State.takeVital
  dsimp only
  split
  · exact ⟨by simp, by simp⟩
  · split <;> exact ⟨by simp, by simp⟩

theorem powerStateRequest_passes (src : PwrSrc) (target : Nat) (s : State) : Passes s (execPowerStateRequest src target s) := by
  have hv := takeVital_steady s
  unfold execPowerStateRequest
  split
  · exact passes_next (.refl s)
  · split
    · split <;> rename_i heq <;> rw [heq] at hv
      · exact passes_next (hv.trans ⟨by simp, by simp⟩)
      · exact passes_next hv
    · (repeat' split) <;> exact passes_next ⟨by simp, by simp⟩

theorem answer_steady (s : State) (c : CmdStatus) : Steady s (s.answer c) := ⟨by simp, by simp⟩

/-- A state with other recorder data. -/
theorem evr_steady (s : State) (e : EvrState) : Steady s { s with rm := { s.rm with evr := e } } := ⟨rfl, rfl⟩

theorem sensorSample_passes (sn : Nat) (v : Int) (s : State) : Passes s (execSensorSample sn v s) := by
  unfold execSensorSample
  split
  · exact passes_next (.refl s)
  · extract_lets s1 life s2 k s3 j s4 s5 s6
    have h1 : Steady s s1 := ⟨by simp [s1], by simp [s1]⟩
    have h2 : Steady s s2 := h1.trans (.ite ⟨rfl, rfl⟩ (.refl _))
    have h3 : Steady s s3 := h2.trans (.ite ⟨by simp, by simp⟩ (.refl _))
    have h4 : Steady s s4 := h3.trans (.ite ⟨by simp, by simp⟩ (.refl _))
    have h5 : Steady s s5 := h4.trans (.ite ⟨by simp, by simp⟩ (.refl _))
    have h6 : Steady s s6 := h5.trans (.ite ⟨by simp, by simp⟩ (.refl _))
    exact passes_next (h6.trans (.ite ⟨rfl, rfl⟩ (.refl _)))

theorem freeze_passes (fs : FreezeSrc) (src : CmdSrc) (s : State) : Passes s (execFreeze fs src s) := by
  unfold execFreeze
  split
  · exact passes_next (.refl s)
  split
  · exact passes_next (answer_steady s _)
  split
  · have hset : Steady s (s.fsetAll Rg.EVR_HOLD 31 16 0) := ⟨State.fsetAll_pending _ _ _ _ _, State.fsetAll_keys _ _ _ _ _⟩
    have hshow (t : State) : Steady t t.showEvr := ⟨State.showEvr_pending t, State.showEvr_keys t⟩
    exact passes_next (((hset.trans (evr_steady _ _)).trans (hshow _)).trans (answer_steady _ _))
  · exact passes_next (answer_steady s _)

theorem announce_passes (s : State) : Passes s (execAnnounce s) := by
  unfold execAnnounce
  split
  · exact passes_next (.refl s)
  · refine passes_next (.foldl (fun s t => .foldl (fun s x => ?_) _ _) _ _)
    exact .ite ⟨by simp, by simp⟩ (.refl _)

theorem helloReceive_passes (m : SnetMsg) (s : State) : Passes s (execHelloReceive m s) := by
  unfold execHelloReceive
  split
  · exact passes_next (.refl s)
  · refine passes_next (.foldl (fun s t => ?_) _ _)
    dsimp only
    (repeat' split) <;> exact ⟨by simp, by simp⟩

theorem reintCatchup_passes (l : Lane) (inTime : Bool) (s : State) : Passes s (execReintCatchup l inTime s) := by
  unfold execReintCatchup
  extract_lets x src lim s1 bs a b ra rb y e z f s2 x2 x3 due w v s3
  have h1 : Steady s s1 := ⟨by simp [s1], by simp [s1]⟩
  have h2 : Steady s s2 := h1.trans ⟨by simp [s2], by simp [s2]⟩
  refine .ite (passes_next (.refl s)) (.ite (passes_next h1) (.ite ?differ (.ite ?safe (.ite (passes_next h2) (.ite ?passed ?failed)))))
  all_goals exact passes_next (h2.trans ⟨by simp [s3], by simp [s3]⟩)

/-- The commands that write the key table (21 R457). -/
def WritesKeys : Instr → Prop
  | .fleetKeyEnrol .. | .keyRevoke .. => True
  | _ => False

/-- The commands of the cycle, of modes, of debug and of reintegration that reach more than one lane. -/
def OfCycle : Instr → Prop
  | .snapshot .. | .commit .. | .steeringEvaluation .. | .vsetRefresh .. | .runWarm .. | .runCold .. | .stop .. | .hold .. | .resume .. |
    .holdLimitExpiry .. | .autoRunEntry .. | .moduleBreakpointArm .. | .forceSet .. | .forceClear .. | .clearAll .. | .ringmasterMessage .. |
    .debugAttach .. | .debugAttachEffect .. | .debugDetach .. | .debugStep .. | .linkFailure .. | .exclusionAssertion .. | .reintSelftestComplete .. |
    .join .. | .reintBlockSend .. | .reintBlockReceive .. | .reintVoteStart .. | .catchupWaitExpiry .. | .reintStart .. | .clearFailed .. => True
  | _ => False

theorem ofCycle_passes (c : Instr) (s : State) (h : OfCycle c) : Passes s (exec c s) := by
  unfold exec
  cases c
  all_goals try exact False.elim h
  all_goals simp only [execSnapshot, execCommit, execSteeringEvaluation, execVsetRefresh, execRunWarm, execRunCold, execStop, execHold, execResume,
    execHoldLimitExpiry, execAutoRunEntry, execModuleBreakpointArm, execForceSet, execForceClear, execClearAll, execRingmasterMessage, execDebugAttach,
    execDebugAttachEffect, execDebugDetach, execDebugStep, execLinkFailure, execExclusionAssertion, execReintSelftestComplete, execJoin, execReintBlockSend,
    execReintBlockReceive, execReintVoteStart, execCatchupWaitExpiry, execReintStart, execClearFailed, State.rmGate]
  all_goals (repeat' split) <;> exact passes_next ⟨by simp, by simp⟩

/-- The commands of time, of the networks and of the backplane bridge that reach more than one lane. -/
def OfNetworks : Instr → Prop
  | .checkEpoch .. | .carouselCycleStart .. | .slotTransmit .. | .syncSlotTransmit .. | .mergeSend .. | .consistFrameSend .. | .vitalArpRequest .. |
    .canFrameStart .. | .canInit .. | .blockWrite .. | .blockRead .. | .backplaneReadCompletion .. | .completionTimeout .. | .pcieLinkDown .. |
    .pcieLinkReady .. | .inboundMirrorRead .. | .inboundUnsupported .. | .cfgaccRead .. | .cfgaccWrite .. | .handover .. => True
  | _ => False

theorem ofNetworks_passes (c : Instr) (s : State) (h : OfNetworks c) : Passes s (exec c s) := by
  unfold exec
  cases c
  all_goals try exact False.elim h
  all_goals simp only [execCheckEpoch, execCarouselCycleStart, execSlotTransmit, execSyncSlotTransmit, execMergeSend, execConsistFrameSend,
    execVitalArpRequest, execCanFrameStart, execCanInit, execBlockWrite, execBlockRead, execBackplaneReadCompletion, execCompletionTimeout, execPcieLinkDown,
    execPcieLinkReady, execInboundMirrorRead, execInboundUnsupported, execCfgaccRead, execCfgaccWrite, execHandover, State.rmGate]
  all_goals (repeat' split) <;> exact passes_next ⟨by simp, by simp⟩

/-- The commands of power states, of start-up and of the supply. -/
def OfPower : Instr → Prop
  | .entryBegin .. | .participantQuiesced .. | .participantRefusal .. | .participantTimeout .. | .abortRestartStep .. | .entryComplete .. |
    .stbyLimitExpiry .. | .standbySupplyLoss .. | .wakeArmExpiry .. | .backboneEnergyWake .. | .wakePatternReceive .. | .consistEnergyWake .. | .canWake .. |
    .wakePin .. | .alarmWake .. | .fieldInputWake .. | .resupplyWake .. | .wakeStep .. | .pwrWakeTx .. | .pwrResClr .. | .standbyPowerApplied .. |
    .inputPowerApplied .. | .bistComplete .. | .imageVerification .. | .configValidation .. | .startupTimeout .. | .supplyWarning .. | .supplyRecovery .. |
    .resetPoint .. | .restart .. | .safetyNet .. | .standbyInputRemoved .. => True
  | _ => False

theorem ofPower_passes (c : Instr) (s : State) (h : OfPower c) : Passes s (exec c s) := by
  unfold exec
  cases c
  all_goals try exact False.elim h
  all_goals simp only [execEntryBegin, execParticipantQuiesced, execParticipantRefusal, execParticipantTimeout, execAbortRestartStep, execEntryComplete,
    execStbyLimitExpiry, execStandbySupplyLoss, execWakeArmExpiry, execBackboneEnergyWake, execWakePatternReceive, execConsistEnergyWake, execCanWake,
    execWakePin, execAlarmWake, execFieldInputWake, execResupplyWake, execWakeStep, execPwrWakeTx, execPwrResClr, execStandbyPowerApplied,
    execInputPowerApplied, execBistComplete, execImageVerification, execConfigValidation, execStartupTimeout, execSupplyWarning, execSupplyRecovery,
    execResetPoint, execRestart, execSafetyNet, execStandbyInputRemoved, State.rmGate]
  all_goals (repeat' split) <;> exact passes_next ⟨by simp, by simp⟩

/-- The commands of Safety Net, of Ringmaster and of the event recorder. -/
def OfService : Instr → Prop
  | .hello .. | .offer .. | .read .. | .data .. | .readRepeatTimeout .. | .result .. | .snetRestart .. | .identify .. | .safetyNetExit .. |
    .ringmasterWatchdog .. | .ringmasterFault .. | .ringmasterResume .. | .serviceSessionOpen .. | .sessionTimeout .. | .operatorMessage .. |
    .lifeCounterUpdate .. | .eventReport .. | .suppressionSummary .. | .evrClear .. | .unfreeze .. | .freezeMaxExpiry .. | .evrReadStart .. |
    .evrReadNext .. | .serviceSessionClose .. => True
  | _ => False

theorem ofService_passes (c : Instr) (s : State) (h : OfService c) : Passes s (exec c s) := by
  unfold exec
  cases c
  all_goals try exact False.elim h
  all_goals simp only [execHello, execOffer, execRead, execData, execReadRepeatTimeout, execResult, execSnetRestart, execIdentify, execSafetyNetExit,
    execRingmasterWatchdog, execRingmasterFault, execRingmasterResume, execServiceSessionOpen, execSessionTimeout, execOperatorMessage, execLifeCounterUpdate,
    execEventReport, execSuppressionSummary, execEvrClear, execUnfreeze, execFreezeMaxExpiry, execEvrReadStart, execEvrReadNext, execServiceSessionClose,
    State.rmGate]
  all_goals (repeat' split) <;> exact passes_next ⟨by simp, by simp⟩

/-- The commands of image update, of activation and of on-line change. -/
def OfUpdate : Instr → Prop
  | .announceReceive .. | .request .. | .segment .. | .chunkTimeout .. | .imageInject .. | .order .. | .ready .. | .decision .. | .orderDeadline .. |
    .activation .. | .activationWindowExpiry .. | .confirmTimeExpiry .. | .onlineChangeSwitch .. | .migWaitExpiry .. => True
  | _ => False

theorem ofUpdate_passes (c : Instr) (s : State) (h : OfUpdate c) : Passes s (exec c s) := by
  unfold exec
  cases c
  all_goals try exact False.elim h
  all_goals simp only [execAnnounceReceive, execRequest, execSegment, execChunkTimeout, execImageInject, execOrder, execReady, execDecision,
    execOrderDeadline, execActivation, execActivationWindowExpiry, execConfirmTimeExpiry, execOnlineChangeSwitch, execMigWaitExpiry, State.rmGate]
  all_goals (repeat' split) <;> exact passes_next ⟨by simp, by simp⟩

/-- Every command but the two that write the key table completes, and leaves the queue and the key table: an instruction, a command of one lane and one that may
release vote items by what these come to, the rest by the laws of the operations they are made of. -/
theorem exec_passes (c : Instr) (s : State) (hc : ¬ WritesKeys c) : Passes s (exec c s) := by
  cases c
  case fleetKeyEnrol | keyRevoke => exact absurd trivial hc
  case reintCatchup => exact reintCatchup_passes _ _ _
  case powerStateRequest => exact powerStateRequest_passes _ _ _
  case sensorSample => exact sensorSample_passes _ _ _
  case freeze fs src => exact freeze_passes fs src s
  case announce => exact announce_passes _
  case helloReceive => exact helloReceive_passes _ _
  case nop | trap | fence | evt | add | sub | mul | mulhs | mulhu | div | divu | rem | remu | and | or | xor | andn | sll | srl | sra | rol | ror | cmp |
    setc | min | max | minu | maxu | abs | sextb | sexth | sextw | zextw | movd | mfs | mts | ldxb | ldxh | ldxw | ldxd | stxb | stxh | stxw | stxd | addi |
    andi | ori | xori | lui | cmpi | fadd | dadd | fsub | dsub | fmul | dmul | fdiv | ddiv | fsqrt | dsqrt | fmin | dmin | fmax | dmax | fcmp | dcmp | fneg |
    dneg | fabs | dabs | fcpys | dcpys | f2i | f2u | f2l | f2ul | d2i | d2u | d2l | d2ul | i2f | u2f | l2f | ul2f | i2d | u2d | l2d | ul2d | f2d | d2f | bld |
    bldn | btst | bstr | bset | bclr | btgl | ldw | ldh | ldb | ldd | stw | sth | stb | std | swapw | br | bc | loop | call | callfb | ret | rdtime | rdlane |
    dcwb | dcinv | icinv | brk | ton | tof | tp | rtrig | ftrig | ctu | ctd | ctud | sr | rs | sel | seld | mux | muxd | limitDint | limitUdint | limitReal |
    limitLreal | hystDint | hystReal | dbnc | dbncRising | dbncFalling | pid | ramp =>
    exact passes_jfi _ _ _ _
  case auxRestart | auxStart | auxTxRequest | agreeSetReceive | agreeClose | agreeWaitExpiry | closingNotice | commitPoint | overrunReport | steerFallback |
    moduleBreakpointHit | forceExpiry | migrationCycle | debugHalt | debugGo | debugInject | stateDigestRecord | degLimitExpiry | driverRefreshTimeout |
    backplaneCompletionDelivery | scrubCodeword | scrubUeStop | memEccInj | syncReceive | domainLost | pdelayReqSend | pdelayReq | pdelayResp | merStep |
    merCorrection | grandmasterChange | sourceChange | returnHoldExpiry | slewEnd | leapSecond | consistSyncSend | delayReq | foreignPtp | cmpArm |
    compareFire | toutPulseEnd | ppsOutEdge | ppsInEdge | rmcSentence | tcapEdge | merWtNsRead | scheduledFrameReceive | runningValidLoss | coldstartEntry |
    coldstartFrameReceive | coldstartRelaySend | contentionWindowEnd | unscheduledWindow | unscheduledFrameReceive | sheetPropose | carCabWrite | carAtlasW2 |
    linkStateChange | debounceExpiry | mergeReceive | foreignTimeout | waveWindowStart | waveReceive | confirmReceive | waveWindowEnd | adoption |
    reinaugurate | consistFrameReceive | macAgeOut | ecnAuxKick | canFrameReceive | canFrameComplete | canArbitrationLost | canError | canBusoffRecovery |
    sampleTick | soeEdge | offPulseStart | offPulseEnd | gssTestStart | gssTestEnd | degTimeExpiry | overcurrentTrip | overcurrentRetry | tripCountReset |
    groupOverload | safeOkDisagree | fioClear | safDegClear | safDegClearGroup | backplaneBudgetExpiry | pcieErrorMessage | inboundPostedWrite |
    brgPwlogInfoRead | brgPwlogClr | heartbeatReceive | blockFrameReceive | waitExit | pairWaitExpiry | takeover | invisibleResign | handoverSwitch | resync |
    outHoldExpiry | evrRateValRead | auxMessageSend | auxMessageReceive | mbxAuxinAck | pmcCtrlWrite | pmcCntLoRead | pmcCntHiWrite | pmcCntLoWrite |
    pmcSeedWrite | clear | feed8 | feed16 | feed32 | cvuRestart | cvuValueWrite | cvuResultRead | registerWrite | ocxoWarm | gnssAbsenceExpiry | ppsMissing |
    crossLaneLinkRestored | hardExclusionAgeOut | rcRegisterRead | ecnStaticPort =>
    exact passes_lane _ _ _
  case agreeApply | compareTimeout | itemDigestRecord | commitDoneRecord | verdictRecord | accusation | backplaneReadRequest | cycleClose | ownerTakeover |
    carCommit | canQqack | canTxreq | canTxcancel | fioSoeAck | safSend | pwrReq =>
    exact passes_vote _ _ _
  case snapshot | commit | steeringEvaluation | vsetRefresh | runWarm | runCold | stop | hold | resume | holdLimitExpiry | autoRunEntry |
    moduleBreakpointArm | forceSet | forceClear | clearAll | ringmasterMessage | debugAttach | debugAttachEffect | debugDetach | debugStep | linkFailure |
    exclusionAssertion | reintSelftestComplete | join | reintBlockSend | reintBlockReceive | reintVoteStart | catchupWaitExpiry | reintStart | clearFailed => exact ofCycle_passes _ _ trivial
  case checkEpoch | carouselCycleStart | slotTransmit | syncSlotTransmit | mergeSend | consistFrameSend | vitalArpRequest | canFrameStart | canInit |
    blockWrite | blockRead | backplaneReadCompletion | completionTimeout | pcieLinkDown | pcieLinkReady | inboundMirrorRead | inboundUnsupported |
    cfgaccRead | cfgaccWrite | handover => exact ofNetworks_passes _ _ trivial
  case entryBegin | participantQuiesced | participantRefusal | participantTimeout | abortRestartStep | entryComplete | stbyLimitExpiry | standbySupplyLoss |
    wakeArmExpiry | backboneEnergyWake | wakePatternReceive | consistEnergyWake | canWake | wakePin | alarmWake | fieldInputWake | resupplyWake | wakeStep |
    pwrWakeTx | pwrResClr | standbyPowerApplied | inputPowerApplied | bistComplete | imageVerification | configValidation | startupTimeout | supplyWarning |
    supplyRecovery | resetPoint | restart | safetyNet | standbyInputRemoved => exact ofPower_passes _ _ trivial
  case hello | offer | read | data | readRepeatTimeout | result | snetRestart | identify | safetyNetExit | ringmasterWatchdog | ringmasterFault |
    ringmasterResume | serviceSessionOpen | sessionTimeout | operatorMessage | lifeCounterUpdate | eventReport | suppressionSummary | evrClear | unfreeze |
    freezeMaxExpiry | evrReadStart | evrReadNext | serviceSessionClose => exact ofService_passes _ _ trivial
  case announceReceive | request | segment | chunkTimeout | imageInject | order | ready | decision | orderDeadline | activation | activationWindowExpiry |
    confirmTimeExpiry | onlineChangeSwitch | migWaitExpiry => exact ofUpdate_passes _ _ trivial

/-- The entries after an enrolment or a revocation: the entry it names as it leaves it, every other as before (21 R457). -/
theorem keys_set {n : Nat} {ks : Vector KeyEnt n} {i j : Nat} {k : KeyEnt} (hj : ks[j]? = some k) (y : KeyEnt) :
    (ks.setIfInBounds i y)[j]? = some (if i = j then y else k) := by
  obtain ⟨h, -⟩ := Vector.getElem?_eq_some_iff.1 hj
  rw [Vector.getElem?_setIfInBounds]
  split
  · next heq => subst heq; simp [h]
  · simpa using hj

/-- What a step makes of entry `i` of the key table, from `k` to `z` (21 R457): the step runs the command `c`. -/
def KeyKept (s : State) (c : Option Instr) (i : Nat) (k z : KeyEnt) : Prop :=
  (k.written = true → z.key = k.key ∧ z.written = true) ∧ (k.revoked = true → z.revoked = true)
    ∧ (i < 4 → z.key = k.key ∧ z.written = k.written)
    ∧ (z.key ≠ k.key → 4 ≤ i ∧ k.written = false ∧ z.written = true
        ∧ ∃ src sig, c = some (.fleetKeyEnrol src i z.key sig) ∧ isMaintainer src = true
          ∧ sigVerifies s.rm true (Config.enrolText i z.key) sig = true)

theorem keyKept_refl (s : State) (c : Option Instr) (i : Nat) (k : KeyEnt) : KeyKept s c i k k :=
  ⟨fun h => ⟨rfl, h⟩, id, fun _ => ⟨rfl, rfl⟩, fun h => absurd rfl h⟩

/-- A command that Ringmaster gates has come to its effect, or has changed neither the queue nor the key table. -/
theorem gate_cases (s : State) (k : State → State) : (∃ t, s.rmGate k = .next t ∧ Steady s t) ∨ s.rmGate k = .next (k s) := by
  unfold State.rmGate
  split
  · exact .inl ⟨_, rfl, .refl s⟩
  · split
    · exact .inl ⟨_, rfl, answer_steady s _⟩
    · exact .inr rfl

/-- KEY_REVOKE keeps the queue and sets at most REVOKED, of the entry it names. -/
theorem keyRevoke_next (src : CmdSrc) (idx : Nat) (s : State) : ∃ t, execKeyRevoke src idx s = .next t ∧ t.pending = s.pending
    ∧ ∀ i k, s.rm.keys[i]? = some k → ∃ z, t.rm.keys[i]? = some z ∧ KeyKept s (some (.keyRevoke src idx)) i k z := by
  have steady {t : State} (h : Steady s t) : t.pending = s.pending
      ∧ ∀ i k, s.rm.keys[i]? = some k → ∃ z, t.rm.keys[i]? = some z ∧ KeyKept s (some (.keyRevoke src idx)) i k z :=
    ⟨h.1, fun i k hk => ⟨k, h.2 ▸ hk, keyKept_refl ..⟩⟩
  unfold execKeyRevoke
  obtain ⟨t, ht, hs⟩ | ht := gate_cases s _ 
  · exact ⟨t, ht, steady hs⟩
  refine ⟨_, ht, ?_⟩
  split
  · exact steady (answer_steady s _)
  next k hk =>
  split
  · exact steady (answer_steady s _)
  refine ⟨rfl, fun i z hz => ⟨_, keys_set hz _, ?_⟩⟩
  split
  next h =>
    subst h
    obtain rfl : k = z := Option.some.inj (hk.symm.trans hz)
    exact ⟨fun h => ⟨rfl, h⟩, fun _ => rfl, fun _ => ⟨rfl, rfl⟩, fun h => absurd rfl h⟩
  · exact keyKept_refl ..

/-- FLEET_KEY_ENROL keeps the queue and writes at most an entry from 4 on that is not written, with a key that a fleet key signed. -/
theorem fleetKeyEnrol_next (src : CmdSrc) (idx : Nat) (key sig : Bytes) (s : State) : ∃ t, execFleetKeyEnrol src idx key sig s = .next t ∧ t.pending = s.pending
    ∧ ∀ i k, s.rm.keys[i]? = some k → ∃ z, t.rm.keys[i]? = some z ∧ KeyKept s (some (.fleetKeyEnrol src idx key sig)) i k z := by
  have steady {t : State} (h : Steady s t) : t.pending = s.pending
      ∧ ∀ i k, s.rm.keys[i]? = some k → ∃ z, t.rm.keys[i]? = some z ∧ KeyKept s (some (.fleetKeyEnrol src idx key sig)) i k z :=
    ⟨h.1, fun i k hk => ⟨k, h.2 ▸ hk, keyKept_refl ..⟩⟩
  unfold execFleetKeyEnrol
  obtain ⟨t, ht, hs⟩ | ht := gate_cases s _ 
  · exact ⟨t, ht, steady hs⟩
  refine ⟨_, ht, ?_⟩
  split
  · exact steady (answer_steady s _)
  next k hk =>
  split
  · exact steady (answer_steady s _)
  next hm =>
  split
  · exact steady (answer_steady s _)
  next hok =>
  simp only [Bool.or_eq_true, decide_eq_true_eq, Bool.not_eq_true', not_or, Bool.not_eq_true, Bool.not_eq_false, Nat.not_lt] at hok hm
  obtain ⟨⟨h4, hnew⟩, hsig⟩ := hok
  refine ⟨rfl, fun i z hz => ⟨_, keys_set hz _, ?_⟩⟩
  split
  next h =>
    subst h
    obtain rfl : k = z := Option.some.inj (hk.symm.trans hz)
    refine ⟨fun h => absurd (hnew.symm.trans h) Bool.false_ne_true, id, fun h => absurd h4 (Nat.not_le.2 h), fun _ => ⟨h4, hnew, rfl, src, sig, rfl, hm, hsig⟩⟩
  · exact keyKept_refl ..

/-- Every command completes, keeps the queue, and does to each key what the table allows. -/
theorem exec_next (c : Instr) (s : State) : ∃ t, exec c s = .next t ∧ t.pending = s.pending
    ∧ ∀ i k, s.rm.keys[i]? = some k → ∃ z, t.rm.keys[i]? = some z ∧ KeyKept s (some c) i k z := by
  by_cases hc : WritesKeys c
  · cases c
    case fleetKeyEnrol src idx key sig => exact fleetKeyEnrol_next src idx key sig s
    case keyRevoke src idx => exact keyRevoke_next src idx s
    all_goals exact False.elim hc
  · obtain ⟨t, ht, hp, hk⟩ := exec_passes c s hc
    exact ⟨t, ht, hp, fun i k h => ⟨k, hk ▸ h, keyKept_refl ..⟩⟩

/-- A step is its front command on the queue's rest, or a tick of the clocks. -/
theorem step_next (s : State) : ∃ t, step s = .next t ∧ t.pending = s.pending.tail
    ∧ ∀ i k, s.rm.keys[i]? = some k → ∃ z, t.rm.keys[i]? = some z ∧ KeyKept s s.pending.head? i k z := by
  unfold step
  cases h : s.pending with
  | nil => exact ⟨_, rfl, by simp [h], fun i k hk => ⟨k, by simpa using hk, keyKept_refl ..⟩⟩
  | cons c rest => exact exec_next c { s with pending := rest }

/-- Settles O58: no command stops, by the cases of the commands; a run then goes on by induction on its length. -/
theorem everyCommandCompletes : Obligations.EveryCommandCompletes := by
  unfold Obligations.EveryCommandCompletes
  refine ⟨fun c s => ?_, fun s => ?_, fun n => ?_⟩
  · obtain ⟨t, ht, hp, -⟩ := exec_next c s
    exact ⟨t, ht, hp⟩
  · obtain ⟨t, ht, hp, -⟩ := step_next s
    exact ⟨t, ht, hp⟩
  · induction n with
    | zero => exact fun s => ⟨s, rfl⟩
    | succ n ih =>
      intro s
      obtain ⟨t, ht, -⟩ := step_next s
      obtain ⟨v, hv⟩ := ih t
      refine ⟨v, ?_⟩
      have hs : core.step s = .next t := ht
      simp only [Host.Core.run, hs]
      exact hv

/-- Settles O59: of the commands FLEET_KEY_ENROL and KEY_REVOKE alone reach the key table, and each does to an entry what R457 allows. -/
theorem keyTableEveryStep : Obligations.KeyTableEveryStep := by
  unfold Obligations.KeyTableEveryStep
  intro s t i k hst hk
  obtain ⟨v, hv, -, hkeys⟩ := step_next s
  obtain rfl : v = t := by simpa [hv] using hst
  obtain ⟨z, hz, hkept⟩ := hkeys i k hk
  exact ⟨z, hz, hkept⟩

end Sys2Proof.Machine

/-! SUPPORT. A tick of the clocks, what reset leaves, memory and the register file, and the statements about them. -/

namespace Sys2Proof.Machine

/-- A lane that differs from another at most in its registers, its Meridian unit beside the local time, and what left it. -/
def OnlyClocks (x y : LaneState) : Prop :=
  y = { x with regs := y.regs, mer := y.mer, sent := y.sent } ∧ y.mer.ltime = x.mer.ltime

theorem OnlyClocks.refl (x : LaneState) : OnlyClocks x x := ⟨rfl, rfl⟩

theorem OnlyClocks.trans {x y z : LaneState} (h : OnlyClocks x y) (g : OnlyClocks y z) : OnlyClocks x z :=
  ⟨by rw [g.1, h.1], g.2.trans h.2⟩

theorem OnlyClocks.ite {c : Prop} [Decidable c] {x y z : LaneState} (h : OnlyClocks x y) (g : OnlyClocks x z) : OnlyClocks x (if c then y else z) := by
  split
  · exact h
  · exact g

theorem rateW_onlyClocks (x : LaneState) : OnlyClocks x (rateW x) := .ite (.refl x) ⟨rfl, rfl⟩

theorem slewEnd_onlyClocks (x : LaneState) : OnlyClocks x (slewEnd x) :=
  .ite (.refl x) (OnlyClocks.trans ⟨rfl, rfl⟩ (rateW_onlyClocks _))

theorem rset_onlyClocks (x : LaneState) (a : Nat) (v : Word) : OnlyClocks x (rset x a v) := ⟨rfl, rfl⟩

theorem fset_onlyClocks (x : LaneState) (a hi lo n : Nat) : OnlyClocks x (fset x a hi lo n) := rset_onlyClocks x a _

theorem finc_onlyClocks (x : LaneState) (a hi lo n : Nat) : OnlyClocks x (finc x a hi lo n) := fset_onlyClocks x a hi lo _

theorem unitAdvance_onlyClocks (x : LaneState) (u ns : Nat) : OnlyClocks x (unitAdvance x u ns) :=
  (rset_onlyClocks x _ _).trans (fset_onlyClocks _ _ _ _ _)

theorem setTout_onlyClocks (x : LaneState) (k : Nat) (on : Bool) : OnlyClocks x (setTout x k on) := ⟨rfl, rfl⟩

theorem unitFire_onlyClocks (x : LaneState) (u : Nat) : OnlyClocks x (unitFire x u) := by
  unfold unitFire
  extract_lets y per z d k z'
  have hy : OnlyClocks x y := finc_onlyClocks ..
  have hz : OnlyClocks x z := hy.trans (unitAdvance_onlyClocks ..)
  have hmissed : OnlyClocks z (finc (unitAdvance z u (k * per)) (Rg.MER_CMPu_STAT u) 31 24 k) := (unitAdvance_onlyClocks ..).trans (finc_onlyClocks ..)
  have hz' : OnlyClocks x z' := .ite (.ite (hz.trans hmissed) hz) (hy.trans (fset_onlyClocks ..))
  exact .ite (hz'.trans (setTout_onlyClocks ..)) hz'

theorem fireDue_onlyClocks (x : LaneState) : OnlyClocks x (fireDue x) := by
  unfold fireDue
  induction List.range 16 generalizing x with
  | nil => exact .refl x
  | cons u us ih => exact OnlyClocks.trans (.ite (unitFire_onlyClocks x u) (.refl x)) (ih _)

/-- A tick of a lane's clocks advances the local time of a running instance by one step, and reaches neither memory nor a core (12 R263). -/
theorem merTick_frame (x : LaneState) : (merTick x).mem = x.mem ∧ (merTick x).c0 = x.c0 ∧ (merTick x).c1 = x.c1
    ∧ (merTick x).mer.ltime = x.mer.ltime + if x.mer.running then 1 else 0 := by
  unfold merTick
  cases hr : x.mer.running with
  | false => exact ⟨rfl, rfl, rfl, rfl⟩
  | true =>
    rw [if_neg (by simp)]
    extract_lets m w keep y f gap y1 y2
    have hslew : OnlyClocks y y1 := .ite (slewEnd_onlyClocks y) (.refl y)
    have hhold : OnlyClocks y1 y2 := .ite ⟨rfl, rfl⟩ (.refl y1)
    obtain ⟨hsame, htime⟩ := (hslew.trans hhold).trans (fireDue_onlyClocks y2)
    exact ⟨by rw [hsame], by rw [hsame], by rw [hsame], htime⟩

/-- Settles O56: a step runs the front command, and an idle one ticks every lane's clocks. -/
theorem stepRunsFrontCommand : Obligations.StepRunsFrontCommand := by
  unfold Obligations.StepRunsFrontCommand
  refine ⟨fun c s => rfl, fun s hs => ⟨s.tick, by unfold step; rw [hs], by simp [hs], by simp, fun x => ?_⟩, fun s n w => ⟨rfl, rfl⟩⟩
  obtain ⟨hlane, -⟩ := State.onLanes_only s merTick
  obtain ⟨hmail, -⟩ := hlane x
  obtain ⟨hmem, hc0, hc1, htime⟩ := merTick_frame (s.lane x)
  change ((s.onLanes merTick).lane x).mem = _ ∧ ((s.onLanes merTick).lane x).c0 = _ ∧ ((s.onLanes merTick).lane x).c1 = _ ∧ ((s.onLanes merTick).lane x).mer.ltime = _
  rw [hmail]
  exact ⟨hmem, hc0, hc1, htime⟩

/-- Settles O57: at reset every table is empty, and an unlisted register reads its Reset column. -/
theorem resetState : Obligations.ResetState := by
  unfold Obligations.ResetState
  refine ⟨rfl, rfl, ⟨by decide, by decide, by decide⟩, fun i k hk => ?_, fun x => ⟨⟨?_, ?_, ?_⟩, ?_, fun a => ?_⟩⟩
  · obtain ⟨h, rfl⟩ := Vector.getElem?_eq_some_iff.1 hk
    exact congrArg KeyEnt.revoked (Vector.getElem_replicate h)
  all_goals cases x <;> rfl

/-- Settles O60: the laws of the sparse tables, for a lane's memory and for its register file. -/
theorem memoryAndRegisterFile : Obligations.MemoryAndRegisterFile := by
  unfold Obligations.MemoryAndRegisterFile
  intro x a k i b v hi lo n
  refine ⟨fun h => ?_, mwr_outside x a k b, fun h => ⟨mwr_wf x a b h, zeroMem_wf x a n h⟩, rget_rset_same x a v,
    fun hk => ⟨rget_rset_other x a k v hk, fun hi' lo' => fget_fset_other x a k hi lo hi' lo' n hk⟩,
    fun hle h32 hn => fget_fset_same x a hi lo n hle h32 hn, fun h => ⟨rset_wf x a v h, fset_wf x a hi lo n h⟩⟩
  rw [mwr_mem]
  exact sget_sput_inside _ _ _ _ h

end Sys2Proof.Machine

/-! SUPPORT. Integer arithmetic, logic and shifts, compares and selections, moves and special registers: what their operations come to, and the statements about them. -/

namespace Sys2Proof.Machine

/-! Results. -/

theorem arith_wrap (w : Nat) (exS exU : Int) :
    arith .w w exS exU = { val := (exU % 2 ^ w).toNat, cy := some (exU != (((exU % 2 ^ w).toNat : Nat) : Int)), v := some (exS != sxI w (exU % 2 ^ w).toNat) } := rfl

theorem arith_signed (w : Nat) (exS exU : Int) :
    let r := max (-(2 ^ (w - 1))) (min exS (2 ^ (w - 1) - 1))
    arith .ss w exS exU = { val := (r % 2 ^ w).toNat, v := some (r != exS) } := rfl

/-- An unsigned result limited to the width is not wrapped. -/
theorem arith_unsigned (w : Nat) (exS exU : Int) :
    let r := max 0 (min exU (2 ^ w - 1))
    arith .us w exS exU = { val := r.toNat, cy := some (r != exU) } := by
  have hp : (0 : Int) < 2 ^ w := by positivity
  have hr : clampU w exU % 2 ^ w = max 0 (min exU (2 ^ w - 1)) := Int.emod_eq_of_lt (le_max_left ..) (by unfold clampU; omega)
  have hval : wrapI w (clampU w exU) = (max 0 (min exU (2 ^ w - 1))).toNat := congrArg Int.toNat hr
  intro r
  change ({ val := wrapI w (clampU w exU), cy := some (r != exU) } : AluRes) = _
  rw [hval]

/-- An operation in its three forms, by the exact signed and unsigned results. -/
theorem arithForms_of {mk : Ovf → Instr} {u : CoreId} {s : State} {sem : Ovf → Sem} {inst : Instance} {c : CoreCtx} {d : Bool} {rd : Reg} {exS exU : Int}
    (hx : ∀ o, exec (mk o) s = .next (s.runJfi u (mk o) (sem o))) (h : CoreAt u inst c s)
    (hs : ∀ o e, sem o e c = finAlu c d rd (arith o (widthOf d) exS exU)) : ArithForms mk u s c d rd exS exU :=
  ⟨intRetires_eq (hx .w) h (hs .w) (arith_wrap ..), intRetires_eq (hx .ss) h (hs .ss) (arith_signed ..), intRetires_eq (hx .us) h (hs .us) (arith_unsigned ..)⟩

/-- Settles O1: each form retires with the result and the flags that its exact results give. -/
theorem integerArithmetic : Obligations.IntegerArithmetic := by
  unfold Obligations.IntegerArithmetic
  intro u i c s d rd ra rb h hd hp x y w
  exact ⟨arithForms_of (fun _ => rfl) h (fun o e => alu2_pass d rd ra rb (aluAdd o) e c hd hp),
    arithForms_of (fun _ => rfl) h (fun o e => alu2_pass d rd ra rb (aluSub o) e c hd hp),
    arithForms_of (fun _ => rfl) h (fun o e => alu2_pass d rd ra rb (aluMul o) e c hd hp)⟩

/-! Shifts (03 R79). -/

theorem aluSll_wide {w x y : Nat} (h : w ≤ y % 2 ^ 32) : aluSll w x y = { val := 0 } := by
  unfold aluSll
  rw [if_pos h]

theorem aluSll_narrow {w x y : Nat} (h : y % 2 ^ 32 < w) : aluSll w x y = { val := x * 2 ^ (y % 2 ^ 32) % 2 ^ w } := by
  unfold aluSll
  rw [if_neg (Nat.not_le.2 h)]

theorem aluSrl_wide {w x y : Nat} (h : w ≤ y % 2 ^ 32) : aluSrl w x y = { val := 0 } := by
  unfold aluSrl
  rw [if_pos h]

theorem aluSrl_narrow {w x y : Nat} (h : y % 2 ^ 32 < w) : aluSrl w x y = { val := x / 2 ^ (y % 2 ^ 32) } := by
  unfold aluSrl
  rw [if_neg (Nat.not_le.2 h)]

theorem aluSra_narrow {w x y : Nat} (h : y % 2 ^ 32 < w) : aluSra w x y = { val := (sxI w x / 2 ^ (y % 2 ^ 32) % 2 ^ w).toNat } := by
  unfold aluSra
  rw [Nat.min_eq_left h.le]
  rfl

/-- An arithmetic shift by the width or more leaves copies of the sign. -/
theorem aluSra_wide {w x y : Nat} (hw : 0 < w) (hx : x < 2 ^ w) (h : w ≤ y % 2 ^ 32) : aluSra w x y = { val := if sxI w x < 0 then 2 ^ w - 1 else 0 } := by
  obtain ⟨hlow, hhigh, -⟩ := sxI_range hw hx
  have hp : (2 : Int) ^ w = ((2 ^ w : Nat) : Int) := by simp
  have hq : (2 : Int) ^ (w - 1) = ((2 ^ (w - 1) : Nat) : Int) := by simp
  have h2 := Nat.two_pow_pred_add_two_pow_pred hw
  have h0 : 0 < 2 ^ w := Nat.two_pow_pos w
  unfold aluSra wrapI
  rw [Nat.min_eq_right h]
  split
  next hneg =>
    have hdiv : sxI w x / 2 ^ w = -1 := by
      rw [hp]
      exact (Int.ediv_eq_iff_of_pos (by omega)).2 (by omega)
    have hmod : (-1 : Int) % 2 ^ w = 2 ^ w - 1 := by
      rw [hp, ← Int.add_emod_right]
      exact Int.emod_eq_of_lt (by omega) (by omega)
    rw [hdiv, hmod]
    congr 1
    omega
  next hpos =>
    have hdiv : sxI w x / 2 ^ w = 0 := Int.ediv_eq_zero_of_lt (by omega) (by omega)
    rw [hdiv]
    simp

/-- A meaning on a word whose destination passes. -/
theorem withDest_pass {r : Reg} (h : destOk r) (k : Op) : withDest r k = k := by
  unfold withDest
  rw [show isBase r.val = false from h]
  rfl

/-- Settles O3: each instruction retires with the result of its operation, a shift by whether its amount reaches the width. -/
theorem logicAndShifts : Obligations.LogicAndShifts := by
  unfold Obligations.LogicAndShifts
  intro u i c s d rd ra rb imm h hd hp x y w n k on onW
  have hw : 0 < w := widthOf_pos d
  have hx : x < 2 ^ w := opnd_lt d c ra
  have pass (f : Nat → Nat → Nat → AluRes) (e : Env) : alu2 d rd ra rb f e c = finAlu c d rd (f w x y) := alu2_pass d rd ra rb f e c hd hp
  refine ⟨?and, ?or, ?xor, ?andn, fun hn => ⟨?sllWide, ?srlWide, ?sraWide⟩, fun hn => ⟨?sll, ?srl, ?sra⟩, ?rol, ?ror, ?andi, ?ori, ?xori⟩
  case and => exact intRetires_eq (sem := semAnd d rd ra rb) rfl h (pass _) rfl
  case or => exact intRetires_eq (sem := semOr d rd ra rb) rfl h (pass _) rfl
  case xor => exact intRetires_eq (sem := semXor d rd ra rb) rfl h (pass _) rfl
  case andn => exact intRetires_eq (sem := semAndn d rd ra rb) rfl h (pass _) rfl
  case sllWide => exact intRetires_eq (sem := semSll d rd ra rb) rfl h (pass aluSll) (aluSll_wide hn)
  case srlWide => exact intRetires_eq (sem := semSrl d rd ra rb) rfl h (pass aluSrl) (aluSrl_wide hn)
  case sraWide => exact intRetires_eq (sem := semSra d rd ra rb) rfl h (pass aluSra) (aluSra_wide hw hx hn)
  case sll => exact intRetires_eq (sem := semSll d rd ra rb) rfl h (pass aluSll) (aluSll_narrow hn)
  case srl => exact intRetires_eq (sem := semSrl d rd ra rb) rfl h (pass aluSrl) (aluSrl_narrow hn)
  case sra => exact intRetires_eq (sem := semSra d rd ra rb) rfl h (pass aluSra) (aluSra_narrow hn)
  case rol => exact intRetires_eq (sem := semRol d rd ra rb) rfl h (pass aluRol) rfl
  case ror => exact intRetires_eq (sem := semRor d rd ra rb) rfl h (pass aluRor) rfl
  case andi => exact intRetires_eq (sem := semAndi rd ra imm) rfl h (fun _ => withDest_pass hd _) rfl
  case ori => exact intRetires_eq (sem := semOri rd ra imm) rfl h (fun _ => withDest_pass hd _) rfl
  case xori => exact intRetires_eq (sem := semXori rd ra imm) rfl h (fun _ => withDest_pass hd _) rfl

/-! Compares, conditions and selections (04 R103, Table JFI-11). -/

/-- The pair checks of an instruction without destination pass. -/
theorem withPairs_pass {d : Bool} {rs : List Reg} (h : pairsOk d rs) (k : Op) : withPairs (if d then rs.map Fin.val else []) k = k := by
  have hw0 : destOk 0 := rfl
  have hdest : withDest (0 : Reg) k = k := withDest_pass hw0 k
  rw [← hdest]
  exact (checks_pass d 0 rs _ hw0 h).trans hdest.symm

/-- The sixteen conditions on flags, in the order of Table JFI-11. -/
theorem condHolds_eq (c : CoreCtx) {n : Nat} (hn : n < 16) :
    condHolds c n = [flagZ c, !flagZ c, flagN c, !flagN c, flagN c || flagZ c, !flagN c && !flagZ c, flagC c, !flagC c, flagC c || flagZ c, !flagC c && !flagZ c,
      flagV c, !flagV c, flagE c, !flagE c, !flagN c && !flagV c, !flagN c && !flagZ c && !flagV c].getD n false := by
  interval_cases n <;> rfl

/-- Settles O4: each instruction retires with the result, or the flags, of its operation. -/
theorem comparesAndSelections : Obligations.ComparesAndSelections := by
  unfold Obligations.ComparesAndSelections
  intro u i c s d rd ra rb cond imm h x y w a b m sum
  refine ⟨fun hp => ?cmp, ?cmpi, fun hd => ⟨fun hc => ?setc, ?mulhs, ?mulhu, ?addi, ?lui⟩, fun hd hp => ⟨?min, ?max, ?minu, ?maxu⟩⟩
  case cmp =>
    refine flagsRetire_of _ u s (semCmp d ra rb) i c _ _ _ _ _ rfl h ((withPairs_pass hp _).trans ?_)
    cases d <;> rfl
  case cmpi => exact flagsRetire_of _ u s (semCmpi ra imm) i c _ _ _ _ _ rfl h rfl
  case setc =>
    rw [← condHolds_eq c hc]
    exact putRetires_of _ u s (semSetc rd cond) i c false rd _ _ rfl h ((if_neg (by omega)).trans (withDest_pass hd _))
  case lui =>
    refine putRetires_of _ u s (semLui rd imm) i c false rd _ _ rfl h ((withDest_pass hd _).trans ?_)
    have hv : imm.setWidth 32 <<< 16 = BitVec.ofNat 32 (imm.toNat * 2 ^ 16) := by bv_omega
    rw [hv]
    rfl
  case addi => exact intRetires_eq (sem := semAddi rd ra imm) rfl h (fun _ => withDest_pass hd _) (arith_wrap ..)
  case mulhs => exact intRetires_eq (sem := semMulhs rd ra rb) rfl h (fun e => alu2_pass false rd ra rb _ e c hd (by simp [pairsOk])) rfl
  case mulhu => exact intRetires_eq (sem := semMulhu rd ra rb) rfl h (fun e => alu2_pass false rd ra rb _ e c hd (by simp [pairsOk])) rfl
  case min => exact intRetires_eq (sem := semMin d rd ra rb) rfl h (fun e => alu2_pass d rd ra rb _ e c hd hp) rfl
  case max => exact intRetires_eq (sem := semMax d rd ra rb) rfl h (fun e => alu2_pass d rd ra rb _ e c hd hp) rfl
  case minu => exact intRetires_eq (sem := semMinu d rd ra rb) rfl h (fun e => alu2_pass d rd ra rb _ e c hd hp) rfl
  case maxu => exact intRetires_eq (sem := semMaxu d rd ra rb) rfl h (fun e => alu2_pass d rd ra rb _ e c hd hp) rfl

/-! Moves (04 R100, R104, R115). -/

/-- A move to a word retires with it. -/
theorem putRetires_moveW {i : Instr} {u : CoreId} {s : State} {sem : Sem} {inst : Instance} {c : CoreCtx} {rd : Reg} (f : CoreCtx → Word) {v : Nat}
    (hx : exec i s = .next (s.runJfi u i sem)) (h : CoreAt u inst c s) (hs : sem (coreEnv u (s.lane u.lane)) c = moveW rd f (coreEnv u (s.lane u.lane)) c)
    (hd : destOk rd) (hv : f c = BitVec.ofNat 32 v) : PutRetires i u s c false rd v false := by
  refine putRetires_of i u s sem inst c false rd v false hx h (hs.trans ((withDest_pass hd _).trans ?_))
  rw [hv]
  rfl

/-- A move to a pair retires with it. -/
theorem putRetires_moveD {i : Instr} {u : CoreId} {s : State} {sem : Sem} {inst : Instance} {c : CoreCtx} {rd : Reg} {rs : List Reg} (f : CoreCtx → DWord) {v : Nat}
    (hx : exec i s = .next (s.runJfi u i sem)) (h : CoreAt u inst c s)
    (hs : sem (coreEnv u (s.lane u.lane)) c = moveD rd (rs.map Fin.val) f (coreEnv u (s.lane u.lane)) c)
    (hd : destOk rd) (hp : pairsOk true (rd :: rs)) (hv : f c = BitVec.ofNat 64 v) : PutRetires i u s c true rd v false := by
  refine putRetires_of i u s sem inst c true rd v false hx h (hs.trans ((checks_pass true rd (rd :: rs) _ hd hp).trans ?_))
  rw [hv]
  rfl

theorem coreEnv_aux {u : CoreId} (x : LaneState) (hk : u.core1 = true) : coreEnv u x = auxEnv x := if_pos hk

/-- Settles O5: a move retires with the value it reads, MTS with the five flags it writes. -/
theorem movesAndSpecialRegisters : Obligations.MovesAndSpecialRegisters := by
  unfold Obligations.MovesAndSpecialRegisters
  intro u i c s rd ra h
  refine ⟨?nop, ?fence, ?mts, fun hd => ⟨?sextb, ?sexth, ?sf, ?cs, fun hk => ?lane⟩, fun hd hp => ⟨?sextw, ?zextw, ?ip, ?tn, fun hk => ?time, fun hpa => ?movd⟩⟩
  case nop => exact retiresTo_of _ u s semNop i c _ false rfl h rfl (by simp)
  case fence => exact retiresTo_of _ u s semFence i c _ false rfl h rfl (by simp)
  case mts =>
    have hv : (wget c ra &&& 0x1F : Word) = BitVec.ofNat 32 ((wget c ra).toNat % 32) := by
      refine BitVec.eq_of_toNat_eq ?_
      rw [BitVec.toNat_and]
      exact (Nat.and_two_pow_sub_one_eq_mod _ 5).trans (by simp; omega)
    rw [← hv]
    exact retires_of _ u s (semMts 1 ra) i (s.lane u.lane) c (advance { c with sf := wget c ra &&& 0x1F }) _ false rfl h rfl (fun _ => rfl) (fun _ => ⟨rfl, fun _ => rfl⟩) rfl rfl (by simp)
  case sextb => exact putRetires_moveW (fun c => ((wget c ra).setWidth 8).signExtend 32) rfl h rfl hd (by simp)
  case sexth => exact putRetires_moveW (fun c => ((wget c ra).setWidth 16).signExtend 32) rfl h rfl hd (by simp)
  case sf => exact putRetires_moveW (fun c => c.sf) rfl h rfl hd (by simp)
  case cs => exact putRetires_moveW (fun c => c.cs) rfl h rfl hd (by simp)
  case lane =>
    have henv := coreEnv_aux (s.lane u.lane) hk
    refine putRetires_moveW (sem := semRdlane rd) (fun _ => BitVec.ofNat 32 (laneNo (s.lane u.lane).id)) rfl h (by rw [henv]; rfl) hd ?_
    rw [h.1]
  case sextw => exact putRetires_moveD (rs := []) (fun c => (wget c ra).signExtend 64) rfl h rfl hd (by simpa [pairsOk] using hp) (by simp)
  case zextw => exact putRetires_moveD (rs := []) (fun c => (wget c ra).setWidth 64) rfl h rfl hd (by simpa [pairsOk] using hp) (by simp)
  case ip => exact putRetires_moveD (rs := []) (fun c => c.ip.setWidth 64) rfl h rfl hd (by simpa [pairsOk] using hp) (by simp)
  case tn => exact putRetires_moveD (rs := []) (fun c => c.tn) rfl h rfl hd (by simpa [pairsOk] using hp) (by simp)
  case time =>
    have henv := coreEnv_aux (s.lane u.lane) hk
    refine putRetires_moveD (sem := semRdtime rd) (rs := []) (fun _ => BitVec.ofInt 64 (wNow (s.lane u.lane))) rfl h (by rw [henv]; rfl) hd ?_ ?_
    · simpa [pairsOk] using hp
    · rw [BitVec.ofNat_toNat, BitVec.setWidth_eq]
  case movd => exact putRetires_moveD (rs := [ra]) (fun c => dget c ra) rfl h rfl hd (by simp [pairsOk, hp, hpa]) (by simp)

end Sys2Proof.Machine

/-! SUPPORT. Floating-point arithmetic, conversions, and the instructions that reach SRAM: what their operations come to, and the statements about them. -/

namespace Sys2Proof.Machine

/-! Floating-point arithmetic with a NaN operand (03 R81). -/

theorem nanOr_nan {m : Fmt} {x y : FVal} (k : FRes) (h : x.isNan = true ∨ y.isNan = true) : nanOr m x y k = (qnan m, x.isSnan || y.isSnan) :=
  if_pos (Bool.or_eq_true _ _ ▸ h)

theorem negate_isNan (v : FVal) : v.negate.isNan = v.isNan := by
  cases v with
  | nan _ => rfl
  | inf _ => rfl
  | num _ _ _ => rfl

theorem negate_isSnan (v : FVal) : v.negate.isSnan = v.isSnan := by
  cases v with
  | nan _ => rfl
  | inf _ => rfl
  | num _ _ _ => rfl

theorem fsubB_nan (m : Fmt) {x y : Nat} (h : (unpackF m x).isNan = true ∨ (unpackF m y).isNan = true) :
    fsubB m x y = (qnan m, (unpackF m x).isSnan || (unpackF m y).isSnan) := by
  have hn := nanOr_nan (m := m) (x := unpackF m x) (y := (unpackF m y).negate)
  rw [negate_isNan, negate_isSnan] at hn
  exact hn _ h

theorem fsqrtB_nan (m : Fmt) {x : Nat} (h : (unpackF m x).isNan = true) : fsqrtB m x = (qnan m, (unpackF m x).isSnan) :=
  (nanOr_nan _ (.inl h)).trans (by rw [Bool.or_self])

/-- Settles O6: each instruction retires with the result of its operation, and a NaN operand decides that result. -/
theorem floatArithmetic : Obligations.FloatArithmetic := by
  unfold Obligations.FloatArithmetic
  intro u i c s d rd ra rb h hd hp m x y vx vy two root
  refine ⟨?_, ?_, fsqrtB_nan m⟩
  · simp only [two, List.forall_mem_cons]
    refine ⟨⟨?add, nanOr_nan _⟩, ⟨?sub, fsubB_nan m⟩, ⟨?mul, nanOr_nan _⟩, ⟨?div, nanOr_nan _⟩, by simp⟩
    case add => exact putRetires_op2 faddB rfl rfl h hd hp rfl
    case sub => exact putRetires_op2 fsubB rfl rfl h hd hp rfl
    case mul => exact putRetires_op2 fmulB rfl rfl h hd hp rfl
    case div => exact putRetires_op2 fdivB rfl rfl h hd hp rfl
  · exact putRetires_op1 fsqrtB rfl rfl h hd (pairsOk_subset hp (by simp)) rfl

/-! Conversions (03 R83; 04 R108). -/

/-- A conversion whose destination and pairs are in order retires with the result of its function. -/
theorem putRetires_cvt {j : Instr} {u : CoreId} {s : State} {inst : Instance} {c : CoreCtx} {src dst : Bool} {rd ra : Reg} (f : Nat → FRes)
    (hx : exec j s = .next (s.runJfi u j (cvt src dst rd ra f))) (h : CoreAt u inst c s) (hd : destOk rd)
    (hdst : dst = true → badPair rd = false) (hsrc : src = true → badPair ra = false) :
    PutRetires j u s c dst rd (f (opnd src c ra)).1 (f (opnd src c ra)).2 := by
  refine putRetires_of j u s _ inst c dst rd _ _ hx h ?_
  have hp : pairsOk true ((if dst then [rd] else []) ++ (if src then [ra] else [])) := by
    intro _ r hr
    cases dst <;> cases src <;> simp only [if_true, List.cons_append, List.nil_append, Bool.false_eq_true, if_false, List.mem_cons, List.not_mem_nil, or_false] at hr <;> grind
  refine .trans ?_ (checks_pass true rd _ _ hd hp)
  cases dst <;> cases src <;> rfl

theorem f2int_nan (m : Fmt) (n x : Nat) (sg t : Bool) (h : (unpackF m x).isNan = true) : f2int m n sg t x = (0, true) := by
  unfold f2int
  cases hv : unpackF m x with
  | nan _ => rfl
  | inf _ => rw [hv] at h; cases h
  | num _ _ _ => rw [hv] at h; cases h

/-- Settles O8: each conversion retires with the result of the function of its formats. -/
theorem conversions : Obligations.Conversions := by
  unfold Obligations.Conversions
  intro u i c s rd ra t h hd put w p
  have ww {j : Instr} (f : Nat → FRes) (hx : exec j s = .next (s.runJfi u j (cvt false false rd ra f))) : put j false (f w) :=
    putRetires_cvt f hx h hd (fun q => nomatch q) (fun q => nomatch q)
  have wp {j : Instr} (f : Nat → FRes) (hx : exec j s = .next (s.runJfi u j (cvt false true rd ra f))) (hrd : badPair rd = false) : put j true (f w) :=
    putRetires_cvt f hx h hd (fun _ => hrd) (fun q => nomatch q)
  have pw {j : Instr} (f : Nat → FRes) (hx : exec j s = .next (s.runJfi u j (cvt true false rd ra f))) (hra : badPair ra = false) : put j false (f p) :=
    putRetires_cvt f hx h hd (fun q => nomatch q) (fun _ => hra)
  have pp {j : Instr} (f : Nat → FRes) (hx : exec j s = .next (s.runJfi u j (cvt true true rd ra f))) (hrd : badPair rd = false) (hra : badPair ra = false) :
      put j true (f p) := putRetires_cvt f hx h hd (fun _ => hrd) (fun _ => hra)
  refine ⟨⟨?f2i, ?f2u, ?i2f, ?u2f⟩, fun hrd => ⟨?f2l, ?f2ul, ?i2d, ?u2d, ?f2d⟩, fun hra => ⟨?d2i, ?d2u, ?l2f, ?ul2f, ?d2f⟩, fun hrd hra => ⟨?d2l, ?d2ul, ?l2d, ?ul2d⟩,
    fun m n x sg => f2int_nan m n x sg t⟩
  case f2i => exact ww (f2int f32 32 true t) rfl
  case f2u => exact ww (f2int f32 32 false t) rfl
  case i2f => exact ww (fun x => (int2f f32 32 true x, false)) rfl
  case u2f => exact ww (fun x => (int2f f32 32 false x, false)) rfl
  case f2l => exact wp (f2int f32 64 true t) rfl hrd
  case f2ul => exact wp (f2int f32 64 false t) rfl hrd
  case i2d => exact wp (fun x => (int2f f64 32 true x, false)) rfl hrd
  case u2d => exact wp (fun x => (int2f f64 32 false x, false)) rfl hrd
  case f2d => exact wp (f2f f32 f64) rfl hrd
  case d2i => exact pw (f2int f64 32 true t) rfl hra
  case d2u => exact pw (f2int f64 32 false t) rfl hra
  case l2f => exact pw (fun x => (int2f f32 64 true x, false)) rfl hra
  case ul2f => exact pw (fun x => (int2f f32 64 false x, false)) rfl hra
  case d2f => exact pw (f2f f64 f32) rfl hra
  case d2l => exact pp (f2int f64 64 true t) rfl hrd hra
  case d2ul => exact pp (f2int f64 64 false t) rfl hrd hra
  case l2d => exact pp (fun x => (int2f f64 64 true x, false)) rfl hrd hra
  case ul2d => exact pp (fun x => (int2f f64 64 false x, false)) rfl hrd hra

/-! Bits of SRAM (04 R109). -/

/-- Registers whose Z alone is set. -/
theorem flagsOf_setZ {b c : CoreCtx} (hb : b.sf = c.sf) (z : Bool) : FlagsOf z (flagN c) (flagC c) (flagV c) (flagE c) b (setFlag b 0 z) := by
  have hf := flagsOf_set b (some z) none none none false
  rw [Option.getD_none, Option.getD_none, Option.getD_none, Bool.false_or] at hf
  unfold flagN flagC flagV flagE at *
  rwa [← hb]

/-- What may be written in SRAM is read past the private input copies. -/
theorem bytesAt_of_mayWrite {u : CoreId} {x : LaneState} {i : Instance} {a n : Nat} (hm : mayReach u x i a n true = true) : bytesAt u x i a n = mrd x a n := by
  unfold bytesAt
  cases hk : u.core1 with
  | true => rfl
  | false =>
    unfold mayReach at hm
    rw [hk] at hm
    have hr := (sramBoth_high x i a n hm).1
    exact (if_neg Bool.false_ne_true).trans (if_neg (by omega))

/-- Updates whose new bytes and registers agree on what SRAM holds are the same. -/
theorem updates_congr {j : Instr} {u : CoreId} {s : State} {i : Instance} {a n : Nat} {f f' : Bytes → Bytes} {g : Bytes → CoreCtx} {e : Bytes → Bool}
    (h : Updates j u s i a n f g e) (hf : bytesAt u (s.lane u.lane) i a n = mrd (s.lane u.lane) a n → f (mrd (s.lane u.lane) a n) = f' (mrd (s.lane u.lane) a n)) :
    Updates j u s i a n f' g e := by
  intro hm he
  rw [← hf (bytesAt_of_mayWrite hm)]
  exact h hm he

theorem bitOp_pass {loc : BitRef} (h : bitRefOk loc = true) (write : Bool) (k : CoreCtx → Bool → CoreCtx × Bool) (e : Env) (c : CoreCtx) :
    bitOp loc write k e c = .bit (bitAt c loc).1 write (fun b =>
      (advance (k c (b.getLsbD (bitAt c loc).2)).1, if (k c (b.getLsbD (bitAt c loc).2)).2 then b ||| (1#8 <<< (bitAt c loc).2) else b &&& ~~~(1#8 <<< (bitAt c loc).2))) :=
  if_neg (by simp [h])

/-- A bit operation that only sets registers from the bit. -/
theorem retiresTo_bit {j : Instr} {u : CoreId} {s : State} {i : Instance} {c : CoreCtx} {loc : BitRef} (sem : Sem) (k : CoreCtx → Bool → CoreCtx × Bool)
    (hx : exec j s = .next (s.runJfi u j sem)) (h : CoreAt u i c s) (hok : bitRefOk loc = true)
    (hs : sem (coreEnv u (s.lane u.lane)) c = bitOp loc false k (coreEnv u (s.lane u.lane)) c)
    (hm : mayReach u (s.lane u.lane) i (bitAt c loc).1 1 false = true) :
    RetiresTo j u s (advance (k c (((bytesAt u (s.lane u.lane) i (bitAt c loc).1 1).headD 0).getLsbD (bitAt c loc).2)).1) :=
  bit_read_of j u s sem i c _ _ hx h (hs.trans (bitOp_pass hok false k _ c)) hm

/-- A bit operation that writes the bit and no register. -/
theorem updates_bit {j : Instr} {u : CoreId} {s : State} {i : Instance} {c : CoreCtx} {loc : BitRef} (q : CoreCtx → Bool → Bool)
    (hx : exec j s = .next (s.runJfi u j (bitOp loc true (fun c b => (c, q c b))))) (h : CoreAt u i c s) (hok : bitRefOk loc = true) :
    Updates j u s i (bitAt c loc).1 1 (fun b => [if q c ((b.headD 0).getLsbD (bitAt c loc).2) then b.headD 0 ||| (1#8 <<< (bitAt c loc).2)
      else b.headD 0 &&& ~~~(1#8 <<< (bitAt c loc).2)]) (fun _ => advance c) (fun _ => false) :=
  bit_write_of j u s _ i c _ _ _ _ hx h (bitOp_pass hok true _ _ c) (fun _ => rfl) (fun _ => rfl)

/-- Settles O9: the reading forms set their destination and Z from the bit, the writing ones put one bit back. -/
theorem bitInstructions : Obligations.BitInstructions := by
  unfold Obligations.BitInstructions
  intro u i c s r loc h hok a old zNext puts
  have hz (hd : destOk r) (k : CoreCtx → Bool → CoreCtx × Bool) : (if !bitRefOk loc then illegal else withDest r (bitOp loc false k (coreEnv u (s.lane u.lane)) c))
      = bitOp loc false k (coreEnv u (s.lane u.lane)) c := (if_neg (by simp [hok])).trans (withDest_pass hd _)
  refine ⟨fun hm => ⟨fun hd => ⟨?bld, ?bldn⟩, ?btst⟩, ?bset, ?bclr, ?bstr, ?btgl⟩
  case bld => exact ⟨_, flagsOf_setZ (putNext_sf_same false c r (b2n old)) (!old), retiresTo_bit (semBld r loc) (fun c b => (setFlag (wset c r (BitVec.ofNat 32 (b2n b))) 0 (!b), b)) rfl h hok (hz hd _) hm⟩
  case bldn => exact ⟨_, flagsOf_setZ (putNext_sf_same false c r (b2n !old)) old, retiresTo_bit (semBldn r loc) (fun c b => (setFlag (wset c r (BitVec.ofNat 32 (b2n !b))) 0 b, b)) rfl h hok (hz hd _) hm⟩
  case btst => exact ⟨_, flagsOf_setZ rfl (!old), retiresTo_bit (semBtst loc) (fun c b => (setFlag c 0 (!b), b)) rfl h hok rfl hm⟩
  case bset => exact updates_bit (fun _ _ => true) rfl h hok
  case bclr => exact updates_bit (fun _ _ => false) rfl h hok
  case bstr => exact updates_bit (fun c _ => (wget c r).getLsbD 0) rfl h hok
  case btgl => exact updates_congr (updates_bit (fun _ b => !b) rfl h hok) (fun hb => by rw [← hb])

/-! Loads and stores (04 R99, R110, R111). -/

theorem withPair_pass {r : Reg} (h : badPair r = false) (k : Op) : withPairs [r.val] k = k :=
  withPairs_pass (d := true) (rs := [r]) (by simpa [pairsOk] using h) k

theorem loads_word {j : Instr} {u : CoreId} {s : State} {sem : Sem} {i : Instance} {c : CoreCtx} {rd : Reg} (n : Nat) (hn : 0 < n) (ea : CoreCtx → Nat)
    (hx : exec j s = .next (s.runJfi u j sem)) (h : CoreAt u i c s) (hd : destOk rd)
    (hs : sem (coreEnv u (s.lane u.lane)) c = loadW rd n ea (coreEnv u (s.lane u.lane)) c) : Loads j u s i c false rd (ea c) n :=
  loads_of j u s sem i c false rd _ n hn hx h (hs.trans (withDest_pass hd _))

theorem loads_pair {j : Instr} {u : CoreId} {s : State} {sem : Sem} {i : Instance} {c : CoreCtx} {rd : Reg} (ea : CoreCtx → Nat)
    (hx : exec j s = .next (s.runJfi u j sem)) (h : CoreAt u i c s) (hd : destOk rd) (hp : badPair rd = false)
    (hs : sem (coreEnv u (s.lane u.lane)) c = loadD rd ea (coreEnv u (s.lane u.lane)) c) : Loads j u s i c true rd (ea c) 8 :=
  loads_of j u s sem i c true rd _ 8 (by omega) hx h (hs.trans ((withPair_pass hp _).trans (withDest_pass hd _)))

/-- Settles O10: a load retires with the bytes at its near or far address. -/
theorem loadsFromSram : Obligations.LoadsFromSram := by
  unfold Obligations.LoadsFromSram
  intro u i c s rd ra rb off h hd near far
  refine ⟨?ldb, ?ldh, ?ldw, fun hp => ?ldd, fun ha => ⟨?ldxb, ?ldxh, ?ldxw, fun hp => ?ldxd⟩⟩
  case ldb => exact loads_word 1 (by omega) (nearAt ra off) (sem := semLdb rd ra off) rfl h hd rfl
  case ldh => exact loads_word 2 (by omega) (nearAt ra off) (sem := semLdh rd ra off) rfl h hd rfl
  case ldw => exact loads_word 4 (by omega) (nearAt ra off) (sem := semLdw rd ra off) rfl h hd rfl
  case ldd => exact loads_pair (nearAt ra off) (sem := semLdd rd ra off) rfl h hd hp rfl
  case ldxb => exact loads_word 1 (by omega) (farAt ra rb) (sem := semLdxb rd ra rb) rfl h hd (withPair_pass ha _)
  case ldxh => exact loads_word 2 (by omega) (farAt ra rb) (sem := semLdxh rd ra rb) rfl h hd (withPair_pass ha _)
  case ldxw => exact loads_word 4 (by omega) (farAt ra rb) (sem := semLdxw rd ra rb) rfl h hd (withPair_pass ha _)
  case ldxd => exact loads_pair (farAt ra rb) (sem := semLdxd rd ra rb) rfl h hd hp (withPair_pass ha _)

theorem stores_word {j : Instr} {u : CoreId} {s : State} {sem : Sem} {i : Instance} {c : CoreCtx} {r : Reg} (n : Nat) (hn : 0 < n) (ea : CoreCtx → Nat)
    (hx : exec j s = .next (s.runJfi u j sem)) (h : CoreAt u i c s)
    (hs : sem (coreEnv u (s.lane u.lane)) c = storeW r n ea (coreEnv u (s.lane u.lane)) c) : Stores j u s i c (ea c) n ((wget c r).toNat % 256 ^ n) :=
  stores_of j u s sem i c _ n _ hn hx h hs

theorem stores_pair {j : Instr} {u : CoreId} {s : State} {sem : Sem} {i : Instance} {c : CoreCtx} {r : Reg} (ea : CoreCtx → Nat)
    (hx : exec j s = .next (s.runJfi u j sem)) (h : CoreAt u i c s) (hp : badPair r = false)
    (hs : sem (coreEnv u (s.lane u.lane)) c = storeD r ea (coreEnv u (s.lane u.lane)) c) : Stores j u s i c (ea c) 8 (dget c r).toNat :=
  stores_of j u s sem i c _ 8 _ (by omega) hx h (hs.trans (withPair_pass hp _))

/-- Settles O11: a store puts the low bytes of its register at its near or far address, and SWAPW exchanges a word. -/
theorem storesToSram : Obligations.StoresToSram := by
  unfold Obligations.StoresToSram
  intro u i c s r ra rb off h near far w
  have hw : w = w % 256 ^ 4 := (Nat.mod_eq_of_lt (wget c r).isLt).symm
  refine ⟨?stb, ?sth, ?stw, fun hp => ?std, fun ha => ⟨?stxb, ?stxh, ?stxw, fun hp => ?stxd⟩, fun hd hal => ?swapw⟩
  case stb => exact stores_word 1 (by omega) (nearAt ra off) (sem := semStb r ra off) rfl h rfl
  case sth => exact stores_word 2 (by omega) (nearAt ra off) (sem := semSth r ra off) rfl h rfl
  case stw =>
    rw [hw]
    exact stores_word 4 (by omega) (nearAt ra off) (sem := semStw r ra off) rfl h rfl
  case std => exact stores_pair (nearAt ra off) (sem := semStd r ra off) rfl h hp rfl
  case stxb => exact stores_word 1 (by omega) (farAt ra rb) (sem := semStxb r ra rb) rfl h (withPair_pass ha _)
  case stxh => exact stores_word 2 (by omega) (farAt ra rb) (sem := semStxh r ra rb) rfl h (withPair_pass ha _)
  case stxw =>
    rw [hw]
    exact stores_word 4 (by omega) (farAt ra rb) (sem := semStxw r ra rb) rfl h (withPair_pass ha _)
  case stxd => exact stores_pair (farAt ra rb) (sem := semStxd r ra rb) rfl h hp (withPair_pass ha _)
  case swapw => exact swap_of _ u s (semSwapw r ra off) i c _ (wget c r) _ rfl h hal (fun v => advance (wset c r v)) (withDest_pass hd _) (fun _ => rfl)

end Sys2Proof.Machine

/-! SUPPORT. Control transfer, timers, hysteresis, controllers, traps, and the instructions of events, caches and breakpoints: what their operations come to, and the statements about them. -/

namespace Sys2Proof.Machine

/-! Control transfer (03 R67 to R70, R75; 04 R112 to R114). -/

/-- A branch is refused on a vital core alone, and there only backward. -/
theorem branch_allowed {u : CoreId} {x : LaneState} {n : Int} (h : u.core1 = true ∨ 0 < n) : ((coreEnv u x).vital && decide (n ≤ 0)) = false := by
  obtain hk | hn := h
  · rw [coreEnv_aux x hk]
    rfl
  · rw [decide_eq_false (by omega), Bool.and_false]

/-- The top bit of a word is set in the upper half of its range. -/
theorem getLsbD_31 (w : Word) : w.getLsbD 31 = decide (2 ^ 31 ≤ w.toNat) := by
  rw [← BitVec.msb_eq_getLsbD_last w]
  exact BitVec.msb_eq_decide w

/-- The four conditions on a register, in the order of their codes. -/
theorem regCond_eq (w : Word) {n : Nat} (hl : 16 ≤ n) (hu : n < 20) :
    regCond w n = [w == 0, w != 0, decide (2 ^ 31 ≤ w.toNat), decide (w.toNat < 2 ^ 31)].getD (n - 16) false := by
  have hlow : (!w.getLsbD 31) = decide (w.toNat < 2 ^ 31) := by
    rw [getLsbD_31, ← decide_not]
    exact decide_eq_decide.2 (by omega)
  interval_cases n
  · rfl
  · rfl
  · exact getLsbD_31 w
  · exact hlow

/-- The checks of BC pass. -/
theorem semBc_pass {u : CoreId} {x : LaneState} {cond ra : Reg} {o : Half} {c : CoreCtx} (hok : u.core1 = true ∨ 0 < o.toInt) (hc : cond.val < 20)
    (ha : cond.val < 16 → ra.val = 0) :
    semBc cond ra o (coreEnv u x) c = .fin (if (if cond.val ≤ 0xF then condHolds c cond else regCond (wget c ra) cond) then jump c o.toInt else advance c) false := by
  refine if_neg ?_
  rw [branch_allowed hok, Bool.or_false]
  have h13 : ¬ 0x13 < cond.val := by omega
  by_cases hl : cond.val ≤ 0xF
  · simp [h13, ha (by omega)]
  · simp [h13, hl]

/-- Settles O12: each transfer's checks pass, and its meaning is the registers it continues with. -/
theorem controlTransfer : Obligations.ControlTransfer := by
  unfold Obligations.ControlTransfer
  intro u i c s rd ra cond o26 o16 fo bound dist bt h goes ok holds v top taken rest x app
  have fin {j : Instr} {sem : Sem} {a : CoreCtx} (hx : exec j s = .next (s.runJfi u j sem)) (hs : sem (coreEnv u (s.lane u.lane)) c = .fin a false) : RetiresTo j u s a :=
    retiresTo_of j u s sem i c a false hx h hs (fun q => nomatch q)
  have loopTop (k : Op) (hd : destOk rd) (h0 : rd.val ≠ 0) : (if rd.val = 0 then illegal else withDest rd k) = k := (if_neg h0).trans (withDest_pass hd k)
  refine ⟨fun hok => ?br, fun hok hc ha => ?bc, fun hd h0 => ⟨fun hv => ?loopEnd, fun hv hb hr => ?loopBack⟩, fun hr => ?call, fun b hb hr => ?callfb, fun r rs hr => ?ret⟩
  case br => exact fin (sem := semBr o26) rfl (if_neg (by simp [branch_allowed hok]))
  case bc =>
    have hh : (if cond.val ≤ 0xF then condHolds c cond else regCond (wget c ra) cond) = holds := by
      by_cases hl : cond.val < 16
      · exact (if_pos (by omega)).trans (if_pos hl).symm
      · exact (if_neg (by omega)).trans ((regCond_eq _ (by omega) hc).trans (if_neg hl).symm)
    have hs := semBc_pass (x := s.lane u.lane) (c := c) hok hc ha
    rw [hh] at hs
    exact fin (sem := semBc cond ra o16) rfl hs
  case loopEnd => exact fin (sem := semLoop rd bound dist) rfl ((loopTop _ hd h0).trans (if_pos hv))
  case loopBack =>
    have hn : (if top then (c.lnest.head?.map (·.count)).getD 0 + 1 else 1) = taken := by
      cases ht : top <;> simp [taken, ht]
    have hpass : ¬ ((decide (bound.toNat + 1 ≤ taken) || (!top && decide (16 ≤ c.lnest.length))) = true) := by
      cases ht : top with
      | true => simp; omega
      | false =>
        have hlen : c.lnest.length < 16 := by simpa [rest, ht] using hr
        simp; omega
    have hip : BitVec.ofInt 40 ((c.ip.toNat : Int) - 4 * (dist.toNat + 1)) = target c (-((dist.toNat : Int) + 1)) := by
      unfold target
      ring_nf
    rw [hip]
    refine fin (sem := semLoop rd bound dist) rfl ((loopTop _ hd h0).trans ((if_neg hv).trans ?_))
    dsimp only
    rw [← hn] at hpass ⊢
    exact if_neg hpass
  case call => exact fin (sem := semCall o26) rfl (if_neg (by omega))
  case callfb =>
    have happ : (coreEnv u (s.lane u.lane)).app = app := by
      unfold coreEnv app
      cases u.core1 <;> rfl
    refine fin (sem := semCallfb bt fo) rfl ?_
    unfold semCallfb
    rw [happ, hb]
    refine (if_neg (by omega)).trans ?_
    unfold instEa
    rw [BitVec.ofNat_toNat, BitVec.setWidth_eq]
    rfl
  case ret =>
    refine fin (sem := semRet) rfl ?_
    unfold semRet
    simp only [hr, List.length_cons]
    cases r.fp <;> rfl

/-! Timers (05 R122, R123). -/

/-- What a timer keeps when FIRST is set, and otherwise. -/
theorem timer_on_false (x : TimerSt) (tn pt : Int) : (timerStep .on x tn pt false).q = false ∧ (timerStep .on x tn pt false).et = 0 := ⟨rfl, rfl⟩

/-- A rising edge starts TON, and a preset time of 0 ends it at once. -/
theorem timer_on_rise (x : TimerSt) (tn : Int) (h : x.prev = false) : (timerStep .on x tn 0 true).q = true := by
  have hrun : (timerRun { x with start := tn, run := true } tn 0 true).q = true := by
    have het : (0 : Int) ≤ min (fbElapsed tn tn) 0 := by simp [fbElapsed]
    unfold timerRun
    simp [het]
  unfold timerStep
  simpa [h] using hrun

/-- Settles O13: each timer is one step of its kind on the bytes it keeps. -/
theorem timerBlocks : Obligations.TimerBlocks := by
  unfold Obligations.TimerBlocks
  refine ⟨?_, fun x tn pt => ⟨timer_on_false x tn pt, timer_on_rise x tn, rfl⟩⟩
  intro u i c s r fo k h hw pt on y j
  cases k with
  | on => exact updates_instance (sem := timerFb .on r fo) (by decide) hw rfl h (fun _ => rfl)
  | off => exact updates_instance (sem := timerFb .off r fo) (by decide) hw rfl h (fun _ => rfl)
  | pulse => exact updates_instance (sem := timerFb .pulse r fo) (by decide) hw rfl h (fun _ => rfl)

/-! Hysteresis and debouncers (05 R129, R130). -/

theorem hystFp_nan {x y z : Nat} (h : (nan32 x || nan32 y || nan32 z) = true) (b : Bool) : hystFp x y z b = (b, true) := if_pos h

theorem hystInt_eq (x y eps : Int) (q : Bool) : hystInt x y eps q = (if y + |eps| < x then true else if x < y - |eps| then false else q, decide (eps < 0)) := by
  unfold hystInt
  rw [Int.natCast_natAbs]

/-- Settles O16: HYST keeps the output its band gives, a debouncer one step of its kind on the bytes it keeps. -/
theorem hysteresisAndDebounce : Obligations.HysteresisAndDebounce := by
  unfold Obligations.HysteresisAndDebounce
  intro u i c s r fo q0 k h ea a m eps t inp q hold x y z start st j
  refine ⟨fun hw => ⟨?dint, ?real, hystFp_nan⟩, fun hw => ?debounce⟩
  case dint =>
    refine updates_instance (sem := semHystDint r fo) (by decide) hw rfl h (fun env => ?_)
    have hq (b : Bytes) : hystInt a m eps ((fbWord b 0).testBit 0) = (q b, decide (eps < 0)) := hystInt_eq a m eps _
    refine congrArg (window r 3 [] [r.val]) (congrArg (Op.block _ 8) (funext fun b => ?_))
    show (advance (boolOut c r (hystInt a m eps ((fbWord b 0).testBit 0)).1), fbPut b 0 4 (fbFlags (fbWord b 0) 1 [(hystInt a m eps ((fbWord b 0).testBit 0)).1]),
      (hystInt a m eps ((fbWord b 0).testBit 0)).2) = _
    rw [hq]
    rfl
  case real => exact updates_instance (sem := semHystReal r fo) (by decide) hw rfl h (fun _ => rfl)
  case debounce =>
    have hst (b : Bytes) : st b = debounceStep k (fbTime b 0) (if (fbWord b 8).testBit 3 then !q0 && inp else (fbWord b 8).testBit 1)
        (!(fbWord b 8).testBit 3 && (fbWord b 8).testBit 2) c.tn.toInt (max 0 t) inp := by
      unfold st start
      cases (fbWord b 8).testBit 3 <;> rfl
    have hs (env : Env) : debounceFb k q0 r fo env c = window r 3 [r.val] [r.val + 2] (.block (instEa c fo) 16 (fun b =>
        (advance (wset c (r + 2) (BitVec.ofNat 32 (b2n (st b).2.1))),
          fbPut (fbPut b 0 8 (wrapI 64 (st b).1)) 8 4 (fbFlags (fbWord b 8) 4 [inp, (st b).2.1, (st b).2.2, false]), decide (t < 0)))) := by
      simp only [hst]
      rfl
    cases k with
    | both => exact updates_instance (sem := debounceFb .both q0 r fo) (by decide) hw rfl h hs
    | rising => exact updates_instance (sem := debounceFb .rising q0 r fo) (by decide) hw rfl h hs
    | falling => exact updates_instance (sem := debounceFb .falling q0 r fo) (by decide) hw rfl h hs

/-! PID and RAMP (05 R131 to R133). -/

/-- A NaN among the inputs, or crossed limits, make a PID execution invalid. -/
theorem pid_invalid (p : PidIn) (h : (nan32 p.sp || nan32 p.pv || nan32 p.kp || nan32 p.ti || nan32 p.ymin || nan32 p.ymax || (p.man && nan32 p.yman) || flt32 p.ymax p.ymin) = true)
    (tn : Int) : p.run tn = none := by
  refine if_pos ?_
  simp only [List.any_cons, List.any_nil, Bool.or_false]
  simp only [Bool.or_eq_true] at h ⊢
  tauto

/-- Settles O17: a PID keeps the results of its execution or, invalid, what it held; RAMP likewise with a NaN. -/
theorem pidAndRamp : Obligations.PidAndRamp := by
  unfold Obligations.PidAndRamp
  intro u i c s r fo h ea run wrote x bad z
  refine ⟨fun hw => ?pid, pid_invalid, fun hw => ?ramp⟩
  case pid =>
    refine updates_instance (sem := semPid r fo) (by decide) hw rfl h (fun env => ?_)
    refine congrArg (window r 4 [] [r.val, r.val + 3]) (congrArg (Op.block _ 56) (funext fun b => ?_))
    show (match run b with | none => _ | some o => _) = _
    cases hr : run b <;> rfl
  case ramp =>
    refine updates_instance (sem := semRamp r fo) (by decide) hw rfl h (fun env => ?_)
    refine congrArg (window r 1 [] [r.val]) (congrArg (Op.block _ 24) (funext fun b => ?_))
    show (if bad b then _ else _) = _
    cases hb : bad b <;> rfl

/-! Traps (03 R62 to R90). -/

/-- A meaning that is a trap, whatever the core, traps. -/
theorem traps_meaning {j : Instr} {u : CoreId} {s : State} {sem : Sem} {i : Instance} {c : CoreCtx} {cause : Nat}
    (hx : exec j s = .next (s.runJfi u j sem)) (h : CoreAt u i c s) (hs : sem (coreEnv u (s.lane u.lane)) c = .trap cause 0) : Traps j u s i c cause 0 :=
  traps_of j u s sem i c _ cause 0 hx h hs (fun _ => .inl rfl) (fun _ => ⟨rfl, fun _ => rfl⟩)

theorem withDest_base {r : Reg} (h : isBase r = true) (k : Op) : withDest r k = .trap 2 0 := if_pos h

theorem withPairs_bad {r : Nat} {rs : List Nat} (h : badPair r = true) (hr : r ∈ rs) (k : Op) : withPairs rs k = .trap 1 0 :=
  if_pos (List.any_eq_true.2 ⟨r, hr, h⟩)

/-- A misaligned load traps with its address. -/
theorem traps_load {j : Instr} {u : CoreId} {s : State} {sem : Sem} {i : Instance} {c : CoreCtx} {ea n : Nat} {k : Nat → CoreCtx} (hn : n = 4)
    (hx : exec j s = .next (s.runJfi u j sem)) (h : CoreAt u i c s) (hs : sem (coreEnv u (s.lane u.lane)) c = .load ea n k) (hea : ea % n ≠ 0) :
    Traps j u s i c 3 ea := by
  refine traps_of j u s sem i c _ 3 ea hx h hs (fun _ => .inl (if_pos hea)) (fun _ => ⟨if_pos hea, fun p => if_neg ?_⟩)
  have hne : (ea == 0x10000000 + Rg.EVR_RD_DATAk 15) = false := beq_eq_false_iff_ne.2 (fun he => hea (by rw [he, hn]; rfl))
  simp [auxLastWord, hne]

/-- A misaligned store traps with its address. -/
theorem traps_store {j : Instr} {u : CoreId} {s : State} {sem : Sem} {i : Instance} {c a : CoreCtx} {ea v : Nat}
    (hx : exec j s = .next (s.runJfi u j sem)) (h : CoreAt u i c s) (hs : sem (coreEnv u (s.lane u.lane)) c = .store ea 4 v a) (hea : ea % 4 ≠ 0) :
    Traps j u s i c 3 ea := by
  refine traps_of j u s sem i c _ 3 ea hx h hs (fun _ => .inl (if_pos hea)) (fun _ => ⟨if_pos hea, fun p => ?_⟩)
  have hact : auxActing (s.lane u.lane) ea 4 = none := if_neg (by simp [hea])
  simp only [State.auxActs, hact, Option.bind_none]

/-- Settles O18: each meaning comes to its trap, by the check that fails. -/
theorem trapEntry : Obligations.TrapEntry := by
  unfold Obligations.TrapEntry
  intro u i c s rd ra rb code imm o26 bound dist h ea v
  refine ⟨?trap, fun hb => ⟨?addi, ?ldw, ?swapw⟩, fun hp => ⟨?movd, ?stxw⟩, fun hd he => ?load, fun he => ?store, fun hr => ?call, fun hd h0 hv hl => ?loop, fun hk hd ht hz => ?div,
    fun hk => ?rdlane⟩
  case trap => exact traps_meaning (sem := semTrap) rfl h rfl
  case addi => exact traps_meaning (sem := semAddi rd ra imm) rfl h (withDest_base hb _)
  case ldw => exact traps_meaning (sem := semLdw rd ra imm) rfl h (withDest_base hb _)
  case swapw => exact traps_meaning (sem := semSwapw rd ra imm) rfl h (withDest_base hb _)
  case movd => exact traps_meaning (sem := semMovd rd ra) rfl h (withPairs_bad hp (by simp) _)
  case stxw => exact traps_meaning (sem := semStxw rd ra rb) rfl h (withPairs_bad hp (by simp) _)
  case load => exact traps_load (sem := semLdw rd ra imm) rfl rfl h (withDest_pass hd _) he
  case store => exact traps_store (sem := semStw rd ra imm) rfl h rfl he
  case call => exact traps_meaning (sem := semCall o26) rfl h (if_pos (by omega))
  case loop =>
    refine traps_meaning (sem := semLoop rd bound dist) rfl h ((if_neg h0).trans ((withDest_pass hd _).trans ((if_neg hv).trans ?_)))
    simp [hl, loopBound]
  case div =>
    have h2 : pairsOk false [rd, ra, rb] := fun q => nomatch q
    refine traps_arith (sem := semDivu false rd ra rb) rfl h (fun e => alu2_pass false rd ra rb _ e c hd h2) ?_ hk ht
    rw [aluDivu_zero _ (by simp [opnd, hz])]
  case rdlane =>
    refine traps_meaning (sem := semRdlane rd) rfl h ?_
    unfold coreEnv
    rw [hk]
    rfl

/-! Events, caches and breakpoints (04 R101, R115). -/

/-- Passing a report on leaves of the lane everything but its mailbox block, while the block has room or waits. -/
theorem pushReport_mail {x : LaneState} (h : bget x Rg.MBX_STATUS 0 = true ∨ x.mbx.evq.length < 256) (r : Report) : SameButMail x (pushReport x r) := by
  have hroom : ¬ ((!bget x Rg.MBX_STATUS 0 && decide (256 ≤ x.mbx.evq.length)) = true) := by
    obtain h | h := h
    · simp [h]
    · simp; omega
  have hp : pushReport x r = fset { x with mbx := { x.mbx with evq := x.mbx.evq ++ [r] } } Rg.MBX_STATUS 11 4 _ := if_neg hroom
  rw [hp]
  exact ⟨rfl, fun a ha => rget_rset_other _ _ _ _ ha⟩

theorem afterCore_mail {u : CoreId} {x y : LaneState} (hk : u.core1 = true) (h : SameButMail x y) (c : CoreCtx) : SameButMail (afterCore u x c) (afterCore u y c) := by
  unfold afterCore
  rw [if_pos hk, if_pos hk]
  refine ⟨?_, h.2⟩
  rw [h.1]

theorem counted_mail {x y z : LaneState} (h : SameButMail x y) (g : Counted y z) : Counted x z := by
  refine ⟨by rw [g.1, h.1], fun a ha => (g.2 a ha).trans (h.2 a fun hm => ?_)⟩
  rw [hm] at ha
  cases ha

/-- An event queued by the instance that runs, and counted. -/
theorem passed_queued (x : LaneState) (p : Payload) : passed (updRun x (fun j => { j with items := j.items ++ [⟨0x600, p⟩], evts := j.evts + 1 }))
    = updRun (queueItem (passed x) 0x600 p) (fun j => { j with evts := j.evts + 1 }) := by
  unfold queueItem passed
  rw [updRun_comp, updRun_comp, updRun_comp]
  all_goals exact fun _ => ⟨rfl, rfl, rfl⟩

theorem updRun_tri (x : LaneState) (f : Instance → Instance) : (updRun x f).tri = x.tri := by
  unfold updRun
  split <;> rfl

theorem updRun_id (x : LaneState) (f : Instance → Instance) : (updRun x f).id = x.id := by
  unfold updRun
  split <;> rfl

/-- Writing bytes back leaves the lane's voter and name. -/
theorem writeBack_frame (m : List (Nat × Byte)) (x : LaneState) :
    (m.foldl (fun y e => mwr y e.1 [e.2]) x).tri = x.tri ∧ (m.foldl (fun y e => mwr y e.1 [e.2]) x).id = x.id := by
  induction m generalizing x with
  | nil => exact ⟨rfl, rfl⟩
  | cons e m ih =>
    obtain ⟨ht, hi⟩ := ih (mwr x e.1 [e.2])
    exact ⟨ht.trans (mwr_tri ..), hi.trans (mwr_id ..)⟩

/-- A cache operation of the auxiliary core retires with what it leaves of the lane. -/
theorem retires_cache {j : Instr} {u : CoreId} {s : State} {i : Instance} {c : CoreCtx} {ra : Reg} {kind : Nat} {z : LaneState}
    (hx : exec j s = .next (s.runJfi u j (cacheOp kind ra))) (h : CoreAt u i c s) (hk : u.core1 = true) (hp : badPair ra = false)
    (hz : (if kind = 2 then { s.lane u.lane with c1 := { (s.lane u.lane).c1 with icache := (s.lane u.lane).c1.icache.filter (fun e => e.1 != (dget c ra).toNat / 64 * 64) } }
      else lineBack (s.lane u.lane) (dget c ra).toNat) = z)
    (htri : z.tri = (s.lane u.lane).tri) (hid : z.id = (s.lane u.lane).id) : Retires j u s z (advance c) := by
  have hs : cacheOp kind ra (coreEnv u (s.lane u.lane)) c = .cache kind (dget c ra).toNat (advance c) := by
    rw [coreEnv_aux _ hk]
    exact withPair_pass hp _
  refine retires_of j u s _ i z c (advance c) _ false hx h hs (fun h0 => ?_) (fun _ => ⟨?_, fun _ => rfl⟩) htri hid (fun q => nomatch q)
  · rw [hk] at h0
    cases h0
  · rw [← hz]
    rfl

/-- BRK of a core whose software breakpoints are armed halts it. -/
theorem brk_halts {u : CoreId} {s : State} {i : Instance} {c : CoreCtx} (h : CoreAt u i c s) (hk : u.core1 = true) (hb : (s.lane u.lane).c1.swBrk = true) :
    ∃ t, exec (.brk u) s = .next t ∧ OnlyVoter u.lane s t
      ∧ Counted (bset { s.lane u.lane with c1 := { (s.lane u.lane).c1 with dbgHalted := true } } Rg.TRP_DBG_STATUS 1 true) (t.lane u.lane) := by
  have ha := coreAt_aux h hk
  have hop : semBrk (auxEnv (s.lane u.lane)) c = .halt := if_pos hb
  have hstep : auxStep (.brk u) semBrk (s.sends u.lane 7) (s.lane u.lane)
      = bset { s.lane u.lane with c1 := { (s.lane u.lane).c1 with dbgHalted := true } } Rg.TRP_DBG_STATUS 1 true := by
    unfold auxStep
    conv_lhs => simp only [ha.ctx, hop, ha.code, Bool.not_true, Bool.false_eq_true, if_false, eccRange_clean _ _ _ _ ha.clean]
    rfl
  have hrun : s.runJfi u (.brk u) semBrk = s.onVote u.lane (auxStep (.brk u) semBrk (s.sends u.lane 7)) := by
    unfold State.runJfi State.auxRun
    simp only [hk, ha.runs, ha.free, ha.ctx, hop, if_true, Bool.not_false, Bool.and_self]
    rfl
  have hc := State.onVote_calm s u.lane (auxStep (.brk u) semBrk (s.sends u.lane 7))
  rw [hstep] at hc
  exact ⟨_, congrArg Host.Outcome.next hrun, State.onVote_only s u.lane _, counted_of (onlyPmc_refl _) (hc ha.calm h.1)⟩

/-- Settles O19: EVT by its core and the records counted, a cache operation by the lines it writes back and drops, BRK by its arming. -/
theorem eventsCachesBreakpoints : Obligations.EventsCachesBreakpoints := by
  unfold Obligations.EventsCachesBreakpoints
  intro u i c s ra rb h x ea line mine kept back
  have vital {q : Prop} (hk : u.core1 = false) (h1 : u.core1 = true) : q := absurd (hk.symm.trans h1) Bool.false_ne_true
  have hback : back.tri = x.tri ∧ back.id = x.id := writeBack_frame mine { x with c1 := { x.c1 with dcache := kept } }
  refine ⟨fun hk hi => ?queued, fun hk hi he => ?full, fun hk hr => ?aux, fun hk hp => ⟨?dcwb, ?dcinv, ?icinv⟩, fun hk hb => ?brk, fun hk hb => ?halt⟩
  case queued =>
    refine retires_of _ u s (semEvt ra rb) i _ c (advance c) _ false rfl h rfl (fun _ => ?_) (vital hk) (updRun_tri ..) (updRun_id ..) (fun q => nomatch q)
    rw [passed_queued x]
    exact if_neg (by omega)
  case full => exact retires_of _ u s (semEvt ra rb) i x c (advance c) _ true rfl h rfl (fun _ => if_pos hi) (vital hk) rfl rfl (fun _ => he)
  case aux =>
    have hm := pushReport_mail hr
      { code := BitVec.ofNat 16 (0x8000 + (wget c ra).toNat % 0x8000), data := wget c rb, path := 3, lanes := laneBit x.id, cycle := cycleNo x, time := wNow x }
    obtain ⟨t, hx, ho, hc⟩ := retires_of (.evt u ra rb) u s (semEvt ra rb) i (pushReport x
        { code := BitVec.ofNat 16 (0x8000 + (wget c ra).toNat % 0x8000), data := wget c rb, path := 3, lanes := laneBit x.id, cycle := cycleNo x, time := wNow x })
      c (advance c) _ false rfl h rfl (fun h0 => vital h0 hk) (fun _ => ⟨rfl, fun _ => rfl⟩) (by rw [hm.1]) (by rw [hm.1]) (fun q => nomatch q)
    exact ⟨t, hx, ho, counted_mail (afterCore_mail hk hm (advance c)) hc⟩
  case dcwb => exact retires_cache (kind := 0) rfl h hk hp rfl hback.1 hback.2
  case dcinv => exact retires_cache (kind := 1) rfl h hk hp rfl hback.1 hback.2
  case icinv => exact retires_cache (kind := 2) rfl h hk hp rfl rfl rfl
  case brk =>
    refine traps_meaning (sem := semBrk) rfl h ?_
    rw [coreEnv_aux _ hk]
    exact if_neg (ne_true_of_eq_false hb)
  case halt => exact brk_halts h hk hb

end Sys2Proof.Machine

/-! SUPPORT. Register accesses: what a write or read of a register without an effect of its own does, the registers of the performance units, and the two statements about them. -/

namespace Sys2Proof.Machine

/-! Permission (00 R5, Table SCO-2). -/

/-- A read that is not permitted ends in a bus error and changes nothing else. -/
theorem readCmd_refused {x : LaneState} {ag : Agent} {a : Nat} (h : readOk x ag a = false) : readCmd x ag a = { x with berr := true } :=
  if_neg (ne_true_of_eq_false h)

/-- An agent that the writers of a row do not name may not write it. -/
theorem writeOk_unlisted {x : LaneState} {ag : Agent} {a : Nat} {r : RegRow} (hr : regRow a = some r) (hc : cmpUnit a = none) (h : r.writers.contains ag = false) :
    writeOk x ag a = false := by
  unfold writeOk mayWrite
  rw [hr, hc]
  dsimp only
  rw [h]
  simp

/-- An agent that the readers of a row do not name may not read it once the lane runs. -/
theorem readOk_unlisted {x : LaneState} {ag : Agent} {a : Nat} {r : RegRow} (hr : regRow a = some r) (hc : cmpUnit a = none) (h : r.readers.contains ag = false)
    (hs : sampleWord x a = none) (hp : phaseOf x ≠ 0) : readOk x ag a = false := by
  unfold readOk mayRead
  rw [hr, hc, hs]
  dsimp only
  rw [h, if_neg hp]
  simp

/-! Registers with no effect of their own. -/

/-- A register without an effect is none with one. -/
theorem plainReg_ne {a b : Nat} (h : plainReg a = true) (hb : plainReg b = false) : a ≠ b := by
  rintro rfl
  rw [h] at hb
  cases hb

/-- The blocks in which registers have effects of their own. -/
theorem plainReg_blocks {a : Nat} (h : plainReg a = true) : ¬ (0x050000 ≤ a ∧ a < 0x051000) ∧ ¬ (0x090000 ≤ a ∧ a < 0x0A0000) ∧ ¬ (0x0C0000 ≤ a ∧ a < 0x0D0000)
    ∧ (0x0D0000 ≤ a → a < 0x0E0000 → a % 4096 = 4) ∧ ¬ (0x0B1014 ≤ a ∧ a < 0x0B3000 ∧ a % 32 = 0x14) := by
  unfold plainReg at h
  rw [Bool.and_eq_true] at h
  have hb := h.1
  simp only [Bool.and_eq_true, Bool.not_eq_true', Bool.and_eq_false_iff, Bool.or_eq_false_iff, decide_eq_false_iff_not, bne_eq_false_iff_eq, beq_eq_false_iff_ne] at hb
  omega

/-- The rows of the performance units end below the sample buffers. -/
theorem regRow_samples {a : Nat} (hl : 0x0D8000 ≤ a) (hu : a < 0x0DC000) : regRow a = none := by
  have hblock : a / 0x10000 = 13 := by omega
  unfold regRow
  rw [hblock, List.find?_eq_none]
  intro r hr
  have hd : ∀ r ∈ blockRows 13, r.base ≤ 0x0D0108 ∧ r.dims.head? = some (4096, 2) := by decide
  obtain ⟨hbase, hhead⟩ := hd r hr
  obtain ⟨ds, hdims⟩ := List.head?_eq_some_iff.1 hhead
  have hrow : ¬ (a - r.base) / 4096 < 2 := by omega
  unfold RegRow.covers
  rw [hdims]
  simp [onDims, hrow]

theorem sampleWord_row {x : LaneState} {a : Nat} {r : RegRow} (h : regRow a = some r) : sampleWord x a = none := by
  refine if_neg fun hc => ?_
  rw [regRow_samples hc.1 hc.2.1] at h
  cases h

/-- A permitted write of a plain register does what its access kind says. -/
theorem writeCmd_plain {x : LaneState} {ag : Agent} {a : Nat} {v : Word} (hp : plainReg a = true) (h : writeOk x ag a = true) :
    writeCmd x ag a v = plainWrite { x with berr := false } a v := by
  obtain ⟨hmer, hcan, hcvu, hpmc, hev⟩ := plainReg_blocks hp
  have hcvu' : ¬ ((decide (0x0C0000 ≤ a) && decide (a < 0x0C0200)) = true) := by simp; omega
  have hmer' : ¬ ((decide (0x050000 ≤ a) && decide (a < 0x051000)) = true) := by simp; omega
  have hcan' : ¬ ((decide (0x090000 ≤ a) && decide (a < 0x0A0000)) = true) := by simp; omega
  have hev' : ¬ ((decide (0x0B1014 ≤ a) && decide (a < 0x0B3000) && a % 32 == 0x14) = true) := by simp; omega
  unfold writeCmd
  rw [h]
  by_cases hv : ag = .v
  · have hput : vitalPut x a v = .ok (plainWrite x a v) := by
      unfold vitalPut
      rw [if_neg hcvu', if_neg hmer', if_neg (plainReg_ne hp rfl), if_neg (plainReg_ne hp rfl), if_neg (plainReg_ne hp rfl), if_neg (plainReg_ne hp rfl),
        if_neg (plainReg_ne hp rfl), if_neg hcan']
    rw [if_pos hv, hput]
    exact plainWrite_withBerr x a v false
  · rw [if_neg hv]
    show regPut { x with berr := false } a v = _
    unfold regPut
    rw [if_neg hcvu']
    by_cases hin : (decide (0x0D0000 ≤ a) && decide (a < 0x0D2000)) = true
    · have ho : (a - 0x0D0000) % 0x1000 = 4 := by
        simp only [Bool.and_eq_true, decide_eq_true_eq] at hin
        have := hpmc hin.1 (by omega)
        omega
      rw [if_pos hin]
      unfold pmcWrite
      rw [ho]
      rfl
    · rw [if_neg hin, if_neg hmer', if_neg (plainReg_ne hp rfl), if_neg (plainReg_ne hp rfl), if_neg (plainReg_ne hp rfl), if_neg (plainReg_ne hp rfl), if_neg (plainReg_ne hp rfl),
        if_neg (plainReg_ne hp rfl), if_neg (plainReg_ne hp rfl), if_neg (plainReg_ne hp rfl), if_neg (plainReg_ne hp rfl), if_neg (plainReg_ne hp rfl), if_neg (plainReg_ne hp rfl), if_neg hev']

/-- A plain register that is not write-only reads what it holds. -/
theorem regVal_plain {x : LaneState} {a : Nat} {r : RegRow} (hr : regRow a = some r) (hp : plainReg a = true) (hw : r.acc ≠ .wo) : regVal x a = rget x a := by
  obtain ⟨-, -, hcvu, -, -⟩ := plainReg_blocks hp
  have hin : (decide (0x0C0000 ≤ a) && decide (a < 0x0C0200)) = false := by
    rw [Bool.and_eq_false_iff, decide_eq_false_iff_not, decide_eq_false_iff_not]
    omega
  have ne (b : Nat) (hb : plainReg b = false) : ¬ a = b := plainReg_ne hp hb
  have hread : readVal x a = rget x a := by
    unfold readVal
    rw [hr]
    exact if_neg hw
  unfold regVal
  rw [sampleWord_row hr]
  simp only [hin, Bool.false_and, Bool.false_eq_true, if_false, Bool.or_eq_true, decide_eq_true_eq, ne _ (show plainReg Rg.CAR_ATLAS_W0 = false from rfl),
    ne _ (show plainReg Rg.CAR_ATLAS_W1 = false from rfl), ne _ (show plainReg Rg.CAR_ATLAS_W2 = false from rfl), ne _ (show plainReg Rg.ECN_STATIC_MAC_LO = false from rfl),
    ne _ (show plainReg Rg.ECN_STATIC_MAC_HI = false from rfl), ne _ (show plainReg Rg.ECN_STATIC_PORT = false from rfl), ne _ (show plainReg Rg.BRG_PWLOG_ADDR_LO = false from rfl),
    ne _ (show plainReg Rg.BRG_PWLOG_ADDR_HI = false from rfl), ne _ (show plainReg Rg.BRG_PWLOG_INFO = false from rfl), ne _ (show plainReg Rg.EVR_RATE_VAL = false from rfl),
    ne _ (show plainReg Rg.MER_WT_NS = false from rfl), ne _ (show plainReg Rg.TRI_DEG_REMAIN = false from rfl), ne _ (show plainReg Rg.TRI_REINT_DIRTY = false from rfl), or_self, hread]

/-- A read of a plain register does what its access kind says. -/
theorem regReadEff_plain {x : LaneState} {a : Nat} (hp : plainReg a = true) : regReadEff x a = plainRead x a := by
  obtain ⟨-, -, -, hpmc, -⟩ := plainReg_blocks hp
  have hlo : pmcLoCounter a = none := by
    refine if_neg ?_
    simp only [Bool.and_eq_true, decide_eq_true_eq, beq_iff_eq, not_and]
    omega
  unfold regReadEff
  rw [hlo]
  dsimp only
  rw [if_neg (plainReg_ne hp rfl), if_neg (plainReg_ne hp rfl), if_neg (plainReg_ne hp rfl), if_neg (plainReg_ne hp rfl), if_neg (plainReg_ne hp rfl)]

/-! A plain write by access kind (00 R7). -/

theorem plainWrite_rw {x : LaneState} {a : Nat} {v : Word} {r : RegRow} (hr : regRow a = some r) (hk : r.acc = .rw) :
    plainWrite x a v = rset x a (maskWord r.wmask (rget x a) v) := by
  simp only [plainWrite, hr, hk]

theorem plainWrite_rws {x : LaneState} {a : Nat} {v : Word} {r : RegRow} (hr : regRow a = some r) (hk : r.acc = .rws) :
    plainWrite x a v = if modeOf x = .stop then rset x a (maskWord r.wmask (rget x a) v) else x := by
  simp only [plainWrite, hr, hk]

theorem plainWrite_w1c {x : LaneState} {a : Nat} {v : Word} {r : RegRow} (hr : regRow a = some r) (hk : r.acc = .w1c) :
    plainWrite x a v = rset x a (rget x a &&& ~~~(v &&& BitVec.ofNat 32 r.wmask)) := by
  simp only [plainWrite, hr, hk]

theorem plainWrite_readOnly {x : LaneState} {a : Nat} {v : Word} {r : RegRow} (hr : regRow a = some r) (hk : r.acc = .ro ∨ r.acc = .rc) : plainWrite x a v = x := by
  obtain hk | hk := hk <;> simp only [plainWrite, hr, hk]

/-- Settles O20: an access is refused or comes to its access kind's effect. -/
theorem registerAccess : Obligations.RegisterAccess := by
  unfold Obligations.RegisterAccess
  intro s l ag a v r x y put
  refine ⟨fun h => laneBecomes_of rfl (writeCmd_refused h), fun h => laneBecomes_of rfl (readCmd_refused h), fun hr hc => ⟨writeOk_unlisted hr hc, readOk_unlisted hr hc⟩,
    fun hr hp h => ?write, fun hr hp h hk => ?read⟩
  case write =>
    have hw {z : LaneState} (hz : plainWrite y a v = z) : LaneBecomes (.registerWrite l ag a v) l s z := laneBecomes_of rfl ((writeCmd_plain hp h).trans hz)
    exact ⟨fun hk => hw (plainWrite_rw hr hk), fun hk => hw (plainWrite_rws hr hk), fun hk => hw (plainWrite_w1c hr hk), fun hk => hw (plainWrite_readOnly hr hk)⟩
  case read =>
    have hval : regVal x a = rget x a := regVal_plain hr hp (by rw [hk]; decide)
    refine laneBecomes_of rfl ((if_pos h).trans ?_)
    show regReadEff { y with rdval := regVal x a } a = _
    rw [hval, regReadEff_plain hp]
    unfold plainRead
    rw [hr]
    exact if_pos hk

/-! Performance units (24 R513 to R518). -/

/-- A permitted write of a register of the performance units, by an agent other than a vital task. -/
theorem writeCmd_pmc {x : LaneState} {ag : Agent} {a : Nat} {v : Word} (hv : ag ≠ .v) (hl : 0x0D0000 ≤ a) (hu : a < 0x0D2000) (h : writeOk x ag a = true) :
    writeCmd x ag a v = pmcWrite { x with berr := false } a v := by
  have hcvu : ¬ ((decide (0x0C0000 ≤ a) && decide (a < 0x0C0200)) = true) := by simp; omega
  unfold writeCmd
  rw [h, if_neg hv]
  exact (if_neg hcvu).trans (if_pos (by simp [hl, hu]))

/-- A command that is a permitted write of such a register. -/
theorem pmcWrite_becomes {i : Instr} {l : Lane} {s : State} {ag : Agent} {a : Nat} {v : Word} {z : LaneState} (hv : ag ≠ .v) (hl : 0x0D0000 ≤ a) (hu : a < 0x0D2000)
    (hx : exec i s = .next (s.onLane l (fun x => writeCmd x ag a v))) (h : writeOk (s.lane l) ag a = true) (hz : pmcWrite { s.lane l with berr := false } a v = z) :
    LaneBecomes i l s z := laneBecomes_of hx ((writeCmd_pmc hv hl hu h).trans hz)

theorem pmc_block (c : Bool) {o : Nat} (ho : o < 0x1000) : 0x0D0000 ≤ 0x0D0000 + 4096 * b2n c + o ∧ 0x0D0000 + 4096 * b2n c + o < 0x0D2000 := by
  cases c <;> simp [b2n] <;> omega

theorem ctrl_row (c : Bool) : (regRow (Rg.PMC_CTRLc (b2n c))).map (fun r => (r.acc, r.wmask)) = some (.rw, 0x1FF) := by
  revert c
  decide

theorem pmcWrite_ctrl (x : LaneState) (c : Bool) (v : Word) :
    pmcWrite x (Rg.PMC_CTRLc (b2n c)) v = rset x (Rg.PMC_CTRLc (b2n c)) (maskWord 0x1FF (rget x (Rg.PMC_CTRLc (b2n c))) v) := by
  obtain ⟨r, hr, hk⟩ := Option.map_eq_some_iff.1 (ctrl_row c)
  obtain ⟨hacc, hmask⟩ := Prod.mk.inj hk
  have hw := plainWrite_rw (x := x) (v := v) hr hacc
  rw [hmask] at hw
  refine Eq.trans ?_ hw
  cases c <;> rfl

theorem pmcWrite_seed (x : LaneState) (c : Bool) (v : Word) : pmcWrite x (Rg.PMC_SEEDc (b2n c)) v = rset x (Rg.PMC_SEEDc (b2n c)) (if v = 0 then 1 else v) := by
  cases c <;> rfl

theorem pmcWrite_clear (x : LaneState) (c : Bool) : pmcWrite x (Rg.PMC_SCTRLc (b2n c)) 1
    = fset (fset (setPmc x (b2n c) { pmcOf x (b2n c) with samples := [] }) (Rg.PMC_SSTATc (b2n c)) 16 8 0) (Rg.PMC_SSTATc (b2n c)) 7 0 0 := by
  cases c <;> rfl

/-- The offset of a half of counter `n` in its unit: 0x104 or 0x108 and 16 for each counter before it. -/
theorem counter_place (c : Bool) (n : Ctr) {o : Nat} (ho : o < 16) :
    (0x0D0100 + o + 4096 * b2n c + 16 * n.val - 0x0D0000) % 0x1000 = 0x100 + o + 16 * n ∧ (0x100 + o + 16 * n.val - 0x100) / 16 = n ∧ (0x100 + o + 16 * n.val) % 16 = o
      ∧ (if 0x0D0100 + o + 4096 * b2n c + 16 * n.val < 0x0D1000 then 0 else 1) = b2n c := by
  have hn := n.isLt
  refine ⟨?_, by omega, by omega, ?_⟩
  · cases c <;> simp [b2n] <;> omega
  · cases c with
    | false => exact if_pos (by simp [b2n]; omega)
    | true => exact if_neg (by simp [b2n]; omega)

theorem counter_block (c : Bool) (n : Ctr) {o : Nat} (ho : o < 16) : 0x0D0000 ≤ 0x0D0100 + o + 4096 * b2n c + 16 * n.val ∧ 0x0D0100 + o + 4096 * b2n c + 16 * n.val < 0x0D2000 := by
  have hn := n.isLt
  cases c <;> simp [b2n] <;> omega

theorem pmcWrite_counterLo (x : LaneState) (c : Bool) (n : Ctr) (v : Word) :
    pmcWrite x (Rg.PMC_CNTc_n_LO (b2n c) n) v = pmcLoad x (b2n c) n (v.toNat + sget zNat (pmcOf x (b2n c)).bufHi n * 2 ^ 32) := by
  obtain ⟨ho, hn, h16, hc⟩ := counter_place c n (o := 4) (by decide)
  have hlt := n.isLt
  unfold pmcWrite
  dsimp only
  rw [hc, ho, hn, h16, if_neg (by omega), if_neg (by omega), if_neg (by omega), if_pos (by omega)]
  rfl

theorem pmcWrite_counterHi (x : LaneState) (c : Bool) (n : Ctr) (v : Word) :
    pmcWrite x (Rg.PMC_CNTc_n_HI (b2n c) n) v = setPmc x (b2n c) { pmcOf x (b2n c) with bufHi := sset zNat (pmcOf x (b2n c)).bufHi n (getBits v 15 0) } := by
  obtain ⟨ho, hn, h16, hc⟩ := counter_place c n (o := 8) (by decide)
  have hlt := n.isLt
  unfold pmcWrite
  dsimp only
  rw [hc, ho, hn, h16, if_neg (by omega), if_neg (by omega), if_neg (by omega), if_pos (by omega)]
  rfl

theorem counter_latches (c : Bool) (n : Ctr) : pmcLoCounter (Rg.PMC_CNTc_n_LO (b2n c) n) = some (b2n c, n.val) := by
  revert c n
  decide

theorem counter_row (c : Bool) (n : Ctr) : (regRow (Rg.PMC_CNTc_n_LO (b2n c) n)).map (·.acc) = some .rw := by
  revert c n
  decide

/-- A register of the performance units reads what it holds. -/
theorem regVal_pmc (x : LaneState) {a : Nat} (hl : 0x0D0000 ≤ a) (hu : a < 0x0D2000) (h : (regRow a).map (·.acc) = some .rw) : regVal x a = rget x a := by
  obtain ⟨r, hr, hk⟩ := Option.map_eq_some_iff.1 h
  have hread : readVal x a = rget x a := by
    unfold readVal
    rw [hr]
    exact if_neg (by rw [hk]; decide)
  have ne (b : Nat) (hb : b < 0x0D0000 ∨ 0x0D2000 ≤ b) : ¬ a = b := by omega
  have hin : (decide (0x0C0000 ≤ a) && decide (a < 0x0C0200)) = false := by
    rw [Bool.and_eq_false_iff, decide_eq_false_iff_not, decide_eq_false_iff_not]
    omega
  unfold regVal
  rw [sampleWord_row hr]
  simp only [hin, Bool.false_and, Bool.false_eq_true, if_false, Bool.or_eq_true, decide_eq_true_eq, ne Rg.CAR_ATLAS_W0 (by decide), ne Rg.CAR_ATLAS_W1 (by decide),
    ne Rg.CAR_ATLAS_W2 (by decide), ne Rg.ECN_STATIC_MAC_LO (by decide), ne Rg.ECN_STATIC_MAC_HI (by decide), ne Rg.ECN_STATIC_PORT (by decide), ne Rg.BRG_PWLOG_ADDR_LO (by decide),
    ne Rg.BRG_PWLOG_ADDR_HI (by decide), ne Rg.BRG_PWLOG_INFO (by decide), ne Rg.EVR_RATE_VAL (by decide), ne Rg.MER_WT_NS (by decide), ne Rg.TRI_DEG_REMAIN (by decide),
    ne Rg.TRI_REINT_DIRTY (by decide), or_self, hread]

/-- Loading a counter's high bits in a unit and reading the unit. -/
theorem pmcOf_setPmc (x : LaneState) (k : Nat) (p : PmcCore) : pmcOf (setPmc x k p) k = p := by
  unfold pmcOf setPmc
  split <;> rfl

theorem rset_pmcOf (x : LaneState) (a : Nat) (w : Word) (k : Nat) : pmcOf (rset x a w) k = pmcOf x k := rfl

/-- A counter counts from what was loaded (24 R513). -/
theorem pmcCount_pmcLoad (x : LaneState) (k n : Nat) {m : Nat} (hm : m < 2 ^ 48) : pmcCount (pmcLoad x k n m) k n = m := by
  unfold pmcCount pmcLoad
  dsimp only
  rw [rget_rset_same, rset_pmcOf, pmcOf_setPmc, sget_sset_same, BitVec.toNat_ofNat]
  omega

/-- Settles O21: each access comes to what its register does, and a counter reads back what was loaded. -/
theorem performanceUnits : Obligations.PerformanceUnits := by
  unfold Obligations.PerformanceUnits
  intro s l ag c n v x y k p lo hi hv
  refine ⟨fun h => ?ctrl, fun h => ?latch, fun h => ?high, fun h => ?low, fun m hm => pmcCount_pmcLoad x k n hm, fun h => ?seed, fun h => ?clear⟩
  case ctrl => exact pmcWrite_becomes hv (pmc_block c (o := 0) (by decide)).1 (pmc_block c (o := 0) (by decide)).2 rfl h (pmcWrite_ctrl y c v)
  case latch =>
    obtain ⟨hl, hu⟩ := counter_block c n (o := 4) (by decide)
    refine laneBecomes_of rfl ((if_pos h).trans ?_)
    show regReadEff { y with rdval := regVal x lo } lo = _
    unfold regReadEff
    rw [regVal_pmc x hl hu (counter_row c n), counter_latches c n]
    rfl
  case high =>
    obtain ⟨hl, hu⟩ := counter_block c n (o := 8) (by decide)
    refine pmcWrite_becomes hv hl hu rfl h ((pmcWrite_counterHi y c n v).trans ?_)
    simp only [getBits]
    rfl
  case low =>
    obtain ⟨hl, hu⟩ := counter_block c n (o := 4) (by decide)
    exact pmcWrite_becomes hv hl hu rfl h (pmcWrite_counterLo y c n v)
  case seed =>
    have hb : 0x0D0000 ≤ Rg.PMC_SEEDc (b2n c) ∧ Rg.PMC_SEEDc (b2n c) < 0x0D2000 := by cases c <;> decide
    exact pmcWrite_becomes hv hb.1 hb.2 rfl h (pmcWrite_seed y c v)
  case clear =>
    have hb : 0x0D0000 ≤ Rg.PMC_SCTRLc (b2n c) ∧ Rg.PMC_SCTRLc (b2n c) < 0x0D2000 := by cases c <;> decide
    exact pmcWrite_becomes hv hb.1 hb.2 rfl h (pmcWrite_clear y c)

end Sys2Proof.Machine

/-! SUPPORT. Fields of a register apart from one another, regions of a table, folds that keep a part of what they go over, and commands to the lanes that vote. -/

namespace Sys2Proof.Machine

/-! Bit fields. -/

/-- The value of a word with a field replaced. -/
theorem putBits_toNat (w : Word) {hi lo : Nat} (v : Nat) (h : lo ≤ hi) (h2 : hi < 32) :
    (putBits w hi lo v).toNat = w.toNat % 2 ^ lo + v % 2 ^ (hi + 1 - lo) * 2 ^ lo + w.toNat / 2 ^ (hi + 1) * 2 ^ (hi + 1) := by
  have hp : 2 ^ lo * 2 ^ (hi + 1 - lo) = 2 ^ (hi + 1) := by rw [← Nat.pow_add]; congr 1; omega
  have h32 : 2 ^ (hi + 1) * 2 ^ (32 - (hi + 1)) = 2 ^ 32 := by rw [← Nat.pow_add]; congr 1; omega
  have hlow : w.toNat % 2 ^ lo + v % 2 ^ (hi + 1 - lo) * 2 ^ lo < 2 ^ (hi + 1) := by
    have hx : w.toNat % 2 ^ lo < 2 ^ lo := Nat.mod_lt _ (by positivity)
    have hy : v % 2 ^ (hi + 1 - lo) + 1 ≤ 2 ^ (hi + 1 - lo) := Nat.mod_lt _ (by positivity)
    calc _ < (v % 2 ^ (hi + 1 - lo) + 1) * 2 ^ lo := by rw [Nat.add_mul]; omega
      _ ≤ 2 ^ (hi + 1 - lo) * 2 ^ lo := Nat.mul_le_mul_right _ hy
      _ = 2 ^ (hi + 1) := by rw [Nat.mul_comm, hp]
  have hhigh : w.toNat / 2 ^ (hi + 1) + 1 ≤ 2 ^ (32 - (hi + 1)) := by
    refine (Nat.div_lt_iff_lt_mul (by positivity)).2 ?_
    rw [Nat.mul_comm, h32]
    exact w.isLt
  have hsum : w.toNat % 2 ^ lo + v % 2 ^ (hi + 1 - lo) * 2 ^ lo + w.toNat / 2 ^ (hi + 1) * 2 ^ (hi + 1) < 2 ^ 32 := by
    calc _ < (w.toNat / 2 ^ (hi + 1) + 1) * 2 ^ (hi + 1) := by rw [Nat.add_mul]; omega
      _ ≤ 2 ^ (32 - (hi + 1)) * 2 ^ (hi + 1) := Nat.mul_le_mul_right _ hhigh
      _ = 2 ^ 32 := by rw [Nat.mul_comm, h32]
  exact (BitVec.toNat_ofNat ..).trans (Nat.mod_eq_of_lt hsum)

/-- A field below the one written reads as before. -/
theorem getBits_putBits_below (w : Word) {hi lo hi' lo' : Nat} (v : Nat) (h : lo ≤ hi) (h2 : hi < 32) (h3 : hi' < lo) (h4 : lo' ≤ hi') :
    getBits (putBits w hi lo v) hi' lo' = getBits w hi' lo' := by
  have hmod : (putBits w hi lo v).toNat % 2 ^ lo = w.toNat % 2 ^ lo := by
    have hsplit : 2 ^ (hi + 1) = 2 ^ (hi + 1 - lo) * 2 ^ lo := by rw [← Nat.pow_add]; congr 1; omega
    rw [putBits_toNat w v h h2, hsplit, ← Nat.mul_assoc, Nat.add_mul_mod_self_right, Nat.add_mul_mod_self_right, Nat.mod_mod]
  have hdvd : 2 ^ lo' * 2 ^ (hi' + 1 - lo') ∣ 2 ^ lo := by
    rw [← Nat.pow_add]
    exact Nat.pow_dvd_pow 2 (by omega)
  unfold getBits
  rw [Nat.shiftRight_eq_div_pow, Nat.shiftRight_eq_div_pow, ← Nat.mod_mul_right_div_self, ← Nat.mod_mul_right_div_self (m := w.toNat),
    ← Nat.mod_mod_of_dvd _ hdvd, hmod, Nat.mod_mod_of_dvd _ hdvd]

/-- A field above the one written reads as before. -/
theorem getBits_putBits_above (w : Word) {hi lo hi' lo' : Nat} (v : Nat) (h : lo ≤ hi) (h2 : hi < 32) (h3 : hi < lo') :
    getBits (putBits w hi lo v) hi' lo' = getBits w hi' lo' := by
  have hlow : w.toNat % 2 ^ lo + v % 2 ^ (hi + 1 - lo) * 2 ^ lo < 2 ^ (hi + 1) := by
    have hp : 2 ^ lo * 2 ^ (hi + 1 - lo) = 2 ^ (hi + 1) := by rw [← Nat.pow_add]; congr 1; omega
    have hx : w.toNat % 2 ^ lo < 2 ^ lo := Nat.mod_lt _ (by positivity)
    have hy : v % 2 ^ (hi + 1 - lo) + 1 ≤ 2 ^ (hi + 1 - lo) := Nat.mod_lt _ (by positivity)
    calc _ < (v % 2 ^ (hi + 1 - lo) + 1) * 2 ^ lo := by rw [Nat.add_mul]; omega
      _ ≤ 2 ^ (hi + 1 - lo) * 2 ^ lo := Nat.mul_le_mul_right _ hy
      _ = 2 ^ (hi + 1) := by rw [Nat.mul_comm, hp]
  have hdiv : (putBits w hi lo v).toNat / 2 ^ (hi + 1) = w.toNat / 2 ^ (hi + 1) := by
    rw [putBits_toNat w v h h2, Nat.add_mul_div_right _ _ (by positivity), Nat.div_eq_of_lt hlow, Nat.zero_add]
  have hlo : 2 ^ lo' = 2 ^ (hi + 1) * 2 ^ (lo' - (hi + 1)) := by rw [← Nat.pow_add]; congr 1; omega
  unfold getBits
  rw [Nat.shiftRight_eq_div_pow, Nat.shiftRight_eq_div_pow, hlo, ← Nat.div_div_eq_div_mul, ← Nat.div_div_eq_div_mul, hdiv]

theorem fget_fset_below (l : LaneState) (a : Nat) {hi lo hi' lo' : Nat} (v : Nat) (h : lo ≤ hi) (h2 : hi < 32) (h3 : hi' < lo) (h4 : lo' ≤ hi') :
    fget (fset l a hi lo v) a hi' lo' = fget l a hi' lo' := by
  unfold fget fset
  rw [rget_rset_same, getBits_putBits_below _ _ h h2 h3 h4]

theorem fget_fset_above (l : LaneState) (a : Nat) {hi lo hi' lo' : Nat} (v : Nat) (h : lo ≤ hi) (h2 : hi < 32) (h3 : hi < lo') :
    fget (fset l a hi lo v) a hi' lo' = fget l a hi' lo' := by
  unfold fget fset
  rw [rget_rset_same, getBits_putBits_above _ _ h h2 h3]

theorem rget_fset_other (l : LaneState) (a b hi lo v : Nat) (h : b ≠ a) : rget (fset l a hi lo v) b = rget l b := rget_rset_other _ _ _ _ h

/-- A field depends on the registers alone. -/
theorem fget_congr {x y : LaneState} (hr : x.regs = y.regs) (hi : x.id = y.id) (a i j : Nat) : fget x a i j = fget y a i j := by
  unfold fget rget
  rw [hr, hi]

/-! Folds. -/

/-- A part that each step keeps is kept by the fold. -/
theorem foldl_keeps {α β γ : Type} (p : β → γ) {g : β → α → β} (hg : ∀ y a, p (g y a) = p y) (as : List α) (x : β) : p (as.foldl g x) = p x := by
  induction as generalizing x with
  | nil => rfl
  | cons a as ih => exact (ih _).trans (hg x a)

/-- Sorting neither adds nor drops. -/
theorem mem_insertBy {α : Type} (lt : α → α → Bool) (a b : α) (xs : List α) : b ∈ insertBy lt a xs ↔ b = a ∨ b ∈ xs := by
  induction xs with
  | nil => simp [insertBy]
  | cons x xs ih =>
    unfold insertBy
    split
    · simp
    · simp only [List.mem_cons, ih]
      tauto

theorem mem_sortBy {α : Type} (lt : α → α → Bool) (b : α) (xs : List α) : b ∈ sortBy lt xs ↔ b ∈ xs := by
  have key (xs o : List α) : b ∈ xs.foldl (fun o a => insertBy lt a o) o ↔ b ∈ xs ∨ b ∈ o := by
    induction xs generalizing o with
    | nil => simp
    | cons x xs ih =>
      rw [List.foldl_cons, ih, mem_insertBy, List.mem_cons]
      tauto
  exact (key xs []).trans (by simp)

/-! Regions of a table. -/

variable {α : Type}

theorem sget_filter_key (d : Nat → α) (p : Nat × α → Bool) (m : List (Nat × α)) {k : Nat} (h : ∀ e : Nat × α, e.1 = k → p e = true) :
    sget d (m.filter p) k = sget d m k := by
  induction m with
  | nil => rfl
  | cons e m ih =>
    by_cases he : e.1 = k
    · rw [List.filter_cons, h e he]
      simp [sget, he]
    · by_cases hp : p e = true
      · simp [hp, sget, he, ih]
      · simp [hp, sget, he, ih]

theorem sget_absent (d : Nat → α) {m : List (Nat × α)} {k : Nat} (h : ∀ e ∈ m, e.1 ≠ k) : sget d m k = d k := by
  induction m with
  | nil => rfl
  | cons e m ih => simp [sget, h e (by simp), ih (fun x hx => h x (by simp [hx]))]

theorem sget_append_left (d : Nat → α) {m q : List (Nat × α)} {k : Nat} (h : ∀ e ∈ q, e.1 ≠ k) : sget d (m ++ q) k = sget d m k := by
  induction m with
  | nil => exact sget_absent d h
  | cons e m ih => simp [sget, ih]

theorem sget_append_right (d : Nat → α) {m q : List (Nat × α)} {k : Nat} (h : ∀ e ∈ m, e.1 ≠ k) : sget d (m ++ q) k = sget d q k := by
  induction m with
  | nil => rfl
  | cons e m ih => simp [sget, h e (by simp), ih (fun x hx => h x (by simp [hx]))]

/-- A region replaced reads what replaces it inside, and as before outside. -/
theorem sget_setRegion (m t : List (Nat × Byte)) (a n k : Nat) :
    sget zByte (setRegion m a n t) k = if a ≤ k ∧ k < a + n then sget zByte t k else sget zByte m k := by
  unfold setRegion
  by_cases h1 : k < a
  · rw [if_neg (by omega), sget_append_left, sget_append_left, sget_filter_key]
    · simp; omega
    · intro e he
      have hk := (List.mem_filter.1 he).2
      simp [inRange] at hk
      omega
    · intro e he
      have hk := (List.mem_filter.1 he).2
      simp at hk
      omega
  by_cases h2 : k < a + n
  · rw [if_pos (by omega), sget_append_left, sget_append_right, sget_filter_key]
    · intro e he
      simp [inRange]
      omega
    · intro e he
      have hk := (List.mem_filter.1 he).2
      simp at hk
      omega
    · intro e he
      have hk := (List.mem_filter.1 he).2
      simp at hk
      omega
  · rw [if_neg (by omega), List.append_assoc, sget_append_right, sget_append_right, sget_filter_key]
    · simp; omega
    · intro e he
      have hk := (List.mem_filter.1 he).2
      simp [inRange] at hk
      omega
    · intro e he
      have hk := (List.mem_filter.1 he).2
      simp at hk
      omega

/-- A table whose keys are moved down. -/
theorem sget_shift (base k : Nat) (m : List (Nat × Byte)) (h : ∀ e ∈ m, base ≤ e.1) : sget zByte (m.map (fun e => (e.1 - base, e.2))) k = sget zByte m (base + k) := by
  induction m with
  | nil => rfl
  | cons e m ih =>
    have he := h e (by simp)
    have hk : e.1 - base = k ↔ e.1 = base + k := by omega
    simp only [List.map_cons, sget, hk, ih (fun x hx => h x (by simp [hx]))]

/-- A range copied reads its source inside, and as before outside. -/
theorem sget_copyRange (img t : List (Nat × Byte)) (base a n k : Nat) :
    sget zByte (copyRange img t base a n) k = if a ≤ k ∧ k < a + n then sget zByte t (base + k) else sget zByte img k := by
  unfold copyRange
  rw [sget_setRegion]
  by_cases h : a ≤ k ∧ k < a + n
  · rw [if_pos h, if_pos h, sget_shift, sget_filter_key]
    · intro e he
      simp [inRange]
      omega
    · intro e he
      have hk := (List.mem_filter.1 he).2
      simp [inRange] at hk
      omega
  · rw [if_neg h, if_neg h]

/-! Commands to Ringmaster and to the lanes that vote (06 R135). -/

/-- Ringmaster takes a command while it runs and bring-up is over. -/
theorem rmGate_up {s : State} (ha : s.rm.alive = true) (hb : s.bringup = false) (k : State → State) : s.rmGate k = .next (k s) := by
  unfold State.rmGate
  rw [ha, hb]
  rfl

/-- A command that Ringmaster takes does what it says. -/
theorem rmGate_exec {i : Instr} {s t : State} {k : State → State} (hx : exec i s = s.rmGate k) (ha : s.rm.alive = true) (hb : s.bringup = false) (hk : k s = t) :
    exec i s = .next t := by
  rw [hx, rmGate_up ha hb, hk]

/-- An effect in every lane, answered. -/
theorem lanesAnswer_of {i : Instr} {s : State} {st : CmdStatus} {f : LaneState → LaneState} (hx : exec i s = .next ((s.onLanes f).answer st)) : LanesAnswer i s st f := by
  obtain ⟨hl, hrm, hf, hp⟩ := State.onLanes_only s f
  refine ⟨_, hx, fun l => by rw [State.answer_lane]; exact hl l, ?_, rfl, hf, hp⟩
  unfold SameButReports at hrm ⊢
  simp only [State.answer]
  rw [hrm]

/-- An answer alone. -/
theorem lanesAnswer_none {i : Instr} {s : State} {st : CmdStatus} (hx : exec i s = .next (s.answer st)) : LanesAnswer i s st id :=
  ⟨_, hx, fun l => by rw [State.answer_lane]; exact sameButMail_refl _, rfl, rfl, rfl, rfl⟩

end Sys2Proof.Machine

/-! SUPPORT. The control cycle and its commands: what snapshot, agreement, commit, mode and force operations make of a lane, and the statements about them. -/

namespace Sys2Proof.Machine

/-! SNAPSHOT and AGREE (02 R41 to R43). -/

/-- With no operation waiting a snapshot starts none. -/
theorem State.runOps_none {s : State} (h : s.rm.ops = []) : s.runOps = s := by
  unfold State.runOps
  rw [h]
  split
  · rfl
  · exact congrArg (fun o => { s with rm := { s.rm with ops := o } }) h.symm

theorem State.onLane_ops (s : State) (l : Lane) (f : LaneState → LaneState) : (s.onLane l f).rm.ops = s.rm.ops := by
  have h : SameButReports s.rm (s.onLane l f).rm := (State.onLane_only s l f).1.2.1
  rw [h]

/-- T(n) depends on the registers alone. -/
theorem tOf_congr {x y : LaneState} (hr : x.regs = y.regs) (hi : x.id = y.id) (n : Nat) : tOf x n = tOf y n := by
  unfold tOf baseNs fget rget
  rw [hr, hi]

theorem tOf_showForced (x : LaneState) (n : Nat) : tOf (showForced x) n = tOf x n := by
  unfold tOf baseNs showForced bset
  rw [fget_fset_other _ _ _ _ _ _ _ _ (by decide)]

/-- The set a snapshot closes holds what is stamped at or before T(n), and keeps what is stamped after. -/
theorem snapshotLane_set (n : Nat) (x : LaneState) :
    (snapshotLane n x).exe.n = n ∧ (snapshotLane n x).exe.snapped = true ∧ (snapshotLane n x).agree.closed = none ∧ (snapshotLane n x).agree.applied = false
      ∧ ∃ o, (snapshotLane n x).agree.own = some o ∧ o.n = n ∧ (∀ i ∈ o.items, i.stamp ≤ tOf (snapshotLane n x) n) ∧ ∀ i ∈ o.held, tOf (snapshotLane n x) n < i.stamp := by
  unfold snapshotLane
  extract_lets l1 l2 l3 l4 l5 p l6 t set a ex br l7
  clear_value l6
  have ht : tOf (emit (showForced l7) (.set set)) n = tOf l6 n := by
    calc tOf (emit (showForced l7) (.set set)) n = tOf (showForced l7) n := tOf_congr rfl rfl n
      _ = tOf l7 n := tOf_showForced l7 n
      _ = tOf l6 n := tOf_congr rfl rfl n
  refine ⟨rfl, rfl, rfl, rfl, set, rfl, rfl, fun i hi => ?_, fun i hi => ?_⟩
  · rw [ht]
    exact of_decide_eq_true (List.mem_filter.1 ((mem_sortBy ..).1 hi)).2
  · rw [ht]
    exact of_decide_eq_true (List.mem_filter.1 ((mem_sortBy ..).1 hi)).2

/-- What agreement takes from another lane. -/
theorem heard_from {x : LaneState} {src : Lane} (hn : src ≠ x.id) (hs : sees x src = true) (hl : x.tri.linksDown.contains src = false) :
    ¬ (decide (src = x.id) || !sees x src || x.tri.linksDown.contains src) = true := by
  simp only [hn, hs, hl, decide_false, Bool.not_true, Bool.or_self, Bool.false_eq_true, not_false_iff]

/-- Closing by the case that applies. -/
theorem closeAgree_of {y : LaneState} {c : Notice} (hc : y.agree.closed = none) (hu : execUp y = true) (h : closeCase y = some c) :
    closeAgree y = emit { bset y Rg.CYC_STATUS 10 (c.caseNo == 3) with agree := { y.agree with closed := some c } } (.notice c) := by
  unfold closeAgree
  rw [hc, hu, h]
  rfl

theorem closeCase_two {x : LaneState} {o a : Lane × AgreeSet} (h : heldSets x = [o, a]) :
    (sameSet a.2 o.2 = true → closeCase x = some ⟨o.2.n, none, 2, [o.1, a.1]⟩)
      ∧ (sameSet a.2 o.2 = false → x.agree.waitOver = false → closeCase x = none)
      ∧ (sameSet a.2 o.2 = false → x.agree.waitOver = true → closeCase x = some ⟨o.2.n, (voters x).find? (fun y => y != o.1 && y != a.1), 3, [o.1, a.1]⟩) := by
  unfold closeCase
  rw [h]
  refine ⟨fun hs => ?_, fun hs hw => ?_, fun hs hw => ?_⟩
  · simp [hs]
  · simp [hs, hw]
  · simp [hs, hw]

theorem closeCase_one {x : LaneState} {o : Lane × AgreeSet} (h : heldSets x = [o]) : closeCase x = none := by
  unfold closeCase
  rw [h]
  rfl

theorem closeCase_three {x : LaneState} {o a b : Lane × AgreeSet} (h : heldSets x = [o, a, b]) : closeCase x = some ⟨o.2.n, none, 1, [o.1, a.1, b.1]⟩ := by
  unfold closeCase
  rw [h]
  rfl

/-- Settles O23: the boundary of a snapshot, what is held of other lanes, and the closing case by the sets held. -/
theorem snapshotAndAgreement : Obligations.SnapshotAndAgreement := by
  unfold Obligations.SnapshotAndAgreement
  intro s l src n st nt x z w closes
  refine ⟨fun hu hn ho => ?snapshot, snapshotLane_set n x, fun hn hs hl => ⟨?set, ?notice⟩, fun hu hc => ⟨fun c h => ?close, fun c h => ?expiry⟩, fun o a => closeCase_two,
    fun o => closeCase_one, fun o a b => closeCase_three, fun hc ha hu => ?apply⟩
  case snapshot =>
    have hpass : ¬ (!execUp x || (x.exe.snapped && decide (n = x.exe.n))) = true := by
      rw [hu]
      simpa using hn
    have hx : exec (.snapshot l n) s = .next (s.onLane l (snapshotLane n)) :=
      (if_neg hpass).trans (congrArg Host.Outcome.next (State.runOps_none ((State.onLane_ops s l _).trans ho)))
    exact laneBecomes_of hx rfl
  case set => exact laneBecomes_of rfl (if_neg (by simpa using heard_from hn hs hl))
  case notice => exact laneBecomes_of rfl (if_neg (by simpa using heard_from hn hs hl))
  case close => exact laneBecomes_of rfl (closeAgree_of hc hu h)
  case expiry => exact laneBecomes_of rfl (closeAgree_of hc hu h)
  case apply =>
    refine voterSettles_of rfl ?_
    show (match x.agree.closed with | some nt => _ | none => x) = _
    rw [hc]
    exact if_neg (by rw [ha, hu]; decide)

/-! COMMIT and the commit point (02 R44, R50, R52). -/

/-- Reads of a memory without errors are no event. -/
theorem execReads_clean {x : LaneState} (h : x.ecc.errs = [] ∧ x.ecc.poison = []) (areas : List (Nat × Nat)) : execReads x areas = (x, false) := by
  have hfold : areas.foldl (fun (p : LaneState × Bool) e => let q := eccRange p.1 e.1 e.2 5; (q.1, p.2 || q.2)) (x, false) = (x, false) := by
    induction areas with
    | nil => rfl
    | cons e areas ih =>
      rw [List.foldl_cons, eccRange_clean x _ _ _ h]
      exact ih
  unfold execReads
  rw [hfold]
  rfl

/-- What the lane makes of a commit depends on its state alone. -/
theorem State.onVote_congr {s : State} {l : Lane} {f g : LaneState → LaneState} (h : f (s.lane l) = g (s.lane l)) : s.onVote l f = s.onVote l g := by
  unfold State.onVote
  rw [h]

theorem pointResult_onTime {x : LaneState} {n : Nat} (h : migBehind x = false) : pointResult x n = .onTime ↔ modeOf x ≠ .run ∨ lateSlots x n = [] := by
  unfold pointResult
  rw [h]
  by_cases hc : decide (modeOf x ≠ .run) || decide (lateSlots x n = []) <;> simp_all
  · split <;> simp

/-- Reports counted by kind are the kinds counted. -/
theorem count_reports (rs : List (Lane × Nat × OvrKind)) (k : OvrKind) :
    (rs.filter (fun o => o.2.2 == k)).length = ((rs.map (·.2.2)).filter (· == k)).length := by
  rw [List.filter_map, List.length_map]
  rfl

/-- Two lanes that report an overrun abandon the cycle. -/
theorem decidePoint_overrun {x : LaneState} {k : Nat} (hm : modeOf x = .run) (hs : isSafe x = false) (ha : x.exe.abandoned ≠ some k)
    (hr : (x.exe.ovr.filter (fun o => o.2.1 == k && sees x o.1)).map (·.2.2) = [.overrun, .overrun]) : decidePoint x k = abandonCycle x k := by
  have ha' : (x.exe.abandoned == some k) = false := beq_eq_false_iff_ne.2 ha
  unfold decidePoint
  simp only [count_reports, hr, ha', hm, hs]
  rfl

/-! The committed image (02 R44 step 1). -/

/-- Whether a range of a write set covers a byte. -/
def coversByte (a : Nat) (w : Nat × Nat) : Bool := decide (w.1 ≤ a) && decide (a < w.1 + w.2)

/-- The write set of one instance: its bytes take their working values, others keep theirs. -/
theorem takeSet_reads (x : LaneState) (i : Instance) (a : Nat) (ws : List (Nat × Nat)) (img : List (Nat × Byte)) :
    sget zByte (ws.foldl (fun img w => if stopsTask x i then copyRange img x.cfg.stopImg 0 w.1 w.2 else copyRange img x.mem outBase w.1 w.2) img) a
      = if ws.any (coversByte a) then (if stopsTask x i then sget zByte x.cfg.stopImg a else sget zByte x.mem (outBase + a)) else sget zByte img a := by
  induction ws generalizing img with
  | nil => rfl
  | cons w ws ih =>
    have hcov : coversByte a w = decide (w.1 ≤ a ∧ a < w.1 + w.2) := by simp [coversByte]
    rw [List.foldl_cons, ih, List.any_cons, hcov]
    by_cases hw : w.1 ≤ a ∧ a < w.1 + w.2
    · cases hst : stopsTask x i <;> simp [sget_copyRange, hw]
    · rw [decide_eq_false hw, Bool.false_or]
      cases hst : stopsTask x i <;> simp only [Bool.false_eq_true, if_false, if_true, sget_copyRange, if_neg hw]

/-- Bytes that no instance may write keep their values. -/
theorem takeWrites_keeps (x : LaneState) {due : List Instance} {a : Nat} (h : ∀ i ∈ due, (wsetOf x i.slot).any (coversByte a) = false) (img : List (Nat × Byte)) :
    sget zByte (takeWrites x due img) a = sget zByte img a := by
  unfold takeWrites
  induction due generalizing img with
  | nil => rfl
  | cons i due ih =>
    rw [List.foldl_cons, ih (fun j hj => h j (by simp [hj])), takeSet_reads, h i (by simp)]
    rfl

/-- A byte that one instance may write takes its working value. -/
theorem takeWrites_takes (x : LaneState) {due : List Instance} {a : Nat} {i : Instance} (h : due.filter (fun j => (wsetOf x j.slot).any (coversByte a)) = [i])
    (hs : stopsTask x i = false) (img : List (Nat × Byte)) : sget zByte (takeWrites x due img) a = sget zByte x.mem (outBase + a) := by
  obtain ⟨before, after, hdue, -, hi, hafter⟩ := List.filter_eq_cons_iff.1 h
  have hlate (j : Instance) (hj : j ∈ after) : (wsetOf x j.slot).any (coversByte a) = false := by
    have hnone := List.filter_eq_nil_iff.1 hafter j hj
    simpa using hnone
  have hsplit : takeWrites x due img = takeWrites x after (takeWrites x [i] (takeWrites x before img)) := by
    unfold takeWrites
    rw [hdue, List.foldl_append]
    rfl
  rw [hsplit, takeWrites_keeps x hlate]
  unfold takeWrites
  rw [List.foldl_cons, List.foldl_nil, takeSet_reads, hi, hs]
  rfl

/-- Settles O24: the command's checks pass in turn; two reported overruns abandon; a program's byte by who may write it. -/
theorem commitAndCommitPoint : Obligations.CommitAndCommitPoint := by
  unfold Obligations.CommitAndCommitPoint
  intro s l src n k ns r x m due covers p late heard done
  refine ⟨fun ho hr hb he hp => ?commit, fun hu hs ho => ?point, fun hn hs hv ho => ?report, pointResult_onTime, decidePoint_overrun, fun hm hp hg a => ⟨fun h => ?keeps, fun i h hst => ?takes⟩⟩
  case commit =>
    have hvote (f : LaneState → LaneState) (hf : f x = pairSend (s.sends l 8) n (commitLane n x)) : s.onVote l f = done := State.onVote_congr hf
    show execCommit l s = _
    unfold execCommit
    dsimp only
    rw [hvote _ (by rw [ho]; dsimp only; rw [hr, hb, execReads_clean ⟨he, hp⟩]; simp only [Bool.not_true, Bool.false_eq_true, if_false])]
  case point =>
    refine laneBecomes_of rfl ?_
    refine (if_neg ?_).trans ?_
    · show ¬ (!execUp x || isSafe x || x.exe.ovr.any (fun o => o.1 == x.id && o.2.1 == m)) = true
      rw [hu, hs, ho]
      decide
    · rfl
  case report =>
    refine laneBecomes_of rfl (if_neg ?_)
    have hsrc : decide (src = x.id) = false := decide_eq_false hn
    have hm : decide (m ≠ x.exe.n) = false := decide_eq_false (fun h => h rfl)
    show ¬ (decide (src = x.id) || !sees x src || !votes x || decide (m ≠ x.exe.n) || x.exe.ovr.any (fun o => o.1 == src && o.2.1 == m)) = true
    rw [hsrc, hs, hv, hm, ho]
    decide
  case keeps =>
    have himg : progImage x due = takeWrites x due x.exe.outProg := by
      unfold progImage
      rw [hp, hg, hm]
      rfl
    rw [himg]
    exact takeWrites_keeps x (fun i hi => eq_false_of_ne_true (List.any_eq_false.1 h i hi)) _
  case takes =>
    have himg : progImage x due = takeWrites x due x.exe.outProg := by
      unfold progImage
      rw [hp, hg, hm]
      rfl
    rw [himg]
    exact takeWrites_takes x h hst _

end Sys2Proof.Machine

/-! SUPPORT. Mode commands and force operations: what they make of a lane, and the two statements about them. -/

namespace Sys2Proof.Machine

/-! Modes. -/

/-- The mode is a field of CYC_STATUS. -/
theorem modeOf_eq {x y : LaneState} (h : fget x Rg.CYC_STATUS 5 4 = fget y Rg.CYC_STATUS 5 4) : modeOf x = modeOf y := by
  unfold modeOf
  rw [h]

theorem modeOf_setMode (x : LaneState) (m : Mode) : modeOf (setMode x m) = m := by
  unfold modeOf setMode
  cases m <;> rw [fget_fset_same _ _ _ _ _ (by decide) (by decide) (by decide)] <;> rfl

/-- Cancelling a mailbox reaches the registers of its controller alone. -/
theorem canCancel_rget (x : LaneState) (k m : Nat) {a : Nat} (h : a < 0x090000) : rget (canCancel x k m) a = rget x a := by
  have hset (y : LaneState) (b : CanMb) : rget (setMb y k m b) a = rget y a := rget_fset_other _ _ _ _ _ _ (by unfold Rg.CAN_TXPEND; omega)
  unfold canCancel
  dsimp only
  split
  · rfl
  · split
    · exact hset x _
    · exact (rget_fset_other _ _ _ _ _ _ (by unfold Rg.CAN_MBmSTAT; omega)).trans (hset x _)

theorem canCancelVital_rget (x : LaneState) {a : Nat} (h : a < 0x090000) : rget (canCancelVital x) a = rget x a :=
  foldl_keeps (rget · a) (fun y k => foldl_keeps (rget · a) (fun z m => canCancel_rget z k m h) _ y) _ x

theorem updRun_rget (x : LaneState) (f : Instance → Instance) (a : Nat) : rget (updRun x f) a = rget x a := by
  unfold updRun
  split <;> rfl

/-- Setting the running task aside leaves the mode. -/
theorem modeOf_saveRun (x : LaneState) : modeOf (saveRun x) = modeOf x := by
  refine modeOf_eq ?_
  unfold saveRun
  rw [fget_fset_below _ _ _ (by decide) (by decide) (by decide) (by decide)]
  unfold fget
  exact congrArg (getBits · 5 4) (updRun_rget ..)

theorem modeOf_canCancelVital (x : LaneState) : modeOf (canCancelVital x) = modeOf x := by
  refine modeOf_eq ?_
  unfold fget
  rw [canCancelVital_rget x (by decide)]

theorem modeOf_congr {x y : LaneState} (hr : x.regs = y.regs) (hi : x.id = y.id) : modeOf x = modeOf y := modeOf_eq (fget_congr hr hi ..)

theorem modeOf_enterRun (x : LaneState) : modeOf (enterRun x) = .run := by
  calc modeOf (enterRun x) = modeOf (bset (setMode x .run) Rg.SYS_STATUS 7 false) := modeOf_congr rfl rfl
    _ = modeOf (setMode x .run) := modeOf_eq (fget_fset_other _ _ _ _ _ _ _ _ (by decide))
    _ = .run := modeOf_setMode x .run

theorem modeOf_withExe (x : LaneState) (e : ExecState) : modeOf { x with exe := e } = modeOf x := modeOf_congr rfl rfl

/-- A mode entered with mailboxes cancelled and the running task set aside. -/
theorem modeOf_entered (x : LaneState) (m : Mode) (e : ExecState) : modeOf (saveRun { canCancelVital (setMode x m) with exe := e }) = m := by
  rw [modeOf_saveRun, modeOf_withExe, modeOf_canCancelVital, modeOf_setMode]

theorem modeOf_enterStop (x : LaneState) : modeOf (enterStop x) = .stop := by
  unfold enterStop
  extract_lets l1 l2
  rw [modeOf_withExe]
  exact modeOf_entered x .stop _

theorem modeOf_enterHold (x : LaneState) (n : Nat) : modeOf (enterHold x n) = .hold := by
  unfold enterHold
  extract_lets l
  exact modeOf_entered x .hold _

/-- Setting the running task aside freezes and thaws nothing. -/
theorem saveRun_frozen {x : LaneState} (h : ∀ i ∈ x.exe.insts, i.frozen = true) : ∀ i ∈ (saveRun x).exe.insts, i.frozen = true := by
  intro i hi
  have hi' : i ∈ (updRun x (fun i => { i with ctx0 := x.c0.ctx, ctx1 := x.c1.ctx })).exe.insts := hi
  unfold updRun at hi'
  split at hi'
  · obtain ⟨j, hj, rfl⟩ := List.mem_map.1 hi'
    split
    · exact h j hj
    · exact h j hj
  · exact h i hi'

theorem enterHold_frozen (x : LaneState) (n : Nat) : ∀ i ∈ (enterHold x n).exe.insts, i.frozen = true := by
  unfold enterHold
  generalize canCancelVital (setMode x .hold) = y
  refine saveRun_frozen fun i hi => ?_
  obtain ⟨j, -, rfl⟩ := List.mem_map.1 hi
  rfl

/-! Mode commands (06 R135 to R142). -/

/-- Outside the safe state and a migration an operation sent in the window of a snapshot takes effect. -/
theorem State.sendOp_now {s : State} {o : RmOp} (hs : s.safe = false) (hm : s.migrating = false) (hw : s.atSnapshot = true) : s.sendOp o = s.applyOp o := by
  unfold State.sendOp State.turnsAway
  rw [hs, hm, hw]
  rfl

/-- Outside the window it waits. -/
theorem State.sendOp_waits {s : State} {o : RmOp} (hs : s.safe = false) (hm : s.migrating = false) (hw : s.atSnapshot = false) :
    s.sendOp o = { s with rm := { s.rm with ops := s.rm.ops ++ [o] } } := by
  unfold State.sendOp State.turnsAway
  rw [hs, hm, hw]
  rfl

/-- A mode command from a mode it leaves takes effect in every lane that votes. -/
theorem State.modeCmd_enters {s : State} {need : Bool} {src : CmdSrc} {goal : Mode} {from_ : List Mode} {f : LaneState → LaneState} (hs : s.safe = false)
    (ha : need = true → isMaintainer src = true) (hg : s.mode ≠ goal) (hh : goal = .run → s.heldInStop = false) (hf : from_.contains s.mode = true) :
    s.modeCmd need src goal from_ f = (s.onLanes (whereVotes f)).answer .ok := by
  have hauth : (need && !isMaintainer src) = false := by
    cases need with
    | false => rfl
    | true => rw [ha rfl]; rfl
  have hheld : (decide (goal = .run) && s.heldInStop) = false := by
    by_cases hr : goal = .run
    · rw [hh hr, Bool.and_false]
    · rw [decide_eq_false hr, Bool.false_and]
  unfold State.modeCmd
  rw [hs, hauth, if_neg hg, hheld, hf]
  rfl

/-- Without MAINTAINER level a command that needs it is answered AUTH. -/
theorem State.modeCmd_auth {s : State} {src : CmdSrc} {goal : Mode} {from_ : List Mode} {f : LaneState → LaneState} (hs : s.safe = false) (ha : isMaintainer src = false) :
    s.modeCmd true src goal from_ f = s.answer .auth := by
  unfold State.modeCmd
  rw [hs, ha]
  rfl

theorem serviceOnly_local {s : State} {src : CmdSrc} (h : src.backbone = false) (o : RmOp) : s.serviceOnly src o = s.sendOp o := by
  unfold State.serviceOnly
  rw [h]
  rfl

theorem isMaintainer_local {src : CmdSrc} (h : isMaintainer src = true) : src.backbone = false := by
  unfold isMaintainer at h
  simp_all

/-- Settles O25: in the window each command enters its mode or answers why not, and outside it waits. -/
theorem modeCommands : Obligations.ModeCommands := by
  unfold Obligations.ModeCommands
  intro s src w x quiet waits stopped
  refine ⟨fun hq hw hm hh => ⟨?warm, ?cold, fun hr => ?auto⟩, fun hq hw hm => ?stop, fun hq hw hs => ⟨fun hm => ?hold, fun hm hh => ?resume⟩, fun hq hw hb hs => ⟨?holdAuth, ?resumeAuth⟩,
    fun hq hw hm => ?limit, fun hq => ⟨fun hw => ?warmWaits, fun hw => ?coldWaits, fun hw => ?stopWaits, fun hb => ⟨fun hw => ?holdWaits, fun hw => ?resumeWaits⟩, fun hm hw => ?limitWaits⟩,
    fun ha hb hs => ?safe, ⟨modeOf_enterRun x, modeOf_enterStop x, modeOf_enterHold x 0, rfl, rfl, enterHold_frozen x 0⟩⟩
  all_goals try obtain ⟨ha, hb, hsafe, hmig⟩ := hq
  case warm =>
    refine lanesAnswer_of (rmGate_exec (k := fun s => s.sendOp (.runWarm false src)) rfl ha hb ?_)
    rw [State.sendOp_now hsafe hmig hw]
    exact State.modeCmd_enters hsafe (fun h => nomatch h) (by rw [hm]; decide) (fun _ => hh) (by rw [hm]; decide)
  case cold =>
    refine lanesAnswer_of (rmGate_exec (k := fun s => s.sendOp (.runCold src)) rfl ha hb ?_)
    rw [State.sendOp_now hsafe hmig hw]
    exact State.modeCmd_enters hsafe (fun h => nomatch h) (by rw [hm]; decide) (fun _ => hh) (by rw [hm]; decide)
  case auto =>
    refine lanesAnswer_of (congrArg Host.Outcome.next ((if_pos hr).trans ?_))
    rw [State.sendOp_now hsafe hmig hw]
    exact State.modeCmd_enters hsafe (fun h => nomatch h) (by rw [hm]; decide) (fun _ => hh) (by rw [hm]; decide)
  case stop =>
    refine lanesAnswer_of (rmGate_exec (k := fun s => s.sendOp (.stop false src)) rfl ha hb ?_)
    rw [State.sendOp_now hsafe hmig hw]
    refine State.modeCmd_enters hsafe (fun h => nomatch h) ?_ (fun h => nomatch h) ?_
    · obtain hm | hm := hm <;> rw [hm] <;> decide
    · obtain hm | hm := hm <;> rw [hm] <;> decide
  case hold =>
    refine lanesAnswer_of (rmGate_exec (k := fun s => s.serviceOnly src (.hold src)) rfl ha hb ?_)
    rw [serviceOnly_local (isMaintainer_local hs), State.sendOp_now hsafe hmig hw]
    exact State.modeCmd_enters hsafe (fun _ => hs) (by rw [hm]; decide) (fun h => nomatch h) (by rw [hm]; decide)
  case resume =>
    refine lanesAnswer_of (rmGate_exec (k := fun s => s.serviceOnly src (.resume src)) rfl ha hb ?_)
    rw [serviceOnly_local (isMaintainer_local hs), State.sendOp_now hsafe hmig hw]
    exact State.modeCmd_enters hsafe (fun _ => hs) (by rw [hm]; decide) (fun _ => hh) (by rw [hm]; decide)
  case holdAuth =>
    refine lanesAnswer_none (rmGate_exec (k := fun s => s.serviceOnly src (.hold src)) rfl ha hb ?_)
    rename_i hlocal
    rw [serviceOnly_local hlocal, State.sendOp_now hsafe hmig hw]
    exact State.modeCmd_auth hsafe hs
  case resumeAuth =>
    refine lanesAnswer_none (rmGate_exec (k := fun s => s.serviceOnly src (.resume src)) rfl ha hb ?_)
    rename_i hlocal
    rw [serviceOnly_local hlocal, State.sendOp_now hsafe hmig hw]
    exact State.modeCmd_auth hsafe hs
  case limit =>
    refine lanesAnswer_of (congrArg Host.Outcome.next ((if_pos hm).trans ?_))
    rw [State.sendOp_now hsafe hmig hw]
    exact State.modeCmd_enters hsafe (fun h => nomatch h) (by rw [hm]; decide) (fun h => nomatch h) (by rw [hm]; decide)
  case warmWaits => exact rmGate_exec (k := fun s => s.sendOp (.runWarm false src)) rfl ha hb (State.sendOp_waits hsafe hmig hw)
  case coldWaits => exact rmGate_exec (k := fun s => s.sendOp (.runCold src)) rfl ha hb (State.sendOp_waits hsafe hmig hw)
  case stopWaits => exact rmGate_exec (k := fun s => s.sendOp (.stop false src)) rfl ha hb (State.sendOp_waits hsafe hmig hw)
  case holdWaits =>
    rename_i hlocal
    exact rmGate_exec (k := fun s => s.serviceOnly src (.hold src)) rfl ha hb ((serviceOnly_local hlocal _).trans (State.sendOp_waits hsafe hmig hw))
  case resumeWaits =>
    rename_i hlocal
    exact rmGate_exec (k := fun s => s.serviceOnly src (.resume src)) rfl ha hb ((serviceOnly_local hlocal _).trans (State.sendOp_waits hsafe hmig hw))
  case limitWaits => exact congrArg Host.Outcome.next ((if_pos hm).trans (State.sendOp_waits hsafe hmig hw))
  case safe =>
    refine lanesAnswer_none (rmGate_exec (k := fun s => s.sendOp (.runWarm false src)) rfl ha hb ?_)
    unfold State.sendOp State.turnsAway
    rw [hs]
    rfl

/-! Forces and breakpoints (06 R140, R143 to R145). -/

/-- In the window of a snapshot a local force operation takes effect in every lane that votes. -/
theorem forceCmd_now {s : State} {src : CmdSrc} {o : RmOp} (hs : s.safe = false) (hm : s.migrating = false) (hw : s.atSnapshot = true) (hb : src.backbone = false) :
    s.forceCmd src o = s.applyOp o := by
  unfold State.forceCmd
  rw [State.sendOp_now hs hm hw]
  unfold State.turnsAway
  rw [hs, hm, hb]
  rfl

/-- A force operation that is not applied leaves the table. -/
theorem applyForce_refused {src : CmdSrc} {t : DWord} {o : ForceOp} {y : LaneState} (h : forceStatusOf y src t o ≠ 0) : (applyForce src t o y).forces = y.forces := by
  unfold applyForce
  dsimp only
  rw [if_pos h]

theorem raised_forces {β : Type} (g : β → Nat) (code : Nat) (es : List β) (x : LaneState) : (es.foldl (fun l e => raiseV l code (g e)) x).forces = x.forces :=
  foldl_keeps LaneState.forces (g := fun l e => raiseV l code (g e)) (fun _ _ => rfl) es x

theorem applyForce_clear {src : CmdSrc} {t sym : DWord} {y : LaneState} (h : forceStatusOf y src t (.clear sym) = 0) :
    (applyForce src t (.clear sym) y).forces = y.forces.filter (fun f => f.2.f.sym != sym) := by
  unfold applyForce
  dsimp only
  rw [if_neg (by simp [h])]
  rfl

theorem applyForce_clearAll {src : CmdSrc} {t : DWord} {y : LaneState} (h : forceStatusOf y src t .clearAll = 0) : (applyForce src t .clearAll y).forces = [] := by
  unfold applyForce
  dsimp only
  rw [if_neg (by simp [h])]
  exact raised_forces (fun e : Nat × ForceEnt => e.2.f.sym.toNat % 2 ^ 32) _ _ _

theorem applyForce_set {src : CmdSrc} {t : DWord} {e : ForceFields} {y : LaneState} (h : forceStatusOf y src t (.set e) = 0) (hn : y.forces.any (fun f => sameKey f.2.f e) = false) :
    (applyForce src t (.set e) y).forces = sins (freeForce y) ⟨e, forceSafety y e, expiryAt y (forceSafety y e) y.exe.n⟩ y.forces := by
  unfold applyForce
  dsimp only
  rw [if_neg (by simp [h]), if_neg (by simp [hn])]
  rfl

theorem expireForces_forces (y : LaneState) (n : Nat) : (expireForces y n).forces = y.forces.filter (fun f => !(f.2.expiry != 0 && f.2.expiry ≤ n)) :=
  raised_forces (fun e : Nat × ForceEnt => e.2.f.sym.toNat % 2 ^ 32) _ _ _

/-- Settles O26: a force operation reaches the lanes that vote and there its table as its status says; breakpoints are armed in them and hit in one. -/
theorem forcesAndBreakpoints : Obligations.ForcesAndBreakpoints := by
  unfold Obligations.ForcesAndBreakpoints
  intro s l src t sym e addr i y o x quiet
  refine ⟨fun ⟨ha, hb, hs, hm, hw, hl⟩ => ⟨?set, ?clear, ?clearAll⟩, applyForce_refused, applyForce_clear, applyForce_clearAll, applyForce_set, fun h => laneBecomes_of rfl (if_pos h),
    expireForces_forces y, fun ha hb => lanesBecome_of (rmGate_exec (k := fun s => s.inVoting (fun l => { l with exe := { l.exe with breaks := addNew l.exe.breaks [addr] } })) rfl ha hb rfl), fun hi hc hr => ?hit⟩
  case set => exact lanesBecome_of (rmGate_exec (k := fun s => s.forceCmd src (.forceSet src t e)) rfl ha hb (forceCmd_now hs hm hw hl))
  case clear => exact lanesBecome_of (rmGate_exec (k := fun s => s.forceCmd src (.forceClear src t sym)) rfl ha hb (forceCmd_now hs hm hw hl))
  case clearAll => exact lanesBecome_of (rmGate_exec (k := fun s => s.forceCmd src (.clearAll src t)) rfl ha hb (forceCmd_now hs hm hw hl))
  case hit =>
    refine laneBecomes_of rfl (if_pos ?_)
    unfold atBreak
    rw [hi]
    dsimp only
    rw [hc, hr]
    rfl

end Sys2Proof.Machine

/-! SUPPORT. The auxiliary core and debug, the voter's records, and what a release and a takeover rest on: the four statements about them. -/

namespace Sys2Proof.Machine

/-! The auxiliary core and debug (03 R90; 08 R188 to R193). -/

/-- An auxiliary core with code boots at its entry. -/
theorem auxBoot_of {x : LaneState} {a : AppImage} (hs : isSplit x = true) (ha : x.aux = some a) :
    auxBoot x = fset { x with c1 := { x.c1 with ctx := { ip := BitVec.ofNat 40 (a.loadAddr + a.auxEntry) }, halted := false, dbgHalted := false } } Rg.TRP_AUX_STATUS 1 0 1 := by
  unfold auxBoot
  rw [ha]
  exact if_pos hs

theorem attachReason_locked {x : LaneState} {src : CmdSrc} {aux solo : Bool} (h : bget x Rg.TRP_MODE 1 = false) : attachReason x src aux solo = 1 :=
  if_pos (by rw [h]; rfl)

theorem attachReason_level {x : LaneState} {src : CmdSrc} {aux solo : Bool} (h : bget x Rg.TRP_MODE 1 = true) (hm : isMaintainer src = false) : attachReason x src aux solo = 2 :=
  (if_neg (by rw [h]; decide)).trans (if_pos (by rw [hm]; rfl))

/-- Settles O27: each command's conditions decide its branch. -/
theorem splitCoreAndDebug : Obligations.SplitCoreAndDebug := by
  unfold Obligations.SplitCoreAndDebug
  intro s l src k aux solo a w i m x boots can halts r up
  refine ⟨fun ⟨hp, hv, hs, ha⟩ h1 => ?start, fun ⟨hp, hv, hs, ha⟩ hrm h2 => ?restart, fun h0 hh => ?timeout, fun ⟨ha, hb⟩ hr => ?refused, fun ⟨ha, hb⟩ hr => ?pending,
    attachReason_locked, attachReason_level, fun hpend hmig => ?attachAux, fun hpend hmig hv hs => ?attachVital,
    fun hat => ⟨?halt, ?go, fun h1 => ?detachAux, fun h1 => ?detachVital, fun hh h1 hr => ?stepAux, fun hh h1 hr => ?stepVital, fun hd hm => ?inject⟩⟩
  case start =>
    refine laneBecomes_of rfl ((if_pos ?_).trans (auxBoot_of hs ha))
    show (decide (phaseOf x = 4) && votes x && fget x Rg.TRP_AUX_STATUS 1 0 != 1) = true
    rw [decide_eq_true hp, hv]
    simpa using h1
  case restart =>
    refine laneBecomes_of rfl ((if_pos ?_).trans (congrArg (finc · Rg.TRP_AUX_STATUS 15 8 1) (auxBoot_of hs ha)))
    show (s.rm.alive && decide (phaseOf x = 4) && votes x && isSplit x && fget x Rg.TRP_AUX_STATUS 1 0 == 2) = true
    rw [hrm, decide_eq_true hp, hv, hs, h2]
    rfl
  case timeout =>
    refine voterSettles_of rfl (if_neg ?_)
    show ¬ (decide (fget x Rg.TRP_STATUS 1 0 ≠ 0) || x.c0.halted) = true
    rw [hh, h0]
    decide
  case refused =>
    exact laneBecomes_of (rmGate_exec (k := fun s => s.onLane l (fun x => if attachReason x src aux solo ≠ 0 then attachRefused x (attachReason x src aux solo)
      else fset { x with dbg := { x.dbg with pend := some (aux, solo) } } Rg.TRP_DBG_STATUS 7 2 0)) rfl ha hb rfl) (if_pos hr)
  case pending =>
    exact laneBecomes_of (rmGate_exec (k := fun s => s.onLane l (fun x => if attachReason x src aux solo ≠ 0 then attachRefused x (attachReason x src aux solo)
      else fset { x with dbg := { x.dbg with pend := some (aux, solo) } } Rg.TRP_DBG_STATUS 7 2 0)) rfl ha hb rfl) (if_neg (fun h => h hr))
  case attachAux =>
    have hx : exec (.debugAttachEffect l) s
        = .next (s.onLane l (fun x => bset (bset { x with dbg := { pend := none, core1 := true } } Rg.TRP_STATUS 7 true) Rg.TRP_DBG_STATUS 0 true)) := by
      show execDebugAttachEffect l s = _
      have hpend' : (s.lane l).dbg.pend = some (true, solo) := hpend
      have hmig' : (s.lane l).exe.mig = none := hmig
      simp only [execDebugAttachEffect, hpend', hmig', Option.isSome_none, Bool.false_eq_true, if_false, if_true]
    exact laneBecomes_of hx rfl
  case attachVital =>
    show execDebugAttachEffect l s = _
    have hpend' : (s.lane l).dbg.pend = some (false, solo) := hpend
    have hmig' : (s.lane l).exe.mig = none := hmig
    have hv' : votes (s.lane l) = true := hv
    have hpeers : (!solo && decide (((voters (s.lane l)).filter (· != l)).length < 2)) = false := by
      obtain rfl | h2 := hs
      · rfl
      · have h2' : 2 ≤ ((voters (s.lane l)).filter (· != l)).length := h2
        rw [decide_eq_false (by omega), Bool.and_false]
    simp only [execDebugAttachEffect, hpend', hmig', hv', hpeers, Option.isSome_none, Bool.false_eq_true, if_false, Bool.not_true]
  case halt => exact laneBecomes_of rfl (if_pos hat)
  case go => exact laneBecomes_of rfl (if_pos hat)
  case detachAux =>
    have hx : exec (.debugDetach l) s = .next (s.onLane l (fun x => bset (bset (setDbgHalt x false) Rg.TRP_DBG_STATUS 0 false) Rg.TRP_STATUS 7 false)) :=
      (if_neg (by rw [show attached (s.lane l) = true from hat]; decide)).trans (if_pos h1)
    exact laneBecomes_of hx rfl
  case detachVital =>
    exact (if_neg (by rw [show attached (s.lane l) = true from hat]; decide)).trans (if_neg (by rw [show (s.lane l).dbg.core1 = false from h1]; decide))
  case stepAux =>
    have hat' : attached (s.lane l) = true := hat
    have hh' : bget (s.lane l) Rg.TRP_DBG_STATUS 1 = true := hh
    have h1' : (s.lane l).dbg.core1 = true := h1
    have hr' : auxRuns (s.lane l) = true := hr
    show execDebugStep l s = _
    simp only [execDebugStep, hat', hh', h1', hr', Bool.not_true, Bool.or_self, Bool.false_eq_true, if_false, if_true]
    rfl
  case stepVital =>
    have hat' : attached (s.lane l) = true := hat
    have hh' : bget (s.lane l) Rg.TRP_DBG_STATUS 1 = true := hh
    have h1' : (s.lane l).dbg.core1 = false := h1
    have hr' : vitalRuns (s.lane l) = true := hr
    have hx : exec (.debugStep l) s = .next (s.onVote l (vitalStep (fetched x).1 (fetched x).2 false)) := by
      show execDebugStep l s = _
      simp only [execDebugStep, hat', hh', h1', hr', Bool.not_true, Bool.or_self, Bool.false_eq_true, if_false, if_true]
      rfl
    exact voterSettles_of hx rfl
  case inject =>
    refine laneBecomes_of rfl ((if_neg (by rw [show attached (s.lane l) = true from hat]; decide)).trans ?_)
    have hd' : decodeJfi { lane := l, core1 := (s.lane l).dbg.core1 } w = some i := hd
    rw [hd']
    dsimp only
    rw [hm]

/-! The voter's records (09 R197 to R206). -/

/-- Settles O28: a record in order has its effect, one out of order has none. -/
theorem votingRecords : Obligations.VotingRecords := by
  unfold Obligations.VotingRecords
  intro s l r x n v cause told verdicts
  exact ⟨fun h => voterSettles_of rfl (if_pos h), fun h => voterSettles_of rfl (if_pos h), fun h => voterSettles_of rfl (if_pos h), fun h => laneBecomes_of rfl (if_pos h),
    fun h => voterSettles_of rfl (if_pos h), fun h => voterSettles_of rfl (if_pos h), fun h => voterSettles_of rfl (if_pos h),
    fun h => voterSettles_of rfl (if_neg (ne_true_of_eq_false h))⟩

/-! Releases (09 R198, R201). -/

/-- The record that two digests agree on has a partner from another lane. -/
theorem twoEqual_pair {ds : List DigRec} {d : DigRec} (h : twoEqual ds = some d) : ∃ c ∈ ds, d ∈ ds ∧ c.sender ≠ d.sender ∧ c.digest = d.digest ∧ c.cycle = d.cycle := by
  induction ds with
  | nil => cases h
  | cons c ds ih =>
    unfold twoEqual at h
    split at h
    · rename_i e he
      obtain rfl := Option.some.inj h
      have heq := List.find?_some he
      simp only [Bool.and_eq_true, beq_iff_eq, bne_iff_ne] at heq
      obtain ⟨⟨hdig, hcyc⟩, hsend⟩ := heq
      exact ⟨c, by simp, List.mem_cons_of_mem _ (List.mem_of_find?_eq_some he), fun hs => hsend hs.symm, hdig.symm, hcyc.symm⟩
    · obtain ⟨b, hb, hd, hrest⟩ := ih h
      exact ⟨b, List.mem_cons_of_mem _ hb, List.mem_cons_of_mem _ hd, hrest⟩

/-- A digest held is from a lane that votes. -/
theorem digsFor_sees {x : LaneState} {stream : Nat} {seq : Word} {d : DigRec} (h : d ∈ digsFor x stream seq) : sees x d.sender = true := by
  have hp := (List.mem_filter.1 h).2
  simp only [Bool.and_eq_true] at hp
  exact hp.2

/-- Settles O29: a release outside the solo run is of a digest that two lanes sent; without one only the safe state follows. -/
theorem releaseNeedsTwo : Obligations.ReleaseNeedsTwo := by
  unfold Obligations.ReleaseNeedsTwo
  intro x z stream seq hz hsolo
  unfold releaseOne at hz
  dsimp only at hz
  split at hz
  · cases hz
  rw [hsolo] at hz
  cases htwo : twoEqual (digsFor x stream seq) with
  | some d =>
    obtain ⟨c, hc, hd, hs, hdig, hcyc⟩ := twoEqual_pair htwo
    exact .inl ⟨c, hc, d, hd, hs, hdig, hcyc, digsFor_sees hc, digsFor_sees hd⟩
  | none =>
    rw [if_neg Bool.false_ne_true, htwo] at hz
    dsimp only at hz
    split at hz
    · cases hz
    split at hz
    · exact .inr (.inl (Option.some.inj hz).symm)
    split at hz
    · exact .inr (.inr (Option.some.inj hz).symm)
    · cases hz

/-! Takeover (09 R210). -/

/-- Lane A, voting without lane C and without the ports that fall to it, with a prefetched read held. -/
def takeoverLane : LaneState := { id := .a, regs := [(Rg.SYS_STATUS, 4), (Rg.TRI_STATUS, 0x30)], brg := { prefetch := [default] } }

/-- A module of that lane. -/
def takeoverModule : State := { la := takeoverLane, lb := { id := .b }, lc := { id := .c } }

/-- Refutes O30: lane A takes over port 7, the backplane bridge, from lane C; beyond its ports the command drops what the bridge prefetched and sends its writes and reads anew, so that the lane is not what `takePorts` alone makes of it. -/
theorem not_exclusionAndTimers : ¬ Obligations.ExclusionAndTimers := by
  unfold Obligations.ExclusionAndTimers
  intro h
  obtain ⟨-, -, -, -, ⟨t, ht, -, hsame⟩, -⟩ := h takeoverModule .a .b .b 0
  have hleft : t.la.brg.prefetch = [] := by
    obtain rfl := Host.Outcome.next.inj ht
    decide +kernel
  have hkept : t.la.brg.prefetch ≠ [] := by
    have hbrg : t.la.brg = (settleAll (takeoverModule.sends .a) (takePorts takeoverLane)).brg := by
      show (t.lane .a).brg = _
      rw [hsame.1]
      rfl
    rw [hbrg]
    decide +kernel
  exact hkept hleft

end Sys2Proof.Machine

/-! SUPPORT. Error correction and reintegration. The codes' fields (07 R161 to R163): doubling is linear, a product passes doublings on, and few doublings lead back to
where they start; from this a single wrong symbol is found. Then the facts of a lane's shown state and of block copies (09 R218 to R224). -/

namespace Sys2Proof.Machine

section FieldCodes

/-- What the computations with a code's field rest on. -/
structure FieldCode (c : RsCode) : Prop where
  pos : 0 < c.bits
  low : 2 ^ c.bits ≤ c.poly
  high : c.poly < 2 ^ (c.bits + 1)
  reduces : ∀ a < 2 ^ c.bits, (gfDouble c)^[c.bits] a = gfMul c a c.poly
  apart : ∀ e < 2 ^ c.bits, 0 < e → 0 < gfDouble c e ∧ e ∉ List.iterate (gfDouble c) (gfDouble c e) (c.n - 1)

theorem fieldCode_sram : FieldCode codeSram := ⟨by decide, by decide, by decide, by decide +kernel, by decide +kernel⟩

theorem fieldCode_dram : FieldCode codeDram := ⟨by decide, by decide, by decide, by decide +kernel, by decide +kernel⟩

theorem testBit_of_high {a n : Nat} (h : a < 2 ^ (n + 1)) : a.testBit n = decide (2 ^ n ≤ a) := by
  by_cases hl : 2 ^ n ≤ a
  · have hq : a / 2 ^ n = 1 := Nat.div_eq_of_lt_le (by omega) (by rw [Nat.pow_succ] at h; omega)
    simp [Nat.testBit_eq_decide_div_mod_eq, hq, hl]
  · rw [Nat.testBit_lt_two_pow (by omega), decide_eq_false hl]

theorem double_xor (a b : Nat) : 2 * (a ^^^ b) = 2 * a ^^^ 2 * b := by
  have hs := Nat.shiftLeft_xor_distrib (a := a) (b := b) (i := 1)
  simpa [Nat.shiftLeft_eq, Nat.mul_comm] using hs

theorem select_xor (p q : Bool) (w : Nat) : (if (p ^^ q) = true then w else 0) = (if p = true then w else 0) ^^^ (if q = true then w else 0) := by
  cases p <;> cases q <;> simp

variable {c : RsCode}

/-- Doubling shifts, and reduces when the top bit leaves the symbol. -/
theorem gfDouble_eq {a : Nat} (h : a < 2 ^ c.bits) : gfDouble c a = 2 * a ^^^ (if (2 * a).testBit c.bits = true then c.poly else 0) := by
  unfold gfDouble
  rw [testBit_of_high (by rw [Nat.pow_succ]; omega)]
  by_cases ht : 2 ^ c.bits ≤ 2 * a <;> simp [ht]

theorem gfDouble_lt (hc : FieldCode c) {a : Nat} (h : a < 2 ^ c.bits) : gfDouble c a < 2 ^ c.bits := by
  have h2 : 2 * a < 2 ^ (c.bits + 1) := by rw [Nat.pow_succ]; omega
  unfold gfDouble
  split
  · rename_i hl
    have hx : 2 * a ^^^ c.poly < 2 ^ (c.bits + 1) := Nat.xor_lt_two_pow h2 hc.high
    have hb : (2 * a ^^^ c.poly).testBit c.bits = false := by
      rw [Nat.testBit_xor, testBit_of_high h2, testBit_of_high hc.high, decide_eq_true hl, decide_eq_true hc.low]
      rfl
    rw [testBit_of_high hx, decide_eq_false_iff_not] at hb
    omega
  · omega

theorem gfDouble_xor {a b : Nat} (ha : a < 2 ^ c.bits) (hb : b < 2 ^ c.bits) : gfDouble c (a ^^^ b) = gfDouble c a ^^^ gfDouble c b := by
  rw [gfDouble_eq ha, gfDouble_eq hb, gfDouble_eq (Nat.xor_lt_two_pow ha hb), double_xor, Nat.testBit_xor, select_xor]
  simp only [Nat.xor_assoc, Nat.xor_left_comm]

theorem gfDouble_zero : gfDouble c 0 = 0 := if_neg (by simp)

theorem gfMulFrom_lt (hc : FieldCode c) (k : Nat) {a : Nat} (b : Nat) (h : a < 2 ^ c.bits) : gfMulFrom c k a b < 2 ^ c.bits := by
  induction k generalizing a b with
  | zero => exact Nat.two_pow_pos _
  | succ k ih =>
    refine Nat.xor_lt_two_pow ?_ (ih _ (gfDouble_lt hc h))
    split
    · exact h
    · exact Nat.two_pow_pos _

/-- A product passes on the doubling of its first factor. -/
theorem gfMulFrom_double (hc : FieldCode c) (k : Nat) {a : Nat} (b : Nat) (h : a < 2 ^ c.bits) : gfMulFrom c k (gfDouble c a) b = gfDouble c (gfMulFrom c k a b) := by
  induction k generalizing a b with
  | zero => exact gfDouble_zero.symm
  | succ k ih =>
    unfold gfMulFrom
    rw [ih _ (gfDouble_lt hc h), gfDouble_xor _ (gfMulFrom_lt hc k _ (gfDouble_lt hc h))]
    · split <;> simp [gfDouble_zero]
    · split
      · exact h
      · exact Nat.two_pow_pos _

/-- A product is linear in its second factor. -/
theorem gfMulFrom_xor (k a b d : Nat) : gfMulFrom c k a (b ^^^ d) = gfMulFrom c k a b ^^^ gfMulFrom c k a d := by
  induction k generalizing a b d with
  | zero => exact (Nat.xor_self 0).symm
  | succ k ih =>
    have hbit (n : Nat) : (n % 2 = 1) = (n.testBit 0 = true) := by simp [Nat.testBit_zero]
    have hdiv : (b ^^^ d) / 2 = b / 2 ^^^ d / 2 := Nat.xor_div_two
    unfold gfMulFrom
    simp only [hbit, hdiv, ih, Nat.testBit_xor, select_xor]
    simp only [Nat.xor_assoc, Nat.xor_left_comm]

theorem gfMulFrom_zero (k a : Nat) : gfMulFrom c k a 0 = 0 := by
  have h0 := gfMulFrom_xor (c := c) k a 0 0
  simpa using h0

/-- A product with the last bit of the second factor taken apart. -/
theorem gfMulFrom_succ (k a b : Nat) : gfMulFrom c (k + 1) a b = gfMulFrom c k a b ^^^ (if b.testBit k = true then (gfDouble c)^[k] a else 0) := by
  induction k generalizing a b with
  | zero => simp [gfMulFrom, Nat.testBit_zero]
  | succ k ih =>
    rw [gfMulFrom, ih, gfMulFrom, Function.iterate_succ_apply, Nat.testBit_succ, Nat.xor_assoc]

/-- A product passes on the doubling of its second factor. -/
theorem gfMul_double (hc : FieldCode c) {a b : Nat} (ha : a < 2 ^ c.bits) (hb : b < 2 ^ c.bits) : gfMul c a (gfDouble c b) = gfDouble c (gfMul c a b) := by
  obtain ⟨k, hk⟩ : ∃ k, c.bits = k + 1 := ⟨c.bits - 1, by have := hc.pos; omega⟩
  have hshift : gfMulFrom c c.bits a (2 * b) = gfMulFrom c k (gfDouble c a) b := by
    rw [hk, gfMulFrom]
    simp
  have htop : (2 * b).testBit c.bits = b.testBit k := by rw [hk, Nat.testBit_succ]; simp
  have hlast : gfDouble c (gfMul c a b) = gfMulFrom c k (gfDouble c a) b ^^^ (if b.testBit k = true then gfMul c a c.poly else 0) := by
    have hred : gfMul c a c.poly = (gfDouble c)^[k] (gfDouble c a) := by
      rw [← hc.reduces a ha, hk, Function.iterate_succ_apply]
    rw [hred, ← gfMulFrom_succ, ← hk]
    exact (gfMulFrom_double hc c.bits b ha).symm
  rw [hlast, gfDouble_eq hb, gfMul, gfMulFrom_xor, hshift, htop]
  split
  · rfl
  · rw [gfMulFrom_zero]

/-- So doubled any number of times. -/
theorem iterate_double_lt (hc : FieldCode c) {e : Nat} (he : e < 2 ^ c.bits) (i : Nat) : (gfDouble c)^[i] e < 2 ^ c.bits := by
  induction i with
  | zero => exact he
  | succ i ih => rw [Function.iterate_succ_apply']; exact gfDouble_lt hc ih

theorem iterate_double_pos (hc : FieldCode c) {e : Nat} (hp : 0 < e) (he : e < 2 ^ c.bits) (i : Nat) : 0 < (gfDouble c)^[i] e := by
  induction i with
  | zero => exact hp
  | succ i ih => rw [Function.iterate_succ_apply']; exact (hc.apart _ (iterate_double_lt hc he i) ih).1

theorem gfMul_one (hc : FieldCode c) (a : Nat) : gfMul c a 1 = a := by
  obtain ⟨k, hk⟩ : ∃ k, c.bits = k + 1 := ⟨c.bits - 1, by have := hc.pos; omega⟩
  rw [gfMul, hk, gfMulFrom, gfMulFrom_zero]
  simp

theorem gfMul_iterate_left (hc : FieldCode c) {a : Nat} (b : Nat) (ha : a < 2 ^ c.bits) (i : Nat) : gfMul c ((gfDouble c)^[i] a) b = (gfDouble c)^[i] (gfMul c a b) := by
  induction i with
  | zero => rfl
  | succ i ih => rw [Function.iterate_succ_apply', Function.iterate_succ_apply', ← ih]; exact gfMulFrom_double hc _ b (iterate_double_lt hc ha i)

theorem gfMul_iterate_right (hc : FieldCode c) {a b : Nat} (ha : a < 2 ^ c.bits) (hb : b < 2 ^ c.bits) (i : Nat) :
    gfMul c a ((gfDouble c)^[i] b) = (gfDouble c)^[i] (gfMul c a b) := by
  induction i with
  | zero => rfl
  | succ i ih => rw [Function.iterate_succ_apply', Function.iterate_succ_apply', ← ih]; exact gfMul_double hc ha (iterate_double_lt hc hb i)

theorem gfPow_iterate (i : Nat) : gfPow c i = (gfDouble c)^[i] 1 := by
  induction i with
  | zero => rfl
  | succ i ih => rw [Function.iterate_succ_apply', ← ih]; rfl

/-- The product with a power of the generator is that many doublings. -/
theorem gfMul_pow (hc : FieldCode c) {e : Nat} (he : e < 2 ^ c.bits) (i : Nat) : gfMul c e (gfPow c i) = (gfDouble c)^[i] e := by
  rw [gfPow_iterate, gfMul_iterate_right hc he (Nat.one_lt_two_pow hc.pos.ne'), gfMul_one hc]

/-- The syndromes of one wrong symbol. -/
theorem syndrome_single (hc : FieldCode c) {e : Nat} (he : e < 2 ^ c.bits) (j i : Nat) : syndrome c [(j, e)] i = (gfDouble c)^[i * j] e := by
  simp only [syndrome, List.foldl_cons, List.foldl_nil, Nat.zero_xor, gfMul_pow hc he]

/-- Two places of a codeword do not give one syndrome. -/
theorem iterate_double_ne (hc : FieldCode c) {e i j : Nat} (hp : 0 < e) (he : e < 2 ^ c.bits) (hij : i < j) (hj : j < c.n) :
    (gfDouble c)^[i] e ≠ (gfDouble c)^[j] e := by
  intro h
  have hfar := (hc.apart _ (iterate_double_lt hc he i) (iterate_double_pos hc hp he i)).2
  refine hfar (List.mem_iterate.2 ⟨j - i - 1, by omega, ?_⟩)
  rw [← Function.iterate_succ_apply, ← Function.iterate_add_apply, show (j - i - 1).succ + i = j by omega]
  exact h

/-- One wrong symbol is found and its error with it. -/
theorem eccDecode_single (hc : FieldCode c) {e j : Nat} (hj : j < c.n) (hp : 0 < e) (he : e < 2 ^ c.bits) : eccDecode c [(j, e)] = .corrected j e := by
  have hpos (i : Nat) : (gfDouble c)^[i] e ≠ 0 := (iterate_double_pos hc hp he i).ne'
  have hsquare : gfMul c ((gfDouble c)^[j] e) ((gfDouble c)^[j] e) = gfMul c e ((gfDouble c)^[2 * j] e) := by
    rw [gfMul_iterate_left hc _ he, gfMul_iterate_right hc he he, gfMul_iterate_right hc he he, two_mul, Function.iterate_add_apply]
  have hplace : (List.range c.n).find? (fun i => gfMul c e (gfPow c i) == (gfDouble c)^[j] e) = some j := by
    rw [List.find?_range_eq_some]
    refine ⟨by simp [gfMul_pow hc he], by simp [hj], fun i hi => ?_⟩
    simpa [gfMul_pow hc he] using iterate_double_ne hc hp he hi hj
  simp only [eccDecode, syndrome_single hc he, Nat.zero_mul, Nat.one_mul, Function.iterate_zero, id_eq, hpos, hp.ne', hsquare, hplace, ne_eq, not_false_eq_true, and_self,
    if_false, if_true]

end FieldCodes

/-- A clean codeword is left as it is. -/
theorem scrubCw_clean {x : LaneState} (he : x.ecc.errs = []) (hp : x.ecc.poison = []) (cw : Nat) : scrubCw x cw = x := by
  simp [scrubCw, eccTouch, he, hp]

theorem guardWrite_allowed {x : LaneState} {ag : Agent} {a : Nat} {f : LaneState → LaneState} (h : mayWrite x ag a = true) : guardWrite x ag a f = f { x with berr := false } :=
  if_pos h

theorem memEccInj_row : (regRow Rg.MEM_ECC_INJ).map (·.acc) = some .rws := by decide +kernel

theorem injOk_berr (x : LaneState) (b : Bool) (v : Word) : injOk { x with berr := b } v = injOk x v := rfl

/-- An injection whose fields agree is written in STOP as its mask says. -/
theorem injWrite_ok {x : LaneState} {v : Word} (hm : modeOf x = .stop) (hi : injOk x v = true) :
    injWrite x v = rset x Rg.MEM_ECC_INJ (maskWord (((regRow Rg.MEM_ECC_INJ).map (·.wmask)).getD 0) (rget x Rg.MEM_ECC_INJ) v) := by
  obtain ⟨r, hr, hk⟩ := Option.map_eq_some_iff.1 memEccInj_row
  have hno : (v.getLsbD 31 && !injOk x v) = false := by rw [hi]; simp
  rw [injWrite, hno, if_neg Bool.false_ne_true, plainWrite_rws hr hk, if_pos hm, hr]
  rfl

/-- Settles O32: the code fields' algebra gives the correction of every single symbol, the other clauses are the guards of the scrubber and of the injection. -/
theorem memoryErrors : Obligations.MemoryErrors := by
  unfold Obligations.MemoryErrors
  intro s l ag dram v x i
  refine ⟨?_, ?_, ?_, ?_, ?_⟩
  · intro c hc j hj e hp he
    have hf : FieldCode c := by
      rcases List.mem_pair.1 hc with rfl | rfl
      · exact fieldCode_sram
      · exact fieldCode_dram
    exact eccDecode_single hf hj hp he
  · intro hs hph hg hd
    refine laneBecomes_of rfl (if_neg ?_)
    have hnot : ¬ phaseOf (s.lane l) < 4 := Nat.not_lt.2 hph
    have hs' : (s.lane l).pwr.supply = true := hs
    have hg' : (s.lane l).pwr.gated.contains 0xB = false := hg
    rw [hs', hg', decide_eq_false hnot]
    cases dram
    · exact Bool.false_ne_true
    · have hd' : bget (s.lane l) Rg.MEM_STATUS 3 = false := hd rfl
      rw [hd']
      exact Bool.false_ne_true
  · intro he hp hd hi
    subst hd
    have hne : fget x Rg.MEM_SCRUB_POS_SRAM 20 0 + 1 ≠ 1114112 := Nat.ne_of_lt hi
    simp only [scrubStep, Bool.false_eq_true, if_false, scrubCw_clean he hp, hne, i]
  · intro hu
    exact laneBecomes_of rfl (if_pos hu)
  · intro hw hm hi
    refine laneBecomes_of rfl ((guardWrite_allowed hw).trans ?_)
    exact injWrite_ok ((modeOf_congr rfl rfl).trans hm) ((injOk_berr ..).trans hi)

theorem setLaneState_shows (z : LaneState) (l : Lane) {st : Nat} (h : st < 8) : fget (setLaneState z l st) (Rg.TRI_LANEL_STAT (laneNo l)) 2 0 = st := by
  have hne : Rg.TRI_LANEL_STAT (laneNo l) ≠ Rg.TRI_STATUS := by cases l <;> decide
  dsimp only [setLaneState]
  split
  · rw [fget_fset_other _ _ _ _ _ _ _ _ hne, fget_fset_same _ _ _ _ _ (by decide) (by decide) h]
  · rw [fget_fset_same _ _ _ _ _ (by decide) (by decide) h]

theorem setLaneState_tri (z : LaneState) (l : Lane) (st : Nat) : (setLaneState z l st).tri = z.tri := by
  dsimp only [setLaneState]
  split <;> rfl

/-- The module after lane `y` has sent block `b` to the joiner `l` (09 R220). -/
def blockSent (s : State) (y l : Lane) (b : Nat) (done : Bool) : State :=
  let d := mrd (s.lane y) (256 * b) 256
  let t := s.onLane y (fun _ => noteSent (emit (s.lane y) (.block l b d)) b)
  t.setLane l (takeBlock y b d done (t.lane l))

theorem blockSent_sender (s : State) {y l : Lane} (b : Nat) (done : Bool) (h : y ≠ l) :
    SameButMail (noteSent (emit (s.lane y) (.block l b (mrd (s.lane y) (256 * b) 256))) b) ((blockSent s y l b done).lane y) := by
  dsimp only [blockSent]
  rw [State.setLane_other _ _ _ _ h]
  exact (State.onLane_only s y _).2

theorem takeBlock_inbox (y : Lane) (b : Nat) (d : Bytes) (done : Bool) (z : LaneState) :
    (takeBlock y b d done z).reint.inbox = z.reint.inbox.filter (fun e => !(e.1 == y && e.2.1 == b)) ++ [(y, b, d)] := by
  dsimp only [takeBlock]
  split <;> rfl

theorem blockSent_joiner (s : State) {y l : Lane} (b : Nat) (done : Bool) (h : y ≠ l) :
    ((blockSent s y l b done).lane l).reint.inbox = (s.lane l).reint.inbox.filter (fun e => !(e.1 == y && e.2.1 == b)) ++ [(y, b, mrd (s.lane y) (256 * b) 256)] := by
  obtain ⟨hlanes, -⟩ := (State.onLane_only s y (fun _ => noteSent (emit (s.lane y) (.block l b (mrd (s.lane y) (256 * b) 256))) b)).1
  have hin := congrArg (fun z => z.reint.inbox) (hlanes l h.symm).1
  dsimp only [blockSent]
  rw [State.setLane_same, takeBlock_inbox, hin]

/-- What CLEAR_FAILED does to a lane's record of `l` (09 R224). -/
def clearFailedIn (l : Lane) (y : LaneState) : LaneState :=
  if fget y (Rg.TRI_LANEL_STAT (laneNo l)) 2 0 == 5 then
    fset (setLaneState { y with tri := { y.tri with hardT := y.tri.hardT.filter (fun h => h.1 != l) } } l 1) (Rg.TRI_LANEL_STAT (laneNo l)) 11 8 0
  else y

theorem clearFailedIn_failed {l : Lane} {y : LaneState} (h : fget y (Rg.TRI_LANEL_STAT (laneNo l)) 2 0 = 5) :
    (clearFailedIn l y).tri.hardT = y.tri.hardT.filter (fun h => h.1 != l) ∧ fget (clearFailedIn l y) (Rg.TRI_LANEL_STAT (laneNo l)) 11 8 = 0 := by
  rw [clearFailedIn, if_pos (by rw [h]; rfl)]
  refine ⟨?_, fget_fset_same _ _ _ _ _ (by decide) (by decide) (by decide)⟩
  show (setLaneState _ l 1).tri.hardT = _
  rw [setLaneState_tri]

/-- A block settled reads back. -/
theorem mrd_settleBlock (x : LaneState) (b : Nat) (d : Bytes) : mrd (settleBlock x b d) (256 * b) d.length = d := by
  refine List.ext_getElem (by simp [mrd, sbytes]) (fun i hi _ => ?_)
  have hmem : (settleBlock x b d).mem = sput x.mem (256 * b) d := mwr_mem (dropCopies x b) (256 * b) d
  simp only [mrd, sbytes, hmem, List.getElem_map, List.getElem_range]
  exact sget_sput_inside _ _ _ _ _

/-- Two equal copies of one block are settled. -/
theorem reintBlockReceive_equal {s : State} {l : Lane} {b : Nat} {d : Bytes} (hj : isJoiner (s.lane l) = true) (h3 : 3 ≤ reintPhase (s.lane l)) (h5 : reintPhase (s.lane l) ≤ 5)
    (hin : (s.lane l).reint.inbox = [(.a, b, d), (.b, b, d)]) (hs : s.sources l = [.a, .b]) (ha : s.la.reint.dirty.contains b = false) (hb : s.lb.reint.dirty.contains b = false) :
    exec (.reintBlockReceive l) s = .next (s.setLane l (settleBlock (s.lane l) b d)) := by
  have hn : addNew [] [b, b] = [b] := by simp [addNew]
  have hst : [Lane.a, .b].any (fun y => (s.lane y).reint.dirty.contains b) = false := by simp only [List.any_cons, List.any_nil, State.lane, ha, hb, Bool.or_false]
  have hc : copiesOf (s.lane l) b = [d, d] := by simp [copiesOf, hin]
  have hg : (!isJoiner (s.lane l) || decide (reintPhase (s.lane l) < 3) || decide (5 < reintPhase (s.lane l))) = false := by
    rw [hj, decide_eq_false (by omega), decide_eq_false (by omega)]; rfl
  show execReintBlockReceive l s = _
  simp only [execReintBlockReceive, hg, Bool.false_eq_true, if_false, hin, List.map_cons, List.map_nil, hn, hs, hst, Bool.not_false, List.filter_cons_of_pos, List.filter_nil,
    List.find?_cons, hc, List.length_cons, List.length_nil, Nat.reduceAdd, BEq.rfl, if_true]

/-- Settles O31: each command under its guards, with what block copies and a lane's shown state keep. -/
theorem reintegration : Obligations.Reintegration := by
  unfold Obligations.Reintegration
  intro s l y ag src b d x up sends
  refine ⟨?_, ?_, ?_, ?_, ?_, ?_, ?_, ?_, ?_, ?_, ?_, ?_⟩
  · intro ht hm
    refine lanesBecome_of ?_
    have ht' : toStart (s.lane l) = true := ht
    show execReintSelftestComplete l false s = _
    simp [execReintSelftestComplete, ht', hm]
  · intro ht hm hj
    have ht' : toStart (s.lane l) = true := ht
    have hj' : ¬ (s.lane l).mer.joinOk < 3 := Nat.not_lt.2 hj
    have hx : ∃ u : State, exec (.reintSelftestComplete l true) s = .next (u.mapLanes (fun y => setLaneState y l 3)) := by
      show ∃ u : State, execReintSelftestComplete l true s = .next (u.mapLanes (fun y => setLaneState y l 3))
      simp only [execReintSelftestComplete, ht', hm, Bool.not_true, Bool.or_self, Bool.false_eq_true, if_false, hj']
      exact ⟨_, rfl⟩
    obtain ⟨u, hu⟩ := hx
    exact ⟨_, hu, fun z => by rw [State.mapLanes_lane]; exact setLaneState_shows _ _ (by decide)⟩
  · intro hj hp hm
    exact if_pos (by show (isJoiner (s.lane l) && reintPhase (s.lane l) == 2 && s.mayJoin l) = true; rw [hj, hp, hm]; rfl)
  · intro hm hf he hp hy
    have hm' : maySend (s.lane y) b = true := hm
    have hf' : fget (s.lane y) Rg.TRI_REINT_STATUS 7 6 = laneNo l := hf
    have hclean := eccRange_clean (s.lane y) (256 * b) 256 3 ⟨he, hp⟩
    have hx : ∃ done, exec (.reintBlockSend y l b) s = .next (blockSent s y l b done) := by
      show ∃ done, execReintBlockSend y l b s = .next (blockSent s y l b done)
      simp only [execReintBlockSend, hm', hf', hclean, Bool.not_true, bne_self_eq_false, Bool.or_self, Bool.false_eq_true, if_false]
      exact ⟨_, rfl⟩
    obtain ⟨done, hdone⟩ := hx
    exact ⟨_, hdone, blockSent_sender s b done hy, blockSent_joiner s b done hy⟩
  · exact reintBlockReceive_equal
  · intro hd
    have hr := mrd_settleBlock x b d
    rwa [hd] at hr
  · intro hj hp hn hm hz
    have hj' : isJoiner (s.lane l) = true := hj
    have hp' : reintPhase (s.lane l) = 4 := hp
    have hn' : (s.lane l).reint.passed = false := hn
    have hall : (s.sources l).all (fun y => reintPhase (s.lane y) == 4 && quietNext (s.lane y) && digested (s.lane y)
        && decide ((s.lane y).reint.dirty.length ≤ fget (s.lane l) Rg.TRI_CFG 29 16)) = true := by
      refine List.all_eq_true.2 (fun z hin => ?_)
      obtain ⟨h4, hq, hd, hlen⟩ := hz z hin
      rw [h4, hq, hd, decide_eq_true hlen]
      rfl
    show execReintCatchup l false s = _
    simp only [execReintCatchup, hj', hp', hn', hm, hall, bne_self_eq_false, Bool.not_true, Bool.not_false, Bool.or_self, Bool.false_eq_true, if_false, if_true]
  · intro hp hj
    exact if_pos (by show ((s.lane l).reint.passed && isJoiner (s.lane l)) = true; rw [hp, hj]; rfl)
  · intro hj hf hp hr
    exact if_pos (by show (isJoiner (s.lane l) && (s.lane l).reint.firstTry && !(s.lane l).reint.passed && reintPhase (s.lane l) == 4) = true; rw [hj, hf, hp, hr]; rfl)
  · intro hw h1 hc
    have hw' : mayWrite (s.lane l) ag Rg.TRI_REINT_CTRL = true := hw
    have hg : (fget (s.lane l) Rg.TRI_STATUS 2 0 == 1 && !bget (s.lane l) Rg.TRI_CFG 0) = true := by rw [h1, hc]; rfl
    show execReintStart ag l s = _
    simp only [execReintStart, hw', hg, Bool.not_true, Bool.false_eq_true, if_false, if_true]
    rfl
  · intro hup hs
    refine ⟨_, rmGate_exec (k := fun s => if !isMaintainer src then s.answer .auth else (s.mapLanes (clearFailedIn l)).answer .ok) rfl hup.1 hup.2 (if_neg (by rw [hs]; exact Bool.false_ne_true)), rfl, fun z h5 => ?_⟩
    rw [State.answer_lane, State.mapLanes_lane]
    exact clearFailedIn_failed h5
  · exact laneBecomes_of rfl rfl

end Sys2Proof.Machine

/-! SUPPORT. Meridian's clocks, servos and sources: the tick of a clock, what a common epoch leaves of lanes that agree, and the statement about them. -/

namespace Sys2Proof.Machine

theorem clampInt_mem (v : Int) {lo hi : Int} (h : lo ≤ hi) : lo ≤ clampInt lo hi v ∧ clampInt lo hi v ≤ hi := by
  unfold clampInt
  omega

theorem clockNs_clockSet (c : Clock) {t : Int} (h : 0 ≤ t) (h2 : t < 2 ^ 48 * 1000000000) : clockNs (clockSet c t) = t := by
  unfold clockNs clockSet
  dsimp only
  omega

/-- A clock in fixed point: nanoseconds, fraction and residue. -/
def clockFixed (c : Clock) : Int := clockNs c * 2 ^ 40 + (c.frac * 2 ^ 24 + c.resid : Nat)

/-- A tick moves the clock by 2 ns and twice its clamped rate (12 R267). -/
theorem clockTick_fixed {c : Clock} (hs : c.sec < 2 ^ 47) (hn : c.ns < 1000000000) (hf : c.frac < 2 ^ 16) (hr : c.resid < 2 ^ 24) :
    clockFixed (clockTick c) = clockFixed c + 2 ^ 41 + 2 * clampInt (-maxRate) maxRate c.rate := by
  obtain ⟨hlo, hhi⟩ := clampInt_mem c.rate (show (-maxRate : Int) ≤ maxRate by decide)
  generalize hq : clampInt (-maxRate) maxRate c.rate = q at hlo hhi
  have hmax : (maxRate : Int) = 109951163 := rfl
  have hns : clockNs c = (c.sec : Int) * 1000000000 + c.ns := rfl
  have hset (n : Int) : clockNs (clockTick c) = clockNs (clockSet c (clockNs c + ((c.frac * 2 ^ 24 + c.resid : Nat) + 2 ^ 41 + 2 * q) / 2 ^ 40)) := by
    unfold clockTick
    rw [hq]
    rfl
  unfold clockFixed
  rw [hset 0, clockNs_clockSet _ (by omega) (by omega)]
  unfold clockTick
  rw [hq]
  dsimp only
  omega

theorem servoPi_bounded (x : LaneState) (i th us : Int) :
    (-maxRate ≤ (servoPi x i th us).1 ∧ (servoPi x i th us).1 ≤ maxRate) ∧ (-maxRate ≤ (servoPi x i th us).2 ∧ (servoPi x i th us).2 ≤ maxRate) :=
  ⟨clampInt_mem _ (by decide), clampInt_mem _ (by decide)⟩

section CommonEpoch

/-! A common epoch (12 R278, R290). -/

/-- An effect on a lane whose Meridian instance runs. -/
def ifRunning (f : LaneState → LaneState) (x : LaneState) : LaneState := if x.mer.running then f x else x

/-- An effect that leaves the Meridian instance as it is leaves it so in every lane. -/
theorem epochShifts_mer {x : LaneState} (h : x.mer.cmds = []) : (epochShifts x).mer = x.mer := by
  have hx : epochShifts x = showPending { x with mer := { x.mer with cmds := [] } } := by
    unfold epochShifts
    rw [h]
    rfl
  rw [hx]
  show ({ x.mer with cmds := [] } : MerState) = x.mer
  rw [← h]

theorem dropReqs_mer {x : LaneState} (h : ∀ c, clkReq x c = none) : (dropReqs x).mer = x.mer := by
  have hw : x.mer.wreq = none := h .w
  have h0 : ({ x.mer.s0 with req := none } : Servo) = x.mer.s0 := by rw [← show x.mer.s0.req = none from h .d0]
  have h1 : ({ x.mer.s1 with req := none } : Servo) = x.mer.s1 := by rw [← show x.mer.s1.req = none from h .d1]
  show ({ x.mer with s0 := { x.mer.s0 with req := none }, s1 := { x.mer.s1 with req := none }, wreq := none } : MerState) = x.mer
  rw [h0, h1, ← hw]

/-- Every Meridian instance runs, the clocks agree and nothing is asked or commanded. -/
structure EpochCalm (s : State) (v : MerClk → Int) : Prop where
  runs : ∀ k, (s.lane k).mer.running = true
  reqs : ∀ k c, clkReq (s.lane k) c = none
  agree : ∀ k c, clkNs (s.lane k) c = v c

variable {s : State} {v : MerClk → Int}

theorem clkNs_congr {x y : LaneState} (hw : x.mer.w = y.mer.w) (h0 : x.mer.d0 = y.mer.d0) (h1 : x.mer.d1 = y.mer.d1) (c : MerClk) : clkNs x c = clkNs y c := by
  cases c <;> simp only [clkNs, wNow, hw, h0, h1]

theorem EpochCalm.running (h : EpochCalm s v) : s.merRunning = [.a, .b, .c] := by
  have hr (k : Lane) : (s.lane k).mer.running = true := h.runs k
  simp [State.merRunning, allLanes, hr]

theorem EpochCalm.wanted (h : EpochCalm s v) (c : MerClk) : s.wantedStep c = none := by
  simp [State.wantedStep, h.reqs]

theorem agreedStep_same (n : Int) : agreedStep [n, n, n] = n := by simp [agreedStep]

theorem EpochCalm.xcheck (h : EpochCalm s v) (c : MerClk) : s.xcheck c = s := by
  simp [State.xcheck, h.running, h.agree, agreedStep_same]

theorem EpochCalm.xpair (h : EpochCalm s v) : s.xpair = s := by
  simp only [State.xpair, h.running]

/-- A lane within tolerance counts one more check. -/
def joinCounted (x : LaneState) : LaneState := { x with mer := { x.mer with joinOk := min (x.mer.joinOk + 1) 3 } }

theorem EpochCalm.countOk (h : EpochCalm s v) : s.countOk = s.mapLanes joinCounted := by
  have ha (c : MerClk) : clkNs s.la c = v c := h.agree .a c
  have hb (c : MerClk) : clkNs s.lb c = v c := h.agree .b c
  have hc (c : MerClk) : clkNs s.lc c = v c := h.agree .c c
  simp only [State.countOk, h.running, List.map_cons, List.map_nil, List.foldl_cons, List.foldl_nil, State.lane, State.setLane, ha, hb, hc, agreedStep_same, sub_self,
    Int.natAbs_zero, Nat.zero_le, decide_true, allClks, List.all_cons, List.all_nil, Bool.and_self, if_true, State.mapLanes, joinCounted]

theorem ifRunning_runs {f : LaneState → LaneState} {x : LaneState} (h : x.mer.running = true) : ifRunning f x = f x := if_pos h

/-- A change of the lanes that leaves the clocks and what is asked keeps the calm. -/
theorem EpochCalm.mapLanes (h : EpochCalm s v) {f : LaneState → LaneState} (hr : ∀ k, (f (s.lane k)).mer.running = (s.lane k).mer.running)
    (hq : ∀ k c, clkReq (f (s.lane k)) c = clkReq (s.lane k) c) (hc : ∀ k c, clkNs (f (s.lane k)) c = clkNs (s.lane k) c) : EpochCalm (s.mapLanes f) v := by
  refine ⟨fun k => ?_, fun k c => ?_, fun k c => ?_⟩ <;> rw [State.mapLanes_lane]
  · rw [hr, h.runs]
  · rw [hq, h.reqs]
  · rw [hc, h.agree]

/-- The meaning of a check of calm lanes. -/
def epochChecked (x : LaneState) : LaneState := joinCounted (ifRunning dropReqs (ifRunning latchEpoch (ifRunning epochShifts x)))

theorem epochShifts_running {x : LaneState} (hr : x.mer.running = true) (he : x.mer.cmds = []) : (ifRunning epochShifts x).mer = x.mer := by
  rw [ifRunning_runs hr, epochShifts_mer he]

theorem EpochCalm.shifted (h : EpochCalm s v) (he : ∀ k, (s.lane k).mer.cmds = []) : EpochCalm (s.mapLanes (ifRunning epochShifts)) v := by
  have hmer (k : Lane) := epochShifts_running (h.runs k) (he k)
  exact h.mapLanes (fun k => by rw [hmer]) (fun k c => by cases c <;> simp only [clkReq, hmer]) (fun k c => clkNs_congr (by rw [hmer]) (by rw [hmer]) (by rw [hmer]) c)

theorem EpochCalm.latched (h : EpochCalm s v) : EpochCalm (s.mapLanes (ifRunning latchEpoch)) v := by
  have hx (k : Lane) := ifRunning_runs (f := latchEpoch) (h.runs k)
  exact h.mapLanes (fun k => by rw [hx]; rfl) (fun k c => by rw [hx]; cases c <;> rfl) (fun k c => by rw [hx]; cases c <;> rfl)

theorem EpochCalm.dropped (h : EpochCalm s v) : EpochCalm (s.mapLanes (ifRunning dropReqs)) v := by
  have hmer (k : Lane) : (ifRunning dropReqs (s.lane k)).mer = (s.lane k).mer := by rw [ifRunning_runs (h.runs k), dropReqs_mer (h.reqs k)]
  exact h.mapLanes (fun k => by rw [hmer]) (fun k c => by cases c <;> simp only [clkReq, hmer]) (fun k c => clkNs_congr (by rw [hmer]) (by rw [hmer]) (by rw [hmer]) c)

theorem EpochCalm.counted (h : EpochCalm s v) : EpochCalm (s.mapLanes joinCounted) v :=
  h.mapLanes (fun _ => rfl) (fun _ c => by cases c <;> rfl) (fun _ c => by cases c <;> rfl)

theorem checkEpoch_calm (hm : s.rm.alive = true) (h : EpochCalm s v) (he : ∀ k, (s.lane k).mer.cmds = []) :
    exec .checkEpoch s = .next (s.mapLanes epochChecked).takeReports := by
  have hl := (h.shifted he).latched
  have hd := hl.dropped
  have hwant : allClks.filterMap (fun c => ((((s.mapLanes (ifRunning epochShifts)).mapLanes (ifRunning latchEpoch)).wantedStep c).map (fun a => (c, a)))) = [] := by
    simp only [allClks, hl.wanted, Option.map_none, List.filterMap_cons_none, List.filterMap_nil]
  have hall : (allClks.foldl State.xcheck (State.countOk (((s.mapLanes (ifRunning epochShifts)).mapLanes (ifRunning latchEpoch)).mapLanes (ifRunning dropReqs)))).xpair
      = s.mapLanes epochChecked := by
    rw [hd.countOk]
    simp only [allClks, List.foldl_cons, List.foldl_nil, hd.counted.xcheck, hd.counted.xpair]
    rfl
  unfold ifRunning at hwant hall
  show execCheckEpoch s = _
  simp only [execCheckEpoch, hm, Bool.not_true, Bool.false_eq_true, if_false, hwant, List.foldl_nil, hall]

/-- What a check leaves of a calm lane's instance. -/
theorem epochChecked_mer {x : LaneState} (hr : x.mer.running = true) (he : x.mer.cmds = []) (hq : ∀ c, clkReq x c = none) :
    (epochChecked x).mer = { x.mer with epochs := (x.mer.ltime, wNow x, clkNs x .d0, clkNs x .d1) :: x.mer.epochs.take 2, joinOk := min (x.mer.joinOk + 1) 3 } := by
  have h1 := epochShifts_running hr he
  have h2 : (ifRunning latchEpoch (ifRunning epochShifts x)).mer = { x.mer with epochs := (x.mer.ltime, wNow x, clkNs x .d0, clkNs x .d1) :: x.mer.epochs.take 2 } := by
    rw [ifRunning_runs (by rw [h1, hr])]
    simp only [latchEpoch, wNow, clkNs, h1]
  have h3 : (ifRunning dropReqs (ifRunning latchEpoch (ifRunning epochShifts x))).mer = (ifRunning latchEpoch (ifRunning epochShifts x)).mer := by
    rw [ifRunning_runs (by rw [h2]; exact hr), dropReqs_mer (fun c => by
      have hc := hq c
      cases c <;> simpa only [clkReq, h2] using hc)]
  show ({ (ifRunning dropReqs (ifRunning latchEpoch (ifRunning epochShifts x))).mer with joinOk := _ } : MerState) = _
  rw [h3, h2]

end CommonEpoch

theorem adjNs_berr (x : LaneState) (b : Bool) : adjNs { x with berr := b } = adjNs x := rfl

theorem adjCtrlWrite_step (x : LaneState) (c : MerClk) : adjCtrlWrite x (BitVec.ofNat 32 (clkCode c + 0x110)) = commandShift x c (adjNs x) true := by
  cases c <;> rfl

theorem adjCtrlWrite_correction (x : LaneState) (c : MerClk) : adjCtrlWrite x (BitVec.ofNat 32 (clkCode c + 0x100)) = commandShift x c (adjNs x) false := by
  cases c <;> rfl

/-- Settles O33: each command under its guard, the tick in fixed point, and the common epoch of lanes that agree. -/
theorem clocksAndSources : Obligations.ClocksAndSources := by
  unfold Obligations.ClocksAndSources
  intro s l d clk c port delay rx seq x f p q heard timed shown y fixed
  refine ⟨?_, ?_, ?_, ?_, ?_, ?_, ?_, ?_, ?_, ?_, ?_, ?_, ?_, ?_, ?_⟩
  · exact clockTick_fixed
  · intro i th us
    obtain ⟨⟨hil, hih⟩, hrl, hrh⟩ := servoPi_bounded x i th us
    exact ⟨hil, hih, hrl, hrh⟩
  · intro h1 h3
    exact laneBecomes_of rfl (if_pos ⟨h1, h3⟩)
  · exact laneBecomes_of rfl rfl
  · exact laneBecomes_of rfl rfl
  · intro hp
    exact laneBecomes_of rfl (if_pos hp)
  · intro hw
    have hstep := (guardWrite_allowed (f := fun z => adjCtrlWrite z (BitVec.ofNat 32 (clkCode clk + 0x110))) hw).trans (adjCtrlWrite_step _ _)
    have hcorr := (guardWrite_allowed (f := fun z => adjCtrlWrite z (BitVec.ofNat 32 (clkCode clk + 0x100))) hw).trans (adjCtrlWrite_correction _ _)
    rw [adjNs_berr] at hstep hcorr
    exact ⟨laneBecomes_of rfl hstep, laneBecomes_of rfl hcorr⟩
  · intro a b h8 hc ha hb
    have hc' : (s.lane l).mer.gmCand = (a, b) := hc
    refine laneBecomes_of rfl ?_
    rw [if_neg (Nat.not_lt.2 h8), hc']
    have ha' : ¬ fget (s.lane l) (Rg.MER_Dd_STATUS 0) 13 8 = a.1 := ha
    have hb' : ¬ fget (setGm (s.lane l) 0 a) (Rg.MER_Dd_STATUS 1) 13 8 = b.1 := hb
    simp only [ha', hb', false_and, if_false]
    rfl
  · intro hne
    exact laneBecomes_of rfl (if_neg hne)
  · intro hc
    exact if_pos hc
  · intro hc hf h4 h3
    have h4' : domSt x (follow x - 1) = 4 := h4
    have h3' : domSt x (2 - follow x) = 3 := h3
    show nextSource x = 3 - follow x
    simp only [nextSource, if_neg hc, if_pos (show follow x = 1 ∨ follow x = 2 from hf), h4', h3', if_true]
    rfl
  · intro hd hf h3
    exact laneBecomes_of rfl (if_pos ⟨hd, hf, h3⟩)
  · intro hs hf
    refine laneBecomes_of rfl ?_
    have hf' : follow (s.lane l) = 1 ∨ follow (s.lane l) = 2 := hf
    rw [slewEnd, if_neg hs]
    simp only [if_pos hf']
    rfl
  · intro hm hk
    have hcalm : EpochCalm s (clkNs s.la) := ⟨fun k => (hk k).1, fun k m => (hk k).2.2.1 m, fun k m => (hk k).2.2.2 m⟩
    refine ⟨_, checkEpoch_calm hm hcalm (fun k => (hk k).2.1), fun k => ?_⟩
    have hmer : ((s.mapLanes epochChecked).takeReports.lane k).mer = (epochChecked (s.lane k)).mer := by
      rw [(State.takeReports_lane _ k).1, State.mapLanes_lane]
    rw [hmer, epochChecked_mer (hcalm.runs k) (hk k).2.1 (hcalm.reqs k)]
    exact ⟨rfl, rfl, rfl⟩
  · intro a b n hr ha hb hc
    have ha' : clkReq (s.lane .a) clk = some (a, n) := ha
    have hb' : clkReq (s.lane .b) clk = some (b, n) := hb
    have hc' : clkReq (s.lane .c) clk = none := hc
    have hrs : [Lane.a, .b, .c].filterMap (fun k => clkReq (s.lane k) clk) = [(a, n), (b, n)] := by
      simp only [List.filterMap_cons, List.filterMap_nil, ha', hb', hc']
    simp [State.wantedStep, hr, hrs, agreedStep]

end Sys2Proof.Machine

/-! SUPPORT. The compare units' control registers, and the statement about Meridian's inputs and outputs. -/

namespace Sys2Proof.Machine

theorem cmpUnit_ctrl {u : Nat} (hu : u < 16) : cmpUnit (Rg.MER_CMPu_CTRL u) = some u := by
  have ha : Rg.MER_CMPu_CTRL u = 0x050100 + 16 * u := rfl
  unfold cmpUnit
  rw [if_pos (by omega)]
  congr 1
  omega

/-- A permitted write of a compare unit's control register, by an agent other than a vital task. -/
theorem writeCmd_cmpCtrl {x : LaneState} {ag : Agent} {u : Nat} {v : Word} (hu : u < 16) (hv : ag ≠ .v) (h : writeOk x ag (Rg.MER_CMPu_CTRL u) = true) :
    writeCmd x ag (Rg.MER_CMPu_CTRL u) v = cmpCtrlWrite { x with berr := false } u v := by
  have ha : Rg.MER_CMPu_CTRL u = 0x050100 + 16 * u := rfl
  have hcvu : ¬ ((decide (0x0C0000 ≤ Rg.MER_CMPu_CTRL u) && decide (Rg.MER_CMPu_CTRL u < 0x0C0200)) = true) := by simp; omega
  have hpmc : ¬ ((decide (0x0D0000 ≤ Rg.MER_CMPu_CTRL u) && decide (Rg.MER_CMPu_CTRL u < 0x0D2000)) = true) := by simp; omega
  have hmer : (decide (0x050000 ≤ Rg.MER_CMPu_CTRL u) && decide (Rg.MER_CMPu_CTRL u < 0x051000)) = true := by simp; omega
  unfold writeCmd
  rw [h, if_neg hv]
  refine (if_neg hcvu).trans ((if_neg hpmc).trans ((if_pos hmer).trans ?_))
  simp only [merPut, cmpUnit_ctrl hu]
  exact if_pos (by omega)

/-- A unit that is not armed takes the control word, and is judged where it arms (12 R284). -/
theorem cmpCtrlWrite_idle {x : LaneState} {u : Nat} (v : Word) (h : bget x (Rg.MER_CMPu_CTRL u) 0 = false) :
    cmpCtrlWrite x u v =
      (let put := rset x (Rg.MER_CMPu_CTRL u) (maskWord 0xFFFF0007 (rget x (Rg.MER_CMPu_CTRL u)) v)
       if (!v.getLsbD 0) = true then put
       else if armOk put u = true then
         (if 0 ≤ unitDist (bset put (Rg.MER_CMPu_CTRL u) 3 false) u then bset (unitFire (bset put (Rg.MER_CMPu_CTRL u) 3 false) u) (Rg.MER_CMPu_STAT u) 16 true
          else bset put (Rg.MER_CMPu_CTRL u) 3 false)
       else bset (bset put (Rg.MER_CMPu_CTRL u) 0 false) (Rg.MER_CMPu_CTRL u) 3 true) := by
  have hno : (bget x (unitCtrl u) 0 && decide (0 ≤ unitDist x u)) = false := by rw [h]; rfl
  simp only [cmpCtrlWrite, hno, Bool.false_eq_true, if_false]

theorem rget_berr (x : LaneState) (b : Bool) (a : Nat) : rget { x with berr := b } a = rget x a := rfl

theorem bget_berr {x : LaneState} {b c : Bool} {a i : Nat} (h : bget x a i = c) : bget { x with berr := b } a i = c := h

/-- The command that writes a unit's control register. -/
theorem cmpArm_becomes {s : State} {l : Lane} {ag : Agent} {u : Nat} {v : Word} {z : LaneState} (hu : u < 16) (hv : ag ≠ .v)
    (h : writeOk (s.lane l) ag (Rg.MER_CMPu_CTRL u) = true) (hz : cmpCtrlWrite { s.lane l with berr := false } u v = z) : LaneBecomes (.cmpArm l ag u v) l s z :=
  laneBecomes_of rfl ((if_pos hu).trans ((writeCmd_cmpCtrl hu hv h).trans hz))

/-- A unit without a period that drives no output counts once and disarms. -/
theorem unitFire_once {x : LaneState} {u : Nat} (hp : bget x (Rg.MER_CMPu_CTRL u) 1 = false) (ho : u < 2 ∨ 5 < u) (hu : u < 16) :
    unitFire x u = bset (finc x (Rg.MER_CMPu_STAT u) 15 0 1) (Rg.MER_CMPu_CTRL u) 0 false := by
  have hne : Rg.MER_CMPu_CTRL u ≠ Rg.MER_CMPu_STAT u := by unfold Rg.MER_CMPu_CTRL Rg.MER_CMPu_STAT; omega
  have hkeep : bget (finc x (Rg.MER_CMPu_STAT u) 15 0 1) (Rg.MER_CMPu_CTRL u) 1 = false := by
    rw [← hp]
    exact congrArg (fun n => n == 1) (fget_fset_other _ _ _ _ _ _ _ _ hne)
  unfold unitFire
  dsimp only
  rw [if_neg (show ¬ (2 ≤ u ∧ u ≤ 5) by omega), if_neg (by rw [hkeep]; simp)]

/-- Settles O34: a unit judged where its control word is written, and each other command under its guards. -/
theorem timeInputsAndOutputs : Obligations.TimeInputsAndOutputs := by
  unfold Obligations.TimeInputsAndOutputs
  intro s l ag u k port label ms v b stA seq x y ctrl utc put e caught old edge named sent
  refine ⟨?_, ?_, ?_, ?_, ?_, ?_, ?_, ?_, ?_, ?_, ?_, ?_, ?_, ?_, ?_, ?_, ?_⟩
  · intro hu hb
    exact laneBecomes_of rfl (if_pos ⟨hu, hb⟩)
  · exact unitFire_once
  · intro hu hv hw hi h0
    refine cmpArm_becomes hu hv hw ?_
    rw [cmpCtrlWrite_idle v (bget_berr hi), rget_berr]
    exact if_pos (by rw [h0]; rfl)
  · intro hu hv hw hi h0 ha
    refine cmpArm_becomes hu hv hw ?_
    rw [cmpCtrlWrite_idle v (bget_berr hi), rget_berr]
    exact (if_neg (by rw [h0]; exact Bool.false_ne_true)).trans (if_neg (ne_true_of_eq_false ha))
  · intro hu hv hw hi h0 ha hd
    refine cmpArm_becomes hu hv hw ?_
    rw [cmpCtrlWrite_idle v (bget_berr hi), rget_berr]
    exact (if_neg (by rw [h0]; exact Bool.false_ne_true)).trans ((if_pos ha).trans (if_neg (Int.not_le.2 hd)))
  · intro hk
    exact laneBecomes_of rfl (if_pos hk)
  · intro h0 h1 hb
    refine laneBecomes_of rfl ?_
    have h0' : bget (s.lane l) Rg.MER_PPSOUT_CFG 0 = true := h0
    have h1' : bget (s.lane l) Rg.MER_PPSOUT_CFG 1 = false := h1
    simp only [h0', h1', Bool.false_and, Bool.not_false, Bool.and_true]
    exact if_neg (fun h => hb h.symm)
  · intro h0 he hh
    have h0' : bget (s.lane l) (Rg.MER_TCAPk_CFG k) 0 = true := h0
    refine laneBecomes_of rfl ((if_neg ?_).trans (if_neg (Nat.not_le.2 hh)))
    rw [h0']
    cases b
    · have he' : 2 ≤ fget (s.lane l) (Rg.MER_TCAPk_CFG k) 2 1 := by simpa using he
      simp [Nat.lt_of_succ_le he']
    · have he' : fget (s.lane l) (Rg.MER_TCAPk_CFG k) 2 1 % 2 = 1 := by simpa using he
      simpa using he'
  · intro hr
    exact laneBecomes_of rfl (if_pos hr)
  · intro h0
    refine laneBecomes_of rfl ((if_neg (by rw [h0]; exact Bool.false_ne_true)).trans ?_)
    rfl
  · exact laneBecomes_of rfl rfl
  · intro h0 h10 h900
    have hg : ¬ (!bget (s.lane l) Rg.MER_GNSS_CFG 0 || decide (ms < 10) || decide (900 < ms)) = true := by
      rw [h0, decide_eq_false (by omega), decide_eq_false (by omega)]
      exact Bool.false_ne_true
    refine ⟨fun hp => laneBecomes_of rfl ((if_neg hg).trans (if_neg ?_)), fun hp ht hl hlt => laneBecomes_of rfl ((if_neg hg).trans ((if_pos ?_).trans ?_))⟩
    · rw [show (bset (s.lane l) Rg.MER_GNSS_STAT 2 stA).mer.ppsGood = false from hp]
      exact Bool.false_ne_true
    · rw [show (bset (s.lane l) Rg.MER_GNSS_STAT 2 stA).mer.ppsGood = true from hp, ht,
        beq_iff_eq.2 (show label = (bset (s.lane l) Rg.MER_GNSS_STAT 2 true).mer.label + 1 from hl)]
      rfl
    · exact (if_neg (Nat.not_le.2 hlt)).trans (if_neg (Nat.not_le.2 hlt))
  · exact laneBecomes_of rfl rfl
  · intro h0
    exact laneBecomes_of rfl (if_neg (by rw [h0]; exact Bool.false_ne_true))
  · intro h16
    have h16' : bget (s.lane l) Rg.MER_UTC 16 = true := h16
    refine laneBecomes_of rfl ?_
    rw [h16']
    rfl
  · intro hc
    have hc' : consistPtp (s.lane l) port = true := hc
    refine ⟨fun h2 => laneBecomes_of rfl (if_pos ?_), laneBecomes_of rfl (if_pos hc)⟩
    rw [hc', h2]
    rfl
  · exact laneBecomes_of rfl rfl

end Sys2Proof.Machine

/-! SUPPORT. The Carousel's traffic: unscheduled windows, the readback taps, the order a cycle start may act on, and the statement about what is sent and taken. -/

namespace Sys2Proof.Machine

/-- Without an order a cycle start has nothing to join (23 R505). -/
theorem State.orderCycle_none {s : State} (h : s.rm.order = none) : s.orderCycle = s := by
  unfold State.orderCycle
  split
  · rfl
  · simp only [h]

theorem State.onLane_order (s : State) (l : Lane) (f : LaneState → LaneState) : (s.onLane l f).rm.order = s.rm.order := by
  obtain ⟨-, hrm, -⟩ := (State.onLane_only s l f).1
  rw [hrm]

/-- A tap of a lane that sends withdraws the enable of the lanes that differ (01 R17). -/
theorem State.tapCheck_lane {s : State} {l : Lane} {p : Nat} (differs : LaneState → Bool) (y : Lane) (h : s.sends l p = true) :
    (s.tapCheck l p differs).lane y = if y ≠ l ∧ differs (s.lane y) = true then withdrawEnable (s.lane y) p else s.lane y := by
  have hstep (t : State) (k : Lane) : (if (k != l && differs (t.lane k)) = true then t.setLane k (withdrawEnable (t.lane k) p) else t).lane y
      = if y = k ∧ y ≠ l ∧ differs (t.lane y) = true then withdrawEnable (t.lane y) p else t.lane y := by
    by_cases hy : y = k
    · subst hy
      by_cases hc : y ≠ l ∧ differs (t.lane y) = true
      · rw [if_pos (by simp [hc.1, hc.2]), State.setLane_same, if_pos ⟨rfl, hc⟩]
      · rw [if_neg (by simpa using hc), if_neg (fun h => hc h.2)]
    · have hno : ¬ (y = k ∧ y ≠ l ∧ differs (t.lane y) = true) := fun h => hy h.1
      rw [if_neg hno]
      split
      · exact State.setLane_other _ _ _ _ hy
      · rfl
  simp only [State.tapCheck, h, if_true, allLanes, List.foldl_cons, List.foldl_nil, hstep]
  cases y <;> simp

/-- One queued frame that fits a port that sends leaves in the window. -/
def windowPort (s : State) (l : Lane) (n : Nat) (x : LaneState) (p : Nat) : LaneState :=
  let mine := x.car.unschedQ.filter (fun q => q.1 == p)
  let byPrio := [1, 2, 3].flatMap (fun k => mine.filter (fun q => q.2.1 == k))
  if !portUsable x p then x
  else
    let r := fitFrames (n - guardNs x false) byPrio
    let x := { x with car := { x.car with unschedQ := x.car.unschedQ.filter (fun q => q.1 != p) ++ r.2 } }
    if s.sends l (lineOf p) then r.1.foldl emit x else x

theorem windowPort_empty {s : State} {l : Lane} {n p : Nat} {x : LaneState} (h : x.car.unschedQ = []) : windowPort s l n x p = x := by
  have hx : ({ x with car := { x.car with unschedQ := [] } } : LaneState) = x := by rw [← h]
  simp [windowPort, h, fitFrames, hx]

theorem windowPort_fits {s : State} {l : Lane} {n : Nat} {x : LaneState} {e : Emit} (h : x.car.unschedQ = [(0, 1, e)]) (hp : portUsable x 0 = true) (hs : s.sends l 0 = true)
    (hn : unschedNs e ≤ n - guardNs x false) : windowPort s l n x 0 = emit { x with car := { x.car with unschedQ := [] } } e := by
  simp [windowPort, h, hp, hs, hn, fitFrames, lineOf]

/-- Settles O35: each command under its guards, with what a window, a tap and a cycle start do. -/
theorem carouselTraffic : Obligations.CarouselTraffic := by
  unfold Obligations.CarouselTraffic
  intro s l m f u g ent c port t x on e b out noted x1 kept st told fr o cycled
  refine ⟨?_, ?_, ?_, ?_, ?_, ?_, ?_, ?_, ?_, ?_, ?_, ?_, ?_, ?_, ?_, ?_⟩
  · intro hon hp
    exact laneBecomes_of rfl (if_neg (by rintro (h | h | h); exacts [hon.1 h, hon.2 h, absurd hp (by simpa using h)]))
  · intro hagree hor
    have hx : exec (.carouselCycleStart l c) s = .next cycled := by
      show execCarouselCycleStart l c s = _
      simp only [execCarouselCycleStart]
      rw [show (s.onLane l (fun x => carCycleStart x (s.sends l) c)).carAgree = cycled from hagree]
      rcases hor with hn | hv
      · rw [State.orderCycle_none ((State.onLane_order s l _).trans hn), ite_self]
      · rw [if_neg hv]
    exact laneBecomes_of hx rfl
  · intro h0 hn
    have hn' : x.car.cabNext = none := hn
    simp only [carCycleStart, hn', h0, true_or, if_true]
  · intro ht h3 hk ho hs hp hel
    have hg : ¬ (carSt (s.lane l) ≠ 3 ∨ entKind e ≠ 0 ∨ ownPos (s.lane l) = 0 ∨ (entSender e ≠ ownPos (s.lane l) ∧ (!pairSlot (s.lane l) (entSender e)) = true)) := by
      rintro (h | h | h | h)
      exacts [h h3, h hk, ho h, h.1 hs]
    have hp' : ¬ (pairSlot (s.lane l) (entSender e) && (roleOf (s.lane l) != 2 || (s.lane l).prt.resigned)) = true := by rw [hp]; exact Bool.false_ne_true
    have hx : exec (.slotTransmit l ent) s = execSlotTransmit l ent s := rfl
    rw [execSlotTransmit, ht] at hx
    have hel' : eligible (leaderConfirm (s.lane l) ent) (entBuf ((sheetEnts (s.lane l) (sheetNow (s.lane l))).getD ent (0, 0, 0)))
        (slotTime (leaderConfirm (s.lane l) ent) ((sheetEnts (s.lane l) (sheetNow (s.lane l))).getD ent (0, 0, 0))) = some t := hel
    refine ⟨fun hm => laneBecomes_of hx ((if_neg hg).trans ((if_neg hp').trans ?_)), fun hm => laneBecomes_of hx ((if_neg hg).trans ((if_neg hp').trans ?_))⟩
    · simp only [hel']
      exact if_pos (by rw [hm]; rfl)
    · simp only [hel']
      exact if_neg (by rw [hm]; exact Bool.false_ne_true)
  · intro ht h3
    have hx : exec (.syncSlotTransmit l) s = execSyncSlotTransmit l s := rfl
    rw [execSyncSlotTransmit, ht] at hx
    exact laneBecomes_of hx (if_neg (not_not.2 h3))
  · exact laneBecomes_of rfl rfl
  · intro hon hp hg
    have hno : ¬ (carSt x = 0 ∨ carSt x = 5 ∨ (!portUsable x f.port) = true) := by rintro (h | h | h); exacts [hon.1 h, hon.2 h, absurd hp (by simpa using h)]
    simp only [carReceive, hno, if_false, hg, Bool.not_false, if_true]
  · intro h3 hp hg ht htopo
    simp [carReceive, h3, hp, hg, ht, htopo]
  · intro hon hq
    refine laneBecomes_of rfl ((if_neg (not_or.2 hon)).trans ?_)
    show [0, 1, 2, 3].foldl (windowPort s l c) (s.lane l) = _
    simp only [List.foldl_cons, List.foldl_nil, windowPort_empty (show (s.lane l).car.unschedQ = [] from hq)]
    rfl
  · intro e1 hon hq hp hs hn
    refine laneBecomes_of rfl ((if_neg (not_or.2 hon)).trans ?_)
    show [0, 1, 2, 3].foldl (windowPort s l c) (s.lane l) = _
    rw [List.foldl_cons, windowPort_fits hq hp hs hn]
    generalize hz : emit { s.lane l with car := { (s.lane l).car with unschedQ := [] } } e1 = z
    have hz' : z.car.unschedQ = [] := by rw [← hz]; rfl
    simp only [List.foldl_cons, List.foldl_nil, windowPort_empty hz']
  · intro hon h2 h3 hw
    refine laneBecomes_of rfl ((if_neg (not_or.2 hon)).trans ((if_neg ?_).trans (if_pos (by rw [hw]; rfl))))
    rintro (h | h)
    exacts [absurd (h.symm.trans h2) (by decide), absurd (h.symm.trans h3) (by decide)]
  · intro hon h2 hp hq
    refine laneBecomes_of rfl ((if_neg ?_).trans ?_)
    · rintro (h | h | h)
      exacts [hon.1 h, hon.2 h, absurd hp (by simpa using h)]
    · dsimp only
      rw [if_neg (c := (s.lane l).car.csQ.any _ = true) (ne_true_of_eq_false hq)]
      exact if_neg (fun h => h2 h.1)
  · intro h2 hp hq hb
    refine laneBecomes_of rfl ((if_neg ?_).trans ?_)
    · have h2' : carSt (s.lane l) = 2 := h2
      rintro (h | h | h)
      exacts [by omega, by omega, absurd hp (by simpa using h)]
    · dsimp only
      rw [if_pos hq]
      exact if_pos ⟨h2, hb⟩
  · intro hq h5 hs hp
    have hq' : (s.lane l).car.csQ = [(port, g)] := hq
    refine laneBecomes_of rfl ?_
    have hf : (s.lane l).car.csQ.find? (fun q => q.1 == port) = some (port, g) := by rw [hq']; simp
    have he : (s.lane l).car.csQ.filter (fun r => r.1 != port) = [] := by rw [hq']; simp
    simp only [hf, he]
    exact if_pos (Bool.and_eq_true_iff.2 ⟨Bool.and_eq_true_iff.2 ⟨decide_eq_true h5, hs⟩, hp⟩)
  · intro p differs y hs
    exact State.tapCheck_lane differs y hs
  · intro p z q
    rw [Bool.eq_iff_iff]
    simp [withdrawEnable]

end Sys2Proof.Machine

/-! SUPPORT. The states of the Carousel: what a new leader shows, and the statement about states, sheets and the atlas. -/

namespace Sys2Proof.Machine

theorem rget_bset_other (x : LaneState) {a b : Nat} (i : Nat) (v : Bool) (h : b ≠ a) : rget (bset x a i v) b = rget x b := rget_fset_other _ _ _ _ _ _ h

theorem rget_rset64_other (x : LaneState) {lo hi b : Nat} (v : DWord) (h : b ≠ lo) (h2 : b ≠ hi) : rget (rset64 x lo hi v) b = rget x b := by
  rw [rset64, rget_rset_other _ _ _ _ h2, rget_rset_other _ _ _ _ h]

theorem rget_fset_same (x : LaneState) (a hi lo v : Nat) : rget (fset x a hi lo v) a = putBits (rget x a) hi lo v := rget_rset_same _ _ _

theorem rget_bset_same (x : LaneState) (a i : Nat) (v : Bool) : rget (bset x a i v) a = putBits (rget x a) i i (b2n v) := rget_rset_same _ _ _

/-- A report shows in the mailbox alone. -/
theorem rget_event (x : LaneState) (code data ext : Nat) {a : Nat} (h : a ≠ Rg.MBX_STATUS) (h2 : a ≠ Rg.MBX_EVQ_LOST) : rget (event x code data ext) a = rget x a := by
  unfold event pushReport
  split
  · exact rget_fset_other _ _ _ _ _ _ h2
  · exact rget_fset_other _ _ _ _ _ _ h

/-- A grandmaster's registers lie in Meridian's block. -/
theorem rget_setGm (x : LaneState) (g : Nat × Nat) {a : Nat} (h : 0x060000 ≤ a) : rget (setGm x 0 g) a = rget x a := by
  have hstat : a ≠ Rg.MER_Dd_STATUS 0 := by show a ≠ 0x050040; omega
  have hclass : a ≠ Rg.MER_CLASS := by unfold Rg.MER_CLASS; omega
  have hrate : a ≠ Rg.MER_Dd_RATE 0 := by show a ≠ 0x050048; omega
  have hlo : a ≠ Rg.MER_Dd_GM_LO 0 := by show a ≠ 0x05004C; omega
  have hhi : a ≠ Rg.MER_Dd_GM_HI 0 := by show a ≠ 0x050050; omega
  have hdom (z : LaneState) (c : Clock) : rget (setDom z 0 c) a = rget z a := rget_rset_other _ _ _ _ hrate
  unfold setGm
  dsimp only
  split_ifs <;> simp only [setDomSt, hdom, rget_rset64_other _ _ hlo hhi, rget_fset_other _ _ _ _ _ _ hstat, rget_bset_other _ _ _ hclass]

theorem rget_withCar (x : LaneState) (c : CarState) (a : Nat) : rget { x with car := c } a = rget x a := rfl

/-- The status word a new leader shows (13 R316). -/
theorem becomeLeader_status (x : LaneState) :
    rget (becomeLeader x) Rg.CAR_STATUS = putBits (putBits (putBits (rget x Rg.CAR_STATUS) 2 0 3) 3 3 1) 13 8 1 := by
  unfold becomeLeader
  dsimp only
  rw [rget_event _ _ _ _ (by decide) (by decide), setTrigger, rget_bset_other _ _ _ (by decide), rget_setGm _ _ (by decide), setCarCycle, rget_rset64_other _ _ (by decide) (by decide),
    rget_fset_other _ _ _ _ _ _ (by decide), rget_bset_other _ _ _ (by decide), rget_fset_other _ _ _ _ _ _ (by decide), rget_rset_other _ _ _ _ (by decide), rget_fset_same]
  rw [rget_withCar, rget_fset_other _ _ _ _ _ _ (by decide), rget_fset_other _ _ _ _ _ _ (by decide), rget_bset_same, enterRunning, setCarSt, rget_fset_same, rget_withCar]
  rfl

/-- A leader takes a proposal for which a switch cycle exists (13 R318). -/
theorem sheetCtrl_accepts {x : LaneState} {v : Word} {c : Nat} (hl : isLeader x = true) (hn : 3 ≤ getBits v 15 8) (hp : x.car.prop = none)
    (hs : switchCycle x (getBits v 3 0) (getBits v 15 8) = some c) :
    sheetCtrl x v = fset (fset (fset { x with car := { x.car with prop := some (getBits v 3 0, c, carCycle x + 1), newSheet := none, acks := [] } } Rg.CAR_SHEET 7 4 (getBits v 3 0))
      Rg.CAR_SHEET 8 8 1) Rg.CAR_SHEET 23 16 (c % 256) := by
  have hg : (!isLeader x || decide (getBits v 15 8 < 3) || !true) = false := by rw [hl, decide_eq_false (by omega)]; rfl
  simp only [sheetCtrl, hp, hg, hs, Bool.false_eq_true, if_false]

/-- What a switch cycle meets (13 R318). -/
theorem switchCycle_meets {x : LaneState} {sh n c : Nat} (h : switchCycle x sh n = some c) :
    carCycle x + 1 + n ≤ c ∧ c ≤ carCycle x + 256 ∧ c * sheetUs x (sheetNow x) % sheetUs x sh = 0 := by
  have hq := List.find?_some h
  obtain ⟨i, hi, rfl⟩ := List.mem_map.1 (List.mem_of_find?_eq_some h)
  simp only [Bool.and_eq_true, decide_eq_true_eq, beq_iff_eq] at hq
  obtain ⟨⟨hfrom, -⟩, hfull⟩ := hq
  have := List.mem_range.1 hi
  exact ⟨hfrom, by omega, hfull⟩

theorem atlasWrite_stop {x : LaneState} (h : modeOf x = .stop) (w : Word) :
    atlasWrite x 2 w = (let e := atlasEnt x (fget x Rg.CAR_ATLAS_IDX 12 0)
      { x with car := { x.car with atlas := sset (fun _ => (0, 0, 0)) x.car.atlas (fget x Rg.CAR_ATLAS_IDX 12 0) (e.1, e.2.1, w) } }) := by
  unfold atlasWrite
  rw [if_neg (not_not.2 h)]
  rfl

/-- A permitted write of CAR_CAB, by an agent other than a vital task, waits for the next cycle. -/
theorem writeCmd_cab {x : LaneState} {ag : Agent} {v : Word} (hv : ag ≠ .v) (h : writeOk x ag Rg.CAR_CAB = true) : writeCmd x ag Rg.CAR_CAB v = cabWrite { x with berr := false } v := by
  unfold writeCmd
  rw [h, if_neg hv]
  rfl

/-- Settles O36: each command under its guards, a switch cycle by its search, and a new leader by its status word. -/
theorem carouselStates : Obligations.CarouselStates := by
  unfold Obligations.CarouselStates
  intro s l ag v w c x y i e next sh
  refine ⟨?_, ?_, ?_, ?_, ?_, ?_, ?_, ?_, ?_⟩
  · intro hc hl
    exact laneBecomes_of rfl (if_pos ⟨hc, by rw [hl]; rfl⟩)
  · intro hc hb
    exact laneBecomes_of rfl (if_pos ⟨hc, hb⟩)
  · intro hc
    exact laneBecomes_of rfl (if_pos hc)
  · intro hw hl hn hp hs
    refine laneBecomes_of rfl ((guardWrite_allowed hw).trans ?_)
    exact sheetCtrl_accepts hl hn hp hs
  · exact switchCycle_meets
  · intro hr
    exact laneBecomes_of rfl (if_pos hr)
  · intro hw hm
    refine laneBecomes_of rfl ((guardWrite_allowed hw).trans ?_)
    exact congrArg atlasNext (atlasWrite_stop (x := y) ((modeOf_congr rfl rfl).trans hm) w)
  · intro hv hw
    exact laneBecomes_of rfl (writeCmd_cab hv hw)
  · refine ⟨?_, ?_, ?_⟩
    · show getBits (rget (becomeLeader x) Rg.CAR_STATUS) 2 0 = 3
      rw [becomeLeader_status, getBits_putBits_below _ _ (by decide) (by decide) (by decide) (by decide), getBits_putBits_below _ _ (by decide) (by decide) (by decide) (by decide),
        getBits_putBits_same _ _ _ _ (by decide) (by decide)]
      rfl
    · show (getBits (rget (becomeLeader x) Rg.CAR_STATUS) 3 3 == 1) = true
      rw [becomeLeader_status, getBits_putBits_below _ _ (by decide) (by decide) (by decide) (by decide), getBits_putBits_same _ _ _ _ (by decide) (by decide)]
      rfl
    · show getBits (rget (becomeLeader x) Rg.CAR_STATUS) 13 8 = 1
      rw [becomeLeader_status, getBits_putBits_same _ _ _ _ (by decide) (by decide)]
      rfl

end Sys2Proof.Machine

/-! SUPPORT. Inauguration: what an adoption shows, and the statement about rounds. -/

namespace Sys2Proof.Machine

theorem rget_setPaths (x : LaneState) (line : Nat) (t : List Word) {a : Nat} (h : a ≠ Rg.CAR_PATH_X) (h2 : a ≠ Rg.CAR_PATH_Y) : rget (setPaths x line t) a = rget x a := by
  unfold setPaths
  dsimp only
  split
  · exact rget_rset_other _ _ _ _ h
  · exact rget_rset_other _ _ _ _ h2

theorem event_ina (x : LaneState) (code data ext : Nat) : (event x code data ext).ina = x.ina := by
  unfold event pushReport
  split <;> rfl

/-- Arming a compare unit writes its own registers. -/
theorem rget_armUnit (x : LaneState) (t : Int) (per : Nat) {a : Nat} (h : 0x060000 ≤ a) : rget (armUnit x 1 t per) a = rget x a := by
  have hsec : a ≠ Rg.MER_CMPu_SEC 1 := by show a ≠ 0x050114; omega
  have hns : a ≠ Rg.MER_CMPu_NS 1 := by show a ≠ 0x050118; omega
  have hper : a ≠ Rg.MER_CMPu_PERIOD 1 := by show a ≠ 0x05011C; omega
  have hctrl : a ≠ unitCtrl 1 := by show a ≠ 0x050110; omega
  unfold armUnit
  dsimp only
  rw [rget_rset_other _ _ _ _ hctrl, rget_rset_other _ _ _ _ hper, rget_rset_other _ _ _ _ hns, rget_rset_other _ _ _ _ hsec]

/-- The lane of an adoption before its events: position, topology and sheet are set. -/
def adoptRegs (x : LaneState) (r : InaResult) : LaneState :=
  fset (fset (bset (fset (rset x Rg.INA_TOPO r.topo) Rg.CAR_STATUS 13 8 r.pos) Rg.CAR_STATUS 14 r.orient) Rg.CAR_SHEET 3 0 r.sheet) Rg.CAR_SHEET 8 8 0

/-- The cycle and the compare unit that an adoption sets. -/
def adoptCycle (us : Nat) (x : LaneState) : LaneState :=
  let x := setCarCycle x (if us = 0 then carCycle x else (wNow x / (us * 1000)).toNat)
  armUnit x 1 (firstMultiple (wNow x + 1) (us * 1000)) (us * 1000)

/-- What an adoption shows of the round's result (14 R336). -/
def adoptShown (r : InaResult) (x : LaneState) : LaneState :=
  let x := rset x Rg.INA_RESULT (BitVec.ofNat 32 (r.pos + 256 * r.n + 2 ^ 16 * b2n r.orient + 2 ^ 17 * b2n (isLeader x)
    + 2 ^ 18 * b2n r.refCab + 2 ^ 19 * b2n r.fallback + 2 ^ 24 * r.sheet))
  let x := fset (bset x Rg.INA_STATUS 6 r.fallback) Rg.INA_LAST_POS 5 0 r.pos
  let x := rset64 (rset64 x Rg.INA_REF_EUI_LO Rg.INA_REF_EUI_HI r.refEui) Rg.INA_CAB_EUI_LO Rg.INA_CAB_EUI_HI r.cabEui
  setPaths (setPaths x 0 []) 1 []

/-- The end of an adoption: proposals lapse, the events follow and the record arrives. -/
def adoptEnd (r : InaResult) (lapse : Bool) (x : LaneState) : LaneState :=
  let x := { x with car := { x.car with inForce := true, prop := none, newSheet := none, acks := [], active := [] }, ina := { x.ina with adopt := none } }
  let x := if lapse then event x 0x0403 0xFF else x
  let x := finc (fset x Rg.INA_STATUS 2 0 0) Rg.INA_ROUNDS 15 0 1
  let x := inaEvent x (b2n r.fallback)
  if bget x Rg.INA_CFG 16 then arrive x (.inaug (inaRecord x r true)) else x

theorem adopt_stages (x : LaneState) (r : InaResult) : adopt x r = adoptEnd r x.car.prop.isSome (adoptShown r (adoptCycle (sheetUs x r.sheet) (adoptRegs x r))) := rfl

/-- The registers of the Carousel's place. -/
def placeRegs : List Nat := [Rg.INA_TOPO, Rg.CAR_STATUS, Rg.CAR_SHEET]

theorem placeReg_ne {a b : Nat} (h : a ∈ placeRegs) (hb : b ∉ placeRegs) : a ≠ b := fun he => hb (he ▸ h)

theorem rget_adoptCycle (us : Nat) (x : LaneState) {a : Nat} (h : a ∈ placeRegs) : rget (adoptCycle us x) a = rget x a := by
  have hin : 0x060000 ≤ a := by revert a; decide
  unfold adoptCycle
  dsimp only
  rw [rget_armUnit _ _ _ hin, setCarCycle, rget_rset64_other _ _ (placeReg_ne h (by decide)) (placeReg_ne h (by decide))]

theorem rget_adoptShown (r : InaResult) (x : LaneState) {a : Nat} (h : a ∈ placeRegs) : rget (adoptShown r x) a = rget x a := by
  unfold adoptShown
  dsimp only
  rw [rget_setPaths _ _ _ (placeReg_ne h (by decide)) (placeReg_ne h (by decide)), rget_setPaths _ _ _ (placeReg_ne h (by decide)) (placeReg_ne h (by decide)),
    rget_rset64_other _ _ (placeReg_ne h (by decide)) (placeReg_ne h (by decide)), rget_rset64_other _ _ (placeReg_ne h (by decide)) (placeReg_ne h (by decide)),
    rget_fset_other _ _ _ _ _ _ (placeReg_ne h (by decide)), rget_bset_other _ _ _ (placeReg_ne h (by decide)), rget_rset_other _ _ _ _ (placeReg_ne h (by decide))]

theorem rget_lapsed (lapse : Bool) (x : LaneState) {a : Nat} (h : a ∈ placeRegs) : rget (if lapse then event x 0x0403 0xFF else x) a = rget x a := by
  split
  · exact rget_event _ _ _ _ (placeReg_ne h (by decide)) (placeReg_ne h (by decide))
  · rfl

theorem rget_arrived (x : LaneState) (b : Bool) (r : ItemBody) (a : Nat) : rget (if b then arrive x r else x) a = rget x a := by
  split <;> rfl

theorem rget_adoptEnd (r : InaResult) (lapse : Bool) (x : LaneState) {a : Nat} (h : a ∈ placeRegs) : rget (adoptEnd r lapse x) a = rget x a := by
  unfold adoptEnd
  dsimp only
  rw [rget_arrived, inaEvent, rget_event _ _ _ _ (placeReg_ne h (by decide)) (placeReg_ne h (by decide)), finc, rget_fset_other _ _ _ _ _ _ (placeReg_ne h (by decide)),
    rget_fset_other _ _ _ _ _ _ (placeReg_ne h (by decide)), rget_lapsed _ _ h]
  rfl

/-- An adoption shows its place. -/
theorem rget_adopt (x : LaneState) (r : InaResult) {a : Nat} (h : a ∈ placeRegs) : rget (adopt x r) a = rget (adoptRegs x r) a := by
  rw [adopt_stages, rget_adoptEnd _ _ _ h, rget_adoptShown _ _ h, rget_adoptCycle _ _ h]

theorem adopt_done (x : LaneState) (r : InaResult) : (adopt x r).ina.adopt = none := by
  rw [adopt_stages]
  generalize adoptShown r (adoptCycle (sheetUs x r.sheet) (adoptRegs x r)) = z
  have harrived (y : LaneState) (b : Bool) (i : ItemBody) : (if b then arrive y i else y).ina = y.ina := by split <;> rfl
  have hlapsed (y : LaneState) (b : Bool) : (if b then event y 0x0403 0xFF else y).ina = y.ina := by
    split
    · exact event_ina _ _ _ _
    · rfl
  unfold adoptEnd
  dsimp only
  rw [harrived, inaEvent, event_ina]
  show (if x.car.prop.isSome then event _ 0x0403 0xFF else _).ina.adopt = none
  rw [hlapsed]

/-- What a wave window sends after its round has been taken up (14 R330). -/
def waveWindow (s : State) (l : Lane) (x : LaneState) : LaneState :=
  let x := if inaSt x ≠ 3 && bget x Rg.INA_STATUS 3 then fset x Rg.INA_STATUS 2 0 2 else x
  let conf := inaSt x = 3
  [0, 1, 2, 3].foldl (fun x p =>
    if openPort x (otherEnd p) && portUsable x p && s.sends l (lineOf p) then
      (if conf then emit x (.ina p (ownConfirm x) 2) else emit x (.ina p (ownWave x) 1))
    else x) x

/-- Without a trigger a window sends waves alone. -/
theorem waveWindow_calm {s : State} {l : Lane} {x : LaneState} (h : inaSt x ≠ 3) (h3 : bget x Rg.INA_STATUS 3 = false) :
    waveWindow s l x = [0, 1, 2, 3].foldl (fun y p => if openPort y (otherEnd p) && portUsable y p && s.sends l (lineOf p) then emit y (.ina p (ownWave y) 1) else y) x := by
  have hx : (if (decide (inaSt x ≠ 3) && bget x Rg.INA_STATUS 3) = true then fset x Rg.INA_STATUS 2 0 2 else x) = x := if_neg (by rw [h3, Bool.and_false]; exact Bool.false_ne_true)
  simp only [waveWindow, hx, h, if_false]

/-- Settles O37: each command under its guards, and an adoption by its stages, none of which writes the place again. -/
theorem inaugurationRounds : Obligations.InaugurationRounds := by
  unfold Obligations.InaugurationRounds
  intro s l port f r x a seen fenced bare heard own still fresh kept waved agreed rr got ok changed
  refine ⟨?_, ?_, ?_, ?_, ?_, ?_, ?_, ?_, ?_, ?_, ?_, ?_⟩
  · intro b
    cases b
    · exact laneBecomes_of rfl rfl
    · exact laneBecomes_of rfl rfl
  · intro h1
    refine laneBecomes_of rfl (if_neg ?_)
    rw [Bool.and_eq_true, decide_eq_true_eq]
    exact fun h => h1 h.1
  · intro ht h2 h3 hp
    have hx : exec (.mergeSend l port) s = execMergeSend l port s := rfl
    rw [execMergeSend, ht] at hx
    have hg : ¬ (!bget (s.lane l) (Rg.INA_PORTp_STAT port) 2 || bget (s.lane l) (Rg.INA_PORTp_STAT port) 3) = true := by
      rw [show bget (s.lane l) (Rg.INA_PORTp_STAT port) 2 = true from h2, show bget (s.lane l) (Rg.INA_PORTp_STAT port) 3 = false from h3]
      exact Bool.false_ne_true
    refine laneBecomes_of hx ((if_neg hg).trans (if_neg ?_))
    have hpeer : peerOf (if s.sends l (lineOf port) then emit (s.lane l) (.ina port own 3) else s.lane l) port = none := by
      split
      · exact hp
      · exact hp
    rw [hpeer]
    exact Bool.false_ne_true
  · intro hph h2 h3
    have hg : ¬ (!bget (s.lane l) (Rg.INA_PORTp_STAT port) 2 || bget (s.lane l) (Rg.INA_PORTp_STAT port) 3) = true := by
      rw [show bget (s.lane l) (Rg.INA_PORTp_STAT port) 2 = true from h2, show bget (s.lane l) (Rg.INA_PORTp_STAT port) 3 = false from h3]
      exact Bool.false_ne_true
    have hskip {z : LaneState} := fun h => laneBecomes_of (i := .mergeReceive l port f) (l := l) (s := s) (y := z) rfl ((if_neg hph).trans ((if_neg hg).trans h))
    refine ⟨fun h1 => hskip (if_pos h1), fun h1 hr hl => hskip ((if_neg (ne_true_of_eq_false h1)).trans ((if_pos hr).trans (if_neg (ne_true_of_eq_false hl)))),
      fun h1 hr hy => hskip ((if_neg (ne_true_of_eq_false h1)).trans ((if_neg (ne_true_of_eq_false hr)).trans ((if_pos ?_).trans (if_pos hy))))⟩
    rw [hy]
    rfl
  · intro h2 hp
    exact laneBecomes_of rfl (if_pos (by show (bget (s.lane l) (Rg.INA_PORTp_STAT port) 2 && (peerOf (s.lane l) port).isNone) = true; rw [h2, hp]; rfl))
  · intro hw hst h3
    have hg : (!inWaves (s.lane l)) ≠ true := by rw [show inWaves (s.lane l) = true from hw]; exact Bool.false_ne_true
    have hst' : inaSt fresh ≠ 3 := hst
    have h3' : bget fresh Rg.INA_STATUS 3 = false := h3
    refine laneBecomes_of rfl ((if_neg hg).trans ?_)
    show waveWindow s l fresh = _
    exact waveWindow_calm hst' h3'
  · intro hw hph ho hy
    have hg : ¬ (!inWaves (s.lane l) || openPort (s.lane l) port) = true := by
      rw [show inWaves (s.lane l) = true from hw, show openPort (s.lane l) port = false from ho]
      exact Bool.false_ne_true
    have hno (z : LaneState) : takeYield z f = z := if_neg (ne_true_of_eq_false hy)
    refine ⟨fun ht => laneBecomes_of rfl ((if_neg hph).trans ((if_neg hg).trans ?_)), laneBecomes_of rfl ((if_neg hph).trans ((if_neg hg).trans ?_))⟩
    · simp only [hno, ht, Bool.false_and, Bool.false_eq_true, if_false]
      rfl
    · simp only [hno]
      rfl
  · intro hw h2
    have hw' : inWaves (s.lane l) = true := hw
    refine laneBecomes_of rfl ((if_neg (by rw [hw']; exact Bool.false_ne_true)).trans ((if_pos h2).trans ?_))
    rfl
  · intro hw h3
    have hg : (!inWaves (s.lane l)) ≠ true := by rw [show inWaves (s.lane l) = true from hw]; exact Bool.false_ne_true
    have h2 : inaSt (s.lane l) ≠ 2 := by rw [show inaSt (s.lane l) = 3 from h3]; decide
    have hskip {z : LaneState} := fun h => laneBecomes_of (i := .waveWindowEnd l) (l := l) (s := s) (y := z) rfl ((if_neg hg).trans ((if_neg h2).trans ((if_pos h3).trans h)))
    refine ⟨fun hok hch => hskip (if_pos ?_), fun hok hch => hskip ((if_neg ?_).trans (if_pos hok)), fun hok => hskip ((if_neg ?_).trans (if_neg (ne_true_of_eq_false hok)))⟩
    · exact Bool.and_eq_true_iff.2 ⟨hok, hch⟩
    · exact fun h => absurd ((Bool.and_eq_true_iff.1 h).2.symm.trans hch) (by decide)
    · exact fun h => absurd ((Bool.and_eq_true_iff.1 h).1.symm.trans hok) (by decide)
  · intro ha
    have ha' : (s.lane l).ina.adopt = some r := ha
    refine laneBecomes_of rfl ?_
    simp only [ha']
    rfl
  · intro hp hs
    refine ⟨?_, ?_, ?_, adopt_done x r⟩
    · show rget (adopt x r) Rg.INA_TOPO = r.topo
      rw [rget_adopt x r (by decide), adoptRegs, rget_fset_other _ _ _ _ _ _ (by decide), rget_fset_other _ _ _ _ _ _ (by decide), rget_bset_other _ _ _ (by decide),
        rget_fset_other _ _ _ _ _ _ (by decide), rget_rset_same]
    · show getBits (rget (adopt x r) Rg.CAR_STATUS) 13 8 = r.pos
      rw [rget_adopt x r (by decide), adoptRegs, rget_fset_other _ _ _ _ _ _ (by decide), rget_fset_other _ _ _ _ _ _ (by decide), rget_bset_same, rget_fset_same,
        getBits_putBits_below _ _ (by decide) (by decide) (by decide) (by decide), getBits_putBits_same _ _ _ _ (by decide) (by decide)]
      exact Nat.mod_eq_of_lt hp
    · show getBits (rget (adopt x r) Rg.CAR_SHEET) 3 0 = r.sheet
      rw [rget_adopt x r (by decide), adoptRegs, rget_fset_same, rget_fset_same, getBits_putBits_below _ _ (by decide) (by decide) (by decide) (by decide),
        getBits_putBits_same _ _ _ _ (by decide) (by decide)]
      exact Nat.mod_eq_of_lt hs
  · intro hw
    exact laneBecomes_of rfl (guardWrite_allowed hw)

end Sys2Proof.Machine

/-! SUPPORT. The consist switch: what its readback taps leave of a lane, and the statement about it. -/

namespace Sys2Proof.Machine

theorem State.onLane_congr {s : State} {l : Lane} {f g : LaneState → LaneState} (h : f (s.lane l) = g (s.lane l)) : s.onLane l f = s.onLane l g := by
  unfold State.onLane
  rw [h]

theorem seenOut_tri (x : LaneState) (port : Nat) (f : EthFrame) : (seenOut x port f).tri = x.tri := by
  unfold seenOut
  split <;> rfl

/-- The frame that is alone in the queues is the next of its port. -/
theorem nextFrame_single {x : LaneState} {port k : Nat} {f : EthFrame} (h : x.ecn.queues = [(port, k, f)]) (hk : k < 8) : nextFrame x port = some (port, k, f) := by
  unfold nextFrame
  rw [h]
  interval_cases k <;> simp

/-- A lane that differs from what leaves the switch withdraws its enable of the consist network. -/
theorem State.ecnTaps_enables {s : State} {l y : Lane} {port k : Nat} {f : EthFrame} (hs : s.sends l 2 = true) (hn : nextFrame (s.lane l) port = some (port, k, f)) (hy : y ≠ l) :
    ((s.ecnTaps l port).lane y).tri.enables = if unexpected (s.lane y) port f then (s.lane y).tri.enables.filter (· != 2) else (s.lane y).tri.enables := by
  have htaps : s.ecnTaps l port = (s.tapCheck l 2 (fun z => unexpected z port f)).mapLanes (fun z => seenOut z port f) := by
    unfold State.ecnTaps
    rw [hn]
    exact if_pos hs
  rw [htaps, State.mapLanes_lane, seenOut_tri, State.tapCheck_lane _ _ hs]
  by_cases hu : unexpected (s.lane y) port f = true
  · rw [if_pos ⟨hy, hu⟩, if_pos hu]
    rfl
  · rw [if_neg (fun h => hu h.2), if_neg hu]

/-- The answer to an ARP request for the vital address (15 R346). -/
def vitalArp (x : LaneState) (port : Nat) (ip : Word) (mac : Mac48) (sip : Word) : EthFrame :=
  { dst := mac, src := ownMac x,
    tag := if bget x (Rg.ECN_VLANv (vitalIdx x)) (17 + port) then none else some (fget x (Rg.ECN_VLANv (vitalIdx x)) 11 0, fget x Rg.ECN_CFG 18 16),
    etype := 0x0806,
    body := beBytes 2 1 ++ beBytes 2 0x0800 ++ beBytes 1 6 ++ beBytes 1 4 ++ beBytes 2 2 ++ beBytes 6 (ownMac x).toNat ++ beBytes 4 ip.toNat ++ beBytes 6 mac.toNat
      ++ beBytes 4 sip.toNat }

theorem arpAnswer_some {x : LaneState} {port : Nat} {ip sip : Word} {mac : Mac48} (h0 : bget x Rg.ECN_CFG 0 = true) (hu : ecnUp x = true) (hc : vlanClass x (vitalIdx x) = 1)
    (hm : isMember x (vitalIdx x) port = true) (hip : ip = rget x Rg.ECN_VITAL_IP) : arpAnswer x port ip mac sip = some (vitalArp x port ip mac sip) := by
  have hg : ¬ (!bget x Rg.ECN_CFG 0 || !ecnUp x || ip != rget x Rg.ECN_VITAL_IP || vlanClass x (vitalIdx x) != 1 || !isMember x (vitalIdx x) port) = true := by
    rw [h0, hu, hc, hm, hip]
    simp
  exact if_neg hg

/-- A port sends its next frame, where the lane sends (15 R344). -/
def sendNext (port : Nat) (sends : Bool) (x : LaneState) : LaneState :=
  match nextFrame x port with
  | none => x
  | some q =>
    let x := { x with ecn := { x.ecn with queues := x.ecn.queues.erase q } }
    if sends then emit x (.eth port q.2.2) else x

theorem sendNext_single {x : LaneState} {port k : Nat} {f : EthFrame} (sends : Bool) (hq : x.ecn.queues = [(port, k, f)]) (hk : k < 8) :
    sendNext port sends x = (let w := { x with ecn := { x.ecn with queues := [] } }; if sends then emit w (.eth port f) else w) := by
  have he : x.ecn.queues.erase (port, k, f) = [] := by rw [hq]; simp
  unfold sendNext
  rw [nextFrame_single hq hk]
  dsimp only
  rw [he]

theorem consistFrameSend_exec (s : State) (l : Lane) (port : Nat) :
    exec (.consistFrameSend l port) s = .next ((s.ecnTaps l port).onLane l (fun x => sendNext port ((s.ecnTaps l port).sends l 2) x)) := by
  show execConsistFrameSend l port s = _
  unfold execConsistFrameSend sendNext
  rfl

/-- The frame that is alone in a lane's queues is sent. -/
theorem State.onLane_sends {t : State} {l : Lane} {port k : Nat} {f : EthFrame} (hq : (t.lane l).ecn.queues = [(port, k, f)]) (hk : k < 8) :
    t.onLane l (fun x => sendNext port (t.sends l 2) x)
      = t.onLane l (fun z => let w := { z with ecn := { z.ecn with queues := [] } }; if t.sends l 2 then emit w (.eth port f) else w) :=
  State.onLane_congr (sendNext_single _ hq hk)

theorem consistFrameSend_single {s : State} {l : Lane} {port k : Nat} {f : EthFrame} (hq : ((s.ecnTaps l port).lane l).ecn.queues = [(port, k, f)]) (hk : k < 8) :
    exec (.consistFrameSend l port) s = .next ((s.ecnTaps l port).onLane l (fun z =>
      let w := { z with ecn := { z.ecn with queues := [] } }; if (s.ecnTaps l port).sends l 2 then emit w (.eth port f) else w)) := by
  rw [consistFrameSend_exec, State.onLane_sends hq hk]

/-- A tagged frame of an unknown VLAN is dropped (15 R341). -/
theorem consistReceive_unknown {x : LaneState} {gap : Bool} {port : Nat} {f : EthFrame} {t : Nat × Nat} (h0 : bget x Rg.ECN_CFG 0 = true)
    (hc : bget x (Rg.ECN_PORTp_CFG port) 0 = true) (ht : terminated f = false) (hf : f.tag = some t) (hv : vlanOf (finc x (Rg.ECN_PORTp_RX port) 31 0 1) t.1 = none) :
    consistReceive x gap port f = finc (finc x (Rg.ECN_PORTp_RX port) 31 0 1) (Rg.ECN_PORTp_DROP port) 31 16 1 := by
  have hg : ¬ (!bget x Rg.ECN_CFG 0 || !bget x (Rg.ECN_PORTp_CFG port) 0) = true := by rw [h0, hc]; exact Bool.false_ne_true
  have htag (d : Nat × Nat) : f.tag.getD d = t := by rw [hf]; rfl
  fun_cases consistReceive x gap port f with
  | case1 c h => exact absurd h hg
  | case2 c h y hterm => exact Bool.noConfusion (ht.symm.trans hterm)
  | case3 c h y hterm vid prio hpair hi => rfl
  | case4 c h y hterm vid prio hpair i hi => rfl
  | case5 c h y hterm vid prio hpair i hi =>
    have hvid : t.1 = vid := congrArg Prod.fst ((htag _).symm.trans hpair)
    rw [hvid] at hv
    exact absurd (hv.symm.trans hi) (by simp)

/-- Settles O38: each command under its guards, and the readback taps by what they leave of a lane. -/
theorem consistSwitch : Obligations.ConsistSwitch := by
  unfold Obligations.ConsistSwitch
  intro s l ag port k vid f mac ip sip w x y c v rx body arp i tapped
  refine ⟨?_, ?_, ?_, ?_, ?_, ?_, ?_, ?_, ?_, ?_, ?_⟩
  · intro hp hu
    exact laneBecomes_of rfl (if_pos (by show (decide (port < 4) && ecnUp (s.lane l)) = true; rw [decide_eq_true hp, show ecnUp (s.lane l) = true from hu]; rfl))
  · intro h0 hc ht hv hn
    obtain ⟨t, hf⟩ := Option.ne_none_iff_exists'.1 hn
    exact consistReceive_unknown h0 hc ht hf (hv t hf)
  · exact consistFrameSend_single
  · intro z hs hn hz
    exact State.ecnTaps_enables hs hn hz
  · intro h0 hu hc hm hs hip ht
    have hx : exec (.vitalArpRequest l port ip mac sip) s = execVitalArpRequest l port ip mac sip s := rfl
    rw [execVitalArpRequest, ht] at hx
    have hans := arpAnswer_some (x := s.lane l) (port := port) (mac := mac) (sip := sip) h0 hu hc hm hip
    refine laneBecomes_of hx ?_
    simp only [hans, hs, if_true]
    rfl
  · exact laneBecomes_of rfl rfl
  · intro hs hu
    exact laneBecomes_of rfl (if_pos (by show (isSplit (s.lane l) && ecnUp (s.lane l)) = true; rw [show isSplit (s.lane l) = true from hs, show ecnUp (s.lane l) = true from hu]; rfl))
  · intro ht hr hw hu
    refine laneBecomes_of rfl ((if_pos (Bool.and_eq_true_iff.2 ⟨ht, hr⟩)).trans ((guardWrite_allowed hw).trans (if_pos hu)))
  · intro hr
    exact laneBecomes_of rfl (if_pos hr)
  · intro hw hm
    exact laneBecomes_of rfl (guardWrite_allowed hw)
  · intro hi
    have hi' : fget x Rg.ECN_STATIC_IDX 6 0 < 127 := hi
    show fget (staticNext x) Rg.ECN_STATIC_IDX 6 0 = fget x Rg.ECN_STATIC_IDX 6 0 + 1
    rw [staticNext, Nat.mod_eq_of_lt (by omega), fget_fset_same _ _ _ _ _ (by decide) (by decide) (by omega)]

end Sys2Proof.Machine

/-! SUPPORT. The CAN controllers: the choice of a mailbox, what a controller shows of its counters, and the statement about them. -/

namespace Sys2Proof.Machine

/-- One comparison of the choice by identifier (16 R361). -/
def betterMb (b : Option (Nat × CanFrame)) (p : Nat × CanFrame) : Option (Nat × CanFrame) :=
  match b with
  | none => some p
  | some q => if arbKey p.2 < arbKey q.2 then some p else some q

/-- The choice is one of the pending mailboxes and none ranks before it. -/
theorem foldl_betterMb {ps : List (Nat × CanFrame)} {b : Option (Nat × CanFrame)} {r : Nat × CanFrame} (h : ps.foldl betterMb b = some r) :
    (r ∈ ps ∨ b = some r) ∧ (∀ p ∈ ps, arbKey r.2 ≤ arbKey p.2) ∧ ∀ q, b = some q → arbKey r.2 ≤ arbKey q.2 := by
  induction ps generalizing b with
  | nil =>
    subst h
    exact ⟨.inr rfl, by simp, fun q hq => by cases hq; exact Nat.le_refl _⟩
  | cons p ps ih =>
    obtain ⟨hmem, hall, hb⟩ := ih h
    cases b with
    | none =>
      have hp := hb p rfl
      refine ⟨.inl ?_, ?_, by simp⟩
      · rcases hmem with hm | hm
        · exact List.mem_cons_of_mem _ hm
        · cases hm; exact List.mem_cons_self
      · intro q hq
        rcases List.mem_cons.1 hq with rfl | hq
        exacts [hp, hall q hq]
    | some q =>
      by_cases hlt : arbKey p.2 < arbKey q.2
      · have hbest : betterMb (some q) p = some p := if_pos hlt
        rw [hbest] at hmem hb
        have hp := hb p rfl
        refine ⟨?_, ?_, ?_⟩
        · rcases hmem with hm | hm
          · exact .inl (List.mem_cons_of_mem _ hm)
          · cases hm; exact .inl List.mem_cons_self
        · intro e he
          rcases List.mem_cons.1 he with rfl | he
          exacts [hp, hall e he]
        · intro e he
          cases he
          omega
      · have hbest : betterMb (some q) p = some q := if_neg hlt
        rw [hbest] at hmem hb
        have hq := hb q rfl
        refine ⟨?_, ?_, ?_⟩
        · rcases hmem with hm | hm
          · exact .inl (List.mem_cons_of_mem _ hm)
          · exact .inr hm
        · intro e he
          rcases List.mem_cons.1 he with rfl | he
          · omega
          · exact hall e he
        · intro e he
          cases he
          exact hq

theorem mem_pendingMbs {x : LaneState} {k m : Nat} {f : CanFrame} : (m, f) ∈ pendingMbs x k ↔ m < 32 ∧ (mbOf x k m).frame = some f := by
  simp [pendingMbs]

/-- The choice by identifier ranks first (16 R361). -/
theorem chooseMb_first {x : LaneState} {k m n : Nat} {f g : CanFrame} (hb : bget x (Rg.CAN_CFG k) 3 = false) (h : chooseMb x k = some m) (hf : (mbOf x k m).frame = some f)
    (hn : n < 32) (hg : (mbOf x k n).frame = some g) : arbKey f ≤ arbKey g := by
  have hc : ((pendingMbs x k).foldl betterMb none).map (·.1) = some m := by
    rw [← h, chooseMb]
    exact (if_neg (ne_true_of_eq_false hb)).symm
  obtain ⟨⟨m', f'⟩, hr, rfl⟩ := Option.map_eq_some_iff.1 hc
  obtain ⟨hmem, hall, -⟩ := foldl_betterMb hr
  have hm := (mem_pendingMbs.1 (hmem.resolve_right (by simp))).2
  have hff : f' = f := Option.some.inj (hm.symm.trans hf)
  exact hff ▸ hall (n, g) (mem_pendingMbs.2 ⟨hn, hg⟩)

/-- Pending mailboxes stand in the order of their numbers. -/
theorem pendingMbs_sorted (x : LaneState) (k : Nat) : (pendingMbs x k).Pairwise (fun a b => a.1 < b.1) := by
  refine List.pairwise_filterMap.2 (List.pairwise_lt_range.imp fun {a b} hab p hp q hq => ?_)
  obtain ⟨f, -, rfl⟩ := Option.map_eq_some_iff.1 hp
  obtain ⟨g, -, rfl⟩ := Option.map_eq_some_iff.1 hq
  exact hab

/-- The choice by number is the first pending mailbox. -/
theorem chooseMb_lowest {x : LaneState} {k m n : Nat} (hb : bget x (Rg.CAN_CFG k) 3 = true) (h : chooseMb x k = some m) (hn : n < m) : (mbOf x k n).frame = none := by
  have hc : ((pendingMbs x k).head?).map (·.1) = some m := by
    rw [← h, chooseMb]
    exact (if_pos hb).symm
  obtain ⟨⟨m', f⟩, hr, rfl⟩ := Option.map_eq_some_iff.1 hc
  obtain ⟨ps, hps⟩ := List.head?_eq_some_iff.1 hr
  have hsort := pendingMbs_sorted x k
  have hlt := (mem_pendingMbs.1 (hps ▸ List.mem_cons_self : (m', f) ∈ pendingMbs x k)).1
  rw [hps, List.pairwise_cons] at hsort
  by_contra hne
  obtain ⟨g, hg⟩ := Option.ne_none_iff_exists'.1 hne
  have hin : (n, g) ∈ pendingMbs x k := mem_pendingMbs.2 ⟨by omega, hg⟩
  rw [hps] at hin
  rcases List.mem_cons.1 hin with he | hin
  · exact absurd (congrArg Prod.fst he) (by dsimp only; omega)
  · have := hsort.1 _ hin
    dsimp only at this
    omega

/-- The state a running controller shows of its counters (16 R364). -/
theorem showErr_state {x : LaneState} {k : Nat} (hc : bget x (Rg.CAN_CTRL k) 0 = false) (hl : bget x (Rg.CAN_CFG k) 2 = false) :
    canSt (showErr x k) k = if 255 < (canOf x k).tec then 3 else if 128 ≤ (canOf x k).tec ∨ 128 ≤ (canOf x k).rec_ then 2 else 1 := by
  have hctrl : Rg.CAN_CTRL k ≠ Rg.CAN_ERR k := by unfold Rg.CAN_CTRL Rg.CAN_ERR; omega
  have hcfg : Rg.CAN_CFG k ≠ Rg.CAN_ERR k := by unfold Rg.CAN_CFG Rg.CAN_ERR; omega
  have hkeep (y : LaneState) (a i v w : Nat) (h : a ≠ Rg.CAN_ERR k) : bget (fset (fset y (Rg.CAN_ERR k) 7 0 v) (Rg.CAN_ERR k) 15 8 w) a i = bget y a i := by
    unfold bget
    rw [fget_fset_other _ _ _ _ _ _ _ _ h, fget_fset_other _ _ _ _ _ _ _ _ h]
  unfold canSt showErr
  dsimp only
  rw [fget_fset_same _ _ _ _ _ (by decide) (by decide), hkeep _ _ _ _ _ hctrl, hkeep _ _ _ _ _ hcfg, hc, hl]
  · simp
  · split_ifs <;> decide

/-- A frame that a filter takes is staged while there is room (16 R352, R354). -/
theorem canAccept_takes {x : LaneState} {k : CanNo} {f : CanFrame} {i : Nat} (hf : fltFor x k f.id = some i)
    (ha : fget x (Rg.CAN_FLTiCTRL k i) 1 0 = 1 ∨ fget x (Rg.CAN_FLTiCTRL k i) 1 0 = 2)
    (hq : bget x (Rg.CAN_QqCFG k (b2n (fget x (Rg.CAN_FLTiCTRL k i) 1 0 == 2))) 0 = true) :
    canAccept x k f = if 256 ≤ staged x k then finc x (Rg.CAN_STAGE_LOST k) 31 0 1
      else { x with agree := { x.agree with inbox := x.agree.inbox ++ [⟨.canRx k (fget x (Rg.CAN_FLTiCTRL k i) 1 0 == 2) i f, wNow x⟩] } } := by
  fun_cases canAccept x k f with
  | case1 hn => exact absurd (hn.symm.trans hf) (by simp)
  | case2 j hj act h3 =>
    obtain rfl : j = i := Option.some.inj (hj.symm.trans hf)
    exact absurd (show fget x (Rg.CAN_FLTiCTRL k j) 1 0 = 3 from h3) (by omega)
  | case3 j hj act h3 q hb =>
    obtain rfl : j = i := Option.some.inj (hj.symm.trans hf)
    exact absurd (show (!bget x (Rg.CAN_QqCFG k (b2n (fget x (Rg.CAN_FLTiCTRL k j) 1 0 == 2))) 0) = true from hb) (by rw [hq]; exact Bool.false_ne_true)
  | case4 j hj act h3 q hb hs => exact (if_pos hs).symm
  | case5 j hj act h3 q hb hs =>
    obtain rfl : j = i := Option.some.inj (hj.symm.trans hf)
    exact (if_neg hs).symm

theorem canAccept_none {x : LaneState} {k : CanNo} {f : CanFrame} (h : fltFor x k f.id = none) : canAccept x k f = finc x (Rg.CAN_RXDISC k) 31 0 1 := by
  fun_cases canAccept x k f with
  | case1 hn => rfl
  | case2 j hj => rfl
  | case3 j hj => rfl
  | case4 j hj => exact absurd (hj.symm.trans h) (by simp)
  | case5 j hj => exact absurd (hj.symm.trans h) (by simp)

/-- A data frame is heard and then judged by the filters (16 R351, R364). -/
theorem canReceive_data {x : LaneState} {k : CanNo} {f : CanFrame} (hon : canOn x k = true) (hr : f.id.getLsbD 31 = false) :
    canReceive x k f = canAccept (ackSeen (showErr (setCan x k { canOf x k with rec_ := recDown (canOf x k).rec_ }) k) k) k f := by
  unfold canReceive
  rw [if_neg (by rw [hon]; exact Bool.false_ne_true)]
  exact if_neg (by rw [hr]; exact Bool.false_ne_true)

/-- A filter that takes an identifier is enabled, matches and is the first to do so. -/
theorem fltFor_first {x : LaneState} {k i : Nat} {id : Word} (h : fltFor x k id = some i) :
    fltMatch x k i id = true ∧ fget x (Rg.CAN_FLTiCTRL k i) 1 0 ≠ 0 ∧ ∀ j < i, fget x (Rg.CAN_FLTiCTRL k j) 1 0 = 0 ∨ fltMatch x k j id = false := by
  obtain ⟨hq, -, hbefore⟩ := List.find?_range_eq_some.1 h
  rw [Bool.and_eq_true, bne_iff_ne] at hq
  refine ⟨hq.2, hq.1, fun j hj => ?_⟩
  have hno := hbefore j hj
  rw [Bool.not_eq_true', Bool.and_eq_false_iff, bne_eq_false_iff_eq] at hno
  exact hno

/-- A frame leaves the bus and the one that waits behind it takes its mailbox (16 R361). -/
theorem leaveBus_waiting {x : LaneState} {k m : Nat} {g : CanFrame} (h : (mbOf x k m).waiting = some g) :
    leaveBus x k m = mbStat (setMb (setCan x k { canOf x k with onBus := none }) k m { frame := some g, seq := (mbOf x k m).wseq }) k m 1 := by
  unfold leaveBus
  simp only [h]

/-- A frame that leaves the bus with none behind it stays pending, or is given up. -/
theorem leaveBus_alone {x : LaneState} {k m : Nat} (h : (mbOf x k m).waiting = none) :
    leaveBus x k m = (let off := setCan x k { canOf x k with onBus := none }
      if (mbOf x k m).cancel || bget off (Rg.CAN_MBmCFG k m) 1 then mbStat (setMb off k m {}) k m (if (mbOf x k m).cancel then 4 else 5)
      else mbStat (setMb off k m { mbOf x k m with cancel := false }) k m 1) := by
  unfold leaveBus
  simp only [h]

/-- A command of one lane that Ringmaster answers. -/
theorem laneBecomes_answered {i : Instr} {l : Lane} {s : State} {f : LaneState → LaneState} {y : LaneState} {st : CmdStatus}
    (hx : exec i s = .next ((s.onLane l f).answer st)) (h : f (s.lane l) = y) : LaneBecomes i l s y := by
  obtain ⟨⟨hlanes, hrm, hfree, hpend⟩, hlane⟩ := State.onLane_only s l f
  refine ⟨_, hx, ⟨fun k hk => ?_, ?_, hfree, hpend⟩, ?_⟩
  · rw [State.answer_lane]
    exact hlanes k hk
  · unfold SameButReports at hrm ⊢
    simp only [State.answer]
    rw [hrm]
  · rw [State.answer_lane]
    exact h ▸ hlane

/-- Settles O39: the choice of a mailbox by what its folds and searches give, the other commands under their guards. -/
theorem canControllers : Obligations.CanControllers := by
  unfold Obligations.CanControllers
  intro s l k f g m i e src w x c b st on heard act done counted seen off erred sent hurt
  refine ⟨?_, ?_, ?_, ?_, ?_, ?_, ?_, ?_, ?_, ?_, ?_, ?_, ?_, ?_, ?_⟩
  · intro hon hr hc h4
    refine laneBecomes_of rfl ((if_neg (by rw [show canOn (s.lane l) k = true from hon]; exact Bool.false_ne_true)).trans ((if_pos ?_).trans ?_))
    · rw [hr, show bget (s.lane l) (Rg.CAN_CFG k) 1 = false from hc]
      rfl
    · rw [if_neg h4]
  · intro hon hr hf ha hq
    have hrecv : canReceive (s.lane l) k f = canAccept heard k f := canReceive_data hon hr
    have htake := hrecv.trans (canAccept_takes hf ha hq)
    exact ⟨fun hs => laneBecomes_of rfl (htake.trans (if_neg (Nat.not_le.2 hs))), fun hs => laneBecomes_of rfl (htake.trans (if_pos hs))⟩
  · intro hon hr hf
    have hrecv : canReceive (s.lane l) k f = canAccept heard k f := canReceive_data hon hr
    exact laneBecomes_of rfl (hrecv.trans (canAccept_none hf))
  · exact fltFor_first
  · intro ht hon h4 hb hm hs hst hc
    have hx : exec (.canFrameStart l k) s = execCanFrameStart l k s := rfl
    rw [execCanFrameStart, ht] at hx
    have hsends : (canSends (s.lane l) k && (canOf (s.lane l) k).onBus.isNone) = true := by
      rw [canSends, show canOn (s.lane l) k = true from hon, bne_iff_ne.2 (show canSt (s.lane l) k ≠ 4 from h4), decide_eq_true (show modeOf (s.lane l) = .run from hm),
        show isSafe (s.lane l) = false from hs, show isStandby (s.lane l) = false from hst, show (canOf (s.lane l) k).onBus = none from hb]
      rfl
    refine laneBecomes_of hx ((if_pos hsends).trans ?_)
    rw [hc]
  · exact fun hb hc hf n hn hg => chooseMb_first hb hc hf hn hg
  · exact fun hb hc n hn => chooseMb_lowest hb hc hn
  · intro hb hf hw
    have hb' : (canOf (s.lane l) k).onBus = some m := hb
    have hf' : (mbOf (s.lane l) k m).frame = some f := hf
    have hw' : (mbOf (s.lane l) k m).waiting = none := hw
    refine laneBecomes_of rfl ?_
    simp only [hb', hf', hw']
    rfl
  · intro hb hw
    have hlost {z : LaneState} (h : leaveBus (s.lane l) k m = z) : LaneBecomes (.canArbitrationLost l k) l s z :=
      laneBecomes_of rfl (by simp only [show (canOf (s.lane l) k).onBus = some m from hb]; exact h)
    have hleave := leaveBus_alone (show (mbOf (s.lane l) k m).waiting = none from hw)
    refine ⟨fun hc h1 => hlost (hleave.trans ((if_neg ?_).trans ?_)), fun hc => hlost (hleave.trans ((if_pos ?_).trans ?_)), fun hc h1 => hlost (hleave.trans ((if_pos ?_).trans ?_))⟩
    · rw [show (mbOf (s.lane l) k m).cancel = false from hc, show bget (setCan (s.lane l) k { canOf (s.lane l) k with onBus := none }) (Rg.CAN_MBmCFG k m) 1 = false from h1]
      exact Bool.false_ne_true
    · have hsame : ({ mbOf (s.lane l) k m with cancel := false } : CanMb) = mbOf (s.lane l) k m := by rw [← show (mbOf (s.lane l) k m).cancel = false from hc]
      rw [hsame]
    · rw [show (mbOf (s.lane l) k m).cancel = true from hc]
      rfl
    · rw [if_pos hc]
    · rw [show bget (setCan (s.lane l) k { canOf (s.lane l) k with onBus := none }) (Rg.CAN_MBmCFG k m) 1 = true from h1, Bool.or_true]
    · rw [if_neg (ne_true_of_eq_false hc)]
  · intro hb hw
    refine laneBecomes_of rfl ?_
    simp only [show (canOf (s.lane l) k).onBus = some m from hb]
    exact leaveBus_waiting hw
  · intro hon h4 hk
    have hon' : ¬ (!canOn (s.lane l) k) = true := by rw [show canOn (s.lane l) k = true from hon]; exact Bool.false_ne_true
    refine ⟨fun ht h4' => laneBecomes_of rfl ((if_neg hon').trans ?_), fun ht h4' h3 => laneBecomes_of rfl ((if_neg hon').trans ?_),
      fun ht h4' h3 => laneBecomes_of rfl ((if_neg hon').trans ?_)⟩
    · simp only [hk, if_false]
      refine (if_neg h4').trans (if_neg (ne_true_of_eq_false ht))
    · simp only [hk, false_and, if_false, Nat.reduceLeDiff]
      exact (if_neg h4').trans ((if_pos ht).trans (if_neg h3))
    · simp only [hk, false_and, if_false, Nat.reduceLeDiff]
      exact (if_neg h4').trans ((if_pos ht).trans (if_pos h3))
  · exact showErr_state
  · intro h3
    exact laneBecomes_of rfl (if_pos h3)
  · intro hs
    refine laneBecomes_answered (if_neg (by rw [hs]; exact Bool.false_ne_true)) rfl
  · intro hs
    exact if_pos (by rw [hs]; rfl)

end Sys2Proof.Machine

/-! SUPPORT. A vital task's stores to registers that act: the store each register makes, what comes of its outcome, and the statement about requests. -/

namespace Sys2Proof.Machine

section VitalStores

variable {x : LaneState} {i : Instance} {v : Word}

/-- A vital store that its register does not take traps (16 R360). -/
theorem vitalCmd_bus {o : Nat} (hr : vitalRuns x = true) (hd : x.c0.dbgHalted = false) (hw : writeOk x .v o = true) (hp : vitalPut x o v = .bus) :
    vitalCmd o v x = vitalTrap x 4 (0x10000000 + o) := by
  unfold vitalCmd
  rw [if_neg (by rw [hr, hd]; exact Bool.false_ne_true), if_neg (by rw [hw]; exact Bool.false_ne_true), hp]

theorem vitalCmd_setE {o : Nat} (hr : vitalRuns x = true) (hd : x.c0.dbgHalted = false) (hw : writeOk x .v o = true) (hp : vitalPut x o v = .setE) (ha : arithTrap x = false) :
    vitalCmd o v x = setCtx x (withE true x.c0.ctx) (withE true x.c1.ctx) := by
  unfold vitalCmd
  rw [if_neg (by rw [hr, hd]; exact Bool.false_ne_true), if_neg (by rw [hw]; exact Bool.false_ne_true), hp]
  exact if_neg (ne_true_of_eq_false ha)

/-- An acknowledgement that is the task's own and goes no further than the ring's head is kept. -/
theorem ackStore_keeps {ring task off : Nat} (hi : runInst x = some i) (ht : task = i.slot)
    (ha : (v - wordAt (instIn x i off 8) 4).toNat ≤ (wordAt (instIn x i off 8) 0 - wordAt (instIn x i off 8) 4).toNat) :
    ackStore x ring task off v = .ok (updRun x (fun i => { i with acks := i.acks.filter (fun a => a.1 != ring) ++ [(ring, v)] })) := by
  unfold ackStore
  rw [hi]
  exact (if_neg (not_not.2 ht.symm)).trans (if_neg (Nat.not_lt.2 ha))

theorem canTxreqStore_asks {k : Nat} {f : CanFrame} (hi : runInst x = some i) (hm : mbAllowed x k (getBits v 4 0) i = true) (hn : canQueued i k < 64)
    (hf : descriptor x k (fget x (Rg.CAN_MBmADDR k (getBits v 4 0)) 21 0) = some f) :
    canTxreqStore x k v = .ok (updRun (queueItem x (0x200 + k) (.canReq (getBits v 4 0) f)) (fun i => { i with canCnt := k :: i.canCnt })) := by
  unfold canTxreqStore
  rw [hi]
  refine (if_neg (by rw [hm]; exact Bool.false_ne_true)).trans ((if_neg (Nat.not_le.2 hn)).trans ?_)
  rw [hf]

theorem canTxreqStore_bad {k : Nat} (hi : runInst x = some i) (hm : mbAllowed x k (getBits v 4 0) i = true) (hn : canQueued i k < 64)
    (hf : descriptor x k (fget x (Rg.CAN_MBmADDR k (getBits v 4 0)) 21 0) = none) : canTxreqStore x k v = .setE := by
  unfold canTxreqStore
  rw [hi]
  refine (if_neg (by rw [hm]; exact Bool.false_ne_true)).trans ((if_neg (Nat.not_le.2 hn)).trans ?_)
  rw [hf]

theorem canTxreqStore_barred {k : Nat} (hi : runInst x = some i) (hm : mbAllowed x k (getBits v 4 0) i = false) : canTxreqStore x k v = .bus := by
  unfold canTxreqStore
  rw [hi]
  exact if_pos (by rw [hm]; rfl)

theorem canTxcancelStore_asks {k : Nat} (hi : runInst x = some i) (hm : mbAllowed x k (getBits v 4 0) i = true) (hn : canQueued i k < 64) :
    canTxcancelStore x k v = .ok (updRun (queueItem x (0x200 + k) (.canCancel (getBits v 4 0))) (fun i => { i with canCnt := k :: i.canCnt })) := by
  unfold canTxcancelStore
  rw [hi]
  exact (if_neg (by rw [hm]; exact Bool.false_ne_true)).trans (if_neg (Nat.not_le.2 hn))

theorem commitStore_asks (hi : runInst x = some i) (h0 : bget x (Rg.CAR_BUFb_CFG (getBits v 7 0)) 0 = true) (h1 : bget x (Rg.CAR_BUFb_CFG (getBits v 7 0)) 1 = false)
    (ht : fget x (Rg.CAR_BUFb_CFG (getBits v 7 0)) 31 28 = i.slot) :
    commitStore x v = .ok (queueItem x (0x300 + getBits v 7 0)
      (.slotBuf (getBits v 7 0) 0 (mrd x (fget x (Rg.CAR_BUFb_ADDR (getBits v 7 0)) 21 0) (fget x (Rg.CAR_BUFb_CFG (getBits v 7 0)) 26 16)))) := by
  unfold commitStore
  rw [hi]
  exact if_neg (by rw [h0, h1, ht]; simp)

theorem pwrReqStore_asks (hi : runInst x = some i) (hm : modeOf x = .run) (ht : getBits v 1 0 ≠ 0) : pwrReqStore x v = .ok (queueItem x 0x500 (.power (getBits v 1 0))) := by
  unfold pwrReqStore
  rw [hi]
  exact if_pos (by rw [decide_eq_true hm, bne_iff_ne.2 ht]; rfl)

theorem pwrReqStore_drops (hi : runInst x = some i) (h : modeOf x ≠ .run ∨ getBits v 1 0 = 0) : pwrReqStore x v = .ok x := by
  unfold pwrReqStore
  rw [hi]
  refine if_neg (fun hg => ?_)
  rw [Bool.and_eq_true, decide_eq_true_eq, bne_iff_ne] at hg
  rcases h with h | h
  exacts [h hg.1, hg.2 h]

/-- A telegram of a connection that sends is asked for, with the next sequence number (10 R236). -/
theorem safSendStore_asks (hi : runInst x = some i) (hc : sendsConn x (getBits v 7 0) = true) (hs : connCfg x (getBits v 7 0) 31 28 = i.slot)
    (hn : (i.safCnt.filter (· == getBits v 7 0)).length < 8) :
    safSendStore x v = (let c := getBits v 7 0
      let seq := nextSeq (sget (fun _ => (0 : Word)) x.saf.txSeq c)
      let pay := mrd x (fget x (Rg.SAF_CONNc_BUF c) 21 0) (connLen x c)
      let b := telegramBody (rget x Rg.SAF_SRC_ID) (rget x (Rg.SAF_CONNc_PEER c)) (fget x (Rg.SAF_CONNc_ID c) 15 0) seq x.c0.ctx.tn pay
      let y := updRun (queueItem x (0x100 + c) (.telegram c b)) (fun i => { i with safCnt := c :: i.safCnt })
      .ok { y with saf := { y.saf with txSeq := sset (fun _ => (0 : Word)) y.saf.txSeq c seq } }) := by
  unfold safSendStore
  rw [hi]
  exact (if_neg (by rw [hc, hs]; simp)).trans (if_neg (Nat.not_le.2 hn))

end VitalStores

/-- Settles O40: the store that each register makes, under its conditions, is the voted command's effect. -/
theorem vitalRequests : Obligations.VitalRequests := by
  unfold Obligations.VitalRequests
  intro s l k q v i f x runs may m c buf seq pay tel asked acked ring ahead qa sa
  refine ⟨?_, ?_, ?_, ?_, ?_, ?_, ?_, ?_, ?_, ?_, ?_⟩
  · rintro ⟨hv, hd, hi⟩ hw hc hs hn
    exact voterSettles_of rfl (vitalCmd_ok _ _ _ _ hv hd hw (safSendStore_asks hi hc hs hn))
  · rintro ⟨hv, hd, hi⟩ hw hm hn
    refine ⟨fun hf => voterSettles_of rfl (vitalCmd_ok _ _ _ _ hv hd hw ((vitalPut_canTxreq _ _ _).trans (canTxreqStore_asks hi hm hn hf))), fun hf ha => voterSettles_of rfl (vitalCmd_setE hv hd hw ((vitalPut_canTxreq _ _ _).trans (canTxreqStore_bad hi hm hn hf)) ha)⟩
  · rintro ⟨hv, hd, hi⟩ hw hm hn
    exact voterSettles_of rfl (vitalCmd_ok _ _ _ _ hv hd hw ((vitalPut_canTxcancel _ _ _).trans (canTxcancelStore_asks hi hm hn)))
  · rintro ⟨hv, hd, hi⟩ hw hm
    exact voterSettles_of rfl (vitalCmd_bus hv hd hw ((vitalPut_canTxreq _ _ _).trans (canTxreqStore_barred hi hm)))
  · rintro ⟨hv, hd, hi⟩ hw ht ha
    exact voterSettles_of rfl (vitalCmd_ok _ _ _ _ hv hd hw ((vitalPut_canQqack _ _ _ _).trans (ackStore_keeps hi ht ha)))
  · rintro ⟨hv, hd, hi⟩ hw h0 ht ha
    exact voterSettles_of rfl (vitalCmd_ok _ _ _ _ hv hd hw ((if_pos h0).trans (ackStore_keeps hi ht ha)))
  · rintro ⟨hv, hd, hi⟩ hw hm ht
    exact voterSettles_of rfl (vitalCmd_ok _ _ _ _ hv hd hw (pwrReqStore_asks hi hm ht))
  · rintro ⟨hv, hd, hi⟩ hw h
    exact voterSettles_of rfl (vitalCmd_ok _ _ _ _ hv hd hw (pwrReqStore_drops hi h))
  · rintro ⟨hv, hd, hi⟩ hw h0 h1 ht
    exact voterSettles_of rfl (vitalCmd_ok _ _ _ _ hv hd hw (commitStore_asks hi h0 h1 ht))
  · exact fun h => laneBecomes_of rfl (if_pos h)
  · exact fun h => laneBecomes_of rfl (if_neg (ne_true_of_eq_false h))

end Sys2Proof.Machine

/-! SUPPORT. Block transfers: how an instruction of the vital core retires, what a transfer's descriptor comes to, and the statement about both directions. -/

namespace Sys2Proof.Machine

/-- An instruction that the core meets with its instance standing retires with the outcome of its operation. -/
theorem vitalStep_retires (i : Instr) (sem : Sem) (x : LaneState) (inst : Instance) (c : CoreCtx) (o : Op) (h : VitalStands x inst c) (hs : sem (vitalEnv x false) c = o) :
    vitalStep i sem false x = vitalRetire (passed x) inst i o (vitalOp (passed x) inst o o) := by
  unfold vitalStep
  simp only [h.inst, h.clear, Bool.false_eq_true, if_false]
  change (match opDiff (passed x).c0.ctx.ip _ _ _ with | some d => _ | none => _) = _
  have hu := passed_insts x
  generalize hx : passed x = y at hu ⊢
  have c0 : y.c0.ctx = c := by rw [hu, h.ctx0]
  have c1 : y.c1 = x.c1 := by rw [hu]
  have ec : y.ecc = x.ecc := by rw [hu]
  have hv : vitalEnv y false = vitalEnv x false := by rw [hu]; rfl
  have ho : outOfComparison y = outOfComparison x := by rw [hu]; rfl
  have hp : isSplit y = isSplit x := by rw [hu]; rfl
  have hf : vitalFetch y c.ip.toNat = vitalFetch x c.ip.toNat := by rw [hu]; rfl
  have h0 : sem (vitalEnv y false) c = o := by rw [hv, hs]
  have h1 : (if (isSplit y || outOfComparison y) = true then o else sem (vitalEnv y false) y.c1.ctx) = o := by
    rw [hp, ho, hv, c1]
    split
    · rfl
    · rename_i hn
      rw [h.ctx1 (by simpa using hn), hs]
  have h2 : (if (isSplit y || outOfComparison y) = true then c.ip else y.c1.ctx.ip) = c.ip := by
    rw [hp, ho, c1]
    split
    · rfl
    · rename_i hn
      rw [h.ctx1 (by simpa using hn)]
  unfold passed at hx
  simp only [hx, c0, h0, h1, h2, opDiff_same, hf, h.code, Bool.not_true, Bool.false_eq_true, if_false, eccRange_clean y _ _ _ (by rw [ec]; exact h.clean)]

theorem writeOk_xfer_passed (x : LaneState) : writeOk (passed x) .v Rg.BRG_XFER = writeOk x .v Rg.BRG_XFER := by
  rw [passed_eq]; rfl

theorem brgMay_passed (x : LaneState) (i : Instance) (r : Nat) : brgMay (passed x) i r = brgMay x i r := by
  rw [passed_eq]; rfl

theorem xferDesc_passed (x : LaneState) (a : Nat) : xferDesc (passed x) a = xferDesc x a := by
  rw [passed_eq]; rfl

theorem regAttr_passed (x : LaneState) (r hi lo : Nat) : regAttr (passed x) r hi lo = regAttr x r hi lo := by
  rw [passed_eq]; rfl

section Transfers

variable {x : LaneState} {i : Instance} {d : Nat}

/-- The store that starts a transfer goes to its descriptor. -/
theorem vitalStore_xfer (ea : CoreCtx × CoreCtx) (hw : writeOk x .v Rg.BRG_XFER = true) :
    vitalStore x i (0x10000000 + Rg.BRG_XFER) 4 d ea.1 ea.2 = vitalXfer x i (0x10000000 + Rg.BRG_XFER) d ea.1 ea.2 := by
  have hrow : ((regRow Rg.BRG_XFER).map (·.timing)).getD false = false := by decide
  have hsample : sampleWord x Rg.BRG_XFER = none := if_neg (by decide)
  have hacc : vitalAcc x i (0x10000000 + Rg.BRG_XFER) 4 true = 0 := by
    unfold vitalAcc
    refine (if_neg (by decide)).trans ((if_pos (by decide)).trans ((if_neg ?_).trans (if_pos ?_)))
    · rw [show regOff (0x10000000 + Rg.BRG_XFER) = Rg.BRG_XFER from rfl, hsample, hrow]
      exact Bool.false_ne_true
    · rw [show regOff (0x10000000 + Rg.BRG_XFER) = Rg.BRG_XFER from rfl, hw]
      rfl
  have hreg : regionOf (0x10000000 + Rg.BRG_XFER) = none := if_neg (by decide)
  unfold vitalStore
  rw [if_neg (by decide), hreg]
  refine (if_neg (by rw [hacc]; decide)).trans ((if_pos (by decide)).trans (if_pos rfl))

/-- A descriptor that a transfer in direction `dir` can follow (18 R404). -/
structure XferFits (x : LaneState) (i : Instance) (d dir : Nat) : Prop where
  aligned : d % 8 = 0
  read : vitalSram x i d 16 false = true
  dir : (xferDesc x d).2.2.2 = dir
  some : 0 < (xferDesc x d).2.2.1
  most : (xferDesc x d).2.2.1 ≤ 256
  word : (xferDesc x d).2.1 % 4 = 0
  window : winBase ≤ (xferDesc x d).1
  within : (xferDesc x d).1 + (xferDesc x d).2.2.1 ≤ winBase + 16 * regionLen
  lowest : 0x10000 ≤ (xferDesc x d).2.1
  below : (xferDesc x d).2.1 + (xferDesc x d).2.2.1 ≤ inBase
  memory : vitalSram x i (xferDesc x d).2.1 (xferDesc x d).2.2.1 true = true
  regions : ((regionCut (xferDesc x d).1 (xferDesc x d).2.2.1).map (·.1)).all (brgMay x i) = true

theorem xferFits_passed {dir : Nat} (h : XferFits x i d dir) : XferFits (passed x) i d dir := by
  have hmay : brgMay (passed x) i = brgMay x i := funext (brgMay_passed x i)
  have hdesc := xferDesc_passed x d
  constructor
  · exact h.aligned
  · rw [vitalSram_passed]; exact h.read
  · rw [hdesc]; exact h.dir
  · rw [hdesc]; exact h.some
  · rw [hdesc]; exact h.most
  · rw [hdesc]; exact h.word
  · rw [hdesc]; exact h.window
  · rw [hdesc]; exact h.within
  · rw [hdesc]; exact h.lowest
  · rw [hdesc]; exact h.below
  · rw [hdesc, vitalSram_passed]; exact h.memory
  · rw [hdesc, hmay]; exact h.regions

/-- The region a transfer begins in. -/
def xferRegion (x : LaneState) (d : Nat) : Nat := (regionOf (xferDesc x d).1).getD 0

theorem XferFits.guards {dir : Nat} (h : XferFits x i d dir) (hd : dir ≤ 1) :
    (decide (d % 8 ≠ 0) || !vitalSram x i d 16 false) = false
      ∧ (decide (1 < (xferDesc x d).2.2.2) || decide ((xferDesc x d).2.2.1 = 0) || decide (256 < (xferDesc x d).2.2.1) || decide ((xferDesc x d).2.1 % 4 ≠ 0)
        || decide ((xferDesc x d).1 < winBase) || decide (winBase + 16 * regionLen < (xferDesc x d).1 + (xferDesc x d).2.2.1) || decide ((xferDesc x d).2.1 < 0x10000)
        || decide (inBase < (xferDesc x d).2.1 + (xferDesc x d).2.2.1) || !vitalSram x i (xferDesc x d).2.1 (xferDesc x d).2.2.1 true
        || !((regionCut (xferDesc x d).1 (xferDesc x d).2.2.1).map (·.1)).all (brgMay x i)) = false := by
  have hdir := h.dir
  have hsome := h.some
  have hmost := h.most
  have hwin := h.window
  have hwith := h.within
  have hlow := h.lowest
  have hbel := h.below
  constructor
  · rw [h.aligned, h.read]
    rfl
  · rw [h.memory, h.regions, h.word, decide_eq_false (by omega : ¬ 1 < (xferDesc x d).2.2.2), decide_eq_false (by omega : ¬ (xferDesc x d).2.2.1 = 0),
      decide_eq_false (by omega : ¬ 256 < (xferDesc x d).2.2.1), decide_eq_false (Nat.not_lt.2 hwin), decide_eq_false (Nat.not_lt.2 hwith), decide_eq_false (Nat.not_lt.2 hlow),
      decide_eq_false (Nat.not_lt.2 hbel)]
    rfl

/-- A write offers its bytes to the vote of its region. -/
theorem vitalXfer_write (ea : Nat) (a b : CoreCtx) (h : XferFits x i d 0) (hc : x.ecc.errs = [] ∧ x.ecc.poison = []) (hr : regAttr x (xferRegion x d) 9 9 ≠ 1) :
    vitalXfer x i ea d a b
      = .done (offer x ⟨0x400 + xferRegion x d, .brgWrite (xferDesc x d).1 (mrd x (xferDesc x d).2.1 (xferDesc x d).2.2.1)⟩ i.due) a b false := by
  obtain ⟨hfirst, hsecond⟩ := h.guards (by omega)
  have hdir : (xferDesc x d).2.2.2 ≠ 1 := by rw [h.dir]; decide
  unfold xferRegion at hr ⊢
  simp only [vitalXfer, hfirst, eccRange_clean x _ _ _ hc, hsecond, Bool.false_eq_true, if_false]
  exact (if_neg hdir).trans (if_neg hr)

/-- A read asks its region and waits. -/
theorem vitalXfer_read (ea : Nat) (a b : CoreCtx) (h : XferFits x i d 1) (hc : x.ecc.errs = [] ∧ x.ecc.poison = []) :
    vitalXfer x i ea d a b = brgWait x i ea (xferRegion x d) (.brgRead (xferDesc x d).1 (xferDesc x d).2.2.1) (fun l data =>
      let p := eccPartial l (xferDesc x d).2.1 (xferDesc x d).2.2.1
      if p.2 then .stop (coreStop p.1) else .done (mwr p.1 (xferDesc x d).2.1 (data.take (xferDesc x d).2.2.1)) a b false) := by
  obtain ⟨hfirst, hsecond⟩ := h.guards (by omega)
  unfold xferRegion
  simp only [vitalXfer, hfirst, eccRange_clean x _ _ _ hc, hsecond, Bool.false_eq_true, if_false]
  exact if_pos h.dir

theorem offer_brg (x : LaneState) (q : QItem) (n : Nat) : (offer x q n).brg = x.brg := by
  have hdig (y : LaneState) (g : DigRec) : (addDig y g).brg = y.brg := by
    unfold addDig
    split <;> rfl
  unfold offer
  split
  · rfl
  · dsimp only
    split
    · exact hdig _ _
    · exact hdig _ _

theorem updRun_brg (x : LaneState) (f : Instance → Instance) : (updRun x f).brg = x.brg := by
  unfold updRun
  split <;> rfl

theorem updRun_ecc (x : LaneState) (f : Instance → Instance) : (updRun x f).ecc = x.ecc := by
  unfold updRun
  split <;> rfl

/-- Without a completion the instance waits for what it asked. -/
theorem brgWait_asks {ea r : Nat} {p : Payload} {fin : LaneState → Bytes → JOut} (hs : i.susp = none) (hb : x.brg.held = []) :
    brgWait x i ea r p fin
      = .wait (updRun (offer x ⟨0x400 + r, p⟩ i.due) (fun i => { i with susp := some { region := r, seq := sget (fun _ => (0 : Word)) x.tri.seqs (0x400 + r) } })) := by
  have hheld (f : Instance → Instance) : (updRun (offer x ⟨0x400 + r, p⟩ i.due) f).brg.held = [] := by rw [updRun_brg, offer_brg, hb]
  unfold brgWait
  simp only [hs, hheld, List.find?_nil]

/-- The completion that is held ends the wait. -/
theorem brgWait_completes {ea r : Nat} {p : Payload} {fin : LaneState → Bytes → JOut} {sp : SuspInstr} {c : BrgCpl} (hs : i.susp = some sp)
    (hb : x.brg.held.find? (fun h => h.region == r && h.seq == sp.seq) = some c) (hok : c.ok = true) :
    brgWait x i ea r p fin
      = fin { updRun x (fun i => { i with susp := none }) with brg := { x.brg with held := x.brg.held.filter (fun h => !(h.region == r && h.seq == sp.seq)) } } c.data := by
  unfold brgWait
  simp only [hs, hb]
  exact if_pos hok

end Transfers

/-- What a finished operation leaves, apart from what is counted (03 R76). -/
theorem vitalRetire_done (l0 z : LaneState) (inst : Instance) (i : Instr) (o : Op) (a b : CoreCtx) :
    ∃ w, vitalRetire l0 inst i o (.done z a b false) = (if inst.susp.isSome then reschedule w else w) ∧ OnlyPmc (setCtx z a b) w := by
  unfold vitalRetire
  simp only [Bool.false_and, Bool.false_eq_true, if_false]
  exact ⟨_, rfl, onlyPmc_vital _ _ _ _ _ _ _ _⟩

/-- A transfer's command on the vital core is the store that starts it. -/
theorem runJfi_xfer {s : State} {u : CoreId} {v : Word} {i : Instance} {c : CoreCtx} (hu : u.core1 = false) (h : VitalStands (s.lane u.lane) i c) :
    s.runJfi u (xferInstr u) (xferSem v) = s.onVote u.lane (vitalStep (xferInstr u) (xferSem v) false) := by
  have hg : (vitalRuns (s.lane u.lane) && !(s.lane u.lane).c0.dbgHalted) = true := by rw [h.runs, h.free]; rfl
  simp only [State.runJfi, hu, Bool.false_eq_true, if_false, hg, if_true]

/-- Settles O41: a transfer is a store to its descriptor; what the store comes to retires as any operation of the vital core. -/
theorem blockTransfers : Obligations.BlockTransfers := by
  unfold Obligations.BlockTransfers
  intro s u v i c cpl sp y d x adr mem n r fits resumed taken
  have hfits (dir : Nat) (h : fits dir) : u.core1 = false ∧ writeOk y .v Rg.BRG_XFER = true ∧ XferFits y i d dir := by
    obtain ⟨hu, -, hw, h1, h2, h3, h4, h5, h6, h7, h8, h9, h10, h11, h12⟩ := h
    exact ⟨hu, hw, ⟨h1, h2, h3, h4, h5, h6, h7, h8, h9, h10, h11, h12⟩⟩
  have hstep (h : VitalStands y i c) (hw : writeOk y .v Rg.BRG_XFER = true) : vitalStep (xferInstr u) (xferSem v) false y
      = vitalRetire (passed y) i (xferInstr u) (.store (0x10000000 + Rg.BRG_XFER) 4 d c) (vitalXfer (passed y) i (0x10000000 + Rg.BRG_XFER) d c c) := by
    rw [vitalStep_retires _ _ _ _ _ _ h rfl]
    exact congrArg _ (vitalStore_xfer (c, c) ((writeOk_xfer_passed y).trans hw))
  refine ⟨?_, ?_, ?_⟩
  · intro hf hv hr
    obtain ⟨hu, hw, hx⟩ := hfits 0 hf
    have hr' : regAttr (passed y) (xferRegion (passed y) d) 9 9 ≠ 1 := by rw [xferRegion, xferDesc_passed, regAttr_passed]; exact hr
    have hout := vitalXfer_write (0x10000000 + Rg.BRG_XFER) c c (xferFits_passed hx) (passed_clean _ hv.clean) hr'
    rw [xferRegion, xferDesc_passed, mrd_passed] at hout
    have hret := hstep hv.toVitalStands hw
    rw [hout] at hret
    obtain ⟨w, hdone, hpmc⟩ := vitalRetire_done (passed y) (offer (passed y) ⟨0x400 + r, .brgWrite adr (mrd y mem n)⟩ i.due) i (xferInstr u)
      (.store (0x10000000 + Rg.BRG_XFER) 4 d c) c c
    refine ⟨w, voterSettles_of (f := vitalStep (xferInstr u) (xferSem v) false) ?_ (hret.trans (hdone.trans (if_neg (by rw [hv.idle]; exact Bool.false_ne_true)))),
      counted_of hpmc (sameButMail_refl _)⟩
    exact congrArg Host.Outcome.next ((if_pos hx.dir).trans (runJfi_xfer hu hv.toVitalStands))
  · intro hf hv hb
    obtain ⟨hu, hw, hx⟩ := hfits 1 hf
    have hheld : (passed y).brg.held = [] := by rw [passed_eq]; exact hb
    have hout := (vitalXfer_read (0x10000000 + Rg.BRG_XFER) c c (xferFits_passed hx) (passed_clean _ hv.clean)).trans (brgWait_asks hv.idle hheld)
    have hseqs : (passed y).tri = y.tri := by rw [passed_eq]; rfl
    rw [xferRegion, xferDesc_passed, hseqs] at hout
    have hret := hstep hv.toVitalStands hw
    rw [hout] at hret
    refine voterSettles_of (f := vitalStep (xferInstr u) (xferSem v) false) ?_ hret
    exact congrArg Host.Outcome.next ((if_pos hx.dir).trans (runJfi_xfer hu hv.toVitalStands))
  · intro hf hv hs hb hok
    obtain ⟨hu, hw, hx⟩ := hfits 1 hf
    have hbrg : (passed y).brg = y.brg := by rw [passed_eq]; rfl
    have hfind : (passed y).brg.held.find? (fun h => h.region == xferRegion (passed y) d && h.seq == sp.seq) = some cpl := by
      rw [hbrg, xferRegion, xferDesc_passed]
      exact hb
    have hout := (vitalXfer_read (0x10000000 + Rg.BRG_XFER) c c (xferFits_passed hx) (passed_clean _ hv.clean)).trans (brgWait_completes hs hfind hok)
    have htaken : ({ updRun (passed y) (fun j => { j with susp := none }) with
        brg := { (passed y).brg with held := (passed y).brg.held.filter (fun h => !(h.region == xferRegion (passed y) d && h.seq == sp.seq)) } } : LaneState) = taken := by
      rw [xferRegion, xferDesc_passed]
      show _ = ({ resumed with brg := { resumed.brg with held := resumed.brg.held.filter (fun h => !(h.region == r && h.seq == sp.seq)) } } : LaneState)
      rw [show resumed.brg = (passed y).brg from updRun_brg _ _]
    have hclean : taken.ecc.errs = [] ∧ taken.ecc.poison = [] := by
      have he : taken.ecc = (passed y).ecc := updRun_ecc _ _
      rw [he]
      exact passed_clean _ hv.clean
    rw [htaken, xferDesc_passed] at hout
    have hmem := eccPartial_clean taken mem n hclean
    have hfin : vitalXfer (passed y) i (0x10000000 + Rg.BRG_XFER) d c c = .done (mwr taken mem (cpl.data.take n)) c c false := by
      rw [hout]
      show (if (eccPartial taken mem n).2 then JOut.stop (coreStop (eccPartial taken mem n).1) else .done (mwr (eccPartial taken mem n).1 mem (cpl.data.take n)) c c false) = _
      rw [hmem]
      exact if_neg Bool.false_ne_true
    have hret := hstep hv hw
    rw [hfin] at hret
    obtain ⟨w, hdone, hpmc⟩ := vitalRetire_done (passed y) (mwr taken mem (cpl.data.take n)) i (xferInstr u) (.store (0x10000000 + Rg.BRG_XFER) 4 d c) c c
    refine ⟨w, voterSettles_of (f := vitalStep (xferInstr u) (xferSem v) false) ?_ (hret.trans (hdone.trans (if_pos (by rw [hs]; rfl)))), counted_of hpmc (sameButMail_refl _)⟩
    exact congrArg Host.Outcome.next ((if_pos hx.dir).trans (runJfi_xfer hu hv))

end Sys2Proof.Machine

/-! SUPPORT. Field inputs and outputs: single bits, the classification of inputs, what drives a channel, and the statements about sampling, tests and protection. -/

namespace Sys2Proof.Machine

theorem putBit_same {n : Nat} (b : BitVec n) {i : Nat} (v : Bool) (h : i < n) : (putBit b i v).getLsbD i = v := by
  unfold putBit
  cases v <;> simp [h]

theorem putBit_other {n : Nat} (b : BitVec n) {i j : Nat} (v : Bool) (h : j ≠ i) : (putBit b i v).getLsbD j = b.getLsbD j := by
  have hone : (1#n <<< i).getLsbD j = false := by
    simp only [BitVec.getLsbD_shiftLeft, BitVec.getLsbD_one]
    by_cases hlt : j < i
    · simp [hlt]
    · have : j - i ≠ 0 := by omega
      simp [this]
  unfold putBit
  cases v <;> simp [hone]
  · intro hb; exact BitVec.lt_of_getLsbD hb

/-- A word put together bit by bit. -/
theorem foldl_putBit {n : Nat} (g : Nat → Bool) (k : Nat) (b : BitVec n) {i : Nat} (hi : i < k) (hn : i < n) :
    ((List.range k).foldl (fun c j => putBit c j (g j)) b).getLsbD i = g i := by
  induction k with
  | zero => omega
  | succ k ih =>
    rw [List.range_succ, List.foldl_append, List.foldl_cons, List.foldl_nil]
    by_cases h : i = k
    · subst h
      exact putBit_same _ _ hn
    · rw [putBit_other _ _ h]
      exact ih (by omega)

/-- The commands read back as they were set (17 R382). -/
theorem cmdBits_setCmdBits (x : LaneState) (c : BitVec 96) : cmdBits (setCmdBits x c) = c := by
  unfold cmdBits setCmdBits
  dsimp only
  rw [rget_rset_same, rget_rset_other _ _ _ _ (by decide), rget_rset_same, rget_rset_other _ _ _ _ (by decide), rget_rset_other _ _ _ _ (by decide), rget_rset_same]
  refine BitVec.eq_of_getLsbD_eq fun i hi => ?_
  simp only [BitVec.getLsbD_append, BitVec.getLsbD_setWidth, BitVec.getLsbD_ushiftRight]
  by_cases h1 : i < 32
  · simp [h1]
  · by_cases h2 : i - 32 < 32
    · simp [h1, h2, show 32 + (i - 32) = i by omega]
    · simp [h1, h2, show i - 32 - 32 < 32 by omega, show 64 + (i - 32 - 32) = i by omega]

/-- A channel is driven where the image asks for it and no rule holds it off. -/
theorem fioDrive_bit (x : LaneState) {i : Nat} (hi : i < 96) :
    (cmdBits (fioDrive x)).getLsbD i = ((x.tri.drivers && !isSafe x) && (imgCmd x).getLsbD i && !heldOff x i) := by
  unfold fioDrive
  dsimp only
  rw [cmdBits_setCmdBits, foldl_putBit _ _ _ hi hi]

theorem classify_clauses {mv ua : Nat} (p : Bool) : (11000 ≤ mv → 2000 ≤ ua → classify mv ua p = true) ∧ (mv ≤ 5000 ∨ ua ≤ 1500 → classify mv ua p = false)
    ∧ (5000 < mv → 1500 < ua → mv < 11000 ∨ ua < 2000 → classify mv ua p = p) := by
  unfold classify
  refine ⟨fun h1 h2 => if_pos (by simp [h1, h2]), fun h => ?_, fun h1 h2 h3 => ?_⟩
  · rw [if_neg (by simp; omega), if_pos (by simpa using h)]
  · rw [if_neg (by simp; omega), if_neg (by simp; omega)]

theorem wireBreak_clauses {ua gap : Nat} (val wb : Bool) :
    (ua < 700 → wireBreak ua val wb gap = (false, true, 0)) ∧ (1200 ≤ ua → ua ≤ 3500 → wireBreak ua val wb gap = (false, false, 0))
      ∧ (5000 < ua → wireBreak ua val wb gap = (true, false, 0))
      ∧ ((700 ≤ ua ∧ ua < 1200) ∨ (3500 < ua ∧ ua ≤ 5000) → gap < 7 → wireBreak ua val wb gap = (val && !wb, wb, gap + 1))
      ∧ ((700 ≤ ua ∧ ua < 1200) ∨ (3500 < ua ∧ ua ≤ 5000) → gap = 7 → wireBreak ua val wb gap = (false, true, 8)) := by
  have hgap (h : (700 ≤ ua ∧ ua < 1200) ∨ (3500 < ua ∧ ua ≤ 5000)) :
      wireBreak ua val wb gap = (let g := min (gap + 1) 8; let w := wb || g == 8; (val && !w, w, g)) := by
    unfold wireBreak
    rw [if_neg (by omega), if_neg (by simp; omega), if_neg (by omega)]
  refine ⟨fun h => if_pos h, fun h1 h2 => ?_, fun h => ?_, fun h hg => ?_, fun h hg => ?_⟩
  · unfold wireBreak
    rw [if_neg (by omega), if_pos (by simp; omega)]
  · unfold wireBreak
    rw [if_neg (by omega), if_neg (by simp; omega), if_pos h]
  · have hne : (gap + 1 == 8) = false := by simp; omega
    rw [hgap h, Nat.min_eq_left (by omega)]
    simp only [hne, Bool.or_false]
  · subst hg
    rw [hgap h]
    simp

/-- A digital input is classified by its voltage and current (17 R376). -/
theorem sampleCh_input {m : FieldMeas} {x : LaneState} {i : Nat} (h : chMode x i = 2 ∨ (chMode x i = 1 ∧ chCfg x i 2 2 = 0)) :
    (sampleCh m x i).fio.cls = putBit x.fio.cls i (classify (m.mv.getD i 0) (m.ua.getD i 0) (x.fio.cls.getLsbD i)) := by
  have hplain : ¬ (decide (chMode x i = 1) && chCfg x i 2 2 == 1) = true := by
    rcases h with h | ⟨-, h⟩ <;> rw [h] <;> simp
  fun_cases sampleCh m x i with
  | case1 hmd => omega
  | case2 hmd => omega
  | case3 hmd => omega
  | case4 mv ua f raw h0 h3 r l' =>
    have hr : r = (classify mv ua (x.fio.cls.getLsbD i), false, 0) := if_neg hplain
    show putBit x.fio.cls i r.1 = _
    rw [hr]

theorem mayTest_never {x : LaneState} {g : Nat} (h : isSafe x = true ∨ x.fio.pulse.isSome = true ∨ x.fio.gssPulse.isSome = true ∨ supplyOk x g = false) : mayTest x g = false := by
  unfold mayTest
  rcases h with h | h | h | h
  · rw [h]; rfl
  · obtain ⟨p, hp⟩ := Option.isSome_iff_exists.1 h
    rw [hp]; simp
  · obtain ⟨p, hp⟩ := Option.isSome_iff_exists.1 h
    rw [hp]; simp
  · rw [h]; simp

/-- A lane's own pulse does not take a channel off while the lane sees itself. -/
theorem pulseOff_own {x : LaneState} (h : sees x x.id = true) : pulseOff x (laneNo x.id) = false := by
  have hlane : laneOf (laneNo x.id) = x.id := by cases x.id <;> rfl
  rw [pulseOff, hlane, h]
  simp

/-- Settles O42: the guards of each command decide its branch, and the two classifications are read off their thresholds. -/
theorem fieldSamplingAndTests : Obligations.FieldSamplingAndTests := by
  unfold Obligations.FieldSamplingAndTests
  intro s l m ch g n i mv ua gap rising low p val wb fell pu x f md every edgeBit ys ended edges
  have hedges (h : edges) : (chCfg (s.lane l) ch 3 3 == 1 && chCfg (s.lane l) ch edgeBit edgeBit == 1 && (chMode (s.lane l) ch == 1 || chMode (s.lane l) ch == 2)
      && (s.lane l).mer.running) = true := by
    obtain ⟨h3, hedge, hmd, hrun⟩ := h
    have hmode : (chMode (s.lane l) ch == 1 || chMode (s.lane l) ch == 2) = true := by
      rw [Bool.or_eq_true, beq_iff_eq, beq_iff_eq]
      exact hmd
    rw [beq_iff_eq.2 (show chCfg (s.lane l) ch 3 3 = 1 from h3), beq_iff_eq.2 (show chCfg (s.lane l) ch edgeBit edgeBit = 1 from hedge), hmode,
      show (s.lane l).mer.running = true from hrun]
    rfl
  refine ⟨?_, ?_, classify_clauses p, wireBreak_clauses val wb, ?_, ?_, ?_, ?_, ?_, ?_, ?_, ?_⟩
  · intro hr hg
    exact laneBecomes_of rfl (if_pos (by show ((s.lane l).mer.running && !(s.lane l).pwr.gated.contains 2) = true; rw [hr, hg]; rfl))
  · intro hi hm
    have hcls := sampleCh_input (m := m) hm
    refine ⟨?_, fun j hj hne => ?_⟩
    · rw [hcls, putBit_same _ _ hi]
    · rw [hcls, putBit_other _ _ hne]
  · rintro ⟨h3, hedge, hmd, hrun⟩ hn
    exact laneBecomes_of rfl ((if_pos (hedges ⟨h3, hedge, hmd, hrun⟩)).trans (if_pos hn))
  · rintro ⟨h3, hedge, hmd, hrun⟩ hn
    exact laneBecomes_of rfl ((if_pos (hedges ⟨h3, hedge, hmd, hrun⟩)).trans (if_neg (Nat.not_lt.2 hn)))
  · intro hm hc hb ht hp
    refine laneBecomes_of rfl (if_pos ?_)
    rw [show chMode (s.lane l) ch = 3 from hm, show chCfg (s.lane l) ch 6 6 = 1 from hc, show (cmdBits (s.lane l)).getLsbD ch = true from hb,
      show mayTest (s.lane l) (ch / 16) = true from ht, show pairIdle (s.lane l) ch = false from hp]
    rfl
  · intro h
    refine laneBecomes_of rfl (if_neg ?_)
    rw [show mayTest (s.lane l) (ch / 16) = false from mayTest_never h, Bool.and_false, Bool.false_and]
    exact Bool.false_ne_true
  · intro hp hn
    have hp' : (s.lane l).fio.pulse = some pu := hp
    refine laneBecomes_of rfl ?_
    rw [hp']
    exact if_pos (beq_iff_eq.2 hn)
  · intro h0 hn ht hg
    refine laneBecomes_of rfl (if_pos ?_)
    rw [show mayTest (s.lane l) g = true from ht, show (s.lane l).fio.gss.getLsbD g = true from hg, beq_iff_eq.2 (show n % fget (s.lane l) Rg.FIO_GSS 11 0 = 0 from hn),
      bne_iff_ne.2 (show fget (s.lane l) Rg.FIO_GSS 11 0 ≠ 0 from h0)]
    rfl
  · intro hp hn
    have hp' : (s.lane l).fio.gssPulse = some pu := hp
    refine laneBecomes_of rfl ?_
    rw [hp']
    exact if_pos (beq_iff_eq.2 hn)
  · intro hp hs
    have hp' : x.fio.pulse = some ⟨i, laneNo x.id⟩ := hp
    unfold transistorOn
    rw [hp']
    dsimp only
    rw [pulseOff_own hs]
    simp
    rfl

/-- A tripped channel is off at once (17 R388). -/
theorem heldOff_tripped {x : LaneState} {ch : Chan} (b : BitVec 96) (r : List (Nat × Int)) :
    heldOff { x with fio := { x.fio with oc := putBit x.fio.oc ch true, ocNew := b, retryAt := r } } ch = true := by
  unfold heldOff
  dsimp only
  rw [putBit_same _ _ ch.isLt]
  simp

theorem fioDrive_heldOff {x : LaneState} {i : Nat} (hi : i < 96) (h : heldOff x i = true) : (cmdBits (fioDrive x)).getLsbD i = false := by
  rw [fioDrive_bit _ hi, h, Bool.not_true, Bool.and_false]

theorem degClear_maintainer {x : LaneState} {src : CmdSrc} {i : Nat} (grp : Bool) (hw : mayWrite x .m Rg.SAF_DEG_CLEAR = true) (hi : i < 96) (hm : isMaintainer src = true) :
    degClear x src i grp = { x with berr := false, fio := { x.fio with degClear := x.fio.degClear ++ [(i, grp)] } } :=
  (guardWrite_allowed hw).trans (if_pos (by rw [decide_eq_true hi, hm]; rfl))

theorem degClear_other {x : LaneState} {src : CmdSrc} (i : Nat) (grp : Bool) (hw : mayWrite x .m Rg.SAF_DEG_CLEAR = true) (hm : isMaintainer src = false) :
    degClear x src i grp = { x with berr := false } :=
  (guardWrite_allowed hw).trans (if_neg (by rw [hm, Bool.and_false]; exact Bool.false_ne_true))

/-- Settles O43: each command's guard decides its branch, and what `fioDrive` drives is read bit by bit. -/
theorem outputProtection : Obligations.OutputProtection := by
  unfold Obligations.OutputProtection
  intro s l ch g src v i second x f y j rest
  refine ⟨?_, ?_, fun _ _ => fioDrive_heldOff ch.isLt (heldOff_tripped _ _), ?_, ?_, ?_, ?_, laneBecomes_of rfl rfl, laneBecomes_of rfl rfl, ?_, ?_, ?_, ?_, ?_, ?_⟩
  · intro hd ht
    refine laneBecomes_of rfl (if_pos ?_)
    rw [show (s.lane l).fio.deg.any (fun d => d.1 == ch.val) = true from hd, show (s.lane l).fio.tripPend.contains (ch.val / 16) = false from ht]
    rfl
  · intro hm hc
    refine laneBecomes_of rfl (if_pos ?_)
    rw [show chMode (s.lane l) ch = 3 from hm, show (cmdBits (s.lane l)).getLsbD ch = true from hc]
    rfl
  · intro ho hs hn
    refine laneBecomes_of rfl (if_pos ?_)
    rw [show (s.lane l).fio.oc.getLsbD ch = true from ho, show chStat (s.lane l) ch 3 = false from hs, show (s.lane l).fio.ocNew.getLsbD ch = false from hn]
    rfl
  · intro hs
    refine laneBecomes_of rfl (if_neg ?_)
    rw [show chStat (s.lane l) ch 3 = true from hs, Bool.not_true, Bool.and_false, Bool.false_and]
    exact Bool.false_ne_true
  · intro hs
    exact laneBecomes_of rfl (if_neg (by rw [show chStat (s.lane l) ch 3 = false from hs]; exact Bool.false_ne_true))
  · intro hs
    exact laneBecomes_of rfl (if_pos hs)
  · intro hw hj ha hsafe
    refine laneBecomes_of rfl ((guardWrite_allowed hw).trans (if_pos ?_))
    have h1 : (!safetyAssigned y j || isMaintainer src) = true := by rcases ha with h | h <;> rw [h] <;> simp
    have h2 : (safeCh y j && chStat y j 6) = false := by rcases hsafe with h | h <;> rw [h] <;> simp
    show (decide (j < 96) && (!safetyAssigned y j || isMaintainer src) && !(safeCh y j && chStat y j 6)) = true
    rw [h1, h2, decide_eq_true hj]
    rfl
  · intro hw ha hm
    refine laneBecomes_of rfl ((guardWrite_allowed hw).trans (if_neg ?_))
    show ¬ (decide (j < 96) && (!safetyAssigned y j || isMaintainer src) && !(safeCh y j && chStat y j 6)) = true
    rw [ha, hm]
    simp
  · intro hw hi hm
    exact ⟨laneBecomes_of rfl (degClear_maintainer false hw hi hm), laneBecomes_of rfl (degClear_maintainer true hw hi hm)⟩
  · intro hw hm
    exact ⟨laneBecomes_of rfl (degClear_other i false hw hm), laneBecomes_of rfl (degClear_other i true hw hm)⟩
  · intro hi h
    rcases h with h | h | h
    · exact fioDrive_heldOff hi h
    · rw [fioDrive_bit _ hi, h]; simp
    · rw [fioDrive_bit _ hi, h]; simp
  · intro hi hh hs hd
    rw [fioDrive_bit _ hi, hh, hs, hd]
    simp

end Sys2Proof.Machine

/-! SUPPORT. The backplane bridge: the cutting of a transfer, what a completion and a failed posted write leave alone, and what a link that goes down does to its lane. -/

namespace Sys2Proof.Machine

/-- A transfer cut at multiples of `step`: the chunks make up the transfer, and none crosses a multiple (18 R402). -/
theorem cutRange_clauses {step : Nat} (hs : 0 < step) : ∀ (fuel a n : Nat), n ≤ fuel →
    ((cutRange fuel step a n).map (·.2)).sum = n
      ∧ ∀ q ∈ cutRange fuel step a n, 0 < q.2 ∧ a ≤ q.1 ∧ q.1 + q.2 ≤ a + n ∧ q.1 / step = (q.1 + q.2 - 1) / step := by
  intro fuel
  induction fuel with
  | zero =>
    intro a n hn
    obtain rfl : n = 0 := by omega
    exact ⟨rfl, fun q hq => absurd hq List.not_mem_nil⟩
  | succ fuel ih =>
    intro a n hn
    unfold cutRange
    by_cases h0 : n = 0
    · subst h0
      exact ⟨rfl, fun q hq => absurd hq List.not_mem_nil⟩
    · have hlt : a % step < step := Nat.mod_lt a hs
      obtain ⟨k, hk⟩ : ∃ k, k = min n (step - a % step) := ⟨_, rfl⟩
      have hk0 : 0 < k := by omega
      obtain ⟨hsum, hchunk⟩ := ih (a + k) (n - k) (by omega)
      rw [if_neg h0]
      dsimp only
      rw [← hk]
      refine ⟨?_, fun q hq => ?_⟩
      · rw [List.map_cons, List.sum_cons, hsum]
        omega
      · rcases List.mem_cons.1 hq with rfl | hq
        · refine ⟨hk0, le_refl a, by dsimp only; omega, ?_⟩
          have hdiv : step * (a / step) + a % step = a := Nat.div_add_mod a step
          refine (Nat.div_eq_of_lt_le ?_ ?_).symm
          · rw [Nat.mul_comm]; dsimp only; omega
          · rw [Nat.add_mul, Nat.one_mul, Nat.mul_comm]; dsimp only; omega
        · obtain ⟨h1, h2, h3, h4⟩ := hchunk q hq
          exact ⟨h1, by omega, by omega, h4⟩

theorem holdCpl_held (x : LaneState) (c : BrgCpl) : (holdCpl x c).brg.held.any (fun h => h.region == c.region && h.seq == c.seq) = true := by
  unfold holdCpl
  split
  next h => exact h
  next h => simp

theorem event_brg (x : LaneState) (code data ext : Nat) : (event x code data ext).brg = x.brg := by
  unfold event pushReport
  split
  · exact finc_brg _ _ _ _ _
  · exact fset_brg _ _ _ _ _

theorem holdCpl_posted (x : LaneState) (c : BrgCpl) : (holdCpl x c).brg.posted = x.brg.posted := by
  unfold holdCpl
  split <;> rfl

theorem holdCpl_regs (x : LaneState) (c : BrgCpl) : (holdCpl x c).regs = x.regs ∧ (holdCpl x c).id = x.id := by
  unfold holdCpl
  split <;> exact ⟨rfl, rfl⟩

theorem ownCpl_posted (x : LaneState) (c : BrgCpl) : (ownCpl x c).brg.posted = x.brg.posted :=
  iteInduction (motive := fun z : LaneState => z.brg.posted = x.brg.posted) (fun _ => holdCpl_posted _ c) (fun _ => holdCpl_posted _ c)

theorem ownCpl_regs (x : LaneState) (c : BrgCpl) : (ownCpl x c).regs = x.regs ∧ (ownCpl x c).id = x.id :=
  iteInduction (motive := fun z : LaneState => z.regs = x.regs ∧ z.id = x.id) (fun _ => holdCpl_regs _ c) (fun _ => holdCpl_regs _ c)

theorem ownCpl_rget (x : LaneState) (c : BrgCpl) (a : Nat) : rget (ownCpl x c) a = rget x a := by
  obtain ⟨hregs, hid⟩ := ownCpl_regs x c
  unfold rget
  rw [hregs, hid]

/-- A posted write that failed is logged while the log has room, and counted as lost when it has none (18 R413). -/
def logPosted (x : LaneState) (r a c : Nat) : LaneState :=
  if x.brg.pwlog.length < 64 then
    { x with brg := { x.brg with pwlog := x.brg.pwlog ++ [⟨a, r, c, x.exe.n % 65536⟩] } }
  else finc x Rg.BRG_PWLOG_LOST 31 0 1

theorem postedFail_eq (x : LaneState) (r a c : Nat) :
    postedFail x r a c = arrive (event (logPosted x r a c) 0x0801 (r + 256 * c) a) (.brgFail r) := rfl

theorem arrive_brg (x : LaneState) (b : ItemBody) : (arrive x b).brg = x.brg := rfl

theorem logPosted_posted (x : LaneState) (r a c : Nat) : (logPosted x r a c).brg.posted = x.brg.posted := by
  unfold logPosted
  split
  · rfl
  · rw [finc_brg]

theorem logPosted_rget (x : LaneState) (r a c : Nat) {b : Nat} (h : b ≠ Rg.BRG_PWLOG_LOST) : rget (logPosted x r a c) b = rget x b := by
  unfold logPosted
  split
  · rfl
  · exact rget_fset_other _ _ _ _ _ _ h

theorem postedFail_posted (x : LaneState) (r a c : Nat) : (postedFail x r a c).brg.posted = x.brg.posted := by
  rw [postedFail_eq, arrive_brg, event_brg, logPosted_posted]

theorem postedFail_full {x : LaneState} (r a c : Nat) (h : x.brg.pwlog.length = 64) : (postedFail x r a c).brg.pwlog = x.brg.pwlog := by
  have hlog : logPosted x r a c = finc x Rg.BRG_PWLOG_LOST 31 0 1 := if_neg (by omega)
  rw [postedFail_eq, arrive_brg, event_brg, hlog, finc_brg]

theorem arrive_rget (x : LaneState) (b : ItemBody) (a : Nat) : rget (arrive x b) a = rget x a := rfl

theorem postedFail_rget (x : LaneState) (r a c : Nat) {b : Nat} (h : b ≠ Rg.BRG_PWLOG_LOST) (h1 : b ≠ Rg.MBX_STATUS) (h2 : b ≠ Rg.MBX_EVQ_LOST) :
    rget (postedFail x r a c) b = rget x b := by
  rw [postedFail_eq, arrive_rget, rget_event _ _ _ _ h1 h2, logPosted_rget _ _ _ _ h]

theorem showLinks_brg (x : LaneState) : (showLinks x).brg = x.brg := rfl

theorem showLinks_rget (x : LaneState) {b : Nat} (h : b ≠ Rg.BRG_STATUS) : rget (showLinks x) b = rget x b := by
  unfold showLinks
  refine foldl_keeps (fun l => rget l b) (fun l p => ?_) _ _
  rw [rget_bset_other _ _ _ h, rget_bset_other _ _ _ h]

/-- A link is down and counted (18 R405). -/
def linkLow (x : LaneState) (p : Nat) : LaneState := finc (fset x (Rg.BRG_LINKp_STAT p) 1 0 0) (Rg.BRG_LINKp_STAT p) 23 16 1

theorem linkLow_brg (x : LaneState) (p : Nat) : (linkLow x p).brg = x.brg := by
  rw [linkLow, finc_brg, fset_brg]

/-- The reads of a failed link end without data where the lane drives the backplane. -/
def linkCompletions (own : Bool) (p : Nat) (x : LaneState) : LaneState :=
  if own then (x.brg.opens.filter (fun o => linkOf x o.1 == p)).foldl (fun x o => ownCpl x ⟨o.1, o.2.1, false, []⟩) x else x

/-- The posted writes of a failed link are gone, and those lost are logged. -/
def linkPosted (k p : Nat) (x : LaneState) : LaneState :=
  ((x.brg.posted.zipIdx).filter (fun e => e.1.2.1 == p && Config.freeBool (k + e.2))).foldl (fun x e => postedFail x e.1.1 e.1.2.2.1 1)
    { x with brg := { x.brg with posted := x.brg.posted.filter (fun w => w.2.1 != p) } }

/-- A link that goes down, in its stages. -/
def linkFails (own : Bool) (k p : Nat) (x : LaneState) : LaneState :=
  if p < 4 then showLinks (linkPosted k p (linkCompletions own p (linkLow x p))) else x

theorem exec_pcieLinkDown (s : State) (l : Lane) (p : Nat) :
    exec (.pcieLinkDown l p) s = .next (State.onLane { s with freeCtr := s.freeCtr + (s.lane l).brg.posted.length } l (linkFails (s.sends l 7) s.freeCtr p)) := rfl

theorem linkCompletions_posted (own : Bool) (p : Nat) (x : LaneState) : (linkCompletions own p x).brg.posted = x.brg.posted := by
  unfold linkCompletions
  split
  · exact foldl_keeps (fun l : LaneState => l.brg.posted) (fun _ _ => ownCpl_posted _ _) _ _
  · rfl

theorem linkCompletions_rget (own : Bool) (p : Nat) (x : LaneState) (a : Nat) : rget (linkCompletions own p x) a = rget x a := by
  unfold linkCompletions
  split
  · exact foldl_keeps (fun l => rget l a) (fun _ _ => ownCpl_rget _ _ _) _ _
  · rfl

theorem linkCompletions_none (own : Bool) (p : Nat) {x : LaneState} (h : x.brg.opens = []) : linkCompletions own p x = x := by
  unfold linkCompletions
  rw [h]
  exact ite_self x

theorem linkPosted_posted (k p : Nat) (x : LaneState) : (linkPosted k p x).brg.posted = x.brg.posted.filter (fun w => w.2.1 != p) :=
  foldl_keeps (fun l : LaneState => l.brg.posted) (fun _ _ => postedFail_posted _ _ _ _) _ _

theorem linkPosted_rget (k p : Nat) (x : LaneState) {b : Nat} (h : b ≠ Rg.BRG_PWLOG_LOST) (h1 : b ≠ Rg.MBX_STATUS) (h2 : b ≠ Rg.MBX_EVQ_LOST) :
    rget (linkPosted k p x) b = rget x b :=
  foldl_keeps (fun l => rget l b) (fun _ _ => postedFail_rget _ _ _ _ h h1 h2) _ _

theorem linkPosted_none (k p : Nat) {x : LaneState} (h : x.brg.posted = []) : linkPosted k p x = x := by
  have hb : { x.brg with posted := [] } = x.brg := by rw [← h]
  unfold linkPosted
  rw [h]
  show { x with brg := { x.brg with posted := [] } } = x
  rw [hb]

/-- A link that went down is not ready. -/
theorem linkFails_notReady (own : Bool) (k : Nat) {p : Nat} (hp : p < 4) (x : LaneState) : linkReady (linkFails own k p x) p = false := by
  have hreg : fget (linkFails own k p x) (Rg.BRG_LINKp_STAT p) 1 0 = fget (linkLow x p) (Rg.BRG_LINKp_STAT p) 1 0 := by
    unfold linkFails fget
    rw [if_pos hp, showLinks_rget _ (by unfold Rg.BRG_LINKp_STAT Rg.BRG_STATUS; omega),
      linkPosted_rget _ _ _ (by unfold Rg.BRG_LINKp_STAT Rg.BRG_PWLOG_LOST; omega) (by unfold Rg.BRG_LINKp_STAT Rg.MBX_STATUS; omega)
        (by unfold Rg.BRG_LINKp_STAT Rg.MBX_EVQ_LOST; omega), linkCompletions_rget]
  unfold linkReady
  rw [hreg, linkLow, finc, fget_fset_below _ _ _ (by decide) (by decide) (by decide) (by decide), fget_fset_same _ _ _ _ _ (by decide) (by decide) (by decide)]
  rfl

theorem guardRead_allowed {x : LaneState} {ag : Agent} {a : Nat} {v : Word} {f : LaneState → LaneState} (h : mayRead x ag a = true) :
    guardRead x ag a v f = f { x with berr := false, rdval := v } := if_pos h

/-- Settles O44: a transfer is cut by induction on its fuel, a link that goes down in its stages, and every other clause is the branch its guards select. -/
theorem backplaneBridge : Obligations.BackplaneBridge := by
  unfold Obligations.BackplaneBridge
  intro s l ag c addr fatal isWrite p fuel step a n len d v o os w x y own found met st down up off inWindow mir shown sent free
  refine ⟨fun hs hn => cutRange_clauses hs fuel a n hn, ?_, ?_, laneBecomes_of rfl rfl, holdCpl_held x c, ?_, ?_, ?_, ?_, ?_, ?_, ?_, ?_, ?_, ?_, ?_, ?_, ?_, ?_, ?_, postedFail_full p a n⟩
  · intro hown hfound hattr
    have hf : (s.lane l).brg.opens.find? (fun q => q.1 == c.region && q.2.1 == c.seq) = some o := hfound
    have hown' : s.sends l 7 = true := hown
    refine laneBecomes_of rfl ?_
    simp only [hf, hown', Bool.not_true, Bool.false_eq_true, if_false]
    rw [if_neg (by
      rw [show (regAttr met c.region 8 8 == 1) = false from beq_eq_false_iff_ne.2 hattr, Bool.and_false, Bool.false_and]
      exact Bool.false_ne_true)]
  · intro hfound
    have hf : (s.lane l).brg.opens.find? (fun q => q.1 == c.region && q.2.1 == c.seq) = none := hfound
    refine laneBecomes_of rfl ?_
    simp only [hf]
    rfl
  · intro hown hopens
    have ho : (s.lane l).brg.opens = o :: os := hopens
    refine laneBecomes_of rfl ?_
    simp only [ho]
    exact if_pos hown
  · intro hposted
    have hf : (s.lane l).brg.posted.find? (fun q => coversAddr q.2.2.1 q.2.2.2 addr.toNat) = some w := hposted
    refine laneBecomes_of rfl ?_
    simp only [hf]
    rfl
  · intro hposted hopens hp
    have hfree : ({ s with freeCtr := s.freeCtr + (s.lane l).brg.posted.length } : State) = s := by
      rw [show (s.lane l).brg.posted = [] from hposted]
      rfl
    refine laneBecomes_of ((exec_pcieLinkDown s l p).trans (by rw [hfree])) ?_
    have hlow : linkCompletions (s.sends l 7) p (linkLow (s.lane l) p) = linkLow (s.lane l) p := 
      linkCompletions_none _ _ ((congrArg (fun b => b.opens) (linkLow_brg (s.lane l) p)).trans hopens)
    unfold linkFails
    rw [if_pos hp, hlow, linkPosted_none s.freeCtr p ((congrArg (fun b => b.posted) (linkLow_brg (s.lane l) p)).trans hposted)]
    rfl
  · intro hp
    obtain ⟨⟨-, -, hfree, -⟩, hlane, hregs⟩ := State.onLane_only { s with freeCtr := s.freeCtr + (s.lane l).brg.posted.length } l (linkFails (s.sends l 7) s.freeCtr p)
    refine ⟨_, exec_pcieLinkDown s l p, hfree, ?_, ?_⟩
    · rw [hlane]
      show (linkFails (s.sends l 7) s.freeCtr p (s.lane l)).brg.posted = _
      unfold linkFails
      rw [if_pos hp, showLinks_brg, linkPosted_posted, linkCompletions_posted, linkLow_brg]
    · unfold linkReady fget
      rw [hregs _ (by unfold Rg.BRG_LINKp_STAT Rg.MBX_STATUS; omega)]
      exact linkFails_notReady (s.sends l 7) s.freeCtr hp (s.lane l)
  · intro hp h0 h1
    refine laneBecomes_of rfl (if_pos ?_)
    rw [decide_eq_true hp, show bget (s.lane l) Rg.BRG_CFG 0 = true from h0]
    rcases h1 with h | h
    · rw [decide_eq_true h]; rfl
    · rw [show bget (s.lane l) Rg.BRG_CFG 1 = true from h, Bool.or_true]; rfl
  · rintro hg ⟨hb, hw, he⟩ hl
    refine laneBecomes_of rfl ((if_neg (by rw [show (s.lane l).pwr.gated.contains 4 = false from hg]; exact Bool.false_ne_true)).trans ((if_pos ?_).trans (if_pos hl)))
    rw [decide_eq_true hb, decide_eq_true hw, show bget (s.lane l) Rg.BRG_INB_EN ((addr.toNat - inbBase (s.lane l)) / 0x100000) = true from he]
    rfl
  · intro hg hout
    refine laneBecomes_of rfl ((if_neg (by rw [show (s.lane l).pwr.gated.contains 4 = false from hg]; exact Bool.false_ne_true)).trans (if_neg ?_))
    rw [Bool.and_eq_true, Bool.and_eq_true, decide_eq_true_iff, decide_eq_true_iff]
    exact fun ⟨⟨hb, hw⟩, he⟩ => hout ⟨hb, hw, he⟩
  · intro hown hg he hlo hhi
    refine laneBecomes_of rfl ((if_pos ?_).trans (if_pos ?_))
    · rw [show bget (s.lane l) Rg.BRG_INB_EN 8 = true from he, decide_eq_true hlo, decide_eq_true hhi]
      rfl
    · rw [show s.sends l 7 = true from hown, show (s.lane l).pwr.gated.contains 4 = false from hg]
      rfl
  · intro hlo hg
    have hsend : (s.sends l 7 && !(s.lane l).pwr.gated.contains 4) = s.sends l 7 := by
      rw [show (s.lane l).pwr.gated.contains 4 = false from hg, Bool.not_false, Bool.and_true]
    refine laneBecomes_of rfl ((if_neg ?_).trans ?_)
    · rw [decide_eq_false (Nat.not_le.2 hlo), Bool.and_false, Bool.false_and]
      exact Bool.false_ne_true
    · rw [hsend]
  · cases isWrite <;> exact laneBecomes_of rfl rfl
  · intro hr
    exact congrArg Host.Outcome.next (State.onLane_congr (guardRead_allowed hr))
  · intro hw
    exact laneBecomes_of rfl (guardWrite_allowed hw)
  · exact fun _ => ⟨_, rfl⟩
  · intro hr
    exact laneBecomes_of rfl (guardRead_allowed hr)
  · intro hw
    exact laneBecomes_of rfl (guardWrite_allowed hw)

end Sys2Proof.Machine

/-! SUPPORT. Active and standby pairs: what a module that becomes ACTIVE takes over, and its role. -/

namespace Sys2Proof.Machine

/-- What a module that becomes ACTIVE takes from the copy of its partner (19 R424). -/
def takenOver (x : LaneState) : List (Nat × Byte) × List (Nat × Byte) × List (Nat × ForceEnt) × List (Nat × Word) := (x.exe.outApplied, x.exe.outComm, x.forces, x.tri.seqs)

theorem takenOver_fset (x : LaneState) (a hi lo v : Nat) : takenOver (fset x a hi lo v) = takenOver x := rfl

theorem takenOver_finc (x : LaneState) (a hi lo n : Nat) : takenOver (finc x a hi lo n) = takenOver x := takenOver_fset _ _ _ _ _

theorem takenOver_arrive (x : LaneState) (b : ItemBody) : takenOver (arrive x b) = takenOver x := rfl

theorem takenOver_setRole (x : LaneState) (r : Nat) : takenOver (setRole x r) = takenOver x := by
  unfold setRole
  split
  · rfl
  · dsimp only
    rw [takenOver_arrive, takenOver_fset]

theorem takenOver_skipRelease (x : LaneState) (t k : Nat) : takenOver (skipRelease x t k) = takenOver x := by
  unfold skipRelease
  split
  · rfl
  · rw [takenOver_finc]
    rfl

theorem takenOver_setCmdBits (x : LaneState) (c : BitVec 96) : takenOver (setCmdBits x c) = takenOver x := rfl

theorem takenOver_fioDrive (x : LaneState) : takenOver (fioDrive x) = takenOver x := takenOver_setCmdBits _ _

theorem roleOf_arrive (x : LaneState) (b : ItemBody) : roleOf (arrive x b) = roleOf x := rfl

theorem roleOf_setRole (x : LaneState) {r : Nat} (hr : r < 8) : roleOf (setRole x r) = r := by
  unfold setRole
  split
  next h => exact h
  next h =>
    dsimp only
    rw [roleOf_arrive]
    exact fget_fset_same _ _ _ _ _ (by decide) (by decide) hr

theorem roleOf_setCmdBits (x : LaneState) (c : BitVec 96) : roleOf (setCmdBits x c) = roleOf x := by
  unfold roleOf fget setCmdBits
  dsimp only
  rw [rget_rset_other _ _ _ _ (by decide), rget_rset_other _ _ _ _ (by decide), rget_rset_other _ _ _ _ (by decide)]

theorem roleOf_fioDrive (x : LaneState) : roleOf (fioDrive x) = roleOf x := roleOf_setCmdBits _ _

/-- The copy of the partner's state, put in place of the lane's own. -/
def takeCopy (c : Nat) (x : LaneState) : LaneState :=
  { x with
    mem := (copyRanges x).foldl (fun m r => setRegion m (256 * r.1) (256 * r.2) x.prt.copy) x.mem,
    forces := (copyExecState x).forces, saf := (copyExecState x).saf,
    tri := { x.tri with seqs := (copyExecState x).seqs, rels := (copyExecState x).seqs },
    exe := { x.exe with outProg := (copyExecState x).outProg, outComm := x.prt.outCopy, outApplied := x.prt.outCopy },
    car := { x.car with txb := copiedBufs x c }, prt := { x.prt with takeover := true, handN := 0, dirty := [], stage := [] } }

/-- The releases since the copy was taken are skipped. -/
def skipSince (c : Nat) (x : LaneState) : LaneState :=
  if modeOf x = .run then (List.range 16).foldl (fun l t => skipRelease l t (releasesBetween l t c (l.exe.n + 1))) x else x

theorem becomeActive_stages (c : Nat) (x : LaneState) :
    becomeActive c x = fioDrive (finc (setRole (skipSince c (takeCopy c x)) 2) Rg.PRT_SWITCHOVERS 15 0 1) := rfl

theorem takenOver_skipSince (c : Nat) (x : LaneState) : takenOver (skipSince c x) = takenOver x := by
  unfold skipSince
  split
  · exact foldl_keeps takenOver (fun _ _ => takenOver_skipRelease _ _ _) _ _
  · rfl

theorem takenOver_becomeActive (c : Nat) (x : LaneState) :
    takenOver (becomeActive c x) = (x.prt.outCopy, x.prt.outCopy, (copyExecState x).forces, (copyExecState x).seqs) := by
  rw [becomeActive_stages, takenOver_fioDrive, takenOver_finc, takenOver_setRole, takenOver_skipSince]
  rfl

theorem roleOf_becomeActive (c : Nat) (x : LaneState) : roleOf (becomeActive c x) = 2 := by
  rw [becomeActive_stages, roleOf_fioDrive]
  unfold finc
  exact (fget_fset_other _ _ _ _ _ _ _ _ (by decide)).trans (roleOf_setRole _ (by decide))

/-- The ACTIVE module that hears a STANDBY partner hands over eight cycles on (19 R427). -/
def handoverAsked (x : LaneState) : LaneState :=
  if roleOf x = 2 && (x.prt.lastHb.map (·.role)).getD 0 == 4 then { x with prt := { x.prt with handN := x.exe.n + 8 } } else x

theorem exec_handover (s : State) (l : Lane) (src : CmdSrc) : exec (.handover l src) s = s.rmGate (fun s => s.onLane l handoverAsked) := rfl

/-- Settles O45: the branch that the guards of each command select, and the stages of becoming ACTIVE. -/
theorem activeAndStandby : Obligations.ActiveAndStandby := by
  unfold Obligations.ActiveAndStandby
  intro s l ag hb f src c x role y heard misfit quiet up calm noHand
  have hheard (hp : paired x = true) (hc : calm) : ¬ (!paired (s.lane l) || (s.lane l).pwr.gated.contains 3) = true := by
    rw [show paired (s.lane l) = true from hp, show (s.lane l).pwr.gated.contains 3 = false from hc]
    exact Bool.false_ne_true
  refine ⟨?_, ?_, ?_, ?_, ?_, ?_, ?_, ?_, ?_, ?_, ?_, ?_, ?_, ?_, ?_⟩
  · intro hp hc hm hr
    exact laneBecomes_of rfl ((if_neg (hheard hp hc)).trans ((if_pos hm).trans (if_neg hr)))
  · intro hp hc hm hr h2
    refine laneBecomes_of rfl ((if_neg (hheard hp hc)).trans ((if_neg hm).trans ?_))
    simp only [heard, y, x] at hr ⊢
    simp only [hr]
    exact if_pos h2
  · intro hp hc hm hr h2 hs
    refine laneBecomes_of rfl ((if_neg (hheard hp hc)).trans ((if_neg hm).trans ?_))
    simp only [heard, y, x] at hr hs ⊢
    rcases hr with hr | hr <;> simp only [hr, hs] <;> simp only [h2, beq_self_eq_true, decide_true, Bool.not_false, Bool.and_true, if_true]
  · intro hp hc hm hr
    refine laneBecomes_of rfl ((if_neg (hheard hp hc)).trans ((if_neg hm).trans ?_))
    simp only [heard, y, x] at hr ⊢
    rcases hr with hr | hr <;> simp only [hr]
  · intro hr hc
    refine laneBecomes_of rfl (if_pos ?_)
    rw [show (s.lane l).pwr.gated.contains 3 = false from hc]
    rcases hr with h | h
    · rw [decide_eq_true h]; rfl
    · rw [decide_eq_true h, Bool.or_true]; rfl
  · intro hr
    have hr1 : ¬ roleOf (s.lane l) ≠ 1 := fun h => h hr
    refine ⟨fun h => ?_, fun h hs hc => ?_, fun h hc => ?_, fun h hs => ?_⟩
    · exact laneBecomes_of rfl ((if_neg hr1).trans (if_pos h))
    · have h2 : ¬ ((s.lane l).prt.lastHb.map (·.role)).getD 0 = 2 := fun e => absurd (h.symm.trans e) (by decide)
      refine laneBecomes_of rfl ((if_neg hr1).trans ((if_neg h2).trans ?_))
      rw [show (s.lane l).prt.slotAgo = none from hs]
      refine (if_neg Bool.false_ne_true).trans (if_pos ?_)
      rw [decide_eq_true h, hc]
      rfl
    · have h2 : ¬ ((s.lane l).prt.lastHb.map (·.role)).getD 0 = 2 := fun e => absurd (h.symm.trans e) (by decide)
      have hindex : ¬ (decide (((s.lane l).prt.lastHb.map (·.role)).getD 0 = 1) && !bget (s.lane l) Rg.PRT_CFG 1) = true := by
        rw [show bget (s.lane l) Rg.PRT_CFG 1 = true from hc, Bool.not_true, Bool.and_false]
        exact Bool.false_ne_true
      refine laneBecomes_of rfl ((if_neg hr1).trans ((if_neg h2).trans ?_))
      rw [if_neg hindex]
      exact ite_self _
    · refine laneBecomes_of rfl (if_pos ?_)
      rw [decide_eq_true (show roleOf (s.lane l) = 1 from hr), show (s.lane l).prt.lastHb = none from h, show (s.lane l).prt.slotAgo = none from hs]
      rfl
  · intro hr hq hb hc
    refine laneBecomes_of rfl (if_pos ?_)
    rw [decide_eq_true (show roleOf (s.lane l) = 4 from hr), decide_eq_true hq, decide_eq_true hb, beq_iff_eq.2 hc]
    rfl
  · intro h
    refine laneBecomes_of rfl (if_neg ?_)
    rcases h with h | h
    · rw [decide_eq_false h]; exact Bool.false_ne_true
    · rw [beq_eq_false_iff_ne.2 h, Bool.and_false]; exact Bool.false_ne_true
  · have ht := takenOver_becomeActive c x
    simp only [takenOver, Prod.mk.injEq] at ht
    obtain ⟨happ, hcomm, hforces, hseqs⟩ := ht
    exact ⟨roleOf_becomeActive c x, happ, hcomm, hforces, hseqs⟩
  · intro hr hn hq hs
    refine laneBecomes_of rfl (if_pos ?_)
    rw [decide_eq_true (show roleOf (s.lane l) = 2 from hr), show (s.lane l).prt.resigned = false from hn, decide_eq_true hq, decide_eq_true hs]
    rfl
  · rintro ⟨ha, hb⟩ hr h4
    refine laneBecomes_of (rmGate_exec (exec_handover s l src) ha hb rfl) (if_pos ?_)
    rw [decide_eq_true (show roleOf (s.lane l) = 2 from hr), beq_iff_eq.2 (show ((s.lane l).prt.lastHb.map (·.role)).getD 0 = 4 from h4)]
    rfl
  · rintro ⟨ha, hb⟩ h
    refine laneBecomes_of (rmGate_exec (exec_handover s l src) ha hb rfl) (if_neg ?_)
    rcases h with h | h
    · rw [decide_eq_false h]; exact Bool.false_ne_true
    · rw [beq_eq_false_iff_ne.2 (show ((s.lane l).prt.lastHb.map (·.role)).getD 0 ≠ 4 from h), Bool.and_false]; exact Bool.false_ne_true
  · intro h0 hle
    have hdue : ¬ (decide ((s.lane l).prt.handN = 0) || decide ((s.lane l).exe.n + 1 < (s.lane l).prt.handN)) = true := by
      rw [decide_eq_false (Nat.pos_iff_ne_zero.1 h0), decide_eq_false (Nat.not_lt.2 hle)]
      exact Bool.false_ne_true
    refine ⟨fun hr h4 => ?_, fun hr h4 => ?_, fun hr hc => ?_, fun hr => ?_⟩
    · exact laneBecomes_of rfl ((if_neg hdue).trans ((if_pos hr).trans (if_pos (beq_iff_eq.2 h4))))
    · exact laneBecomes_of rfl ((if_neg hdue).trans ((if_pos hr).trans (if_neg fun e => h4 (beq_iff_eq.1 e))))
    · have hr2 : ¬ roleOf (s.lane l) = 2 := fun e => absurd (hr.symm.trans e) (by decide)
      refine laneBecomes_of rfl ((if_neg hdue).trans ((if_neg hr2).trans (if_pos ?_)))
      rw [decide_eq_true (show roleOf (s.lane l) = 4 from hr), beq_iff_eq.2 hc]
      rfl
    · have hr2 : ¬ roleOf (s.lane l) = 2 := fun e => absurd (hr.symm.trans e) (by decide)
      refine laneBecomes_of rfl ((if_neg hdue).trans ((if_neg hr2).trans ((if_neg ?_).trans (if_pos ?_))))
      · rw [show roleOf (s.lane l) = 3 from hr]
        exact Bool.false_ne_true
      · rw [show roleOf (s.lane l) = 3 from hr]
        rfl
  · intro hw
    exact laneBecomes_of rfl (guardWrite_allowed hw)
  · intro h2 h0
    unfold isStandby
    rw [Bool.or_eq_true, beq_iff_eq, decide_eq_true_iff]
    unfold roleOf at h2 h0
    omega

end Sys2Proof.Machine

/-! SUPPORT. The power state as the lanes show it: what writes it, what leaves it alone, and the statements about requests and entries. -/

namespace Sys2Proof.Machine

theorem State.fsetAll_rm (s : State) (a hi lo v : Nat) : (s.fsetAll a hi lo v).rm = s.rm := rfl

theorem State.fsetAll_la (s : State) (a hi lo v : Nat) : (s.fsetAll a hi lo v).la = fset s.la a hi lo v := rfl

theorem State.setPwr_rm (s : State) (st i : Nat) : (s.setPwr st i).rm = s.rm := rfl

theorem State.setPwr_la (s : State) (st i : Nat) : (s.setPwr st i).la = fset (fset s.la Rg.PWR_STATUS 2 0 st) Rg.PWR_STATUS 15 12 i := rfl

theorem State.setPwr_lane (s : State) (st i : Nat) (k : Lane) : (s.setPwr st i).lane k = fset (fset (s.lane k) Rg.PWR_STATUS 2 0 st) Rg.PWR_STATUS 15 12 i := by
  cases k <;> rfl

theorem State.setPwr_state (s : State) {st : Nat} (i : Nat) (h : st < 8) : (s.setPwr st i).pwrState = st := by
  unfold State.pwrState
  rw [State.setPwr_la, fget_fset_below _ _ _ (by decide) (by decide) (by decide) (by decide), fget_fset_same _ _ _ _ _ (by decide) (by decide) h]

theorem State.setPwr_index (s : State) (st : Nat) {i : Nat} (h : i < 16) : (s.setPwr st i).pwrIndex = i := by
  unfold State.pwrIndex
  rw [State.setPwr_la, fget_fset_same _ _ _ _ _ (by decide) (by decide) h]

/-- No request waits behind a state set anew that did not wait before. -/
theorem State.setPwr_pending_none {s : State} (st i : Nat) (h : s.pendingReq = none) : (s.setPwr st i).pendingReq = none := by
  have hbit : bget (s.setPwr st i).la Rg.PWR_STATUS 7 = bget s.la Rg.PWR_STATUS 7 := by
    unfold bget
    rw [State.setPwr_la, fget_fset_below _ _ _ (by decide) (by decide) (by decide) (by decide), fget_fset_above _ _ _ (by decide) (by decide) (by decide)]
  unfold State.pendingReq at h ⊢
  rw [hbit]
  revert h
  cases bget s.la Rg.PWR_STATUS 7
  · exact fun _ => rfl
  · exact fun h => nomatch h

/-- The power state and its index are read from one register of lane A. -/
theorem State.pwr_congr {s t : State} (h : rget s.la Rg.PWR_STATUS = rget t.la Rg.PWR_STATUS) :
    s.pwrState = t.pwrState ∧ s.pwrIndex = t.pwrIndex ∧ s.pwrTarget = t.pwrTarget := by
  unfold State.pwrState State.pwrIndex State.pwrTarget fget
  rw [h]
  exact ⟨rfl, rfl, rfl⟩

theorem State.setTarget_pwr (s : State) {t : Nat} (h : t < 8) :
    (s.fsetAll Rg.PWR_STATUS 6 4 t).pwrState = s.pwrState ∧ (s.fsetAll Rg.PWR_STATUS 6 4 t).pwrIndex = s.pwrIndex ∧ (s.fsetAll Rg.PWR_STATUS 6 4 t).pwrTarget = t := by
  unfold State.pwrState State.pwrIndex State.pwrTarget
  rw [State.fsetAll_la]
  exact ⟨fget_fset_below _ _ _ (by decide) (by decide) (by decide) (by decide), fget_fset_above _ _ _ (by decide) (by decide) (by decide),
    fget_fset_same _ _ _ _ _ (by decide) (by decide) h⟩

theorem showInLine_rget (x : LaneState) (on : Bool) {a : Nat} (h : ∀ p < 4, a ≠ Rg.CAR_PORTp_STAT p) : rget (showInLine x on) a = rget x a := by
  unfold showInLine
  simp only [show List.range 4 = [0, 1, 2, 3] from rfl, List.foldl_cons, List.foldl_nil]
  rw [rget_bset_other _ _ _ (h 3 (by decide)), rget_bset_other _ _ _ (h 2 (by decide)), rget_bset_other _ _ _ (h 1 (by decide)), rget_bset_other _ _ _ (h 0 (by decide))]

/-- The relays leave the power registers alone. -/
theorem relaysOut_rget (x : LaneState) {a : Nat} (h : a ≠ Rg.CAR_STATUS) (h2 : ∀ p < 4, a ≠ Rg.CAR_PORTp_STAT p) : rget (relaysOut x) a = rget x a := by
  unfold relaysOut
  dsimp only
  rw [rget_fset_other _ _ _ _ _ _ h, rget_fset_other _ _ _ _ _ _ h, showInLine_rget _ _ h2]
  rfl

theorem relaysOut_bypass (x : LaneState) : (relaysOut x).tri.bypass = true := rfl

theorem State.evalPending_none {s : State} (h : s.pendingReq = none) : s.evalPending = s := by
  unfold State.evalPending
  rw [h]

theorem gateLane_gated (p : Nat) (x : LaneState) : (gateLane p x).pwr.gated.contains p = true := by
  unfold gateLane
  dsimp only
  generalize LaneState.pwr _ = w
  unfold addNew
  simp only [List.foldl_cons, List.foldl_nil]
  split
  next h => exact h
  next h => simp

/-- The lanes with a participant gated, and the time kept where DORMANT or OFF follows (20 R438). -/
def State.gated (s : State) (p : Nat) : State :=
  let t := s.mapLanes (fun l => gateLane p (if s.pwrTarget == 1 then saveRegs p l else l))
  if p = 0xC && !(s.pwrTarget == 1) then { t with rm := { t.rm with start := { t.rm.start with savedW := t.keptTime.getD t.rm.start.savedW } } } else t

theorem State.gatePart_eq (s : State) (p : Nat) :
    s.gatePart p = ((s.gated p).setPwr 1 (p + 1)).onPwr (fun x => { x with gated := p :: x.gated, quiesced := [], entering := p != 0xC }) := rfl

theorem State.gated_lane (s : State) (p : Nat) (k : Lane) : ∃ x, (s.gated p).lane k = gateLane p x := by
  unfold State.gated
  dsimp only
  split <;> cases k <;> exact ⟨_, rfl⟩

theorem State.gated_pwr (s : State) (p : Nat) : (s.gated p).rm.pwr = s.rm.pwr := by
  unfold State.gated
  dsimp only
  split <;> rfl

theorem State.onPwr_pwrState (s : State) (f : PwrState → PwrState) : (s.onPwr f).pwrState = s.pwrState := rfl

theorem State.onPwr_pwrIndex (s : State) (f : PwrState → PwrState) : (s.onPwr f).pwrIndex = s.pwrIndex := rfl

/-- Every request of a wake leaves by the lines that are not in order (20 R447). -/
theorem foldl_emitWake (qs : List Nat) (x : LaneState) :
    qs.foldl (fun z q => emit z (.wake q (rget z Rg.PWR_WAKE_ID))) x = qs.foldl (fun z q => emit z (.wake q (rget x Rg.PWR_WAKE_ID))) x := by
  have h : ∀ (qs : List Nat) (z : LaneState), rget z Rg.PWR_WAKE_ID = rget x Rg.PWR_WAKE_ID →
      qs.foldl (fun z q => emit z (.wake q (rget z Rg.PWR_WAKE_ID))) z = qs.foldl (fun z q => emit z (.wake q (rget x Rg.PWR_WAKE_ID))) z := by
    intro qs
    induction qs with
    | nil => exact fun _ _ => rfl
    | cons q qs ih =>
      intro z hz
      rw [List.foldl_cons, List.foldl_cons, hz]
      exact ih _ hz
  exact h qs x rfl

theorem State.rsetAll_lane (s : State) (a : Nat) (v : Word) (k : Lane) : (s.rsetAll a v).lane k = rset (s.lane k) a v := by
  cases k <;> rfl

/-- The residency counters cleared, one state after the other. -/
def State.clearRes (s : State) (n : Nat) : State :=
  (List.range n).foldl (fun s k => (s.rsetAll (Rg.PWR_RESs_LO k) 0).rsetAll (Rg.PWR_RESs_HI k) 0) s

theorem State.clearRes_rget (s : State) (k : Lane) (m : Nat) : ∀ n < m, rget ((s.clearRes m).lane k) (Rg.PWR_RESs_LO n) = 0 ∧ rget ((s.clearRes m).lane k) (Rg.PWR_RESs_HI n) = 0 := by
  induction m with
  | zero => intro n hn; omega
  | succ m ih =>
    intro n hn
    unfold State.clearRes
    rw [List.range_succ, List.foldl_append, List.foldl_cons, List.foldl_nil, State.rsetAll_lane, State.rsetAll_lane]
    by_cases h : n = m
    · subst h
      exact ⟨(rget_rset_other _ _ _ _ (by unfold Rg.PWR_RESs_LO Rg.PWR_RESs_HI; omega)).trans (rget_rset_same _ _ _), rget_rset_same _ _ _⟩
    · rw [rget_rset_other _ _ _ _ (by unfold Rg.PWR_RESs_LO Rg.PWR_RESs_HI; omega), rget_rset_other _ _ _ _ (by unfold Rg.PWR_RESs_LO; omega),
        rget_rset_other _ _ _ _ (by unfold Rg.PWR_RESs_HI; omega), rget_rset_other _ _ _ _ (by unfold Rg.PWR_RESs_LO Rg.PWR_RESs_HI; omega)]
      exact ih n (by omega)

theorem exec_pwrResClr (s : State) (src : CmdSrc) :
    exec (.pwrResClr src) s = s.rmGate (fun s => if !isMaintainer src then s.answer .auth else (s.clearRes 5).answer .ok) := rfl

/-- A request from outside the vital tasks is refused or takes its way (20 R434). -/
theorem powerRequest_outside {s : State} {src : PwrSrc} (t : Nat) (ha : s.rm.alive = true) (hsrc : src ≠ .vital) (hb : s.bringup = false ∨ s.pwrState = 3) :
    exec (.powerStateRequest src t) s = if t = 0 || 3 < t then .next (s.answer .refused) else .next ((s.answer .ok).request t) := by
  have hup : ¬ (!s.rm.alive) = true := by rw [ha]; exact Bool.false_ne_true
  have hin : ¬ (s.bringup && s.pwrState != 3) = true := by
    rcases hb with h | h
    · rw [h, Bool.false_and]; exact Bool.false_ne_true
    · rw [h, bne_self_eq_false, Bool.and_false]; exact Bool.false_ne_true
  cases src with
  | vital => exact absurd rfl hsrc
  | _ => exact (if_neg hup).trans (if_neg hin)

theorem State.request_run {s : State} (t : Nat) (h : s.pwrState = 0) : s.request t = s.onPwr (fun p => { p with req := some t }) := by
  unfold State.request
  rw [h]
  rfl

theorem State.request_standby {s : State} (t : Nat) (h : s.pwrState = 2) : s.request t = if t = 2 then s.toDormant false else if t = 3 then s.toOff else s := by
  unfold State.request
  rw [h]
  rfl

theorem State.request_dormant {s : State} (t : Nat) (h : s.pwrState = 3) : s.request t = if t = 3 then s.toOff else s := by
  unfold State.request
  rw [h]
  rfl

theorem State.request_between {s : State} (t : Nat) (h : s.pwrState = 1 ∨ s.pwrState = 4 ∨ s.pwrState = 5) : s.request t = s.setPending (some t) := by
  unfold State.request
  rcases h with h | h | h <;> rw [h] <;> rfl

theorem State.toDormant_kept {s : State} (b : Bool) (h : s.rm.start.stby = true) : (s.toDormant b).pwrState = 3 ∧ (s.toDormant b).rm.alive = s.rm.alive := by
  have hstby : (s.lanesDown false).rm.start.stby = true := h
  unfold State.toDormant
  dsimp only
  rw [if_pos hstby, State.setPwr_state _ _ (by decide)]
  exact ⟨rfl, rfl⟩

theorem State.endEntry_gated {s : State} (blk cause : Nat) (l : Lane) (h : s.rm.pwr.gated ≠ []) :
    ∃ z : State, s.endEntry blk cause l = (z.setPwr 5 0).onPwr (fun x => { x with restart := s.rm.pwr.gated, quiesced := [], entering := false }) :=
  ⟨_, if_neg h⟩

theorem entryComplete_due {s : State} (hs : s.pwrState = 1) (hi : s.pwrIndex = 13) : ¬ (s.pwrState != 1 || s.pwrIndex != 13) = true := by
  rw [hs, hi]
  exact Bool.false_ne_true

/-- The power state and the lanes as an entry begins (20 R436). -/
def State.begun (u : State) (t : Nat) : State :=
  ((u.setPwr 1 1).fsetAll Rg.PWR_STATUS 6 4 t).mapLanes (fun l => relaysOut (fset l Rg.PWR_WAKE_CAUSE 31 0 0))

theorem State.begun_rm (u : State) (t : Nat) : (u.begun t).rm = u.rm := by
  rw [State.begun, State.mapLanes_rm, State.fsetAll_rm, State.setPwr_rm]

/-- What an entry that begins leaves of the requests. -/
theorem entryBegin_eq {s : State} {t : Nat} (hreq : s.rm.pwr.req = some t) (hs : s.pwrState = 0) (hph : phaseOf s.la = 4) (hv : s.voting ≠ []) :
    ∃ u : State, exec .entryBegin s = .next (u.begun (if s.safe && t = 1 then 2 else t))
      ∧ u.rm.pwr.req = none ∧ u.rm.pwr.gated = [] ∧ u.rm.pwr.modeAt = s.mode := by
  have hgo : ¬ (s.pwrState != 0 || phaseOf s.la != 4 || decide (s.voting = [])) = true := by
    rw [hs, hph, decide_eq_false hv]
    exact Bool.false_ne_true
  show ∃ u : State, execEntryBegin s = _ ∧ _
  unfold execEntryBegin
  rw [hreq]
  exact ⟨_, if_neg hgo, rfl, rfl, rfl⟩

/-- What the power state reads once an entry has begun. -/
theorem State.begun_pwr (u : State) {t : Nat} (ht : t < 8) :
    (u.begun t).pwrState = 1 ∧ (u.begun t).pwrIndex = 1 ∧ (u.begun t).pwrTarget = t := by
  have hreg : rget (u.begun t).la Rg.PWR_STATUS = rget ((u.setPwr 1 1).fsetAll Rg.PWR_STATUS 6 4 t).la Rg.PWR_STATUS := by
    rw [State.begun, State.mapLanes_la, relaysOut_rget _ (by decide) (by decide), rget_fset_other _ _ _ _ _ _ (by decide)]
  obtain ⟨h1, h2, h3⟩ := State.pwr_congr hreg
  obtain ⟨k1, k2, k3⟩ := State.setTarget_pwr (u.setPwr 1 1) ht
  rw [h1, h2, h3, k1, k2, k3]
  exact ⟨State.setPwr_state _ _ (by decide), State.setPwr_index _ _ (by decide), rfl⟩

theorem execEntryComplete_quiet {s : State} {t : State} (hs : s.pwrState = 1) (hi : s.pwrIndex = 13) (hw : s.rm.pwr.wakePending = false)
    (h : (if s.pwrTarget = 1 then (s.setPwr 2 0).mapLanes (fun l => { l with pwr := { l.pwr with supply := false } }) else if s.pwrTarget = 2 then s.toDormant false else s.toOff) = t) :
    exec .entryComplete s = .next t.evalPending := by
  show execEntryComplete s = _
  unfold execEntryComplete
  rw [if_neg (entryComplete_due hs hi), hw, ← h]
  dsimp only
  split
  next h1 => rw [if_pos h1]; rfl
  next h2 => rw [h2]; rfl
  next h1 h2 => rw [if_neg h1, if_neg h2]; rfl

/-- The module in STANDBY, its supply taken away. -/
def State.inStandby (s : State) : State := (s.setPwr 2 0).mapLanes (fun l => { l with pwr := { l.pwr with supply := false } })

theorem supply_rget (x : LaneState) (b : Bool) (a : Nat) : rget { x with pwr := { x.pwr with supply := b } } a = rget x a := rfl

theorem State.inStandby_rget (s : State) : rget s.inStandby.la Rg.PWR_STATUS = rget (s.setPwr 2 0).la Rg.PWR_STATUS := by
  rw [State.inStandby, State.mapLanes_la, supply_rget]

theorem State.pendingReq_congr {s t : State} (h : rget s.la Rg.PWR_STATUS = rget t.la Rg.PWR_STATUS) : s.pendingReq = t.pendingReq := by
  unfold State.pendingReq bget fget
  rw [h]

theorem State.inStandby_pending {s : State} (h : s.pendingReq = none) : s.inStandby.evalPending = s.inStandby :=
  State.evalPending_none ((State.pendingReq_congr s.inStandby_rget).trans (State.setPwr_pending_none 2 0 h))

theorem State.inStandby_state (s : State) : s.inStandby.pwrState = 2 :=
  (State.pwr_congr s.inStandby_rget).1.trans (State.setPwr_state s 0 (by decide))

/-- Settles O46: the branch that the guards of each command select, and what the power state reads after each of them. -/
theorem powerStateEntry : Obligations.PowerStateEntry := by
  unfold Obligations.PowerStateEntry
  intro s l ag src csrc t p ps x asked outside quiesced voter noPend back
  have hquiet (hp : s.partNow = some p) (hv : voter) (hr : refuses p x = false) (hc : (p == 1 && !coresDone x) = false) :
      exec (.participantQuiesced l) s = .next (if quiesced.voting.all (fun y => quiesced.rm.pwr.quiesced.contains y) then quiesced.gatePart p else quiesced) := by
    obtain ⟨hvote, hnot⟩ := hv
    show execParticipantQuiesced l s = _
    unfold execParticipantQuiesced
    rw [hp]
    refine if_neg ?_
    rw [show votes (s.lane l) = true from hvote, show refuses p (s.lane l) = false from hr, hnot, show (p == 1 && !coresDone (s.lane l)) = false from hc]
    exact Bool.false_ne_true
  refine ⟨?_, ?_, ?_, ?_, ?_, ?_, ?_, ?_, ?_, ?_, ?_, ?_, ?_, ?_, ?_, ?_, ?_, ?_⟩
  · rintro ⟨ha, hsrc, hb⟩ h1 h3
    have hin : ¬ (decide (t = 0) || decide (3 < t)) = true := by rw [decide_eq_false (by omega), decide_eq_false (by omega)]; exact Bool.false_ne_true
    have hx := (powerRequest_outside t ha hsrc hb).trans (if_neg hin)
    refine ⟨fun h => ?_, fun h => ?_, fun h => ?_, fun h => ?_⟩
    · exact hx.trans (congrArg _ (State.request_run (s := s.answer .ok) t h))
    · exact hx.trans (congrArg _ (State.request_standby (s := s.answer .ok) t h))
    · exact hx.trans (congrArg _ (State.request_dormant (s := s.answer .ok) t h))
    · exact hx.trans (congrArg _ (State.request_between (s := s.answer .ok) t h))
  · rintro ⟨ha, hsrc, hb⟩ h
    refine (powerRequest_outside t ha hsrc hb).trans (if_pos ?_)
    rw [Bool.or_eq_true, decide_eq_true_iff, decide_eq_true_iff]
    exact h
  · intro n z ha htake
    show execPowerStateRequest .vital t s = _
    unfold execPowerStateRequest
    rw [if_neg (by rw [ha]; exact Bool.false_ne_true)]
    dsimp only
    rw [htake]
  · intro hreq ht hs hph hv
    obtain ⟨u, hx, hr, hg, hm⟩ := entryBegin_eq hreq hs hph hv
    have h8 : (if s.safe && t = 1 then 2 else t) < 8 := by split <;> omega
    obtain ⟨h1, h2, h3⟩ := State.begun_pwr u h8
    exact ⟨_, hx, h1, h2, h3, by rw [State.begun_rm, hr], by rw [State.begun_rm, hg], by rw [State.begun_rm, hm],
      fun k => by rw [State.begun, State.mapLanes_lane]; exact relaysOut_bypass _⟩
  · intro hp hv hr h1 hc
    exact hquiet hp hv hr (by rw [hc, Bool.not_true, Bool.and_false])
  · intro hp hv hr h1
    exact hquiet hp hv hr (by rw [beq_eq_false_iff_ne.2 h1, Bool.false_and])
  · rintro hp ⟨hvote, hnot⟩ hr
    refine ⟨?_, ?_⟩
    · show execParticipantRefusal l s = _
      unfold execParticipantRefusal
      rw [hp]
      refine congrArg Host.Outcome.next (if_pos ?_)
      rw [show votes (s.lane l) = true from hvote, show refuses p (s.lane l) = true from hr, hnot]
      rfl
    · show execParticipantQuiesced l s = _
      unfold execParticipantQuiesced
      rw [hp]
      refine if_pos ?_
      rw [show refuses p (s.lane l) = true from hr, Bool.or_true, Bool.true_or, Bool.true_or]
  · rintro hp ⟨hvote, hnot⟩ h2 hA
    show execParticipantTimeout l s = _
    unfold execParticipantTimeout
    rw [hp]
    refine congrArg Host.Outcome.next (if_pos ?_)
    rw [show votes (s.lane l) = true from hvote, bne_iff_ne.2 h2, bne_iff_ne.2 hA, hnot]
    rfl
  · intro hp h
    show execParticipantTimeout l s = _
    unfold execParticipantTimeout
    rw [hp]
    refine congrArg Host.Outcome.next (if_neg ?_)
    rcases h with rfl | rfl <;> simp
  · intro hp
    refine ⟨?_, ?_, ?_, ?_, fun k => ?_⟩
    · rw [State.gatePart_eq, ← State.gated_pwr s p]
      rfl
    · rw [State.gatePart_eq]
      rfl
    · rw [State.gatePart_eq, State.onPwr_pwrState, State.setPwr_state _ _ (by decide)]
    · rw [State.gatePart_eq, State.onPwr_pwrIndex, State.setPwr_index _ _ (by omega)]
    · obtain ⟨z, hz⟩ := State.gated_lane s p k
      rw [State.gatePart_eq, State.onPwr_lane, State.setPwr_lane, hz, fset_pwr, fset_pwr]
      exact gateLane_gated p z
  · intro hg
    obtain ⟨z, hz⟩ := State.endEntry_gated p t l hg
    rw [hz]
    exact ⟨by rw [State.onPwr_pwrState, State.setPwr_state _ _ (by decide)], rfl⟩
  · intro hr hs
    show execAbortRestartStep s = _
    unfold execAbortRestartStep
    rw [hr]
    exact if_neg (by rw [hs]; exact Bool.false_ne_true)
  · intro hs hi hw hn
    refine ⟨fun ht => ?_, fun ht => ?_, fun ht => ?_⟩
    · refine ⟨s.inStandby, ?_, s.inStandby_state, fun k => ?_⟩
      · rw [execEntryComplete_quiet hs hi hw (if_pos ht)]
        exact congrArg _ (State.inStandby_pending hn)
      · rw [State.inStandby, State.mapLanes_lane]
    · exact execEntryComplete_quiet hs hi hw (by rw [ht]; rfl)
    · exact execEntryComplete_quiet hs hi hw (by rw [ht]; rfl)
  · exact fun hst b => State.toDormant_kept b hst
  · unfold State.toOff
    dsimp only
    split <;> exact ⟨rfl, rfl⟩
  · intro hs
    refine ⟨fun h => ?_, fun h => ?_, ?_⟩
    · exact congrArg Host.Outcome.next (if_pos (by rw [hs, bne_iff_ne.2 h]; rfl))
    · exact congrArg Host.Outcome.next (if_neg (by rw [h, bne_self_eq_false, Bool.and_false]; exact Bool.false_ne_true))
    · exact congrArg Host.Outcome.next (if_pos (by rw [hs]; rfl))
  · intro hw hs
    refine laneBecomes_of rfl ((guardWrite_allowed hw).trans ((if_pos (beq_iff_eq.2 hs)).trans ?_))
    exact foldl_emitWake _ _
  · intro ha hb hm
    refine ⟨_, rmGate_exec (exec_pwrResClr s csrc) ha hb (if_neg (by rw [hm]; exact Bool.false_ne_true)), rfl, fun k n hn => ?_⟩
    rw [State.answer_lane]
    exact State.clearRes_rget s k 5 n hn

end Sys2Proof.Machine

/-! SUPPORT. Wakes: what a wake comes to in each power state, and the steps of a wake. -/

namespace Sys2Proof.Machine

/-- A wake before MER has gated aborts the entry (20 R445). -/
theorem State.wake_entering {s : State} (n : Nat) (hs : s.pwrState = 1) (he : s.rm.pwr.entering = true) :
    s.wake n = ((s.mapLanes (noteWake true n)).setPending none).endEntry 0x1F 3 .a :=
  if_pos (by rw [decide_eq_true hs, he]; rfl)

/-- A wake after MER has gated waits for the end of the entry (20 R445). -/
theorem State.wake_gated {s : State} (n : Nat) (hs : s.pwrState = 1) (he : s.rm.pwr.entering = false) :
    s.wake n = (s.mapLanes (noteWake (!s.rm.pwr.wakePending) n)).onPwr (fun p => { p with wakePending := true }) :=
  (if_neg (by rw [he, Bool.and_false]; exact Bool.false_ne_true)).trans (if_pos hs)

theorem State.wake_asleep {s : State} (n : Nat) (hs : s.pwrState = 2 ∨ s.pwrState = 3) : s.wake n = (s.mapLanes (noteWake true n)).startWake := by
  have h1 : s.pwrState ≠ 1 := by omega
  refine (if_neg (by rw [decide_eq_false h1, Bool.false_and]; exact Bool.false_ne_true)).trans ((if_neg h1).trans (if_pos ?_))
  rw [Bool.or_eq_true, decide_eq_true_iff, decide_eq_true_iff]
  exact hs

theorem State.wake_ignored {s : State} (n : Nat) (hs : s.pwrState = 0 ∨ s.pwrState = 5) : s.wake n = s := by
  have h1 : s.pwrState ≠ 1 := by omega
  have h23 : ¬ (decide (s.pwrState = 2) || decide (s.pwrState = 3)) = true := by
    rw [decide_eq_false (by omega), decide_eq_false (by omega)]
    exact Bool.false_ne_true
  refine (if_neg (by rw [decide_eq_false h1, Bool.false_and]; exact Bool.false_ne_true)).trans ((if_neg h1).trans ((if_neg h23).trans (if_neg ?_)))
  rw [decide_eq_false (by omega), Bool.false_and]
  exact Bool.false_ne_true

theorem noteWake_first (n : Nat) (x : LaneState) : noteWake true n x = rset x Rg.PWR_WAKE_CAUSE (BitVec.ofNat 32 (2 ^ n + 65536 * n)) := rfl

/-- The first source of a wake does not touch the power state. -/
theorem State.noteWake_pwrState (s : State) (n : Nat) : (s.mapLanes (noteWake true n)).pwrState = s.pwrState := by
  refine (State.pwr_congr ?_).1
  rw [State.mapLanes_la, noteWake_first, rget_rset_other _ _ _ _ (by decide)]

/-- STANDBY ends in the first step of a wake (20 R448). -/
def State.waking (s : State) : State :=
  ((s.setPwr 4 0).fsetAll Rg.PWR_STATUS 16 16 0).onPwr (fun p => { p with armed := false, wakePending := false })

theorem State.waking_pwr (s : State) : s.waking.pwrState = 4 ∧ s.waking.pwrIndex = 0 := by
  have hlow : fget (fset (s.setPwr 4 0).la Rg.PWR_STATUS 16 16 0) Rg.PWR_STATUS 2 0 = fget (s.setPwr 4 0).la Rg.PWR_STATUS 2 0 :=
    fget_fset_below _ _ _ (by decide) (by decide) (by decide) (by decide)
  have hindex : fget (fset (s.setPwr 4 0).la Rg.PWR_STATUS 16 16 0) Rg.PWR_STATUS 15 12 = fget (s.setPwr 4 0).la Rg.PWR_STATUS 15 12 :=
    fget_fset_below _ _ _ (by decide) (by decide) (by decide) (by decide)
  exact ⟨hlow.trans (State.setPwr_state s 0 (by decide)), hindex.trans (State.setPwr_index s 4 (by decide))⟩

theorem State.fsetAll_lane (s : State) (a hi lo v : Nat) (k : Lane) : (s.fsetAll a hi lo v).lane k = fset (s.lane k) a hi lo v := by
  cases k <;> rfl

theorem State.waking_rget (s : State) (k : Lane) {a : Nat} (h : a ≠ Rg.PWR_STATUS) : rget (s.waking.lane k) a = rget (s.lane k) a := by
  rw [State.waking, State.onPwr_lane, State.fsetAll_lane, State.setPwr_lane, rget_fset_other _ _ _ _ _ _ h, rget_fset_other _ _ _ _ _ _ h, rget_fset_other _ _ _ _ _ _ h]

theorem State.wake_standby {s : State} (n : Nat) (hs : s.pwrState = 2) (hd : s.rm.pwr.dormantPath = false) : s.wake n = (s.mapLanes (noteWake true n)).waking := by
  rw [State.wake_asleep n (Or.inl hs)]
  refine if_neg ?_
  rw [State.noteWake_pwrState, hs, State.mapLanes_rm, hd]
  exact Bool.false_ne_true

/-- A step of a start-up after the checks of its images (20 R448). -/
theorem wakeStep_starting {s : State} (hs : s.pwrState = 4) (hst : s.rm.start.step = 7) (hi : 5 ≤ s.pwrIndex) :
    exec .wakeStep s = .next (if s.pwrIndex = 15 then ((s.mapLanes (fun l => startStep s.pwrIndex 0 (fun q => s.sends l.id q) l)).reachStop).evalPending
      else (s.mapLanes (fun l => startStep s.pwrIndex 0 (fun q => s.sends l.id q) l)).setPwr 4 (s.pwrIndex + 1)) := by
  have hwoken : ¬ (s.pwrState != 4) = true := by rw [hs]; exact Bool.false_ne_true
  have hin : s.inStartup = true := by
    unfold State.inStartup
    rw [hst]
    rfl
  have hearly : ¬ (decide (s.rm.start.step = 2) && decide (s.pwrIndex ≤ 4)) = true := by rw [hst]; exact Bool.false_ne_true
  have hlate : (decide (s.rm.start.step = 7) && decide (5 ≤ s.pwrIndex)) = true := by rw [hst, decide_eq_true hi]; rfl
  exact (if_neg hwoken).trans ((if_pos hin).trans ((if_neg hearly).trans (if_pos hlate)))

/-- Settles O47: what a wake comes to in each power state, and the branch that the guards of each source and step select. -/
theorem wakeSourcesAndSteps : Obligations.WakeSourcesAndSteps := by
  unfold Obligations.WakeSourcesAndSteps
  intro s id port n k ch p en pat i regs kv stby
  have hwoken (h : s.pwrState = 4) : ¬ (s.pwrState != 4) = true := by rw [h]; exact Bool.false_ne_true
  refine ⟨?_, ?_, ?_, ?_, ?_, ?_, ?_, ?_, ?_, ?_, ?_, ?_⟩
  · intro ha hs
    refine congrArg Host.Outcome.next (if_pos ?_)
    rw [ha]
    rcases hs with h | h <;> rw [h] <;> rfl
  · intro ha
    have ha' : s.rm.pwr.armed = true := ha
    refine ⟨fun h0 hp => ?_, fun h0 hp hid => ?_, fun h1 hport => ?_, fun hk => ?_⟩ <;> refine congrArg Host.Outcome.next (if_pos ?_)
    · rw [ha', show bget s.la Rg.PWR_WAKE_EN 0 = true from h0, show bget s.la Rg.PWR_WAKE_CFG 0 = false from hp]
      rfl
    · rw [ha', show bget s.la Rg.PWR_WAKE_EN 0 = true from h0, show bget s.la Rg.PWR_WAKE_CFG 0 = true from hp]
      rw [Bool.and_self, Bool.and_self, Bool.true_and, Bool.or_eq_true, beq_iff_eq, beq_iff_eq]
      exact hid
    · rw [ha', show bget s.la Rg.PWR_WAKE_EN 1 = true from h1, show s.rm.pwr.wakeEcn.contains port = true from hport]
      rfl
    · rw [ha', show s.rm.pwr.wakeCan.contains k.val = true from hk]
      rfl
  · intro ha
    have ha' : s.rm.pwr.armed = false := ha
    refine ⟨?_, ?_, ?_, ?_⟩ <;> refine congrArg Host.Outcome.next (if_neg ?_) <;> rw [ha'] <;> exact Bool.false_ne_true
  · intro h2
    have hen : ¬ (!bget s.la Rg.PWR_WAKE_EN 2) = true := by rw [show bget s.la Rg.PWR_WAKE_EN 2 = true from h2]; exact Bool.false_ne_true
    refine ⟨fun ho => ?_, fun ho hst => ?_⟩
    · exact congrArg Host.Outcome.next ((if_neg hen).trans (if_neg (by rw [show s.rm.pwr.off = false from ho]; exact Bool.false_ne_true)))
    · exact congrArg Host.Outcome.next ((if_neg hen).trans ((if_pos ho).trans (if_pos hst)))
  · intro ha
    refine ⟨fun h3 => ?_, fun hf => ?_, fun hs hr h4 => ?_⟩
    · exact congrArg Host.Outcome.next (if_pos (by rw [ha, show bget s.la Rg.PWR_WAKE_EN 3 = true from h3]; rfl))
    · exact congrArg Host.Outcome.next (if_pos (by rw [ha, show s.rm.pwr.wakeFio.contains ch.val = true from hf]; rfl))
    · have hgo : ¬ (s.pwrState != 3 || !s.rm.pwr.r436 || !s.rm.alive) = true := by
        rw [hs, show s.rm.pwr.r436 = true from hr, ha]
        exact Bool.false_ne_true
      exact (if_neg hgo).trans (congrArg Host.Outcome.next (if_pos h4))
  · exact State.wake_entering n
  · intro hs he
    rw [State.wake_gated n hs he]
    rfl
  · intro hs hd
    rw [State.wake_standby n hs hd]
    obtain ⟨h1, h2⟩ := State.waking_pwr (s.mapLanes (noteWake true n))
    refine ⟨h1, h2, rfl, fun _ x => ?_⟩
    rw [State.waking_rget _ _ (by decide), State.mapLanes_lane, noteWake_first, rget_rset_same]
  · exact State.wake_ignored n
  · intro hs hst hph h0 h5 h15
    have hout : ¬ s.inStartup = true := by
      unfold State.inStartup
      rw [hst]
      exact Bool.false_ne_true
    have hrun : (decide (s.rm.start.step = 8) && decide (phaseOf s.la = 4)) = true := by rw [hst, hph]; rfl
    refine (if_neg (hwoken hs)).trans ((if_neg hout).trans ((if_pos hrun).trans ?_))
    dsimp only
    rw [decide_eq_false (show ¬ s.pwrIndex = 5 from h5), Bool.false_and, Bool.false_and, if_neg Bool.false_ne_true, if_neg (show ¬ s.pwrIndex = 0 from h0)]
    exact if_pos h15
  · intro hs hst h5 h15
    exact (wakeStep_starting hs hst h5).trans (congrArg Host.Outcome.next (if_neg (show ¬ s.pwrIndex = 15 from Nat.ne_of_lt h15)))
  · intro hs hst h15
    have hi : s.pwrIndex = 15 := h15
    rw [wakeStep_starting hs hst (by omega), if_pos hi, hi]

end Sys2Proof.Machine

/-! SUPPORT. Start-up: the lanes sequenced, the tests ended, a start that failed, and the images' counts at STOP. -/

namespace Sys2Proof.Machine

theorem linkLoser_none (l : Lane) {r : BistResult} (h : r.linkFail = []) : linkLoser l r = [] := by
  unfold linkLoser
  rw [h]
  rfl

theorem State.rsetAll_rm (s : State) (a : Nat) (v : Word) : (s.rsetAll a v).rm = s.rm := rfl

theorem State.showBoot_rm (s : State) : s.showBoot.rm = s.rm := by
  unfold State.showBoot
  dsimp only
  rw [foldl_keeps State.rm fun z t => by rw [State.rsetAll_rm, State.rsetAll_rm, State.fsetAll_rm, State.fsetAll_rm, State.fsetAll_rm],
    State.fsetAll_rm, State.fsetAll_rm, State.fsetAll_rm]

theorem State.setStep_step (s : State) (n : Nat) : (s.setStep n).rm.start.step = n := rfl

/-- Lanes that may start do so at the first step of a wake, with no test ended (21 R455). -/
theorem State.startLanes_steps {s : State} (h : s.rm.start.periph = false) :
    ∃ z : State, s.startLanes = z.setPwr 4 0 ∧ z.rm.start.step = 2 ∧ z.rm.start.tests = [] :=
  ⟨_, if_neg (by rw [h]; exact Bool.false_ne_true), rfl, rfl⟩

theorem State.startLanes_stopped {s : State} (h : s.rm.start.periph = true) : s.startLanes.rm.start.step = 1 := by
  have : ∃ z : State, s.startLanes = z.setStep 1 := ⟨_, if_pos h⟩
  obtain ⟨z, hz⟩ := this
  rw [hz, State.setStep_step]

theorem State.setFail_rm (s : State) (c b : Nat) : (s.setFail c b).rm = s.rm := by
  rw [State.setFail, State.fsetAll_rm, State.fsetAll_rm]

theorem State.setFail_lane (s : State) (c b : Nat) (k : Lane) : (s.setFail c b).lane k = fset (fset (s.lane k) Rg.SYS_STATUS 15 8 c) Rg.SYS_STATUS 23 16 b := by
  cases k <;> rfl

theorem State.setPhase_lane (s : State) (p : Nat) (k : Lane) : (s.setPhase p).lane k = fset (s.lane k) Rg.SYS_STATUS 2 0 p := by cases k <;> rfl

/-- A start that failed is shown as such in every lane (21 R458). -/
theorem State.startFailed_shows (s : State) (c b : Nat) : (s.startFailed c b).rm.start.step = 8 ∧ ∀ k, phaseOf ((s.startFailed c b).lane k) = 5 := by
  refine ⟨State.setStep_step _ _, fun k => ?_⟩
  unfold State.startFailed phaseOf
  dsimp only
  rw [State.setStep_lane, State.setFail_lane, State.setPhase_lane, fget_fset_below _ _ _ (by decide) (by decide) (by decide) (by decide),
    fget_fset_below _ _ _ (by decide) (by decide) (by decide) (by decide), fget_fset_same _ _ _ _ _ (by decide) (by decide) (by decide)]

theorem imgNo_lt (t : ImgType) : 0 < imgNo t := by cases t <;> decide

theorem imgNo_inj {t u : ImgType} (h : imgNo t = imgNo u) : t = u := by
  cases t <;> cases u <;> simp_all [imgNo]

theorem RmState.img_setImg_other (r : RmState) (x : ImgSel) {t u : ImgType} (h : u ≠ t) : (r.setImg t x).img u = r.img u := by
  have hne : imgNo t - 1 ≠ imgNo u - 1 := fun e => h (imgNo_inj (by have := imgNo_lt t; have := imgNo_lt u; omega))
  unfold RmState.img RmState.setImg
  dsimp only
  rw [Vector.getElem?_setIfInBounds_ne hne]

theorem imgNo_le (t : ImgType) : imgNo t ≤ 5 := by cases t <;> decide

theorem RmState.img_setImg_same (r : RmState) (t : ImgType) (x : ImgSel) : (r.setImg t x).img t = x := by
  unfold RmState.img RmState.setImg
  dsimp only
  rw [Vector.getElem?_setIfInBounds_self_of_lt (by have := imgNo_le t; have := imgNo_lt t; omega)]
  rfl

/-- A start-up that reached STOP is counted no more (21 R459). -/
def ImgSel.settled (x : ImgSel) : Prop := x.count = 0 ∧ x.changed = false

/-- The counts of the images cleared, one type after the other. -/
def State.settleImages (s : State) (ts : List ImgType) : State :=
  ts.foldl (fun s t => { s with rm := s.rm.setImg t { (s.rm.img t) with count := 0, changed := false } }) s

theorem State.settleImages_settled (ts : List ImgType) : ∀ (s : State) (u : ImgType), u ∈ ts ∨ (s.rm.img u).settled → ((s.settleImages ts).rm.img u).settled := by
  induction ts with
  | nil => exact fun s u h => h.resolve_left List.not_mem_nil
  | cons t ts ih =>
    intro s u h
    refine ih _ u ?_
    by_cases hu : u = t
    · subst hu
      right
      exact (RmState.img_setImg_same s.rm u { (s.rm.img u) with count := 0, changed := false }).symm ▸ ⟨rfl, rfl⟩
    · rcases h with h | h
      · exact Or.inl ((List.mem_cons.1 h).resolve_left hu)
      · exact Or.inr ((RmState.img_setImg_other s.rm _ hu).symm ▸ h)

/-- The images settled and the start-up ended, before the lanes show it. -/
def State.atStop (s : State) : State :=
  let z := (s.onLanes operate).settleImages allTypes
  { z with rm := { z.rm with start := { z.rm.start with step := 8, lastBuilds := allTypes.map (fun t => (imgNo t, imgBuild (z.rm.img t).selected.img)) } } }

theorem State.reachStop_eq (s : State) : s.reachStop = s.atStop.showBoot := rfl

theorem State.atStop_step (s : State) : s.atStop.rm.start.step = 8 := rfl

theorem State.atStop_imgs (s : State) : s.atStop.rm.imgs = ((s.onLanes operate).settleImages allTypes).rm.imgs := rfl

/-- The result of one lane's tests, noted (21 R456). -/
def State.tested (s : State) (l : Lane) (b : Bool) : State :=
  { s with rm := { s.rm with start := { s.rm.start with tests := s.rm.start.tests ++ [(l, b)] } } }

theorem bistComplete_noted {s : State} {l : Lane} {r : BistResult} {code : Option Nat}
    (hhere : (decide (s.rm.start.step = 3) && !s.rm.start.tests.any (fun t => t.1 == l)) = true) (ht : r.tightrope = true) (hl : r.linkFail = []) (hc : bistCode r = code) :
    exec (.bistComplete l r) s = .next (if s.rm.start.tests.length = 2 then (((code.map (fun c => s.setFail c 0xFF)).getD s).tested l code.isNone).testsEnded
      else ((code.map (fun c => s.setFail c 0xFF)).getD s).tested l code.isNone) := by
  have hnoFail : (r.bootRom && r.bist && !r.tightrope) = false := by rw [ht, Bool.not_true, Bool.and_false]
  have hlen (z : State) (b : Bool) (hz : z.rm = s.rm) : (z.rm.start.tests ++ [(l, b)]).length = 3 ↔ s.rm.start.tests.length = 2 := by
    rw [hz, List.length_append, List.length_singleton]
    omega
  refine (if_pos hhere).trans ?_
  rw [linkLoser_none l hl, hnoFail, hc]
  cases code with
  | none => exact congrArg Host.Outcome.next (if_congr (hlen s true rfl) rfl rfl)
  | some c => exact congrArg Host.Outcome.next (if_congr (hlen _ false (State.setFail_rm s c 0xFF)) rfl rfl)

theorem bistCode_none {r : BistResult} (h : bistCode r = none) : r.tightrope = true := by
  unfold bistCode at h
  cases ht : r.tightrope with
  | true => rfl
  | false =>
    rw [ht] at h
    revert h
    cases r.bootRom <;> cases r.bist <;> exact fun h => nomatch h

/-- Settles O48: the branch that the guards of each command select, and what a start, a failed start and a start that reached STOP leave. -/
theorem startUp : Obligations.StartUp := by
  unfold Obligations.StartUp
  intro s l r ty ts code n st standby input tested here clean late counted bad recd stale turn
  have hturn (h : turn) : ¬ (s.rm.start.step != 6 || s.nextImage != some ty) = true := by
    obtain ⟨h6, hn⟩ := h
    rw [show s.rm.start.step = 6 from h6, hn, bne_self_eq_false, bne_self_eq_false]
    exact Bool.false_ne_true
  have hhere (h : here) : (decide (s.rm.start.step = 3) && !s.rm.start.tests.any (fun t => t.1 == l)) = true := by
    obtain ⟨h3, ht⟩ := h
    rw [decide_eq_true (show s.rm.start.step = 3 from h3), show s.rm.start.tests.any (fun t => t.1 == l) = false from ht]
    rfl
  refine ⟨?_, ?_, ?_, ?_, ?_, ?_, State.startLanes_stopped, ?_, ?_, ?_, ?_, ?_, ?_, ?_, ?_, ?_, ?_, ?_, ?_⟩
  · intro hst ho
    exact (if_neg (by rw [show s.rm.start.stby = false from hst]; exact Bool.false_ne_true)).trans
      (congrArg Host.Outcome.next (if_neg (by show ¬ s.rm.pwr.off = true; rw [ho]; exact Bool.false_ne_true)))
  · intro hst ho
    exact (if_neg (by rw [show s.rm.start.stby = false from hst]; exact Bool.false_ne_true)).trans (congrArg Host.Outcome.next (if_pos ho))
  · intro ho hst
    exact congrArg Host.Outcome.next ((if_pos ho).trans (if_pos hst))
  · intro ho hst
    exact congrArg Host.Outcome.next ((if_pos ho).trans (if_neg (by show ¬ s.rm.start.stby = true; rw [show s.rm.start.stby = false from hst]; exact Bool.false_ne_true)))
  · intro ho ha hi hst
    refine congrArg Host.Outcome.next ((if_neg (by show ¬ s.rm.pwr.off = true; rw [ho]; exact Bool.false_ne_true)).trans (if_pos ?_))
    show (s.rm.alive && !s.rm.start.input && decide (s.rm.start.step = 1)) = true
    rw [ha, show s.rm.start.input = false from hi, decide_eq_true (show s.rm.start.step = 1 from hst)]
    rfl
  · intro hp
    obtain ⟨z, hz, hstep, htests⟩ := State.startLanes_steps hp
    rw [hz]
    exact ⟨hstep, State.setPwr_state _ _ (by decide), State.setPwr_index _ _ (by decide), htests⟩
  · rintro hh ⟨hc, hl⟩ hlen
    exact (bistComplete_noted (hhere hh) (bistCode_none hc) hl hc).trans (congrArg Host.Outcome.next (if_neg (Nat.ne_of_lt hlen)))
  · rintro hh ⟨hc, hl⟩ hlen
    exact (bistComplete_noted (hhere hh) (bistCode_none hc) hl hc).trans (congrArg Host.Outcome.next (if_pos hlen))
  · intro hh hc ht hl hlen
    exact (bistComplete_noted (hhere hh) ht hl hc).trans (congrArg Host.Outcome.next (if_neg (Nat.ne_of_lt hlen)))
  · intro hs hst hi hv ht he
    have h3 : ¬ (decide (s.rm.start.step = 3) && !s.rm.start.tests.any (fun t => t.1 == l)) = true := by
      rw [show s.rm.start.step = 8 from hst]
      exact Bool.false_ne_true
    have h6 : (fget s.la Rg.PWR_STATUS 2 0 == 4 && s.rm.start.step == 8 && fget s.la Rg.PWR_STATUS 15 12 == 6 && votes (s.lane l) && !(r.tightrope && r.ecc)) = true := by
      rw [show fget s.la Rg.PWR_STATUS 2 0 = 4 from hs, show s.rm.start.step = 8 from hst, show fget s.la Rg.PWR_STATUS 15 12 = 6 from hi, hv, he, Bool.and_false]
      rfl
    refine (if_neg h3).trans ((if_pos h6).trans ?_)
    rw [ht]
    rfl
  · intro hlen
    have hx : ∃ z : State, s.testsEnded = z.startFailed 0x30 0xFF := ⟨_, if_pos hlen⟩
    obtain ⟨z, hz⟩ := hx
    rw [hz]
    exact State.startFailed_shows z 0x30 0xFF
  · intro ht hc
    refine (if_neg (hturn ht)).trans ?_
    rw [hc]
  · intro ht hc hstale
    refine (if_neg (hturn ht)).trans ?_
    rw [hc]
    refine if_neg ?_
    rw [Bool.and_eq_true, decide_eq_true_iff]
    rintro ⟨rfl, ha⟩
    rcases hstale with h | h
    · exact h rfl
    · exact Bool.false_ne_true (h.symm.trans ha)
  · intro ht hc hty hstale
    subst hty
    have hgo : (decide (ImgType.config = .config) && stale) = true := by rw [hstale]; rfl
    refine ⟨fun hr => ?_, fun hr => ?_⟩
    · refine (if_neg (hturn ht)).trans ?_
      rw [hc]
      exact (if_pos hgo).trans (if_pos hr)
    · refine (if_neg (hturn ht)).trans ?_
      rw [hc]
      exact (if_pos hgo).trans (if_neg (by rw [show s.rm.start.recTried = false from hr]; exact Bool.false_ne_true))
  · intro hst hi
    have hgo : (decide (s.rm.start.step = 7) && fget s.la Rg.PWR_STATUS 15 12 != 5) = true := by
      rw [show s.rm.start.step = 7 from hst, bne_iff_ne.2 (show fget s.la Rg.PWR_STATUS 15 12 ≠ 5 from hi)]
      rfl
    refine ⟨fun hf => ?_, fun hf => ?_⟩
    · refine (if_pos hgo).trans ?_
      rw [hf]
    · refine (if_pos hgo).trans ?_
      rw [hf]
  · intro hin
    have hgo : ¬ (!s.inStartup) = true := by rw [hin]; exact Bool.false_ne_true
    exact ⟨fun h => (if_neg hgo).trans (if_pos h), fun h => (if_neg hgo).trans (if_neg h)⟩
  · intro hin
    exact if_pos (by rw [hin]; rfl)
  · rw [State.reachStop_eq, State.showBoot_rm]
    refine ⟨s.atStop_step, fun t => ?_⟩
    have hmem : t ∈ allTypes := by cases t <;> decide
    have h := State.settleImages_settled allTypes (s.onLanes operate) t (Or.inl hmem)
    unfold RmState.img at h ⊢
    rw [State.atStop_imgs]
    exact h

end Sys2Proof.Machine

/-! SUPPORT. Supply, restarts and keys: what the recorder leaves of the start-up's state and of the lanes, and the reset point. -/

namespace Sys2Proof.Machine

theorem State.showEvr_rm (s : State) : s.showEvr.rm = s.rm := by
  unfold State.showEvr
  dsimp only
  rw [State.fsetAll_rm, State.fsetAll_rm, State.fsetAll_rm, State.fsetAll_rm, State.fsetAll_rm, State.fsetAll_rm]

theorem State.showEvr_fget (s : State) (k : Lane) {a : Nat} (i j : Nat) (h : a ≠ Rg.EVR_STATUS) (h2 : a ≠ Rg.EVR_HOLD) : fget (s.showEvr.lane k) a i j = fget (s.lane k) a i j := by
  unfold State.showEvr
  dsimp only
  rw [State.fsetAll_lane, State.fsetAll_lane, State.fsetAll_lane, State.fsetAll_lane, State.fsetAll_lane, State.fsetAll_lane, fget_fset_other _ _ _ _ _ _ _ _ h2,
    fget_fset_other _ _ _ _ _ _ _ _ h, fget_fset_other _ _ _ _ _ _ _ _ h, fget_fset_other _ _ _ _ _ _ _ _ h, fget_fset_other _ _ _ _ _ _ _ _ h, fget_fset_other _ _ _ _ _ _ _ _ h]

theorem State.rmEvent_start (s : State) (c d : Nat) : (s.rmEvent c d).rm.start = s.rm.start := rfl

theorem State.flushDefer_start (s : State) : s.flushDefer.rm.start = s.rm.start := by
  unfold State.flushDefer
  dsimp only
  split
  · rfl
  · rw [State.showEvr_rm]

theorem State.flushDefer_fget (s : State) (k : Lane) {a : Nat} (i j : Nat) (h : a ≠ Rg.EVR_STATUS) (h2 : a ≠ Rg.EVR_HOLD) : fget (s.flushDefer.lane k) a i j = fget (s.lane k) a i j := by
  unfold State.flushDefer
  dsimp only
  split
  · rfl
  · rw [State.showEvr_fget _ _ _ _ h h2]
    cases k <;> rfl

/-- The report of a supply event, and the recorder's registers shown (25 R530). -/
def State.supplyReport (s : State) (c d : Nat) : State := (if s.rm.alive then s.rmEvent c d else s).showEvr

theorem State.supplyReport_start (s : State) (c d : Nat) : (s.supplyReport c d).rm.start = s.rm.start := by
  unfold State.supplyReport
  rw [State.showEvr_rm]
  split
  · exact State.rmEvent_start s c d
  · rfl

theorem State.supplyReport_fget (s : State) (c d : Nat) (k : Lane) {a : Nat} (i j : Nat) (h : a ≠ Rg.EVR_STATUS) (h2 : a ≠ Rg.EVR_HOLD) :
    fget ((s.supplyReport c d).lane k) a i j = fget (s.lane k) a i j := by
  unfold State.supplyReport
  rw [State.showEvr_fget _ _ _ _ h h2]
  split
  · rw [State.rmEvent_lane]
  · rfl

theorem State.recordEvent_start (s : State) (r : Report) : (s.recordEvent r).rm.start = s.rm.start := by
  unfold State.recordEvent
  dsimp only
  split_ifs
  · rw [State.showEvr_rm, State.rsetAll_rm, State.rsetAll_rm]
  · rw [State.mapLanes_rm]
  · rw [State.showEvr_rm, State.rsetAll_rm, State.rsetAll_rm]
  · rfl
  · rw [State.showEvr_rm, State.rsetAll_rm, State.rsetAll_rm]

theorem State.recordR_start (s : State) (c d : Nat) : (s.recordR c d).rm.start = s.rm.start := by
  unfold State.recordR
  dsimp only
  split
  · exact State.recordEvent_start s _
  · rfl

theorem State.flushPending_start (s : State) : s.flushPending.rm.start = s.rm.start := rfl

theorem State.lanesDown_input (s : State) (b : Bool) : (s.lanesDown b).rm.start.input = s.rm.start.input ∧ (s.lanesDown b).rm.start.stby = s.rm.start.stby := ⟨rfl, rfl⟩

/-- What the reset point leaves in every lane (21 R462). -/
def supplyReset (l : LaneState) : LaneState := rset (fset (fset l Rg.SYS_RESET_CAUSE 4 0 2) Rg.SYS_SUPPLY 16 16 0) Rg.PWR_STATUS 0

theorem supplyReset_cause (x : LaneState) : fget (supplyReset x) Rg.SYS_RESET_CAUSE 4 0 = 2 := by
  unfold supplyReset fget
  rw [rget_rset_other _ _ _ _ (by decide), rget_fset_other _ _ _ _ _ _ (by decide)]
  exact fget_fset_same x Rg.SYS_RESET_CAUSE 4 0 2 (by decide) (by decide) (by decide)

/-- The module that ran at the reset point, its lanes down and its start-up set back. -/
def State.atReset (s : State) : State :=
  let s := (({ s with rm := { s.rm with start := { s.rm.start with input := false } } } : State).recordR 0x0A05 0).lanesDown true
  let s := s.flushPending
  let s := { s with rm := { s.rm with start := { s.rm.start with dip := false, cause := 2, step := 1, savedW := s.rm.start.rmW.getD s.rm.start.savedW },
                                      pwr := { off := false }, snet := {} } }
  s.mapLanes supplyReset

theorem State.atReset_start (s : State) : s.atReset.rm.start.dip = false ∧ s.atReset.rm.start.cause = 2 ∧ s.atReset.rm.start.step = 1 := ⟨rfl, rfl, rfl⟩

theorem State.atReset_kept (s : State) : s.atReset.rm.start.input = false ∧ s.atReset.rm.start.stby = s.rm.start.stby := by
  unfold State.atReset
  dsimp only
  rw [State.mapLanes_rm, State.flushPending_start, (State.lanesDown_input _ true).1, (State.lanesDown_input _ true).2, State.recordR_start]
  exact ⟨rfl, rfl⟩

theorem State.atReset_lane (s : State) (k : Lane) : ∃ x, s.atReset.lane k = supplyReset x := by
  cases k <;> exact ⟨_, rfl⟩

/-- The input supply is noted as gone. -/
def State.inputGone (s : State) : State := { s with rm := { s.rm with start := { s.rm.start with input := false } } }

/-- The reset point without the standby supply: nothing runs on, and the start-up that follows is one after a supply loss. -/
def State.lostSupply (s : State) : State := { s.noSupply with rm := { s.noSupply.rm with start := { s.noSupply.rm.start with cause := 2 } } }

theorem exec_resetPoint (s : State) :
    exec .resetPoint s = if s.rm.pwr.off || fget s.la Rg.PWR_STATUS 2 0 == 3 then .next (if s.rm.start.stby then s.inputGone else s.inputGone.noSupply)
      else if s.atReset.rm.start.stby then .next s.atReset.showEvr else .next s.atReset.lostSupply := rfl

theorem State.unfreeze_start (s : State) : s.unfreeze.rm.start = s.rm.start := by
  unfold State.unfreeze
  dsimp only
  rw [State.showEvr_rm]

theorem State.endSessions_start (s : State) : s.endSessions.rm.start = s.rm.start := by
  unfold State.endSessions
  dsimp only
  split
  · exact State.unfreeze_start s
  · rfl

theorem State.lostSupply_rm (s : State) :
    s.lostSupply.rm.alive = false ∧ s.lostSupply.rm.start.step = 0 ∧ s.lostSupply.rm.start.cause = 2 ∧ s.lostSupply.rm.start.input = s.rm.start.input :=
  ⟨rfl, rfl, rfl, congrArg (·.input) (State.endSessions_start s)⟩

/-- A dip noted and counted in every lane (25 R530). -/
def State.dipped (s : State) : State :=
  (({ s with rm := { s.rm with start := { s.rm.start with dip := true } } } : State).fsetAll Rg.SYS_SUPPLY 16 16 1).mapLanes
    (fun l => fset l Rg.SYS_SUPPLY 31 24 (min (fget l Rg.SYS_SUPPLY 31 24 + 1) 255))

theorem State.dipped_dip (s : State) : s.dipped.rm.start.dip = true := rfl

theorem State.dipped_lane (s : State) (k : Lane) :
    fget (s.dipped.lane k) Rg.SYS_SUPPLY 16 16 = 1 ∧ fget (s.dipped.lane k) Rg.SYS_SUPPLY 31 24 = min (fget (s.lane k) Rg.SYS_SUPPLY 31 24 + 1) 255 := by
  have hlane : ({ s with rm := { s.rm with start := { s.rm.start with dip := true } } } : State).lane k = s.lane k := by cases k <;> rfl
  rw [State.dipped, State.mapLanes_lane, State.fsetAll_lane, hlane, fget_fset_above (s.lane k) _ _ (by decide) (by decide) (by decide)]
  exact ⟨(fget_fset_below _ _ _ (by decide) (by decide) (by decide) (by decide)).trans (fget_fset_same _ _ _ _ _ (by decide) (by decide) (by decide)),
    fget_fset_same _ _ _ _ _ (by decide) (by decide) (by omega)⟩

/-- The end of a dip: what was deferred is recorded (25 R530). -/
def State.recovered (s : State) : State :=
  (({ s with rm := { s.rm with start := { s.rm.start with dip := false } } } : State).fsetAll Rg.SYS_SUPPLY 16 16 0).flushDefer

theorem State.recovered_dip (s : State) : s.recovered.rm.start.dip = false := by
  rw [State.recovered, State.flushDefer_start, State.fsetAll_rm]

theorem State.recovered_lane (s : State) (k : Lane) : fget (s.recovered.lane k) Rg.SYS_SUPPLY 16 16 = 0 := by
  rw [State.recovered, State.flushDefer_fget _ _ _ _ (by decide) (by decide), State.fsetAll_lane]
  exact fget_fset_same _ _ _ _ _ (by decide) (by decide) (by decide)

theorem exec_restart (s : State) (src : CmdSrc) (force : Bool) : exec (.restart src force) s = s.rmGate (fun s =>
    if s.idleMode || (force && isMaintainer src && phaseOf s.la == 4 && fget s.la Rg.PWR_STATUS 2 0 == 0) then (s.answer .ok).restart 5 else s.answer .mode) := rfl

theorem exec_safetyNet (s : State) (src : CmdSrc) : exec (.safetyNet src) s = s.rmGate (fun s =>
    if !isMaintainer src then s.answer .auth else if s.idleMode && phaseOf s.la != 6 then (s.answer .ok).enterSnet 3 else s.answer .mode) := rfl

theorem rmGate_bringup {s : State} (ha : s.rm.alive = true) (hb : s.bringup = true) (k : State → State) : s.rmGate k = .next (s.answer .bringup) := by
  unfold State.rmGate
  rw [ha, hb]
  rfl

/-- A key written or revoked in the table (21 R457). -/
def State.putKey (s : State) (idx : Nat) (z : KeyEnt) : State := ({ s with rm := { s.rm with keys := s.rm.keys.setIfInBounds idx z } } : State).answer .ok

theorem fleetKeyEnrol_entry {s : State} {src : CmdSrc} {idx : Nat} {key sig : Bytes} {k : KeyEnt} (ha : s.rm.alive = true) (hb : s.bringup = false) (hk : s.rm.keys[idx]? = some k) :
    exec (.fleetKeyEnrol src idx key sig) s = .next (if !isMaintainer src then s.answer .auth
      else if idx < 4 || k.written || !sigVerifies s.rm true (Config.enrolText idx key) sig then s.answer .refused
      else s.putKey idx { k with key := key, written := true }) := by
  show execFleetKeyEnrol src idx key sig s = _
  unfold execFleetKeyEnrol
  rw [rmGate_up ha hb]
  dsimp only
  rw [hk]
  rfl

theorem keyRevoke_entry {s : State} {src : CmdSrc} {idx : Nat} {k : KeyEnt} (ha : s.rm.alive = true) (hb : s.bringup = false) (hk : s.rm.keys[idx]? = some k) :
    exec (.keyRevoke src idx) s = .next (if !isMaintainer src then s.answer .auth else s.putKey idx { k with revoked := true }) := by
  show execKeyRevoke src idx s = _
  unfold execKeyRevoke
  rw [rmGate_up ha hb]
  dsimp only
  rw [hk]
  rfl

/-- Settles O49: the branch that the guards of each command select, and what a dip, a recovery and the reset point leave to be read. -/
theorem supplyRestartAndKeys : Obligations.SupplyRestartAndKeys := by
  unfold Obligations.SupplyRestartAndKeys
  intro s src force n idx key sig k st off input standby up entry put
  refine ⟨?_, ?_, ?_, ?_, ?_, ?_, ?_, ?_, ?_, ?_, ?_, ?_, ?_, ?_, ?_⟩
  · intro hd
    have hx : exec (.supplyWarning n) s = .next (s.dipped.supplyReport 0x0A03 n) :=
      if_neg (by rw [show s.rm.start.dip = false from hd]; exact Bool.false_ne_true)
    obtain hlane := State.dipped_lane s
    refine ⟨_, hx, by rw [State.supplyReport_start, State.dipped_dip], fun k => ?_⟩
    rw [State.supplyReport_fget _ _ _ _ _ _ (by decide) (by decide), State.supplyReport_fget _ _ _ _ _ _ (by decide) (by decide)]
    exact hlane k
  · exact fun hd => if_pos hd
  · intro hd
    have hx : exec (.supplyRecovery n) s = .next (s.recovered.supplyReport 0x0A04 n) :=
      if_neg (by rw [show s.rm.start.dip = true from hd]; exact Bool.false_ne_true)
    refine ⟨_, hx, by rw [State.supplyReport_start, State.recovered_dip], fun k => ?_⟩
    rw [State.supplyReport_fget _ _ _ _ _ _ (by decide) (by decide)]
    exact State.recovered_lane s k
  · intro hd
    exact if_pos (by rw [show s.rm.start.dip = false from hd]; rfl)
  · intro ho
    refine (exec_resetPoint s).trans (if_pos ?_)
    rw [Bool.or_eq_true, beq_iff_eq]
    exact ho
  · intro ho
    have hon : ¬ (s.rm.pwr.off || fget s.la Rg.PWR_STATUS 2 0 == 3) = true := by
      rw [Bool.or_eq_true, beq_iff_eq]
      exact ho
    obtain ⟨hinput, hstby⟩ := State.atReset_kept s
    obtain ⟨hdip, hcause, hstep⟩ := State.atReset_start s
    cases hst : s.rm.start.stby with
    | true =>
      refine ⟨_, (exec_resetPoint s).trans ((if_neg hon).trans (if_pos (hstby.trans hst))), ?_, ?_, fun _ => ⟨?_, ?_, fun k => ?_⟩, fun h => nomatch h⟩
      · rw [State.showEvr_rm, hcause]
      · rw [State.showEvr_rm, hinput]
      · rw [State.showEvr_rm, hstep]
      · rw [State.showEvr_rm, hdip]
      · obtain ⟨x, hx⟩ := State.atReset_lane s k
        rw [State.showEvr_fget _ _ _ _ (by decide) (by decide), hx, supplyReset_cause]
    | false =>
      obtain ⟨halive, hzero, hc, hi⟩ := State.lostSupply_rm s.atReset
      exact ⟨_, (exec_resetPoint s).trans ((if_neg hon).trans (if_neg (by rw [hstby, hst]; exact Bool.false_ne_true))), hc, hi.trans hinput,
        (fun h => nomatch h), fun _ => ⟨halive, hzero⟩⟩
  · intro hst
    exact (if_neg (by rw [show s.rm.start.stby = true from hst]; exact Bool.false_ne_true)).trans rfl
  · rintro ⟨ha, hb⟩ hidle
    exact rmGate_exec (exec_restart s src force) ha hb (if_pos (by rw [hidle]; rfl))
  · rintro ⟨ha, hb⟩ hidle hf hm hph hp
    refine rmGate_exec (exec_restart s src force) ha hb (if_pos ?_)
    rw [hf, hm, hph, show fget s.la Rg.PWR_STATUS 2 0 = 0 from hp, Bool.or_eq_true]
    exact Or.inr rfl
  · rintro ⟨ha, hb⟩ hidle h
    refine rmGate_exec (exec_restart s src force) ha hb (if_neg ?_)
    rcases h with h | h
    · rw [hidle, h]; exact Bool.false_ne_true
    · rw [hidle, h, Bool.and_false]; exact Bool.false_ne_true
  · rintro ⟨ha, hb⟩ hm
    have hmay : ¬ (!isMaintainer src) = true := by rw [hm]; exact Bool.false_ne_true
    refine ⟨fun hidle hph => ?_, fun h => ?_⟩
    · exact rmGate_exec (exec_safetyNet s src) ha hb ((if_neg hmay).trans (if_pos (by rw [hidle, bne_iff_ne.2 hph]; rfl)))
    · refine rmGate_exec (exec_safetyNet s src) ha hb ((if_neg hmay).trans (if_neg ?_))
      rcases h with h | h
      · rw [h]; exact Bool.false_ne_true
      · rw [h, bne_self_eq_false, Bool.and_false]; exact Bool.false_ne_true
  · rintro ⟨ha, hb⟩ hm
    exact rmGate_exec (exec_safetyNet s src) ha hb (if_pos (by rw [hm]; rfl))
  · intro ha hb
    exact ⟨(exec_restart s src force).trans (rmGate_bringup ha hb _), (exec_safetyNet s src).trans (rmGate_bringup ha hb _)⟩
  · rintro ⟨ha, hb⟩ hm hk
    have hmay : ¬ (!isMaintainer src) = true := by rw [hm]; exact Bool.false_ne_true
    refine ⟨fun h4 hw hv => ?_, fun h => ?_, ?_⟩
    · refine (fleetKeyEnrol_entry ha hb hk).trans (congrArg Host.Outcome.next ((if_neg hmay).trans (if_neg ?_)))
      rw [decide_eq_false (by omega), hw, hv]
      exact Bool.false_ne_true
    · refine (fleetKeyEnrol_entry ha hb hk).trans (congrArg Host.Outcome.next ((if_neg hmay).trans (if_pos ?_)))
      rw [Bool.or_eq_true, Bool.or_eq_true, decide_eq_true_iff]
      exact Or.inl h
    · exact (keyRevoke_entry ha hb hk).trans (congrArg Host.Outcome.next (if_neg hmay))
  · rintro ⟨ha, hb⟩ hk hm
    have hnot : (!isMaintainer src) = true := by rw [hm]; rfl
    exact ⟨(fleetKeyEnrol_entry ha hb hk).trans (congrArg Host.Outcome.next (if_pos hnot)), (keyRevoke_entry ha hb hk).trans (congrArg Host.Outcome.next (if_pos hnot))⟩

end Sys2Proof.Machine

/-! SUPPORT. Safety Net: the messages a module answers, and those its neighbour answers. -/

namespace Sys2Proof.Machine

/-- SEQ counts modulo 65536 (21 Table SYS-7). -/
theorem snetSeq_next (n : Half) : (n + 1) % 65536 = n + 1 := BitVec.umod_zero

/-- A set mask of one type holds the bit of no other (21 R468). -/
theorem maskBit (t u : ImgType) : 2 ^ (imgNo t - 1) / 2 ^ (imgNo u - 1) % 2 = if u = t then 1 else 0 := by
  cases t <;> cases u <;> rfl

/-- What one type of a HELLO is answered with (21 R468). -/
def State.offerOf (m : SnetMsg) (s : State) (t : ImgType) : State :=
  let b : DWord := BitVec.ofNat 64 (leNat ((m.data.drop (8 + 8 * imgNo t)).take 8))
  if leNat ((m.data.drop 13).take 1) / 2 ^ (imgNo t - 1) % 2 = 0 then s
  else ((s.imageWith t b).map (fun img =>
    s.sendSnet 2 { seq := m.seq, eui := m.eui, typ := t, len := img.length, build := b, version := BitVec.ofNat 32 (imgField img 0x0C 4) })).getD s

theorem helloReceive_serves {s : State} {m : SnetMsg} (hp : s.provides = true) (hm : m.okHdr = true) :
    exec (.helloReceive m) s = .next (allTypes.foldl (State.offerOf m) s) := by
  have hgo : ¬ (!s.provides || !m.okHdr) = true := by rw [hp, hm]; exact Bool.false_ne_true
  refine (if_neg hgo).trans (congrArg Host.Outcome.next ?_)
  refine congrArg (fun f => allTypes.foldl f s) (funext fun z => funext fun t => ?_)
  unfold State.offerOf
  dsimp only
  cases z.imageWith t _ <;> rfl

theorem State.offerOf_other {m : SnetMsg} (s : State) {t : ImgType} (h : leNat ((m.data.drop 13).take 1) / 2 ^ (imgNo t - 1) % 2 = 0) : s.offerOf m t = s :=
  if_pos h

theorem State.offerOf_none {m : SnetMsg} {s : State} {t : ImgType} (h : s.imageWith t (BitVec.ofNat 64 (leNat ((m.data.drop (8 + 8 * imgNo t)).take 8))) = none) :
    State.offerOf m s t = s := by
  unfold State.offerOf
  dsimp only
  rw [h]
  exact ite_self s

/-- A HELLO that lacks one type is answered with that type alone. -/
theorem foldl_offerOf_one {m : SnetMsg} {t : ImgType} (s : State) (h : leNat ((m.data.drop 13).take 1) = 2 ^ (imgNo t - 1)) :
    allTypes.foldl (State.offerOf m) s = State.offerOf m s t := by
  have hother {u : ImgType} (hu : u ≠ t) (z : State) : State.offerOf m z u = z := State.offerOf_other z (by rw [h, maskBit, if_neg hu])
  cases t <;> simp [allTypes, hother]

theorem State.offerOf_some {m : SnetMsg} {s : State} {t : ImgType} {img : Bytes} (h : leNat ((m.data.drop 13).take 1) = 2 ^ (imgNo t - 1))
    (hi : s.imageWith t (BitVec.ofNat 64 (leNat ((m.data.drop (8 + 8 * imgNo t)).take 8))) = some img) :
    State.offerOf m s t = s.sendSnet 2
      { seq := m.seq, eui := m.eui, typ := t, len := img.length, build := BitVec.ofNat 64 (leNat ((m.data.drop (8 + 8 * imgNo t)).take 8)), version := BitVec.ofNat 32 (imgField img 0x0C 4) } := by
  unfold State.offerOf
  dsimp only
  rw [h, maskBit, if_pos rfl, if_neg (by decide), hi]
  rfl

/-- Settles O50: the branch that the guards of each message select; a HELLO is answered type by type. -/
theorem safetyNetProtocol : Obligations.SafetyNetProtocol := by
  unfold Obligations.SafetyNetProtocol
  intro s svc m o os img t ts n answer lacks anyBuild wants fits new open_ grown without code result again serves
  have hme (h : s.forMe m = true) : ¬ (!s.forMe m) = true := by rw [h]; exact Bool.false_ne_true
  have hserve (h : serves) : ¬ (!s.provides || !m.okHdr) = true := by
    obtain ⟨hp, hm⟩ := h
    rw [hp, hm]
    exact Bool.false_ne_true
  have hwants : (svc || (m.typ == .ringmaster || m.typ == .executive) || m.build == s.wanted m.typ) = true ↔ wants := by
    show _ ↔ svc = true ∨ (m.typ = .ringmaster ∨ m.typ = .executive) ∨ m.build = s.wanted m.typ
    rw [Bool.or_eq_true, Bool.or_eq_true, Bool.or_eq_true, beq_iff_eq, beq_iff_eq, beq_iff_eq, or_assoc]
  have hdecline : (!s.missing.contains m.typ || s.rm.snet.offers.any (fun o => o.typ == m.typ)
      || !(svc || (m.typ == .ringmaster || m.typ == .executive) || m.build == s.wanted m.typ)) = true ↔ ¬ lacks ∨ ¬ wants := by
    rw [← hwants]
    show _ ↔ ¬ (s.missing.contains m.typ = true ∧ s.rm.snet.offers.any (fun z => z.typ == m.typ) = false) ∨ _
    rw [Bool.or_eq_true, Bool.or_eq_true, Bool.not_eq_true', Bool.not_eq_true', not_and_or, Bool.not_eq_true, Bool.not_eq_false, Bool.not_eq_true]
  have hlong : (decide (33554432 < m.len) || decide (slotSize m.typ < m.len)) = true ↔ ¬ fits := by
    show _ ↔ ¬ (m.len ≤ 33554432 ∧ m.len ≤ slotSize m.typ)
    rw [Bool.or_eq_true, decide_eq_true_iff, decide_eq_true_iff]
    omega
  refine ⟨?_, fun h => congrArg Host.Outcome.next (if_pos h), ?_, ?_, ?_, ?_, ?_, ?_, ?_, ?_, ?_, ?_, ?_, rfl, ?_, ?_, ?_⟩
  · intro hin
    refine (if_neg (by rw [hin]; exact Bool.false_ne_true)).trans ?_
    dsimp only
    rw [snetSeq_next]
  · intro h
    have hnot : (!s.forMe m) = true := by rw [h]; rfl
    exact ⟨congrArg Host.Outcome.next (if_neg (by rw [h]; exact Bool.false_ne_true)), if_pos hnot, if_pos hnot, if_pos hnot⟩
  · intro h hl hw hf
    exact (if_neg (hme h)).trans ((if_neg fun hd => (hdecline.1 hd).elim (· hl) (· hw)).trans (if_neg fun hd => hlong.1 hd hf))
  · intro h hd
    exact (if_neg (hme h)).trans (if_pos (hdecline.2 hd))
  · intro h hl hw hf
    exact (if_neg (hme h)).trans ((if_neg fun hd => (hdecline.1 hd).elim (· hl) (· hw)).trans (if_pos (hlong.2 hf)))
  · intro h ho
    have ho' : s.rm.snet.offers.find? (fun z => z.typ == m.typ && z.seq == m.seq && z.off == m.offset && readLen z == m.data.length) = none := ho
    refine (if_neg (hme h)).trans ?_
    rw [ho']
  · intro h ho
    have ho' : s.rm.snet.offers.find? (fun z => z.typ == m.typ && z.seq == m.seq && z.off == m.offset && readLen z == m.data.length) = some o := ho
    refine ⟨fun hlt => ?_, fun hle => ?_⟩
    · refine (if_neg (hme h)).trans ?_
      rw [ho']
      exact if_pos hlt
    · refine (if_neg (hme h)).trans ?_
      rw [ho']
      exact if_neg (Nat.not_lt.2 hle)
  · intro ho hin
    have hgo : ¬ (!s.inSnet) = true := by rw [hin]; exact Bool.false_ne_true
    refine ⟨fun h8 => ?_, fun h8 => ?_⟩ <;> show execReadRepeatTimeout s = _ <;> unfold execReadRepeatTimeout <;> rw [ho]
    · exact (if_neg hgo).trans (if_pos h8)
    · exact (if_neg hgo).trans (if_neg (Nat.not_le.2 h8))
  · rintro ⟨hp, hm⟩ h0 h1 hi ho
    have hgo : ¬ (!s.provides || !m.okHdr || decide (m.len = 0) || decide (1024 < m.len)) = true := by
      rw [hp, hm, decide_eq_false (by omega), decide_eq_false (by omega)]
      exact Bool.false_ne_true
    refine (if_neg hgo).trans ?_
    rw [hi]
    exact congrArg Host.Outcome.next (if_pos ho)
  · intro hp
    exact ⟨if_pos (by rw [hp]; rfl), if_pos (by rw [hp]; rfl)⟩
  · rintro ⟨hp, hm⟩ hnone
    rw [helloReceive_serves hp hm]
    refine congrArg Host.Outcome.next ?_
    simp [allTypes, State.offerOf_none (hnone _)]
  · rintro ⟨hp, hm⟩ hmask hi
    rw [helloReceive_serves hp hm, foldl_offerOf_one s hmask, State.offerOf_some hmask hi]
  · intro hin hmiss
    exact congrArg Host.Outcome.next (if_pos (by rw [hin, hmiss]; rfl))
  · intro hin
    exact congrArg Host.Outcome.next (if_neg (by rw [hin]; exact Bool.false_ne_true))
  · intro h
    refine ⟨fun hmiss => ?_, fun hmiss => ?_⟩
    · refine (if_neg (hme h)).trans ?_
      rw [hmiss]
    · refine (if_neg (hme h)).trans ?_
      rw [hmiss]

end Sys2Proof.Machine

/-! SUPPORT. Ringmaster: what its report taking leaves alone, its restart, its sessions, the samples of its sensors and the steering of a lane's voltage. -/

namespace Sys2Proof.Machine

theorem State.takeItems_rget (s : State) (x y : Lane) (a : Nat) : rget ((s.takeItems x).lane y) a = rget (s.lane y) a := by
  unfold State.takeItems
  rw [(foldl_takeItem _ _ _).1]
  by_cases h : y = x
  · subst h
    rw [State.setLane_same]
    rfl
  · rw [State.setLane_other _ _ _ _ h]

/-- The reports taken from a lane show in the event fields of its mailbox status alone. -/
theorem State.takeReports_status (s : State) (k : Lane) : bget (s.takeReports.lane k) Rg.MBX_STATUS 0 = bget (s.lane k) Rg.MBX_STATUS 0 := by
  unfold State.takeReports
  split
  · unfold bget fget
    simp only [allLanes, List.foldl_cons, List.foldl_nil]
    rw [State.takeItems_rget, State.takeItems_rget, State.takeItems_rget]
    cases k <;> exact congrArg (· == 1) (fget_fset_below _ _ _ (by decide) (by decide) (by decide) (by decide))
  · rfl

theorem State.takeReports_alive (s : State) : s.takeReports.rm.alive = s.rm.alive ∧ s.takeReports.rm.downBy = s.rm.downBy ∧ s.takeReports.rm.imgs = s.rm.imgs := by
  rw [State.takeReports_rm s]
  exact ⟨rfl, rfl, rfl⟩

theorem State.endSessions_sessions (s : State) : s.endSessions.rm.sessions = [] := rfl

theorem State.showFw_rm (s : State) : s.showFw.rm = s.rm := by
  unfold State.showFw
  dsimp only
  rw [State.rsetAll_rm, State.rsetAll_rm]

/-- Ringmaster down: its sessions are over and every lane sees it (22 R473). -/
theorem State.rmDown_alive {s : State} (why : Nat) (ha : s.rm.alive = true) :
    (s.rmDown why).rm.alive = false ∧ (s.rmDown why).rm.downBy = why ∧ (s.rmDown why).rm.sessions = [] ∧ ∀ q, bget ((s.rmDown why).lane q) Rg.MBX_STATUS 0 = false := by
  unfold State.rmDown
  rw [if_pos ha]
  dsimp only
  rw [State.showEvr_rm, State.fsetAll_rm]
  refine ⟨rfl, rfl, State.endSessions_sessions s, fun q => ?_⟩
  unfold bget
  rw [State.showEvr_fget _ _ _ _ (by decide) (by decide), State.fsetAll_lane, fget_fset_same _ _ _ _ _ (by decide) (by decide) (by decide)]
  rfl

theorem State.rmDown_down {s : State} (why : Nat) (ha : s.rm.alive = false) : s.rmDown why = s :=
  if_neg (by rw [ha]; exact Bool.false_ne_true)

/-- Ringmaster up again (22 R473). -/
theorem State.rmUp_alive (s : State) : s.rmUp.rm.alive = true ∧ s.rmUp.rm.downBy = 0 ∧ s.rmUp.rm.imgs = s.rm.imgs ∧ ∀ q, bget (s.rmUp.lane q) Rg.MBX_STATUS 0 = true := by
  unfold State.rmUp
  dsimp only
  obtain ⟨ha, hd, hi⟩ := State.takeReports_alive
    ((State.showFw { s with rm := { s.rm with alive := true, downBy := 0, selFwB := (s.rm.img .ringmaster).selB } }).fsetAll Rg.MBX_STATUS 0 0 1).showEvr
  rw [ha, hd, hi, State.showEvr_rm, State.fsetAll_rm, State.showFw_rm]
  refine ⟨rfl, rfl, rfl, fun q => ?_⟩
  rw [State.takeReports_status]
  unfold bget
  rw [State.showEvr_fget _ _ _ _ (by decide) (by decide), State.fsetAll_lane, fget_fset_same _ _ _ _ _ (by decide) (by decide) (by decide)]
  rfl

/-- The image that Ringmaster starts again: back to the other slot where its watchdog struck in a provisional one (22 R473; 23 R508). -/
def State.resumeImage (s : State) : State :=
  if s.rm.downBy = 1 && (s.rm.img .ringmaster).provisional then
    { s with rm := s.rm.setImg .ringmaster { (s.rm.img .ringmaster) with selB := !(s.rm.img .ringmaster).selB, provisional := false, fellBack := true } }
  else s

/-- The restart counted in every lane, and reported. -/
def State.resumeShown (s : State) (why : Nat) (back : Bool) : State :=
  let s := if back then s.rmEvent 0x0B03 1 else s
  let s := s.mapLanes (fun l => finc l Rg.MBX_STATUS 31 16 1)
  if why = 3 then s.tick4.rmEvent 0x0E02 (Config.free32 s.freeCtr).toNat else s.rmEvent 0x0E02 why

theorem ringmasterResume_down {s : State} (ha : s.rm.alive = false) (hd : s.rm.downBy ≠ 0) :
    exec .ringmasterResume s = .next (s.resumeImage.rmUp.resumeShown s.rm.downBy (s.rm.downBy = 1 && (s.rm.img .ringmaster).provisional)) :=
  if_neg (by rw [ha, decide_eq_false hd]; exact Bool.false_ne_true)

theorem State.rmEvent_kept (s : State) (c d : Nat) :
    (s.rmEvent c d).rm.alive = s.rm.alive ∧ (s.rmEvent c d).rm.downBy = s.rm.downBy ∧ (s.rmEvent c d).rm.imgs = s.rm.imgs := ⟨rfl, rfl, rfl⟩

theorem State.resumeShown_alive (s : State) (why : Nat) (back : Bool) :
    (s.resumeShown why back).rm.alive = s.rm.alive ∧ (s.resumeShown why back).rm.downBy = s.rm.downBy ∧ (s.resumeShown why back).rm.imgs = s.rm.imgs := by
  have hback : (if back then s.rmEvent 0x0B03 1 else s).rm.alive = s.rm.alive ∧ (if back then s.rmEvent 0x0B03 1 else s).rm.downBy = s.rm.downBy
      ∧ (if back then s.rmEvent 0x0B03 1 else s).rm.imgs = s.rm.imgs := by
    cases back
    · exact ⟨rfl, rfl, rfl⟩
    · exact State.rmEvent_kept s 0x0B03 1
  unfold State.resumeShown
  dsimp only
  split
  · rw [(State.rmEvent_kept _ _ _).1, (State.rmEvent_kept _ _ _).2.1, (State.rmEvent_kept _ _ _).2.2, State.tick4_rm, State.mapLanes_rm]
    exact hback
  · rw [(State.rmEvent_kept _ _ _).1, (State.rmEvent_kept _ _ _).2.1, (State.rmEvent_kept _ _ _).2.2, State.mapLanes_rm]
    exact hback

theorem State.resumeShown_lane (s : State) (why : Nat) (back : Bool) (q : Lane) : (s.resumeShown why back).lane q = finc (s.lane q) Rg.MBX_STATUS 31 16 1 := by
  have htick (z : State) : z.tick4.lane q = z.lane q := by cases q <;> rfl
  unfold State.resumeShown
  dsimp only
  split
  · rw [State.rmEvent_lane, htick, State.mapLanes_lane]
    split
    · rw [State.rmEvent_lane]
    · rfl
  · rw [State.rmEvent_lane, State.mapLanes_lane]
    split
    · rw [State.rmEvent_lane]
    · rfl

theorem State.resumeShown_status (s : State) (why : Nat) (back : Bool) (q : Lane) :
    bget ((s.resumeShown why back).lane q) Rg.MBX_STATUS 0 = bget (s.lane q) Rg.MBX_STATUS 0 := by
  unfold bget
  rw [State.resumeShown_lane, finc, fget_fset_below _ _ _ (by decide) (by decide) (by decide) (by decide)]

theorem foldl_writeRec_frozenBy (rs : List EvRec) (e : EvrState) : (rs.foldl writeRec e).frozenBy = e.frozenBy :=
  foldl_keeps EvrState.frozenBy (g := writeRec) (fun _ _ => rfl) _ _

theorem State.unfreeze_frozenBy (s : State) : s.unfreeze.rm.evr.frozenBy = none := by
  unfold State.unfreeze
  dsimp only
  rw [State.showEvr_rm]
  dsimp only
  split
  · rfl
  · rw [foldl_writeRec_frozenBy]

theorem State.unfreeze_sessions (s : State) : s.unfreeze.rm.sessions = s.rm.sessions := by
  unfold State.unfreeze
  dsimp only
  rw [State.showEvr_rm]

/-- A session that ends lets go of the recorder it froze (22 R475). -/
theorem State.endSession_ends (s : State) (sid : Nat) : (s.endSession sid).rm.sessions = s.rm.sessions.filter (fun q => q.sid != sid)
    ∧ (s.rm.evr.frozenBy = some (.session sid) → (s.endSession sid).rm.evr.frozenBy = none) := by
  have hs : (if s.rm.evr.frozenBy = some (.session sid) then s.unfreeze else s).rm.sessions = s.rm.sessions := by
    split
    · exact State.unfreeze_sessions s
    · rfl
  refine ⟨?_, fun h => ?_⟩
  · unfold State.endSession
    dsimp only
    rw [hs]
  · unfold State.endSession
    dsimp only
    rw [if_pos h]
    exact State.unfreeze_frozenBy s

theorem State.certLevel_some {s : State} {c : Cert} {k : Nat} {a : Auth} (hk : c.keyIdx = some k) (h : s.certLevel c = some a) :
    (keyOf s.rm k).isSome = true ∧ c.notBefore ≤ s.certNow ∧ s.certNow ≤ c.notAfter ∧ c.role = some a := by
  unfold State.certLevel at h
  rw [hk] at h
  dsimp only at h
  split at h
  next hc =>
    rw [Bool.and_eq_true, decide_eq_true_iff] at hc
    exact ⟨hc.1, hc.2.1, hc.2.2, h⟩
  next => exact nomatch h

end Sys2Proof.Machine

/-! SUPPORT. Ringmaster's sensors and the steering of a lane's voltage, and the statement about its services. -/

namespace Sys2Proof.Machine

/-- The thermal cycles that sensor 9 counts (22 R480). -/
def State.noteThermal (s : State) (sn : Nat) (v : Int) : State := if sn = 9 then { s with rm := { s.rm with life := thermalStep s.rm.life v } } else s

/-- The voltage and the current of a lane, shown in its mailbox (22 R479). -/
def State.noteLane (s : State) (sn : Nat) (v : Int) : State :=
  let s := if 14 ≤ sn ∧ sn < 17 then s.setLane (laneOf (sn - 14)) (fset (s.lane (laneOf (sn - 14))) Rg.MBX_VMEAS 9 0 (min (v * 10).toNat 1023)) else s
  if 36 ≤ sn ∧ sn < 39 then s.setLane (laneOf (sn - 36)) (fset (s.lane (laneOf (sn - 36))) Rg.MBX_VMEAS 27 16 (min v.toNat 4095)) else s

/-- The supply's voltage and current, shown in every lane (22 R479). -/
def State.noteSupply (s : State) (sn : Nat) (v : Int) : State :=
  let s := if sn = 32 then s.fsetAll Rg.SYS_SUPPLY 7 0 (min (v / 10).toNat 255) else s
  if sn = 39 then s.fsetAll Rg.SYS_SUPPLY 15 8 (min (v / 20).toNat 255) else s

/-- A shock, counted in the histogram (22 R480). -/
def State.noteShock (s : State) (sn : Nat) (v : Int) : State :=
  if 41 ≤ sn ∧ 1000 < v then
    let b := 16 * (sn - 41) + (Config.shockBin v).val
    { s with rm := { s.rm with hist := sset zNat s.rm.hist b (sget zNat s.rm.hist b + 1) } }
  else s

theorem sensorSample_up {s : State} (sn : Nat) (v : Int) (ha : s.rm.alive = true) :
    exec (.sensorSample sn v) s = .next (((((s.limitCheck sn v).noteThermal sn v).noteLane sn v).noteSupply sn v).noteShock sn v) :=
  if_neg (by rw [ha]; exact Bool.false_ne_true)

theorem State.noteLane_rm (s : State) (sn : Nat) (v : Int) : (s.noteLane sn v).rm = s.rm := by
  unfold State.noteLane
  dsimp only
  split_ifs
  · rw [State.setLane_rm, State.setLane_rm]
  · rw [State.setLane_rm]
  · rw [State.setLane_rm]
  · rfl

theorem State.noteSupply_rm (s : State) (sn : Nat) (v : Int) : (s.noteSupply sn v).rm = s.rm := by
  unfold State.noteSupply
  dsimp only
  split_ifs
  · rw [State.fsetAll_rm, State.fsetAll_rm]
  · rw [State.fsetAll_rm]
  · rw [State.fsetAll_rm]
  · rfl

theorem State.noteSupply_32 (s : State) (v : Int) (q : Lane) : fget ((s.noteSupply 32 v).lane q) Rg.SYS_SUPPLY 7 0 = min (v / 10).toNat 255 := by
  have h : s.noteSupply 32 v = s.fsetAll Rg.SYS_SUPPLY 7 0 (min (v / 10).toNat 255) := rfl
  rw [h, State.fsetAll_lane]
  exact fget_fset_same _ _ _ _ _ (by decide) (by decide) (by omega)

theorem State.noteSupply_39 (s : State) (v : Int) (q : Lane) : fget ((s.noteSupply 39 v).lane q) Rg.SYS_SUPPLY 15 8 = min (v / 20).toNat 255 := by
  have h : s.noteSupply 39 v = s.fsetAll Rg.SYS_SUPPLY 15 8 (min (v / 20).toNat 255) := rfl
  rw [h, State.fsetAll_lane]
  exact fget_fset_same _ _ _ _ _ (by decide) (by decide) (by omega)

theorem State.noteShock_lane (s : State) (sn : Nat) (v : Int) (q : Lane) : (s.noteShock sn v).lane q = s.lane q := by
  unfold State.noteShock
  split
  · cases q <;> rfl
  · rfl

theorem State.noteShock_kept (s : State) (sn : Nat) (v : Int) :
    (s.noteShock sn v).rm.life = s.rm.life ∧ (s.noteShock sn v).rm.sensors = s.rm.sensors ∧ (s.noteShock sn v).rm.reported = s.rm.reported := by
  unfold State.noteShock
  split <;> exact ⟨rfl, rfl, rfl⟩

theorem State.noteThermal_kept (s : State) (sn : Nat) (v : Int) :
    (s.noteThermal sn v).rm.hist = s.rm.hist ∧ (s.noteThermal sn v).rm.sensors = s.rm.sensors ∧ (s.noteThermal sn v).rm.reported = s.rm.reported := by
  unfold State.noteThermal
  split <;> exact ⟨rfl, rfl, rfl⟩

theorem State.limitCheck_kept (s : State) (sn : Nat) (v : Int) : (s.limitCheck sn v).rm.life = s.rm.life ∧ (s.limitCheck sn v).rm.hist = s.rm.hist := by
  unfold State.limitCheck
  dsimp only
  split
  · exact ⟨rfl, rfl⟩
  · split_ifs <;> exact ⟨rfl, rfl⟩

/-- A value out of its band is marked and reported (22 R479). -/
theorem State.limitCheck_out {s : State} {sn : Nat} {v lo hi : Int} (hb : bandOf s.la.cfg sn = some (lo, hi)) (ho : v < lo ∨ hi < v) :
    (s.limitCheck sn v).rm.sensors.contains (sn, true) = true ∧ (s.limitCheck sn v).rm.reported.contains sn = true := by
  have hsens : ((sn, true) :: s.rm.sensors.filter (fun e => e.1 != sn)).contains (sn, true) = true := by
    rw [List.contains_cons, beq_self_eq_true, Bool.true_or]
  unfold State.limitCheck
  rw [hb]
  dsimp only
  rw [if_pos ho]
  split
  next hr => exact ⟨hsens, hr⟩
  next hr =>
    refine ⟨hsens, ?_⟩
    show (sn :: s.rm.reported).contains sn = true
    rw [List.contains_cons, beq_self_eq_true, Bool.true_or]

theorem steerTo_shows (x : LaneState) {v : Nat} (h : v < 32) : fget (steerTo x v) Rg.MBX_VSET 4 0 = v ∧ bget (steerTo x v) Rg.MBX_STATUS 1 = false := by
  unfold steerTo
  dsimp only
  refine ⟨?_, bget_bset_same _ _ _ _ (by decide)⟩
  unfold bset
  rw [fget_fset_other _ _ _ _ _ _ _ _ (by decide)]
  exact fget_fset_same _ _ _ _ _ (by decide) (by decide) h

/-- The voltage a lane is steered to (02 R53). -/
def steerValue (s : State) (l : Lane) : Nat :=
  let now := fget (s.lane l) Rg.CYC_SLACK 9 0
  let hist := (l, now) :: s.rm.slackHist.filter (fun e => e.1 == l)
  let v := fget (s.lane l) Rg.MBX_VSET 4 0
  if now < 100 then min (v + 2) 28
  else if (hist.length = 64 ∨ hist.length = 80) ∧ 200 < ((hist.take 16).map (·.2)).foldl min 1000 then v - 1 else v

theorem steeringEvaluation_on {s : State} {l : Lane} (ha : s.rm.alive = true) (hv : votes (s.lane l) = true) (he : (s.lane l).cfg.steerEn = true) (hd : bget (s.lane l) Rg.CYC_STATUS 9 = false) :
    ∃ u : State, exec (.steeringEvaluation l) s = .next (u.setLane l (steerTo (s.lane l) (steerValue s l))) := by
  have hup : ¬ (!s.rm.alive) = true := by rw [ha]; exact Bool.false_ne_true
  have hon : ¬ (!votes (s.lane l) || !(s.lane l).cfg.steerEn || bget (s.lane l) Rg.CYC_STATUS 9) = true := by rw [hv, he, hd]; exact Bool.false_ne_true
  exact ⟨_, (if_neg hup).trans (if_neg hon)⟩

theorem steeringEvaluation_off {s : State} {l : Lane} (ha : s.rm.alive = true)
    (h : votes (s.lane l) = false ∨ (s.lane l).cfg.steerEn = false ∨ bget (s.lane l) Rg.CYC_STATUS 9 = true) :
    ∃ u : State, exec (.steeringEvaluation l) s = .next (u.setLane l (steerTo (s.lane l) 28)) := by
  have hup : ¬ (!s.rm.alive) = true := by rw [ha]; exact Bool.false_ne_true
  have hoff : (!votes (s.lane l) || !(s.lane l).cfg.steerEn || bget (s.lane l) Rg.CYC_STATUS 9) = true := by
    rcases h with h | h | h <;> rw [h] <;> simp
  exact ⟨_, (if_neg hup).trans (if_pos hoff)⟩

/-- The life counters after one more minute (22 R481). -/
def State.lifeUpdated (s : State) : State :=
  let x : Life := { s.rm.life with seconds := if s.rm.start.input then s.rm.life.seconds + 60 else s.rm.life.seconds }
  { s with rm := { s.rm with life := if s.rm.start.dip then x else { x with flash := (x.seconds, x.powerCycles, x.thermal) } } }

theorem lifeCounterUpdate_up {s : State} (ha : s.rm.alive = true) : exec .lifeCounterUpdate s = .next s.lifeUpdated :=
  if_neg (by rw [ha]; exact Bool.false_ne_true)

theorem State.lifeUpdated_kept (s : State) :
    s.lifeUpdated.rm.life.seconds = (if s.rm.start.input then s.rm.life.seconds + 60 else s.rm.life.seconds)
      ∧ s.lifeUpdated.rm.life.flash = if s.rm.start.dip then s.rm.life.flash else (s.lifeUpdated.rm.life.seconds, s.rm.life.powerCycles, s.rm.life.thermal) := by
  unfold State.lifeUpdated
  dsimp only
  cases s.rm.start.dip <;> exact ⟨rfl, rfl⟩

/-- A field of n bits reads below 2 ^ n. -/
theorem fget_lt (x : LaneState) (a hi lo : Nat) : fget x a hi lo < 2 ^ (hi + 1 - lo) :=
  Nat.mod_lt _ (Nat.two_pow_pos _)

theorem RmState.img_congr {r q : RmState} (h : r.imgs = q.imgs) (t : ImgType) : r.img t = q.img t := by
  unfold RmState.img
  rw [h]

/-- Settles O51: Ringmaster's way down and up, the sensors' stages, the steered voltage, and the branch that the guards of each other service select. -/
theorem ringmasterServices : Obligations.RingmasterServices := by
  unfold Obligations.RingmasterServices
  intro s l src cert sid sn code d msg v w lo hi x up mine now worst vset steered sets len y went ends
  have hsets {n : Nat} (hn : n < 32) (h : ∃ u : State, exec (.steeringEvaluation l) s = .next (u.setLane l (steerTo (s.lane l) n))) : sets n := by
    obtain ⟨u, hu⟩ := h
    obtain ⟨h1, h2⟩ := steerTo_shows (s.lane l) hn
    exact ⟨_, hu, by rw [State.setLane_same]; exact h1, by rw [State.setLane_same]; exact h2⟩
  have hvset : vset < 32 := fget_lt (s.lane l) Rg.MBX_VSET 4 0
  have hsteer {n : Nat} (hn : n < 32) (h : steered) (hv : steerValue s l = n) : sets n := by
    obtain ⟨ha, hvote, he, hd⟩ := h
    exact hsets hn (hv ▸ steeringEvaluation_on ha hvote he hd)
  refine ⟨?_, ?_, ?_, ?_, ?_, ?_, fun k a hk h => State.certLevel_some hk h, ?_, ?_, ?_, ?_, ?_, ?_, ?_, ?_, ?_, ?_, ?_, ?_, laneBecomes_of rfl rfl, ?_, ?_, ?_⟩
  · intro ha
    exact ⟨⟨_, rfl, State.rmDown_alive 1 ha⟩, ⟨_, rfl, State.rmDown_alive 2 ha⟩⟩
  · intro ha
    exact ⟨congrArg Host.Outcome.next (State.rmDown_down 1 ha), congrArg Host.Outcome.next (State.rmDown_down 2 ha)⟩
  · intro ha hd
    obtain ⟨halive, hdown, -, hstatus⟩ := State.rmUp_alive s.resumeImage
    obtain ⟨h1, h2, -⟩ := State.resumeShown_alive s.resumeImage.rmUp s.rm.downBy (s.rm.downBy = 1 && (s.rm.img .ringmaster).provisional)
    exact ⟨_, ringmasterResume_down ha hd, h1.trans halive, h2.trans hdown, fun q => (State.resumeShown_status _ _ _ q).trans (hstatus q)⟩
  · intro ha hd hp
    obtain ⟨-, -, himgs, -⟩ := State.rmUp_alive s.resumeImage
    obtain ⟨-, -, h3⟩ := State.resumeShown_alive s.resumeImage.rmUp s.rm.downBy (s.rm.downBy = 1 && (s.rm.img .ringmaster).provisional)
    have hback : s.resumeImage = { s with rm := s.rm.setImg .ringmaster { (s.rm.img .ringmaster) with selB := !(s.rm.img .ringmaster).selB, provisional := false, fellBack := true } } :=
      if_pos (by rw [hd, hp]; rfl)
    have himg : s.resumeImage.rm.img .ringmaster = { (s.rm.img .ringmaster) with selB := !(s.rm.img .ringmaster).selB, provisional := false, fellBack := true } := by
      rw [hback]
      exact RmState.img_setImg_same s.rm .ringmaster _
    refine ⟨_, ringmasterResume_down ha (by omega), ?_⟩
    rw [RmState.img_congr (h3.trans himgs), himg]
    exact ⟨rfl, rfl⟩
  · intro ha hl
    exact (if_neg (by rw [ha]; exact Bool.false_ne_true)).trans (if_neg (Nat.not_le.2 hl))
  · intro ha hl
    exact (if_neg (by rw [ha]; exact Bool.false_ne_true)).trans (if_pos hl)
  · exact ⟨_, rfl, State.endSession_ends s sid⟩
  · exact ⟨_, rfl, State.endSession_ends s sid⟩
  · rintro ⟨ha, hb⟩ hs
    exact rmGate_exec (k := fun s => if src.backbone then s.answer .auth
      else (({ s with rm := { s.rm with opSeq := s.rm.opSeq + 1 } } : State).sendRm { code := code, seq := s.rm.opSeq + 1, data := padTo 56 d }).answer .ok) rfl ha hb
      (if_neg (by rw [hs]; exact Bool.false_ne_true))
  · rintro ⟨ha, hb⟩ hs
    exact rmGate_exec (k := fun s => if src.backbone then s.answer .auth
      else (({ s with rm := { s.rm with opSeq := s.rm.opSeq + 1 } } : State).sendRm { code := code, seq := s.rm.opSeq + 1, data := padTo 56 d }).answer .ok) rfl ha hb (if_pos hs)
  · intro ha
    exact congrArg Host.Outcome.next (if_pos ha)
  · intro ha
    refine ⟨_, sensorSample_up sn v ha, ?_, ?_, ?_, ?_, ?_⟩
    · rintro rfl
      rw [(State.noteShock_kept _ _ _).1, State.noteSupply_rm, State.noteLane_rm]
      show thermalStep (s.limitCheck 9 v).rm.life v = _
      rw [(State.limitCheck_kept s 9 v).1]
    · rintro rfl q
      rw [State.noteShock_lane, State.noteSupply_32]
    · rintro rfl q
      rw [State.noteShock_lane, State.noteSupply_39]
    · intro h41 hv
      have hshock (z : State) : z.noteShock sn v = z := if_neg (by omega)
      rw [hshock, State.noteSupply_rm, State.noteLane_rm, (State.noteThermal_kept _ _ _).1, (State.limitCheck_kept s sn v).2]
    · intro hb ho
      rw [(State.noteShock_kept _ _ _).2.1, (State.noteShock_kept _ _ _).2.2, State.noteSupply_rm, State.noteLane_rm, (State.noteThermal_kept _ _ _).2.1,
        (State.noteThermal_kept _ _ _).2.2]
      exact State.limitCheck_out hb ho
  · intro ha
    exact ⟨_, lifeCounterUpdate_up ha, s.lifeUpdated_kept⟩
  · intro h hnow
    exact hsteer (by omega) h (if_pos hnow)
  · intro h hnow hlen hworst
    refine hsteer (by omega) h ((if_neg (Nat.not_lt.2 hnow)).trans (if_pos ⟨?_, hworst⟩))
    rw [List.length_cons]
    exact hlen
  · intro h hnow h64 h80
    refine hsteer hvset h ((if_neg (Nat.not_lt.2 hnow)).trans (if_neg fun hc => ?_))
    rw [List.length_cons] at hc
    exact hc.1.elim h64 h80
  · intro ha h
    exact hsets (by decide) (steeringEvaluation_off ha h)
  · intro ha
    exact congrArg Host.Outcome.next (if_pos ha)
  · intro hw hst h0 h256
    refine laneBecomes_of rfl ((guardWrite_allowed hw).trans (if_neg ?_))
    show ¬ (bget x Rg.MBX_AUX_STAT 0 = true ∨ len = 0 ∨ 256 < len)
    rw [hst]
    rintro (h | h | h)
    · exact Bool.false_ne_true h
    · omega
    · omega
  · intro ha hs hst h0 h256
    refine laneBecomes_of rfl (if_neg ?_)
    show ¬ ((!s.rm.alive) = true ∨ (!isSplit x) = true ∨ bget x Rg.MBX_AUX_STAT 1 = true ∨ d.length = 0 ∨ 256 < d.length)
    rw [ha, hs, hst]
    rintro (h | h | h | h | h)
    · exact Bool.false_ne_true h
    · exact Bool.false_ne_true h
    · exact Bool.false_ne_true h
    · omega
    · omega
  · intro hw
    exact laneBecomes_of rfl (guardWrite_allowed hw)

end Sys2Proof.Machine

/-! SUPPORT. Bytes in a row of registers, the recorder's records and the codes it suppresses, and the statement about the event recorder. -/

namespace Sys2Proof.Machine

theorem leBytes_length (n v : Nat) : (leBytes n v).length = n := by
  induction n generalizing v with
  | zero => rfl
  | succ n ih => rw [leBytes, List.length_cons, ih]

/-- Four bytes make up the word that reads back as them. -/
theorem leBytes_word (b0 b1 b2 b3 : Byte) : leBytes 4 (BitVec.ofNat 32 (leNat [b0, b1, b2, b3])).toNat = [b0, b1, b2, b3] := by
  have h0 := b0.isLt
  have h1 := b1.isLt
  have h2 := b2.isLt
  have h3 := b3.isLt
  have hval : (BitVec.ofNat 32 (leNat [b0, b1, b2, b3])).toNat = b0.toNat + 256 * (b1.toNat + 256 * (b2.toNat + 256 * b3.toNat)) := by
    rw [BitVec.toNat_ofNat]
    simp only [leNat]
    omega
  rw [hval]
  simp only [leBytes, List.cons.injEq, and_true]
  refine ⟨?_, ?_, ?_, ?_⟩ <;> refine BitVec.eq_of_toNat_eq ?_ <;> rw [BitVec.toNat_ofNat] <;> omega

theorem rsetWords_rget_below (x : LaneState) (a : Nat) (bs : Bytes) {b : Nat} (h : b < a) : rget (rsetWords x a bs) b = rget x b := by
  induction x, a, bs using rsetWords.induct with
  | case1 x a b0 b1 b2 b3 bs ih =>
    rw [rsetWords, ih (by omega), rget_rset_other _ _ _ _ (by omega)]
  | case2 x a => rw [rsetWords]
  | case3 x a bs h1 h2 =>
    rw [rsetWords]
    · exact rget_rset_other _ _ _ _ (by omega)
    · exact h1
    · exact h2

/-- A row of registers, byte by byte. -/
def rowBytes (x : LaneState) (a k : Nat) : Bytes := (List.range k).flatMap (fun i => leBytes 4 (rget x (a + 4 * i)).toNat)

theorem rowBytes_succ (x : LaneState) (a k : Nat) : rowBytes x a (k + 1) = leBytes 4 (rget x a).toNat ++ rowBytes x (a + 4) k := by
  unfold rowBytes
  rw [List.range_succ_eq_map, List.flatMap_cons, List.flatMap_map]
  refine congrArg (_ ++ ·) (List.flatMap_congr fun i _ => ?_)
  rw [show a + 4 * (i + 1) = a + 4 + 4 * i by omega]

theorem rowBytes_length (x : LaneState) (k : Nat) : ∀ a, (rowBytes x a k).length = 4 * k := by
  induction k with
  | zero => exact fun _ => rfl
  | succ k ih =>
    intro a
    rw [rowBytes_succ, List.length_append, leBytes_length, ih]
    omega

theorem rowBytes_rsetWords (k : Nat) : ∀ (x : LaneState) (a : Nat) (bs : Bytes), bs.length = 4 * k → rowBytes (rsetWords x a bs) a k = bs := by
  induction k with
  | zero => exact fun x a bs h => (List.eq_nil_of_length_eq_zero h).symm
  | succ k ih =>
    intro x a bs h
    match bs, h with
    | b0 :: b1 :: b2 :: b3 :: bs, h =>
      have hlen : bs.length = 4 * k := by
        simp only [List.length_cons] at h
        omega
      rw [rowBytes_succ, rsetWords, rsetWords_rget_below _ _ _ (by omega), rget_rset_same, leBytes_word, ih _ _ _ hlen]
      rfl

/-- Whole words written to a row of registers are read back from it. -/
theorem regBytes_rsetWords (x : LaneState) (a k : Nat) {bs : Bytes} (h : bs.length = 4 * k) : regBytes (rsetWords x a bs) a (4 * k) = bs := by
  have hk : (4 * k + 3) / 4 = k := by omega
  have hrow : regBytes (rsetWords x a bs) a (4 * k) = (rowBytes (rsetWords x a bs) a k).take (4 * k) := by
    unfold regBytes rowBytes
    rw [hk]
  rw [hrow, List.take_of_length_le (by rw [rowBytes_length]), rowBytes_rsetWords k x a bs h]

theorem recBytes_length (r : EvRec) : (recBytes r).length = 4 * 16 := by
  unfold recBytes leInt
  simp only [List.length_append, leBytes_length]

theorem find_setCode_none (bs : List (Nat × Nat × Nat)) (c : Nat) : (setCode bs c none).find? (fun b => b.1 == c) = none := by
  unfold setCode
  dsimp only
  rw [List.find?_eq_none]
  intro b hb
  have := (List.mem_filter.1 hb).2
  simpa using this

/-- A code that was cleared is suppressed no more. -/
theorem suppOf_setCode_none (e : EvrState) (c : Nat) : suppOf { e with supp := setCode e.supp c none } c = 0 := by
  unfold suppOf
  dsimp only
  rw [find_setCode_none]

/-- Clearing one code leaves a code that is not suppressed so. -/
theorem suppOf_setCode_zero (e : EvrState) (c d : Nat) (h : e.supp.find? (fun b => b.1 == c) = none) : suppOf { e with supp := setCode e.supp d none } c = 0 := by
  have hfind : (e.supp.filter (fun b => b.1 != d)).find? (fun b => b.1 == c) = none := by
    rw [List.find?_eq_none] at h ⊢
    exact fun b hb => h b (List.mem_filter.1 hb).1
  unfold suppOf setCode
  dsimp only
  rw [hfind]

/-- The record an event comes to (22 R484). -/
def recordOf (s : State) (r : Report) : EvRec :=
  { index := s.rm.evr.newest + 1, rep := r, firstAfterClear := s.rm.evr.afterClear, lossBefore := s.rm.evr.loss,
    suppressed := BitVec.ofNat 32 (min (suppOf s.rm.evr r.code.toNat) 0xFFFFFFFF), powerCycles := BitVec.ofNat 32 s.rm.life.powerCycles }

/-- The recorder once an event was admitted. -/
def admitted (e : EvrState) (c : Nat) : EvrState := { e with newest := e.newest + 1, afterClear := false, loss := false, supp := setCode e.supp c none }

theorem State.recordEvent_quiet {s : State} (r : Report) (hf : s.rm.evr.frozenBy = none) (hd : s.rm.start.dip = false) :
    (s.recordEvent r).rm.evr = writeRec (admitted s.rm.evr r.code.toNat) (recordOf s r) := by
  unfold State.recordEvent
  dsimp only
  rw [if_neg (by rw [hf]; exact Bool.false_ne_true), if_neg (by rw [hd]; exact Bool.false_ne_true), State.showEvr_rm, State.rsetAll_rm, State.rsetAll_rm]
  rfl

theorem State.recordEvent_frozen {s : State} (r : Report) {h : FreezeSrc} (hf : s.rm.evr.frozenBy = some h) (hl : s.rm.evr.hold.length < 256) :
    (s.recordEvent r).rm.evr = { admitted s.rm.evr r.code.toNat with hold := { recordOf s r with held := true } :: s.rm.evr.hold } := by
  unfold State.recordEvent
  dsimp only
  rw [if_pos (by rw [hf]; rfl), if_pos hl, State.showEvr_rm, State.rsetAll_rm, State.rsetAll_rm]
  rfl

theorem State.recordEvent_full {s : State} (r : Report) {h : FreezeSrc} (hf : s.rm.evr.frozenBy = some h) (hl : 256 ≤ s.rm.evr.hold.length) :
    (s.recordEvent r).rm.evr = { admitted s.rm.evr r.code.toNat with loss := true } := by
  unfold State.recordEvent
  dsimp only
  rw [if_pos (by rw [hf]; rfl), if_neg (Nat.not_lt.2 hl), State.mapLanes_rm]
  rfl

/-- A report of Ringmaster's own never merges with another (22 R483). -/
theorem mergeReport_own (rs : List Report) {r : Report} (h : r.path = 0) : mergeReport rs r = rs ++ [r] := by
  refine if_neg ?_
  rw [List.any_eq_true]
  rintro ⟨a, -, ha⟩
  unfold mergesWith at ha
  rw [h] at ha
  simp at ha

theorem State.recordR_eq (s : State) (c d : Nat) : ∃ r, s.recordR c d = s.recordEvent r ∧ r.code = BitVec.ofNat 16 c := by
  have hr : ∃ r : Report, (s.rmEvent c d).rm.evr.reports = s.rm.evr.reports ++ [r] ∧ r.code = BitVec.ofNat 16 c := ⟨_, mergeReport_own _ rfl, rfl⟩
  obtain ⟨r, hreports, hcode⟩ := hr
  refine ⟨r, ?_, hcode⟩
  unfold State.recordR
  dsimp only
  rw [hreports, List.getLast?_concat]

theorem foldl_writeRec_lastArea (rs : List EvRec) (e : EvrState) : (rs.foldl writeRec e).lastArea = rs.foldl (fun q z => (z :: q).take 1048576) e.lastArea := by
  induction rs generalizing e with
  | nil => rfl
  | cons r rs ih => rw [List.foldl_cons, List.foldl_cons, ih]; rfl

theorem foldl_writeRec_hold (rs : List EvRec) (e : EvrState) : (rs.foldl writeRec e).hold = e.hold :=
  foldl_keeps EvrState.hold (g := writeRec) (fun _ _ => rfl) _ _

/-- What the recorder holds once a freeze ends (22 R490). -/
theorem State.unfreeze_evr (s : State) : s.unfreeze.rm.evr.hold = []
    ∧ (s.rm.start.dip = false → s.unfreeze.rm.evr.lastArea = (s.rm.evr.defer.reverse ++ s.rm.evr.hold.reverse).foldl (fun q z => (z :: q).take 1048576) s.rm.evr.lastArea)
    ∧ (s.rm.start.dip = true → s.unfreeze.rm.evr.lastArea = s.rm.evr.lastArea) := by
  unfold State.unfreeze
  dsimp only
  rw [State.showEvr_rm]
  dsimp only
  refine ⟨?_, fun h => ?_, fun h => ?_⟩
  · split
    · rfl
    · rw [foldl_writeRec_hold]
  · rw [if_neg (by rw [h]; exact Bool.false_ne_true), foldl_writeRec_lastArea]
  · rw [if_pos h]

theorem State.showEvr_frozen {s : State} (h : s.rm.evr.frozenBy.isSome = true) (q : Lane) : bget (s.showEvr.lane q) Rg.EVR_STATUS 0 = true := by
  unfold State.showEvr bget
  dsimp only
  rw [State.fsetAll_lane, State.fsetAll_lane, State.fsetAll_lane, State.fsetAll_lane, State.fsetAll_lane, State.fsetAll_lane,
    fget_fset_other _ _ _ _ _ _ _ _ (by decide), fget_fset_below _ _ _ (by decide) (by decide) (by decide) (by decide),
    fget_fset_below _ _ _ (by decide) (by decide) (by decide) (by decide), fget_fset_below _ _ _ (by decide) (by decide) (by decide) (by decide),
    fget_fset_below _ _ _ (by decide) (by decide) (by decide) (by decide), fget_fset_same _ _ _ _ _ (by decide) (by decide) (by rw [h]; decide), h]
  rfl

/-- The module with the front report taken (22 R483). -/
def State.reportTaken (s : State) (rs : List Report) : State := { s with rm := { s.rm with evr := { s.rm.evr with reports := rs } } }

theorem eventReport_front {s : State} {r : Report} {rs : List Report} (now : Nat) (ha : s.rm.alive = true) (hr : s.rm.evr.reports = r :: rs) :
    exec (.eventReport now) s = .next ((s.reportTaken rs).record r now) := by
  show execEventReport now s = _
  unfold execEventReport
  rw [if_pos ha, hr]
  rfl

/-- A code with its count of suppressed events raised reads one more. -/
theorem suppOf_raised (e : EvrState) (c f : Nat) (bs : List (Nat × Nat × Nat)) :
    suppOf { e with buckets := bs, supp := setCode e.supp c (some (suppOf e c + 1, f)) } c = suppOf e c + 1 := by
  show suppOf { e with supp := (c, suppOf e c + 1, f) :: e.supp.filter (fun b => b.1 != c) } c = _
  generalize suppOf e c + 1 = n
  unfold suppOf
  dsimp only
  rw [List.find?_cons_of_pos (p := fun b : Nat × Nat × Nat => b.1 == c) (beq_self_eq_true c)]

/-- An event without a token is counted and not recorded (22 R488). -/
theorem State.record_suppressed {s : State} {r : Report} {now : Nat} (hk : codeKnown r.code.toNat = true) (hx : exemptCodes.contains r.code.toNat = false)
    (ht : tokens s.rm.evr s.la.cfg r.code.toNat now < 1000) :
    (s.record r now).rm.evr.lastArea = s.rm.evr.lastArea ∧ (s.record r now).rm.evr.newest = s.rm.evr.newest
      ∧ suppOf (s.record r now).rm.evr r.code.toNat = suppOf s.rm.evr r.code.toNat + 1 := by
  unfold State.record
  dsimp only
  rw [if_neg (by rw [hk]; exact Bool.false_ne_true), if_neg (by rw [hx]; exact Bool.false_ne_true), if_neg (Nat.not_le.2 ht)]
  exact ⟨rfl, rfl, suppOf_raised _ _ _ _⟩

theorem State.record_admitted {s : State} {r : Report} {now : Nat} (hk : codeKnown r.code.toNat = true) (hx : exemptCodes.contains r.code.toNat = false)
    (ht : 1000 ≤ tokens s.rm.evr s.la.cfg r.code.toNat now) :
    s.record r now = State.recordEvent { s with rm := { s.rm with evr := { s.rm.evr with
      buckets := setCode s.rm.evr.buckets r.code.toNat (some (tokens s.rm.evr s.la.cfg r.code.toNat now - 1000, now)) } } } r :=
  (if_neg (by rw [hk]; exact Bool.false_ne_true)).trans ((if_neg (by rw [hx]; exact Bool.false_ne_true)).trans (if_pos ht))

/-- The state with the suppression of a code cleared (22 R488). -/
def State.unsuppress (s : State) (c : Nat) : State := { s with rm := { s.rm with evr := { s.rm.evr with supp := setCode s.rm.evr.supp c none } } }

theorem suppressionSummary_due {s : State} {code : Half} {now : Nat} {b : Nat × Nat × Nat} (ha : s.rm.alive = true) (hb : s.rm.evr.supp.find? (fun q => q.1 == code.toNat) = some b)
    (ht : 60000 ≤ now - b.2.2) :
    exec (.suppressionSummary code now) s = .next (((s.unsuppress code.toNat).recordR 0x0D01 (code.toNat + min b.2.1 0xFFFF * 65536)).mapLanes (fun l => finc l Rg.EVR_SUPP_CNT 31 0 1)) := by
  show execSuppressionSummary code now s = _
  unfold execSuppressionSummary
  rw [hb]
  exact if_pos (by rw [ha, decide_eq_true ht]; rfl)

/-- The first area emptied (22 R486). -/
def State.areaCleared (s : State) : State := { s with rm := { s.rm with evr := { s.rm.evr with firstArea := [], afterClear := true } } }

/-- What one lane asks the recorder for is served (22 R493). -/
theorem State.serveRead_none {s : State} {k : Lane} (ha : s.rm.alive = true) (h : s.recNamed (s.lane k) = none) : (s.serveRead k).lane k = fset (s.lane k) Rg.EVR_RD_STAT 2 0 4 := by
  unfold State.serveRead
  dsimp only
  rw [if_neg (by rw [ha]; exact Bool.false_ne_true), h]
  dsimp only
  rw [State.setLane_same]

theorem State.serveRead_some {s : State} {k : Lane} {q : EvRec} (ha : s.rm.alive = true) (h : s.recNamed (s.lane k) = some q) :
    (s.serveRead k).lane k = rsetWords (fset (s.lane k) Rg.EVR_RD_STAT 2 0 2) (Rg.EVR_RD_DATAk 0) (recBytes q) := by
  unfold State.serveRead
  dsimp only
  rw [if_neg (by rw [ha]; exact Bool.false_ne_true), h]
  dsimp only
  rw [State.setLane_same]

/-- The recorder frozen by a source (22 R490). -/
def State.frozenFor (s : State) (fs : FreezeSrc) : State :=
  let s := s.fsetAll Rg.EVR_HOLD 31 16 0
  { s with rm := { s.rm with evr := { s.rm.evr with frozenBy := some fs } } }

theorem State.frozenFor_evr (s : State) (fs : FreezeSrc) : (s.frozenFor fs).rm.evr = { s.rm.evr with frozenBy := some fs } := by
  unfold State.frozenFor
  dsimp only
  rw [State.fsetAll_rm]

/-- Settles O52: what the recorder comes to when an event is admitted, held or lost, and the branch that the guards of each command select. -/
theorem eventRecorder : Obligations.EventRecorder := by
  unfold Obligations.EventRecorder
  intro s l ag r rs code now src fs h v b x e c rest t quiet a15 read i first
  refine ⟨?_, ?_, ?_, ?_, ?_, ?_, ?_, ?_, ?_, ?_, ?_, ?_, ?_, ?_, ?_, ?_, ?_⟩
  · intro ha hr
    have hx := eventReport_front now ha hr
    refine ⟨fun hex hk => ?_, fun hk => ?_, fun hk hex ht => ?_, fun hk hex ht => ?_⟩
    · exact hx.trans (congrArg Host.Outcome.next ((if_neg (by rw [show codeKnown r.code.toNat = true from hk]; exact Bool.false_ne_true)).trans (if_pos hex)))
    · exact hx.trans (congrArg Host.Outcome.next (if_pos (by rw [show codeKnown r.code.toNat = false from hk]; rfl)))
    · exact hx.trans (congrArg Host.Outcome.next (State.record_admitted (s := s.reportTaken rs) hk hex ht))
    · exact ⟨_, hx, State.record_suppressed (s := s.reportTaken rs) hk hex ht⟩
  · rintro ⟨hf, hd⟩
    rw [State.recordEvent_quiet r hf hd]
    exact ⟨rfl, rfl, rfl, suppOf_setCode_none _ _⟩
  · intro hf
    refine ⟨?_, ?_, fun hl => ?_, fun hl => ?_⟩
    · rcases Nat.lt_or_ge s.rm.evr.hold.length 256 with hl | hl
      · rw [State.recordEvent_frozen r hf hl]; rfl
      · rw [State.recordEvent_full r hf hl]; rfl
    · rcases Nat.lt_or_ge s.rm.evr.hold.length 256 with hl | hl
      · rw [State.recordEvent_frozen r hf hl]; rfl
      · rw [State.recordEvent_full r hf hl]; rfl
    · rw [State.recordEvent_frozen r hf hl]; rfl
    · rw [State.recordEvent_full r hf hl]
      exact ⟨rfl, rfl⟩
  · intro ha hb ht
    refine ⟨_, suppressionSummary_due ha hb ht, fun hq => ?_⟩
    obtain ⟨hf, hd⟩ := hq
    obtain ⟨q, hq, hcode⟩ := State.recordR_eq (s.unsuppress code.toNat) 0x0D01 (code.toNat + min b.2.1 0xFFFF * 65536)
    rw [State.mapLanes_rm, hq, State.recordEvent_quiet (s := s.unsuppress code.toNat) q hf hd]
    exact ⟨suppOf_setCode_zero _ _ _ (find_setCode_none s.rm.evr.supp code.toNat), _, rfl, hcode⟩
  · intro ha hm hq
    obtain ⟨hf, hd⟩ := hq
    obtain ⟨q, hq, hcode⟩ := State.recordR_eq s.areaCleared 0x0E03 0
    have hx : exec (.evrClear src) s = .next ((s.areaCleared.recordR 0x0E03 0).answer .ok) := by
      refine (if_neg (by rw [ha]; exact Bool.false_ne_true)).trans ((if_neg (by rw [hm]; exact Bool.false_ne_true)).trans (if_neg ?_))
      rw [show s.rm.evr.frozenBy = none from hf]
      exact Bool.false_ne_true
    have hevr : (s.areaCleared.recordR 0x0E03 0).rm.evr = writeRec (admitted s.areaCleared.rm.evr q.code.toNat) (recordOf s.areaCleared q) := by
      rw [hq, State.recordEvent_quiet (s := s.areaCleared) q hf hd]
    refine ⟨_, hx, rfl, recordOf s.areaCleared q, ?_, hcode, rfl⟩
    show (s.areaCleared.recordR 0x0E03 0).rm.evr.firstArea = _
    rw [hevr]
    rfl
  · intro ha hm
    exact (if_neg (by rw [ha]; exact Bool.false_ne_true)).trans (if_pos (by rw [hm]; rfl))
  · intro ha hm hf
    refine (if_neg (by rw [ha]; exact Bool.false_ne_true)).trans ((if_neg (by rw [hm]; exact Bool.false_ne_true)).trans (if_pos ?_))
    rw [show s.rm.evr.frozenBy = some h from hf]
    rfl
  · intro ha hmay
    have hup : ¬ (!s.rm.alive) = true := by rw [ha]; exact Bool.false_ne_true
    have hgo : ¬ (!s.mayFreeze fs) = true := by rw [hmay]; exact Bool.false_ne_true
    refine ⟨fun hf => ?_, fun hf => ?_⟩
    · have hf' : s.rm.evr.frozenBy = none := hf
      refine ⟨(s.frozenFor fs).showEvr.answer .ok, ?_, rfl, ?_, fun q => ?_⟩
      · refine (if_neg hup).trans ((if_neg hgo).trans ?_)
        rw [hf']
        rfl
      · show (s.frozenFor fs).showEvr.rm.evr = _
        rw [State.showEvr_rm, State.frozenFor_evr]
      · rw [State.answer_lane]
        exact State.showEvr_frozen (by rw [State.frozenFor_evr]; rfl) q
    · have hf' : s.rm.evr.frozenBy = some h := hf
      refine (if_neg hup).trans ((if_neg hgo).trans ?_)
      rw [hf']
  · intro ha hmay
    exact (if_neg (by rw [ha]; exact Bool.false_ne_true)).trans (if_pos (by rw [hmay]; rfl))
  · intro ha
    have hup : ¬ (!s.rm.alive) = true := by rw [ha]; exact Bool.false_ne_true
    refine ⟨fun hf => ?_, fun hf => ?_, fun hf hne => ?_⟩
    · refine (if_neg hup).trans ?_
      rw [show s.rm.evr.frozenBy = none from hf]
    · refine (if_neg hup).trans ?_
      rw [show s.rm.evr.frozenBy = some fs from hf]
      exact congrArg Host.Outcome.next (if_pos rfl)
    · refine (if_neg hup).trans ?_
      rw [show s.rm.evr.frozenBy = some h from hf]
      exact congrArg Host.Outcome.next (if_neg hne)
  · intro hf
    exact congrArg Host.Outcome.next (if_pos (by rw [show s.rm.evr.frozenBy = some h from hf]; rfl))
  · exact ⟨State.unfreeze_frozenBy s, State.unfreeze_evr s⟩
  · intro hw
    exact if_pos hw
  · intro hr
    exact if_pos hr
  · intro ha hn
    rw [State.serveRead_none ha hn]
    exact fget_fset_same _ _ _ _ _ (by decide) (by decide) (by decide)
  · intro q ha hq
    rw [State.serveRead_some ha hq]
    refine ⟨?_, regBytes_rsetWords _ _ 16 (recBytes_length q)⟩
    unfold fget
    rw [rsetWords_rget_below _ _ _ (by decide)]
    exact fget_fset_same _ _ _ _ _ (by decide) (by decide) (by decide)
  · intro hr
    exact laneBecomes_of rfl (guardRead_allowed hr)

end Sys2Proof.Machine

/-! SUPPORT. Image staging: what the messages and the shown registers leave alone, the spare slot, and the chunk that is complete. -/

namespace Sys2Proof.Machine

theorem State.type4_rm (s : State) (p : Nat) (e : Emit) : (s.type4 p e).rm = s.rm := State.mapLanes_rm _ _

theorem State.type4All_rm (s : State) (e : Nat → Emit) : (s.type4All e).rm = s.rm :=
  foldl_keeps State.rm (fun _ _ => State.type4_rm _ _ _) _ _

theorem State.askChunk_rm (s : State) (g : Staging) : (s.askChunk g).rm = s.rm := State.type4_rm _ _ _

theorem State.showUpd_rm (s : State) : s.showUpd.rm = s.rm := by
  unfold State.showUpd
  dsimp only
  split
  · rw [foldl_keeps State.rm fun z t => by rw [State.fsetAll_rm], State.showBoot_rm, State.fsetAll_rm, State.fsetAll_rm]
  · rw [State.fsetAll_rm, State.fsetAll_rm, State.rsetAll_rm, State.rsetAll_rm, State.fsetAll_rm,
      foldl_keeps State.rm fun z t => by rw [State.fsetAll_rm], State.showBoot_rm, State.fsetAll_rm, State.fsetAll_rm]

theorem ImgSel.spare_setSpare (x : ImgSel) (v : Slot) : (x.setSpare v).spare = v := by
  unfold ImgSel.setSpare
  split
  next h => exact if_pos h
  next h => exact if_neg h

theorem State.setSpare_spare (s : State) (t : ImgType) (v : Slot) : ((s.setSpare t v).rm.img t).spare = v := by
  show ((s.rm.setImg t ((s.rm.img t).setSpare v)).img t).spare = v
  rw [RmState.img_setImg_same, ImgSel.spare_setSpare]

theorem State.setStaging_imgs (s : State) (t : ImgType) (g : Option Staging) : (s.setStaging t g).rm.imgs = s.rm.imgs := rfl

/-- Whether an image is good depends on the keys alone (23 R499). -/
theorem receivedOk_congr {r q : RmState} (h : r.keys = q.keys) (t : ImgType) (b : Bytes) : receivedOk r t b = receivedOk q t b := by
  unfold receivedOk imgVerifies sigVerifies keyOf
  rw [h]

/-- A good image ends verified in the spare slot (23 R499). -/
theorem State.finishSlot_good {s : State} {t : ImgType} {img : Bytes} (h : receivedOk s.rm t img = true) : ((s.finishSlot t img).rm.img t).spare = { img := img, st := 2 } := by
  have hok : receivedOk (s.setStaging t none).rm t img = true := (receivedOk_congr (State.setStaging_keys s t none) t img).trans h
  unfold State.finishSlot
  dsimp only
  rw [if_pos hok, State.showUpd_rm, RmState.img_congr (State.rmEvent_kept _ _ _).2.2]
  exact State.setSpare_spare _ t _

/-- The segments of a chunk put together (23 R498). -/
def stagedData (g : Staging) : Bytes := (List.range ((chunkLen g + 1023) / 1024)).flatMap (fun i => sget (fun _ => ([] : Bytes)) g.segs i)

/-- What a good chunk leaves in the spare slot before the next one is asked for. -/
def State.chunkStored (s : State) (g : Staging) : State :=
  (s.mapLanes (fun l => finc l Rg.UPD_CNT 15 0 1)).setSpare g.typ { img := (if g.chunks = 0 then [] else (s.rm.img g.typ).spare.img) ++ stagedData g, st := 1 }

theorem State.takeChunk_good {s : State} {g : Staging} {crc : Word} (hl : (stagedData g).length = chunkLen g) (hc : crc32c 0xFFFFFFFF#32 (stagedData g) = crc) :
    s.takeChunk g crc = if g.len ≤ 65536 * (g.chunks + 1) then (s.chunkStored g).finishSlot g.typ ((if g.chunks = 0 then [] else (s.rm.img g.typ).spare.img) ++ stagedData g)
      else (((s.chunkStored g).setStaging g.typ (some { g with chunks := g.chunks + 1, segs := [], repeats := 0 })).askChunk { g with chunks := g.chunks + 1, segs := [], repeats := 0 }).showUpd :=
  if_pos (by
    show (decide ((stagedData g).length = chunkLen g) && decide (crc32c 0xFFFFFFFF#32 (stagedData g) = crc)) = true
    rw [decide_eq_true hl, decide_eq_true hc]
    rfl)

/-- A chunk that fails its check leaves the images alone unless the provider is given up (23 R499). -/
theorem State.takeChunk_bad {s : State} {g : Staging} {crc : Word} (h : ¬ ((stagedData g).length = chunkLen g ∧ crc32c 0xFFFFFFFF#32 (stagedData g) = crc)) :
    (s.takeChunk g crc).rm.imgs = s.rm.imgs ∨ 3 ≤ g.fails := by
  have hbad : ¬ (decide ((stagedData g).length = chunkLen g) && decide (crc32c 0xFFFFFFFF#32 (stagedData g) = crc)) = true := by
    rw [Bool.and_eq_true, decide_eq_true_iff, decide_eq_true_iff]
    exact h
  rcases Nat.lt_or_ge g.fails 3 with hf | hf
  · left
    have hx : s.takeChunk g crc = State.askChunk (State.setStaging (s.mapLanes (fun l => finc l Rg.UPD_CNT 31 16 1)) g.typ (some { g with segs := [], fails := g.fails + 1 })) { g with segs := [], fails := g.fails + 1 } :=
      (if_neg hbad).trans (if_neg (by show ¬ 4 ≤ g.fails + 1; omega))
    rw [hx, State.askChunk_rm, State.setStaging_imgs, State.mapLanes_rm]
  · exact Or.inr hf

/-- What the announcing of one image type sends (23 R496). -/
def State.announceOf (s : State) (t : ImgType) : State :=
  [(s.rm.img t).a, (s.rm.img t).b].foldl (fun s x =>
    if x.st = 2 then s.type4All (fun p => .upd p 0x10 { typ := t, tag := imgTag x.img, len := x.img.length } []) else s) s

theorem State.announceOf_none {s : State} {t : ImgType} (h : (s.rm.img t).a.st ≠ 2 ∧ (s.rm.img t).b.st ≠ 2) : s.announceOf t = s := by
  unfold State.announceOf
  rw [List.foldl_cons, List.foldl_cons, List.foldl_nil, if_neg h.1, if_neg h.2]

theorem announce_on {s : State} (ha : s.rm.alive = true) (hc : bget s.la Rg.UPD_CFG 16 = true) : exec .announce s = .next (allTypes.foldl State.announceOf s) :=
  if_neg (by rw [ha, hc]; exact Bool.false_ne_true)

/-- Only one type is announced where no other has a verified slot. -/
theorem foldl_announceOf_one {s z : State} {t : ImgType} (h : ∀ u, u ≠ t → (s.rm.img u).a.st ≠ 2 ∧ (s.rm.img u).b.st ≠ 2) (hz : s.announceOf t = z) (hrm : z.rm = s.rm) :
    allTypes.foldl State.announceOf s = z := by
  have hs {u : ImgType} (hu : u ≠ t) : s.announceOf u = s := State.announceOf_none (h u hu)
  have hzu {u : ImgType} (hu : u ≠ t) : z.announceOf u = z := State.announceOf_none (by rw [hrm]; exact h u hu)
  cases t <;> simp [allTypes, hs, hzu, hz]

theorem chunkTimeout_staging {s : State} {t : ImgType} {g : Staging} (hg : s.staging t = some g) (hm : s.mayStage = true) :
    exec (.chunkTimeout t) s = .next (if 8 ≤ g.repeats then s.turnAway g
      else (s.setStaging t (some { g with repeats := g.repeats + 1, segs := [] })).askChunk { g with repeats := g.repeats + 1, segs := [] }) := by
  show execChunkTimeout t s = _
  unfold execChunkTimeout
  rw [hg]
  dsimp only
  rw [if_neg (by rw [hm]; exact Bool.false_ne_true)]
  split <;> rfl

/-- A staging of the same type gives way to an injected image (23 R500). -/
def State.unstaged (s : State) (t : ImgType) : State :=
  match s.staging t with
  | some g => s.abandonStaging g
  | none => s

theorem State.unstaged_none {s : State} {t : ImgType} (h : s.staging t = none) : s.unstaged t = s := by
  unfold State.unstaged
  rw [h]

theorem exec_imageInject (s : State) (src : CmdSrc) (t : ImgType) (img : Bytes) :
    exec (.imageInject src t img) s = s.rmGate (fun s => if !isMaintainer src then s.answer .auth else if s.locked t || slotSize t < img.length then s.answer .refused
      else if s.rm.start.dip then s.answer .busy else ((s.unstaged t).finishSlot t img).answer .ok) := rfl

/-- Settles O53: the announced type, the chunk that is checked, and the branch that the guards of each message select. -/
theorem imageStaging : Obligations.ImageStaging := by
  unfold Obligations.ImageStaging
  intro s port p h d t src img g v x differs new c segment kept whole again data good up old
  have hstage (hm : s.mayStage = true) : ¬ (!s.mayStage) = true := by rw [hm]; exact Bool.false_ne_true
  have hdiff {z : Slot} (hz : differs z) : (z.img != [] && imgTag z.img == h.tag) = false := by
    rcases (hz : z.img = [] ∨ imgTag z.img ≠ h.tag) with hz | hz
    · rw [hz]; rfl
    · rw [beq_eq_false_iff_ne.2 hz, Bool.and_false]
  refine ⟨?_, ?_, ?_, ?_, ?_, ?_, ?_, ?_, ?_, ?_, ?_, ?_, ?_, ?_, ?_, ?_, ?_⟩
  · intro ha hc
    refine ⟨fun hall => ?_, fun h2 hb hall => ?_⟩
    · rw [announce_on ha hc, foldl_announceOf_one (t := .config) (fun u _ => hall u) (State.announceOf_none (hall .config)) rfl]
    · rw [announce_on ha hc]
      refine congrArg Host.Outcome.next (foldl_announceOf_one hall ?_ (State.type4All_rm s _))
      unfold State.announceOf
      rw [List.foldl_cons, List.foldl_cons, List.foldl_nil, if_pos h2, if_neg hb]
  · intro hc
    exact if_pos (by rw [hc]; simp)
  · intro hm hg ha hb hl h0 hlen
    have hno : ¬ ((x.a.img != [] && imgTag x.a.img == h.tag) || (x.b.img != [] && imgTag x.b.img == h.tag) || s.locked h.typ || decide (slotSize h.typ < h.len) || decide (h.len = 0)) = true := by
      rw [hdiff ha, hdiff hb, hl, decide_eq_false (Nat.not_lt.2 hlen), decide_eq_false (by omega)]
      exact Bool.false_ne_true
    refine (if_neg (hstage hm)).trans ?_
    rw [hg]
    exact if_neg hno
  · intro hm hg hl
    refine (if_neg (hstage hm)).trans ?_
    rw [hg]
    refine if_pos ?_
    rcases hl with hl | hl
    · rw [hl]; simp
    · rw [decide_eq_true hl]; simp
  · intro hm hg ht hp
    refine (if_neg (hstage hm)).trans ?_
    rw [hg]
    exact congrArg Host.Outcome.next (if_pos (by rw [decide_eq_true ht, bne_iff_ne.2 hp]; rfl))
  · intro ha hf
    have hf' : [(s.rm.img h.typ).a, (s.rm.img h.typ).b].find? (fun z => z.st == 2 && imgTag z.img == h.tag) = some v := hf
    show execRequest port h s = _
    unfold execRequest
    dsimp only
    rw [hf']
    exact congrArg Host.Outcome.next (if_pos ha)
  · intro hf
    have hf' : [(s.rm.img h.typ).a, (s.rm.img h.typ).b].find? (fun z => z.st == 2 && imgTag z.img == h.tag) = none := hf
    show execRequest port h s = _
    unfold execRequest
    dsimp only
    rw [hf']
  · intro i
    show (((v.img.drop (65536 * h.chunk)).take 65536).drop (1024 * i)).take 1024 = _
    rw [List.drop_take, List.drop_drop, List.take_take]
  · intro hg hm ht hc hs hd
    have hno : ¬ (!s.mayStage || g.tag != h.tag || g.chunks != h.chunk || decide (64 ≤ h.seg) || d.length != h.len) = true := by
      rw [hm, ht, hc, hd, decide_eq_false (by omega), bne_self_eq_false, bne_self_eq_false, bne_self_eq_false]
      exact Bool.false_ne_true
    show execSegment h d s = _
    unfold execSegment
    rw [hg]
    exact if_neg hno
  · intro hg
    show execSegment h d s = _
    unfold execSegment
    rw [hg]
  · rintro ⟨hl, hc⟩ hlt
    rw [State.takeChunk_good hl hc, if_neg (by omega), State.showUpd_rm, State.askChunk_rm, RmState.img_congr (State.setStaging_imgs _ _ _)]
    exact State.setSpare_spare _ _ _
  · rintro ⟨hl, hc⟩ hle hok
    rw [State.takeChunk_good hl hc, if_pos hle]
    refine State.finishSlot_good ((receivedOk_congr ?_ _ _).trans hok)
    rw [State.chunkStored, State.setSpare_keys, State.mapLanes_rm]
  · exact State.takeChunk_bad
  · intro hg hm
    refine ⟨fun hr => ?_, fun hr ho => ?_, fun hr ho => ?_⟩
    · exact (chunkTimeout_staging hg hm).trans (congrArg Host.Outcome.next (if_neg (Nat.not_le.2 hr)))
    · refine (chunkTimeout_staging hg hm).trans (congrArg Host.Outcome.next ((if_pos hr).trans ?_))
      unfold State.turnAway
      rw [ho]
    · refine (chunkTimeout_staging hg hm).trans (congrArg Host.Outcome.next ((if_pos hr).trans ?_))
      unfold State.turnAway
      rw [ho]
  · rintro ⟨ha, hb⟩ hm hl hlen hd hg
    have hfree : ¬ (s.locked t || decide (slotSize t < img.length)) = true := by rw [hl, decide_eq_false (by omega)]; exact Bool.false_ne_true
    refine rmGate_exec (exec_imageInject s src t img) ha hb ((if_neg (by rw [hm]; exact Bool.false_ne_true)).trans ((if_neg hfree).trans
      ((if_neg (by rw [hd]; exact Bool.false_ne_true)).trans ?_)))
    rw [State.unstaged_none hg]
  · rintro ⟨ha, hb⟩ hm
    exact rmGate_exec (exec_imageInject s src t img) ha hb (if_pos (by rw [hm]; rfl))
  · rintro ⟨ha, hb⟩ hm hl
    refine rmGate_exec (exec_imageInject s src t img) ha hb ((if_neg (by rw [hm]; exact Bool.false_ne_true)).trans (if_pos ?_))
    rw [Bool.or_eq_true, decide_eq_true_iff]
    exact hl

end Sys2Proof.Machine

/-! SUPPORT. Activation orders: the READY map and what leaves it alone, the decision, and the set that is activated. -/

namespace Sys2Proof.Machine

/-- The two registers of the READY map (23 R502). -/
def readyReg (a : Nat) : Prop := a = Rg.UPD_READY_LO ∨ a = Rg.UPD_READY_HI

theorem readyReg_slot {a : Nat} (h : readyReg a) (t : ImgType) :
    a ≠ Rg.UPD_SLOTt_STAT (imgNo t) ∧ a ≠ Rg.UPD_SLOTt_TAG_LO (imgNo t) ∧ a ≠ Rg.UPD_SLOTt_TAG_HI (imgNo t) := by
  rcases h with rfl | rfl <;> cases t <;> decide

theorem State.showBoot_ready (s : State) (k : Lane) {a : Nat} (h : readyReg a) : rget (s.showBoot.lane k) a = rget (s.lane k) a := by
  have hb : a ≠ Rg.SYS_BOOT := by rcases h with rfl | rfl <;> decide
  unfold State.showBoot
  dsimp only
  rw [foldl_keeps (fun z : State => rget (z.lane k) a) fun z t => by
    obtain ⟨h1, h2, h3⟩ := readyReg_slot h t
    rw [State.rsetAll_lane, State.rsetAll_lane, State.fsetAll_lane, State.fsetAll_lane, State.fsetAll_lane, rget_rset_other _ _ _ _ h3, rget_rset_other _ _ _ _ h2,
      rget_fset_other _ _ _ _ _ _ h1, rget_fset_other _ _ _ _ _ _ h1, rget_fset_other _ _ _ _ _ _ h1]]
  rw [State.fsetAll_lane, State.fsetAll_lane, State.fsetAll_lane, rget_fset_other _ _ _ _ _ _ hb, rget_fset_other _ _ _ _ _ _ hb, rget_fset_other _ _ _ _ _ _ hb]

theorem State.showUpd_ready (s : State) (k : Lane) {a : Nat} (h : readyReg a) : rget (s.showUpd.lane k) a = rget (s.lane k) a := by
  have hs : a ≠ Rg.UPD_STATUS := by rcases h with rfl | rfl <;> decide
  have ho : a ≠ Rg.UPD_ORDER_STAT := by rcases h with rfl | rfl <;> decide
  have hlo : a ≠ Rg.UPD_ORDER_LO := by rcases h with rfl | rfl <;> decide
  have hhi : a ≠ Rg.UPD_ORDER_HI := by rcases h with rfl | rfl <;> decide
  have hfold (z : State) (f : State → ImgType → Nat) : rget ((allTypes.foldl (fun s t => s.fsetAll (Rg.UPD_SLOTt_STAT (imgNo t)) 23 8 (f s t)) z).lane k) a = rget (z.lane k) a :=
    foldl_keeps (fun z : State => rget (z.lane k) a) (fun z t => by
      rw [State.fsetAll_lane, rget_fset_other _ _ _ _ _ _ (readyReg_slot h t).1]) _ _
  unfold State.showUpd
  dsimp only
  split
  · rw [hfold _ fun s t => ((s.rm.stagings.find? (fun g => g.typ == t)).map (·.chunks)).getD 0, State.showBoot_ready _ _ h, State.fsetAll_lane, State.fsetAll_lane, rget_fset_other _ _ _ _ _ _ hs, rget_fset_other _ _ _ _ _ _ hs]
  · rw [State.fsetAll_lane, State.fsetAll_lane, State.rsetAll_lane, State.rsetAll_lane, State.fsetAll_lane, rget_fset_other _ _ _ _ _ _ ho, rget_fset_other _ _ _ _ _ _ ho,
      rget_rset_other _ _ _ _ hhi, rget_rset_other _ _ _ _ hlo, rget_fset_other _ _ _ _ _ _ hs, hfold _ fun s t => ((s.rm.stagings.find? (fun g => g.typ == t)).map (·.chunks)).getD 0, State.showBoot_ready _ _ h, State.fsetAll_lane, State.fsetAll_lane,
      rget_fset_other _ _ _ _ _ _ hs, rget_fset_other _ _ _ _ _ _ hs]

theorem State.showUpd_readyMap (s : State) : s.showUpd.readyMap = s.readyMap := by
  unfold State.readyMap rget64
  rw [show s.showUpd.la = s.showUpd.lane .a from rfl, State.showUpd_ready s .a (Or.inl rfl), State.showUpd_ready s .a (Or.inr rfl)]
  rfl

theorem queueUnsched_rget (x : LaneState) (p n : Nat) (e : Emit) (a : Nat) : rget (queueUnsched x p n e) a = rget x a := rfl

theorem State.type4_readyMap (s : State) (p : Nat) (e : Emit) : (s.type4 p e).readyMap = s.readyMap := by
  unfold State.readyMap State.type4 rget64
  rw [State.mapLanes_la, queueUnsched_rget, queueUnsched_rget]

theorem State.type4All_readyMap (s : State) (e : Nat → Emit) : (s.type4All e).readyMap = s.readyMap :=
  foldl_keeps State.readyMap (fun _ _ => State.type4_readyMap _ _ _) _ _

theorem State.setOrder_readyMap (s : State) (o : OrderState) : (s.setOrder o).readyMap = s.readyMap := rfl

theorem State.decide_readyMap (s : State) (o : OrderState) (go : Bool) : (s.decide_ o go).readyMap = s.readyMap := by
  unfold State.decide_
  dsimp only
  split
  · exact State.type4All_readyMap _ _
  · rw [State.setOrder_readyMap, State.type4All_readyMap]

theorem State.setReady_readyMap (s : State) (v : DWord) : (s.setReady v).readyMap = v :=
  rget64_rset64_same s.la v (by decide)

/-- The READY map does not tell who votes, nor the topology. -/
theorem State.setReady_topo (s : State) (v : DWord) : (s.setReady v).topo = s.topo := by
  have hreg (k : Lane) {a : Nat} (h : a ≠ Rg.UPD_READY_LO) (h2 : a ≠ Rg.UPD_READY_HI) : rget ((s.setReady v).lane k) a = rget (s.lane k) a := by
    rw [State.setReady, State.mapLanes_lane, rget_rset64_other _ _ h h2]
  have hid (k : Lane) : ((s.setReady v).lane k).id = (s.lane k).id := by cases k <;> rfl
  have hvotes (k : Lane) : votes ((s.setReady v).lane k) = votes (s.lane k) := by
    unfold votes sees bget fget
    rw [hreg k (by decide) (by decide), hid]
  have hvoting : (s.setReady v).voting = s.voting := by
    unfold State.voting
    simp only [hvotes]
  unfold State.topo
  rw [hvoting, hreg _ (by decide) (by decide)]

/-- A module whose order is past its own READY and whose topology stands answers nothing anew (23 R502). -/
theorem State.ownReady_steady {s : State} {o : OrderState} (hst : o.st ≠ 1) (ht : o.topo = s.topo) : s.ownReady o = s.setOrder o := by
  have hm : (o.topo != s.topo) = false := by rw [ht, bne_self_eq_false]
  unfold State.ownReady
  dsimp only
  rw [hm]
  exact if_pos ⟨hst, rfl⟩

theorem State.setOrder_order (s : State) (o : OrderState) : (s.setOrder o).rm.order = some o := rfl

theorem State.setOrder_topo (s : State) (o : OrderState) : (s.setOrder o).topo = s.topo := rfl

theorem State.readyNow_steady {s : State} {o : OrderState} (ho : s.rm.order = some o) (hst : o.st ≠ 1) (ht : o.topo = s.topo) : s.readyNow.readyMap = s.readyMap := by
  unfold State.readyNow
  rw [ho]
  dsimp only
  rw [State.ownReady_steady hst ht, State.setOrder_order]
  dsimp only
  rw [State.showUpd_readyMap]
  split
  · rw [State.decide_readyMap, State.setOrder_readyMap]
  · rw [State.setOrder_readyMap]

/-- What a READY of another module leaves of the map, where the topology stands (23 R502). -/
def State.readyHeard (s : State) (h : OrderState) (rdy refd : DWord) : State :=
  (((s.setOrder h).setReady ((s.setOrder h).readyMap ||| rdy)).setOrder { h with refused := h.refused ||| refd }).readyNow

theorem ready_steady {s : State} {h : OrderState} {topo : Word} {oid rdy refd : DWord} (ho : s.rm.order = some h) (ha : s.rm.alive = true) (hl : h.live = true) (hid : h.ord.oid = oid)
    (hst : h.st ≠ 1) (ht : h.topo = s.topo) (htopo : topo = s.topo) : exec (.ready topo oid rdy refd) s = .next (s.readyHeard h rdy refd) := by
  have hgo : ¬ (!s.rm.alive || !h.live || h.ord.oid != oid) = true := by
    rw [ha, hl, hid, bne_self_eq_false]
    exact Bool.false_ne_true
  show execReady topo oid rdy refd s = _
  unfold execReady
  rw [ho]
  dsimp only
  rw [if_neg hgo, State.ownReady_steady hst ht, State.setOrder_order]
  dsimp only
  rw [if_pos (htopo.trans (State.setOrder_topo s h).symm)]
  rfl

theorem State.readyHeard_readyMap {s : State} {h : OrderState} (rdy refd : DWord) (hst : h.st ≠ 1) (ht : h.topo = s.topo) :
    (s.readyHeard h rdy refd).readyMap = s.readyMap ||| rdy := by
  unfold State.readyHeard
  have htopo : h.topo = (((s.setOrder h).setReady ((s.setOrder h).readyMap ||| rdy)).setOrder { h with refused := h.refused ||| refd }).topo := by
    rw [State.setOrder_topo, State.setReady_topo, State.setOrder_topo, ht]
  rw [State.readyNow_steady (o := { h with refused := h.refused ||| refd }) (State.setOrder_order _ _) hst htopo, State.setOrder_readyMap, State.setReady_readyMap,
    State.setOrder_readyMap]

theorem State.decide_order (s : State) (o : OrderState) (go : Bool) :
    (o.final = none → (s.decide_ o go).rm.order = some { o with final := some go, st := if go then 3 else 5 })
      ∧ (o.final.isSome = true → (s.decide_ o go).rm.order = s.rm.order) := by
  refine ⟨fun h => ?_, fun h => ?_⟩
  · unfold State.decide_
    dsimp only
    rw [if_neg (by rw [h]; exact Bool.false_ne_true)]
    rfl
  · unfold State.decide_
    dsimp only
    rw [if_pos h, State.type4All_rm]

theorem orderTypes_ringmaster {o : UpdOrder} (h : hasType o .ringmaster = true) (hl : (orderTypes o).length = 1) : orderTypes o = [.ringmaster] := by
  unfold orderTypes allTypes at hl ⊢
  rw [List.filter_cons_of_pos h] at hl ⊢
  rw [List.length_cons] at hl
  exact congrArg _ (List.eq_nil_of_length_eq_zero (by omega))

theorem activation_due {s : State} {h : OrderState} (ho : s.rm.order = some h) (hst : h.st = 3) (ha : s.rm.alive = true) (h1 : h.ord.actTime ≤ s.now) (h2 : s.now ≤ h.ord.actTime + 60000000000) :
    exec .activation s = if s.pwrState = 2 || s.pwrState = 3 then .next (((s.switchSet h.ord).activated h).onPwr (fun p => { p with dormantPath := true }))
      else if s.pwrState ≠ 0 || phaseOf s.la ≠ 4 || s.mode = .hold || (h.ord.precond && !precondOk (s.lane (s.voting.headD .a))) then .next s
      else if hasType h.ord .ringmaster then .next (((s.switchSet h.ord).activated h).rmDown 3)
      else if s.onlineOk h.ord then
        .next (s.mapLanes (holdChange h.ord (s.imageAfter h.ord .vital) (if hasType h.ord .config then some (s.imageAfter h.ord .config) else none)))
      else .next (s.activateRestart h) := by
  show execActivation s = _
  unfold execActivation
  rw [ho]
  refine if_neg ?_
  rw [ha, decide_eq_false (not_not.2 hst), decide_eq_false (by omega), decide_eq_false (by omega)]
  exact Bool.false_ne_true

/-- An image whose confirmation is over (23 R508). -/
theorem State.confirmed_imgs (s : State) (t : ImgType) :
    let z : State := State.showBoot { s with rm := s.rm.setImg t { (s.rm.img t) with provisional := false } }
    (z.rm.img t).provisional = false ∧ (z.rm.img t).selB = (s.rm.img t).selB ∧ ∀ u, u ≠ t → z.rm.img u = s.rm.img u := by
  intro z
  have hz : z.rm = s.rm.setImg t { (s.rm.img t) with provisional := false } := State.showBoot_rm _
  rw [hz, RmState.img_setImg_same]
  exact ⟨rfl, rfl, fun u hu => RmState.img_setImg_other _ _ hu⟩

/-- Settles O54: the READY map is followed through what the module shows of it, and every other clause is the branch its guards select. -/
theorem activationOrders : Obligations.ActivationOrders := by
  unfold Obligations.ActivationOrders
  intro s o h topo oid rdy refd go t held x n all due runs switched
  refine ⟨?_, ?_, ?_, ?_, ?_, (s.decide_order h go).1, ?_, ?_, ?_, ?_, ?_, ?_⟩
  · intro ha hok
    have hgo : ¬ (!s.rm.alive || !s.orderOk o) = true := by rw [ha, hok]; exact Bool.false_ne_true
    refine ⟨fun hn => ?_, fun hh hid => ?_, fun hh hl hf => ?_⟩
    · refine (if_neg hgo).trans ?_
      rw [hn]
      exact if_neg Bool.false_ne_true
    · refine (if_neg hgo).trans ?_
      rw [show s.rm.order = some h from hh]
      refine if_pos ?_
      show (!(h.ord.oid != o.oid && (!h.live || (h.final.isNone && decide (s.now < h.ord.deadline))))) = true
      rw [hid, bne_self_eq_false]
      rfl
    · refine (if_neg hgo).trans ?_
      rw [show s.rm.order = some h from hh]
      refine if_pos ?_
      show (!(h.ord.oid != o.oid && (!h.live || (h.final.isNone && decide (s.now < h.ord.deadline))))) = true
      rw [hl, ← Option.not_isSome, hf, Bool.not_true, Bool.false_and, Bool.or_self, Bool.and_false]
      rfl
  · intro hok
    exact if_pos (by rw [hok]; simp)
  · intro hok
    unfold State.orderOk at hok
    simp only [Bool.and_eq_true, Bool.not_eq_true', decide_eq_true_iff] at hok
    obtain ⟨⟨⟨⟨⟨hsig, htypes⟩, -⟩, hlead⟩, hdead⟩, hfar⟩ := hok
    refine ⟨hsig, hlead, hdead, hfar, fun hr => orderTypes_ringmaster hr ?_⟩
    rw [hr, Bool.true_and] at htypes
    exact bne_eq_false_iff_eq.1 htypes
  · intro hh ha hl hid
    refine ⟨?_, ?_⟩
    · by_cases hc : h.st ≠ 1 ∧ h.topo = s.topo ∧ topo = s.topo
      · obtain ⟨hst, ht, htopo⟩ := hc
        exact ⟨_, ready_steady hh ha hl hid hst ht htopo, fun _ _ _ => State.readyHeard_readyMap rdy refd hst ht⟩
      · obtain ⟨z, hz, -⟩ := exec_next (.ready topo oid rdy refd) s
        exact ⟨z, hz, fun h1 h2 h3 => absurd ⟨h1, h2, h3⟩ hc⟩
    · show execDecision oid go s = _
      unfold execDecision
      rw [hh]
      refine congrArg Host.Outcome.next (if_pos ?_)
      rw [ha, hl, hid, beq_self_eq_true]
      rfl
  · intro hn
    refine ⟨?_, ?_, ?_, ?_⟩
    · show execReady topo oid rdy refd s = _
      unfold execReady
      rw [hn]
    · show execDecision oid go s = _
      unfold execDecision
      rw [hn]
    · show execOrderDeadline s = _
      unfold execOrderDeadline
      rw [hn]
    · show execActivation s = _
      unfold execActivation
      rw [hn]
  · intro hh hf
    rw [(s.decide_order h go).2 hf]
    exact hh
  · intro hh ha hlead hl hf
    show execOrderDeadline s = _
    unfold execOrderDeadline
    rw [hh]
    refine if_neg ?_
    rw [ha, hlead, hl, hf]
    exact Bool.false_ne_true
  · rintro hh ⟨hst, ha, h1, h2⟩
    have hx := activation_due hh hst ha h1 h2
    have hawake (hp : s.pwrState = 0) : ¬ (decide (s.pwrState = 2) || decide (s.pwrState = 3)) = true := by rw [hp]; exact Bool.false_ne_true
    have hruns (hr : runs) : ¬ (decide (s.pwrState ≠ 0) || decide (phaseOf s.la ≠ 4) || decide (s.mode = .hold) || (h.ord.precond && !precondOk (s.lane (s.voting.headD .a)))) = true := by
      obtain ⟨hp, hph, hm, hpre⟩ := hr
      have hno : (h.ord.precond && !precondOk (s.lane (s.voting.headD .a))) = false := by
        cases hb : h.ord.precond with
        | false => rfl
        | true => rw [show precondOk (s.lane (s.voting.headD .a)) = true from hpre hb]; rfl
      rw [hno, decide_eq_false (not_not.2 hp), decide_eq_false (not_not.2 hph), decide_eq_false hm]
      exact Bool.false_ne_true
    refine ⟨fun hp => ?_, fun hr ht => ?_, fun hr ht hon => ?_, fun hr ht hon => ?_, fun hp hr => ?_⟩
    · refine hx.trans (if_pos ?_)
      rw [Bool.or_eq_true, decide_eq_true_iff, decide_eq_true_iff]
      exact hp
    · exact hx.trans ((if_neg (hawake hr.1)).trans ((if_neg (hruns hr)).trans (if_pos ht)))
    · exact hx.trans ((if_neg (hawake hr.1)).trans ((if_neg (hruns hr)).trans ((if_neg (by rw [ht]; exact Bool.false_ne_true)).trans (if_neg (by rw [hon]; exact Bool.false_ne_true)))))
    · exact hx.trans ((if_neg (hawake hr.1)).trans ((if_neg (hruns hr)).trans ((if_neg (by rw [ht]; exact Bool.false_ne_true)).trans (if_pos hon))))
    · refine hx.trans ((if_neg (hawake hp)).trans (if_pos ?_))
      rcases hr with hm | ⟨hpre, hbad⟩
      · rw [decide_eq_true hm]; simp
      · rw [hpre, show precondOk (s.lane (s.voting.headD .a)) = false from hbad]; simp
  · intro hh hc
    show execActivation s = _
    unfold execActivation
    rw [hh]
    refine if_pos ?_
    rcases hc with hc | hc
    · rw [decide_eq_true hc]; simp
    · rw [decide_eq_true hc]; simp
  · intro hh hst hm
    show execActivationWindowExpiry s = _
    unfold execActivationWindowExpiry
    rw [hh]
    refine if_neg ?_
    rw [hst, hm]
    exact Bool.false_ne_true
  · intro ha hc
    refine ⟨_, congrArg Host.Outcome.next (if_pos ?_), State.confirmed_imgs s t⟩
    rw [ha]
    rcases hc with hc | ⟨hph, hp, hsafe⟩
    · rw [hc]; rfl
    · rw [hph, hp, hsafe]; simp

end Sys2Proof.Machine

/-! SUPPORT. On-line change: what the loading of the new image leaves of the executive, and the forces that are not carried over. -/

namespace Sys2Proof.Machine

theorem setLaneState_exe (x : LaneState) (k : Lane) (n : Nat) : (setLaneState x k n).exe = x.exe := by
  unfold setLaneState
  dsimp only
  split
  · rw [fset_exe, fset_exe]
  · rw [fset_exe]

theorem dropReint_exe (x : LaneState) : (dropReint x).exe = x.exe := by
  unfold dropReint
  dsimp only
  split
  · rfl
  · rw [finc_exe]
    exact setLaneState_exe _ _ _

theorem loadApp_exe (a : AppImage) (x : LaneState) : (loadApp a x).exe = x.exe := by
  unfold loadApp rset64
  dsimp only
  simp only [rset_exe, fset_exe, mwr_exe]

theorem loadOnlineCfg_exe (c : CfgImage) (x : LaneState) : (loadOnlineCfg c x).exe = x.exe := by
  unfold loadOnlineCfg rset64
  dsimp only
  rw [rset_exe, rset_exe, foldl_keeps LaneState.exe fun _ _ => rset_exe _ _ _]

/-- Loading the new image does not move the cycle (06 R148). -/
theorem migrateLoad_n (a : AppImage) (x : LaneState) : (migrateLoad a x).exe.n = x.exe.n := by
  unfold migrateLoad
  dsimp only
  split
  · rw [loadOnlineCfg_exe, loadApp_exe]
  · rw [loadApp_exe]

theorem migrateLoad_exe (a : AppImage) (x : LaneState) :
    (migrateLoad a x).exe.scratch = (carried a).map (fun g => (g.newAddr, mrd x g.oldAddr g.len)) ∧ (migrateLoad a x).exe.migNew = none := ⟨rfl, rfl⟩

theorem migrateEnd_exe (x : LaneState) : (migrateEnd x).exe.scratch = [] ∧ (migrateEnd x).exe.migDone = true := ⟨rfl, rfl⟩

/-- A force of the old image in the new one (06 R149). -/
def reviseForce (a : AppImage) (l : LaneState) (e : Nat × ForceEnt) : LaneState :=
  (movedForce a e.2).elim (raiseV { l with forces := l.forces.filter (fun x => x.1 != e.1) } 0x0203 (e.2.f.sym.toNat % 2 ^ 32)) fun m =>
    if l.forces.any (fun x => x.1 < e.1 && forceMeets x.2.f m.f) then
      raiseV { l with forces := l.forces.filter (fun x => x.1 != e.1) } 0x0203 (e.2.f.sym.toNat % 2 ^ 32)
    else { l with forces := l.forces.map (fun x => if x.1 = e.1 then (x.1, m) else x) }

theorem reviseForces_eq (a : AppImage) (l : LaneState) : reviseForces a l = showForced (l.forces.foldl (reviseForce a) l) := by
  unfold reviseForces
  refine congrArg (fun f => showForced (l.forces.foldl f l)) (funext fun z => funext fun e => ?_)
  unfold reviseForce
  cases movedForce a e.2 <;> rfl

theorem reviseForce_none {a : AppImage} {e : Nat × ForceEnt} (l : LaneState) (h : movedForce a e.2 = none) :
    (reviseForce a l e).forces = l.forces.filter (fun x => x.1 != e.1) := by
  unfold reviseForce
  rw [h]
  rfl

theorem foldl_reviseForce_none {a : AppImage} (es : List (Nat × ForceEnt)) (h : ∀ e ∈ es, movedForce a e.2 = none) (l : LaneState) :
    (es.foldl (reviseForce a) l).forces = l.forces.filter (fun x => es.all (fun e => x.1 != e.1)) := by
  induction es generalizing l with
  | nil => simp
  | cons e es ih =>
    rw [List.foldl_cons, ih (fun d hd => h d (List.mem_cons_of_mem _ hd)), reviseForce_none l (h e List.mem_cons_self), List.filter_filter]
    refine List.filter_congr fun x _ => ?_
    rw [List.all_cons, Bool.and_comm]

/-- Where no force has a place in the new image none is left (06 R149). -/
theorem reviseForces_none {a : AppImage} {l : LaneState} (h : ∀ e ∈ l.forces, movedForce a e.2 = none) : (reviseForces a l).forces = [] := by
  rw [reviseForces_eq]
  show (l.forces.foldl (reviseForce a) l).forces = []
  rw [foldl_reviseForce_none l.forces h, List.filter_eq_nil_iff]
  intro x hx hall
  have := List.all_eq_true.1 hall x hx
  simp at this

theorem movedForce_kept {a : AppImage} {e f : ForceEnt} (h : movedForce a e = some f) : f.f.sym = e.f.sym ∧ f.f.typeHash = e.f.typeHash ∧ f.expiry = e.expiry := by
  unfold movedForce at h
  split at h
  next x _ =>
    obtain rfl := Option.some.inj h
    exact ⟨rfl, rfl, rfl⟩
  next => exact nomatch h

theorem maySwitch_spec {y : LaneState} (h : maySwitch y = true) : quietNext y = true ∧ modeOf y ≠ .hold ∧ ∃ t, y.exe.activate = some t ∧ t ≤ tOf y (y.exe.n + 1) := by
  unfold maySwitch at h
  split at h
  next t ht =>
    simp only [Bool.and_eq_true, decide_eq_true_iff, bne_iff_ne] at h
    obtain ⟨⟨⟨⟨hmode, hquiet⟩, -⟩, hdue⟩, -⟩ := h
    exact ⟨hquiet, hmode, t, ht, hdue⟩
  next => exact nomatch h

theorem beginMigration_voting {y : LaneState} (h : votes y = true) :
    (beginMigration y).exe.mig = some (y.exe.n + 1, migCycles y (migCost (y.exe.migNew.getD {}))) ∧ (beginMigration y).exe.activate = none := by
  unfold beginMigration
  rw [if_neg (by rw [h]; exact Bool.false_ne_true)]
  dsimp only
  rw [dropReint_exe]
  exact ⟨rfl, rfl⟩

/-- Settles O55: a cycle of the migration loads, ends or waits, the switch needs every voting lane, and the forces are revised one by one. -/
theorem onlineChange : Obligations.OnlineChange := by
  unfold Obligations.OnlineChange
  intro s l h m k a y e x works loaded moves
  have hgo (hm : moves) : ¬ (decide (s.voting = []) || s.safe || !s.voting.all (fun x => maySwitch (s.lane x))) = true := by
    obtain ⟨hv, hs, hall⟩ := hm
    rw [decide_eq_false hv, hs, List.all_eq_true.2 hall]
    exact Bool.false_ne_true
  have hcycle (hw : works) : ¬ (!execUp (s.lane l) || decide ((s.lane l).exe.n < m) || decide (m + k ≤ (s.lane l).exe.n) || !(s.lane l).agree.applied) = true := by
    obtain ⟨-, hup, hge, hlt, happ⟩ := hw
    rw [show execUp (s.lane l) = true from hup, show (s.lane l).agree.applied = true from happ, decide_eq_false (Nat.not_lt.2 hge), decide_eq_false (Nat.not_le.2 hlt)]
    exact Bool.false_ne_true
  refine ⟨?_, ?_, ?_, maySwitch_spec, beginMigration_voting, ?_, ?_, ?_, migrateLoad_exe a x, migrateEnd_exe y, fun f => movedForce_kept, ?_, ?_, ?_⟩
  · intro hm ho
    refine (if_neg (hgo hm)).trans ?_
    rw [ho]
  · intro hm ho hst ha
    refine (if_neg (hgo hm)).trans ?_
    rw [ho]
    dsimp only
    rw [if_pos (by rw [hst, ha]; rfl)]
  · intro z hz hf
    refine if_pos ?_
    have hall : s.voting.all (fun x => maySwitch (s.lane x)) = false :=
      List.all_eq_false.2 ⟨z, hz, by rw [hf]; exact Bool.false_ne_true⟩
    rw [hall, Bool.not_false, Bool.or_true]
  · intro hw hn hne
    have hmig : (s.lane l).exe.mig = some (m, k) := hw.1
    have hne' : ¬ (decide ((migrateLoad a (s.lane l)).exe.n + 1 = m + k) && !(migrateLoad a (s.lane l)).exe.migDone) = true := by
      rw [migrateLoad_n, decide_eq_false hne]
      exact Bool.false_ne_true
    refine laneBecomes_of rfl ?_
    rw [hmig]
    refine (if_neg (hcycle hw)).trans ?_
    rw [show (s.lane l).exe.migNew = some a from hn]
    exact if_neg hne'
  · intro hw hn hne
    have hmig : (s.lane l).exe.mig = some (m, k) := hw.1
    refine laneBecomes_of rfl ?_
    rw [hmig]
    refine (if_neg (hcycle hw)).trans ?_
    rw [show (s.lane l).exe.migNew = none from hn]
    refine if_neg ?_
    rw [decide_eq_false (show ¬ (s.lane l).exe.n + 1 = m + k from hne)]
    exact Bool.false_ne_true
  · intro hw hn he hd
    have hmig : (s.lane l).exe.mig = some (m, k) := hw.1
    refine laneBecomes_of rfl ?_
    rw [hmig]
    refine (if_neg (hcycle hw)).trans ?_
    rw [show (s.lane l).exe.migNew = none from hn]
    refine if_pos ?_
    rw [decide_eq_true (show (s.lane l).exe.n + 1 = m + k from he), show (s.lane l).exe.migDone = false from hd]
    rfl
  · intro hall
    refine reviseForces_none fun f hf => ?_
    rw [← Option.isNone_iff_eq_none]
    exact List.all_eq_true.1 hall f hf
  · intro hany ho hst
    have hx : ∃ z : State, exec .migWaitExpiry s = .next (z.activateRestart h) ∧ z.la = s.la ∧ z.lb = s.lb ∧ z.lc = s.lc
        ∧ ∃ r, z.rm = { s.rm with evr := { s.rm.evr with reports := s.rm.evr.reports ++ [r] } } ∧ r.code = 0x0210 ∧ r.data = 1 := by
      show ∃ z : State, execMigWaitExpiry s = _ ∧ _
      unfold execMigWaitExpiry
      rw [if_neg (by rw [hany]; exact Bool.false_ne_true), ho]
      dsimp only
      rw [if_neg (not_not.2 hst)]
      exact ⟨_, rfl, rfl, rfl, rfl, _, rfl, rfl, rfl⟩
    exact hx
  · intro hany
    exact if_pos (by rw [hany]; rfl)

end Sys2Proof.Machine
